-- ==== Sys2Proof/Word.lean ====
section
/-!
DEFINITION. The plain types of the SN4096 model: bytes, crystal time, and the names of the pack's parts.

The block has no machine word of its own. Only what the manual numbers bit by bit (a pace status
word, a code word, a frame byte, a block mantissa) is a bit vector; counts, times and sizes are
natural numbers, physical quantities are integers in the unit the manual gives, and the classical
estimator's full-precision quantities are exact rationals.
-/
namespace Sys2Proof

/-- One byte of a frame, a journal entry or an image. -/
abbrev Byte := BitVec 8

/-- Crystal time in nanoseconds (R82 measures edges to 1 ns; the 10 ns tick of R14 is `t / 10`). -/
abbrev Ns := Nat

/-- A series position of the traction pack, counted from 1 (R141), or a store cell numbered
4096 + k for S.Ck (the numbering of Table 17-5's detail field). -/
abbrev CellId := Nat

/-- A node, numbered 32 p + n for T p.N n (R10, Table 17-5). -/
abbrev NodeId := Nat

/-- A round number (R98): 48 bits, never wrapping within the service life. -/
abbrev Round := Nat

end Sys2Proof
end

