-- ==== Sys2Proof/Syntax.lean ====
section
/-!
DEFINITION. The commands of the SN4096 model: one constructor of `Instr` for each row of the opcode
table, and the operand types they carry.

The block has no instruction encoding of its own. A command is an event at a pin or a link, the
expiry of a time, or a step of one of the block's own engines; its operands are what the outside
world or an analog or opaque part of the device supplies (a level, a measured value, a received
frame, an instant). What the manual computes from them, the machine computes.
-/
namespace Sys2Proof

/-! ### Supply, start-up and shut-down (chapters 02 and 03) -/

/-- A supply tap (R53). -/
inductive TapId | a | b | c
  deriving DecidableEq, Repr

/-- A PMIC rail line (Table 3-2). -/
inductive PgLine | pg0 | pg1 | pg2 | pg3
  deriving DecidableEq, Repr

/-- The straps in the order of Table 17-5's detail value. -/
inductive Strap | seat1 | seat0 | slotPref | install | test1 | test0
  deriving DecidableEq, Repr

/-- One level per strap. -/
structure StrapLevels where
  seat1 : Bool
  seat0 : Bool
  slotPref : Bool
  install : Bool
  test1 : Bool
  test0 : Bool
  deriving DecidableEq, Repr

/-- What STRAP_LATCH samples (R33): five samples of each strap, the level of MAINT (R35), and
whether TRST_N and TMS were both held high, which requests the return hold (R8, R468). -/
structure StrapSamples where
  seat1 : List Bool
  seat0 : List Bool
  slotPref : List Bool
  install : List Bool
  test1 : List Bool
  test0 : List Bool
  maint : Bool
  returnHold : Bool
  deriving DecidableEq, Repr

/-- What RESISTOR_CODE_READ converts (R38, R41): for each of the eight codes in the order of
Table 2-7, the sum of the 16 conversions of each pass. -/
structure CodeReads where
  pass1 : List Nat
  pass2 : List Nat
  deriving DecidableEq, Repr

/-- A wake cause of R77 other than the park timer. -/
inductive WakeCause | pace | vchg | maint
  deriving DecidableEq, Repr

/-- The two CUT_N links (R30). -/
inductive CutSide | up | down
  deriving DecidableEq, Repr

/-! ### Pace (chapter 04) -/

/-- What ROUND_START takes from the pace PLL in TRACK and LOCK: the instant of stitch 0 and the
PLL's present predicted pace period, in picoseconds; and what the front-ends latched for the snap. -/
structure PllTick where
  t : Ns
  periodPs : Nat
  deriving DecidableEq, Repr

/-! ### Threads and the pattern (chapters 05 and 06) -/

/-- The two ends of a ring (R104), and the two sides of a node. -/
inductive RingEnd | a | b
  deriving DecidableEq, Repr

/-- A received 8b/10b code group: a control code group Kx.y, a data byte, or one that the code does not have (R108). -/
inductive CodeGroup
  | k (x y : Nat)
  | d (b : Byte)
  | bad
  deriving DecidableEq, Repr

/-- A frame as a thread port receiver takes it: the port, the code groups from the start code group to the one that ended it, both
included, and when the start code group arrived. -/
structure ThreadRx where
  port : Nat
  groups : List CodeGroup
  t : Ns
  deriving DecidableEq, Repr

/-- What a port receiver may have seen in a flow beside the frame itself (R127, R128): the position
at which a token skip or first-token timeout occurred, the position whose frame a neighbour aborted, and the command frames
that came ahead of it in the outbound flow (R116, R322). -/
structure ReadRx where
  rx : ThreadRx
  skippedAt : Option Nat
  abortedAt : Option Nat
  commands : List ThreadRx
  deriving DecidableEq, Repr

/-- An ECHO request to a node from the end at which this device sends it (R149, R150). -/
structure EchoTx where
  node : NodeId
  ringEnd : RingEnd
  t : Ns
  deriving DecidableEq, Repr

/-- The kinds of link test (Table 6-4). -/
inductive TestKind | installation | periodic | maintenance
  deriving DecidableEq, Repr

/-- A PRBS31 interval of a ring: an end port's, or one node side's (R152). -/
inductive PrbsPoint
  | port (e : RingEnd)
  | node (pos : Nat) (side : RingEnd)
  deriving DecidableEq, Repr

/-- The end of a PRBS31 interval; at an end port the device's own checker gives its counts. -/
structure PrbsEnd where
  ring : Nat
  at_ : PrbsPoint
  bits : Nat
  errors : Nat
  t : Ns
  deriving DecidableEq, Repr

/-! ### Acquisition (chapter 07) -/

/-- An 8 kHz sample of the shunts and the store current sense (R170, R185): the 24-bit codes, and the
end of the 125 µs interval it stands for. -/
structure ShuntSample where
  a : Int
  b : Int
  store : Int
  t : Ns
  deriving DecidableEq, Repr

/-- The three current channels with a full-scale monitor (R174, R185). -/
inductive ShuntId | a | b | store
  deriving DecidableEq, Repr

/-- A SENT fast-channel frame (R177): the calibration pulse in ns, the length in ticks of the status
nibble, the data nibbles and the CRC nibble, and the crystal time of the calibration pulse's falling edge. -/
structure SentFrame where
  cal : Nat
  status : Nat
  data : List Nat
  crc : Nat
  t : Ns
  deriving DecidableEq, Repr

/-- What the front-ends latch at the snap (R170, R179, R180, R184): shunt and store-current codes
(24 bits), pack- and vehicle-voltage pin codes (16 bits over 0–1.2 V), thermistor ratios (16 bits),
store cell and stack voltages (10 µV), and the supply and thermal monitors. -/
structure SnapLatch where
  ishA : Int
  ishB : Int
  si : Int
  vpkA : Nat
  vpkB : Nat
  vmain : Nat
  tclIn : Nat
  tclOut : Nat
  st1 : Nat
  st2 : Nat
  /-- S.C1–S.C8, 10 µV -/
  sc : List Int
  /-- SC0 to SCn, 10 µV -/
  stack : Int
  /-- mV -/
  vcomb : Int
  /-- taps A–C, mV -/
  vtap : List Int
  /-- taps A–C, mA -/
  itap : List Int
  /-- D0–D3, 0.01 °C -/
  die : List Int
  /-- mV -/
  vref : Int
  /-- REF_RES read back, mV (R352) -/
  refRes : Rat
  deriving DecidableEq, Repr


/-! ### Learned path and training (chapters 09–11) -/

/-- A place in state memory (Table 10-1): a block of a state copy, the replay reference, the weights of a
cohort (16 is the store model), a cell's adapter, its tangents, the checkpoint staging, or the training partition
of the bobbins. -/
inductive MemRegion
  | state (copyY : Bool) (cell : CellId) (layer block : Nat)
  | ref
  | weightsLive (cohort : Nat)
  | adaptLive (cell : CellId)
  | weightsShadow (cohort : Nat)
  | adaptShadow (cell : CellId)
  | tangent (cell : CellId)
  | ckptStage
  | training
  deriving DecidableEq, Repr

/-- The LPDDR5 requesters (R265). -/
inductive Requester | scheduler | scan | ckptPort | scrubber
  deriving DecidableEq, Repr

/-- What begins a checkpoint (R286). -/
inductive CkptCause | promotion | interval | park
  deriving DecidableEq, Repr

/-- What LPDDR5 initialisation finds (R245): success, and the installed capacity in bytes. -/
structure DdrInit where
  ok : Bool
  installed : Nat
  deriving DecidableEq, Repr


/-! ### Reserve store and power path (chapter 14) -/

/-- What the path hardware senses in a controller cycle (R337, R339, R343): the instant; whether the stack comparator shows the stack below
the floor; whether a short, FLOOR or FAIL is qualified in the same cycle; and whether the gate-source voltage of the pair not to be turned
on exceeds 2.0 V. -/
structure PathSense where
  t : Ns
  stackLow : Bool
  short : Bool
  floor : Bool
  fail : Bool
  otherHigh : Bool
  deriving DecidableEq, Repr

/-- The two pairs of the power path (Table 14-1). -/
inductive Pair | main | reserve
  deriving DecidableEq, Repr

/-- Which comparison found FLOOR (Table 14-2). -/
inductive FloorSource | cell | stack
  deriving DecidableEq, Repr


/-! ### Power limits and the fast path (chapter 13) -/

/-- The directions of power. -/
inductive Dir | discharge | charge
  deriving DecidableEq, Repr

/-- Fast-path events of Table 13-3, with TC1's trip request (R317). -/
inductive FastEvent | disOver | chgOver | cellOv | cellUv | persist | request
  deriving DecidableEq, Repr

/-- A qualified comparator event (R321), with the raw polarity at the shunt's pins. -/
structure CompEvent where
  shunt : ShuntId
  positive : Bool
  t : Ns
  deriving DecidableEq, Repr

/-- A pin the fast path reads back (R328): TRIP_N or a CAP pin. -/
inductive FastPin
  | tripN
  | cap (k : Nat)
  deriving DecidableEq, Repr


/-! ### Seats and ownership (chapters 15 and 17) -/

/-- A PEER frame as the receiver of a link takes it (Table 17-13): the link, the bytes of header, payload and tag, whether
it was framed by SOF_N and EOF without a violation, when SOF_N arrived,
and when the SOF_N of the copy it forwards leaves. -/
structure PeerRx where
  side : CutSide
  bytes : List Byte
  framed : Bool
  t : Ns
  out : Ns
  deriving DecidableEq, Repr

/-- Roles of a seat (R362), in the code order of Table 17-2. -/
inductive Role | owner | provisional | listener | witness
  deriving DecidableEq, Repr


/-! ### The image (chapter 16) -/

/-- One node of the pattern (Table 6-1). -/
structure PatNode where
  identity : Nat
  type : Nat
  groups : Nat
  temps : Nat
  ifRevMin : Nat
  deriving DecidableEq, Repr

/-- One ring of the pattern (Table 6-1); the ring is named by its A-end port. -/
structure PatRing where
  port : Nat
  nodes : List PatNode
  deriving DecidableEq, Repr

/-- A variant record in use (R139), and its digest (R142). -/
structure Variant where
  twoSeats : Bool
  rings : List PatRing
  digest : BitVec 32
  deriving DecidableEq, Repr

/-- One node of a variant record as the image gives it (Table 6-1); `none` for an absent field. -/
structure NodeEntry where
  identity : Option Nat
  type : Option Nat
  groups : Option Nat
  temps : Option Nat
  ifRevMin : Option Nat
  deriving DecidableEq, Repr

/-- One ring of a variant record as the image gives it: its port, its number of nodes, and the nodes in order. -/
structure RingEntry where
  port : Option Nat
  count : Option Nat
  nodes : List NodeEntry
  deriving DecidableEq, Repr

/-- A variant record as the image holds it (R139): `.config`, the rings 0–7 in order, and the bytes it is encoded in (R142). -/
structure VariantRec where
  config : Option Nat
  rings : List RingEntry
  encoded : List Byte
  deriving DecidableEq, Repr

/-- The storage format of a trainable value (R279); INT8 with its scale. -/
inductive StoreFmt
  | bf16
  | f32
  | int8 (scale : Rat)
  deriving DecidableEq, Repr

/-- Tangent channels of Table 11-4. -/
inductive Channel | delta | b | u | a
  deriving DecidableEq, Repr

/-- A trainable cohort value: its place among the graph's parameters, the sensitivity it uses, its format, and whether it is an
`a_log` (R278). -/
structure TrainVal where
  place : Nat
  sens : Nat
  fmt : StoreFmt
  alog : Bool
  deriving DecidableEq, Repr

/-- A single parameter of a graph, or a single adapter value, by its place. -/
inductive Param
  | weight (place : Nat)
  | adapter (place : Nat)
  deriving DecidableEq, Repr

/-- The trainable plan of a graph (R269): its channels, the head values, the trainable cohort values, and for each adapter value the
sensitivity it shares, if it is trainable. Sensitivities are numbered channel by channel over the last layer's states, then the head
values. -/
structure TrainPlan where
  channels : List Channel
  heads : List Param
  cohort : List TrainVal
  adapter : List (Option Nat)
  deriving DecidableEq, Repr

/-- Operators of Table 9-4 on single elements. -/
inductive UnOp | neg | abs | exp | log | sqrt | sigmoid | tanh | softplus | relu | erf
  deriving DecidableEq, Repr
@[inherit_doc UnOp] inductive BinOp | add | sub | mul | div | min | max
  deriving DecidableEq, Repr

/-- The reductions of Table 9-4 over axes. -/
inductive RedOp | sum | mean | max
  deriving DecidableEq, Repr

/-- Where an operator takes an operand from: a graph input, an initializer or Constant, or an earlier operator. -/
inductive Src
  | features
  | adapter
  | init (k : Nat)
  | node (k : Nat)
  deriving DecidableEq, Repr

/-- The operators of Table 9-4, with their attributes as numbers: Slice and Gather as the indices they select on each axis (`none`
for all), Reshape and Identity as a change of shape. `scan` is `SelectiveScan` (Table 9-5) with the gate form of R235: its operands
are u, delta, bx and the pre-activation z of delta, `alog` its initializer, `f` the nonlinearity of R235, `classes` the class of each
block of 32 (lined is true) and `lined` the number of lined states (R237). -/
inductive GateOp
  | matmul (int8 : Bool)
  | gemm (transA transB : Bool)
  | un (f : UnOp)
  | bin (f : BinOp)
  | clip (lo hi : Option Rat)
  | where_
  | reduce (f : RedOp) (axes : List Nat)
  | layerNorm (axis : Nat) (epsilon : Rat)
  | select (axes : List (Option (List Nat)))
  | concat (axis : Nat)
  | reshape
  | quantize (scale : Rat)
  | dequantize (scale : Rat)
  | scan (alog : Nat) (f : UnOp) (classes : List Bool) (lined : Nat)
  deriving DecidableEq, Repr

/-- One operator of a graph with its operands and the static shape of its result. -/
structure GateNode where
  op : GateOp
  args : List Src
  shape : List Nat
  deriving DecidableEq, Repr

/-- An initializer: its shape and its storage format. -/
structure Init where
  shape : List Nat
  fmt : StoreFmt
  deriving DecidableEq, Repr

/-- A cohort graph (R221–R237) in the order of evaluation: its initializers, its operators, its outputs in the order of Table 9-2,
the number of ONNX operators it was built from, its feature list, its adapter, its trainable plan, and the image's values of every
initializer, one after another. -/
structure Graph where
  inits : List Init
  ops : List GateNode
  outputs : List (Option Src)
  operators : Nat
  features : List Nat
  adapterSize : Nat
  adapterInit : List Rat
  plan : TrainPlan
  weights : List Rat
  deriving DecidableEq, Repr

/-- A field entry of a record body (R395): the field ID, the type, the element count, and the elements of a numeric entry,
`none` for a non-finite one. -/
structure FieldEntry where
  id : Nat
  type : Nat
  count : Nat
  vals : List (Option Rat)
  deriving DecidableEq, Repr

/-- A record: its ID, whether the CRC of its body is right, and its field entries. -/
structure SlotRecord where
  id : Nat
  crcOk : Bool
  fields : List FieldEntry
  deriving DecidableEq, Repr

/-- What the device reads in a slot: the header (Table 16-2), the signer's public key, what the cryptographic blocks make of the image
(the image digest, whether the signature verifies over it, the model digest of R397), the epochs
at the head of FIRMWARE and MICROCODE, the records, and, decoded, the opaque and the nested ones: the variant records by
RSEL_PACK level, and the graphs with their weights, features and adapters. -/
structure SlotImage where
  magic : Nat
  format : Nat
  headerLength : Nat
  length : Nat
  version : Nat
  rollback : Nat
  keyIndex : Nat
  epoch : Nat
  compat : List Nat
  recordCount : Nat
  tableOffset : Nat
  modelDigest : List Byte
  publicKey : List Byte
  digest : List Byte
  signature : Bool
  modelRead : List Byte
  fwEpoch : Nat
  mcEpoch : Nat
  records : List SlotRecord
  variants : List (Nat × VariantRec)
  cohorts : List (Option Graph)
  store : Option Graph
  cohortMap : List Nat
  budget : List Rat
  deriving DecidableEq, Repr

/-! ### Test access (chapter 19) -/

/-- The items KEY_PROG writes (R471): the die identity and its value, the device-unique key, which the on-chip random source
draws, the return-key hash, an image-key slot and its hash, and K_D. -/
inductive KeyItem
  | dieIdentity (v : Nat)
  | deviceKey
  | returnHash (v : Nat)
  | imageSlot (k v : Nat)
  | domainKey (v : Nat)
  deriving DecidableEq, Repr

/-- What FUSE_READ returns (R471). -/
inductive FuseItem
  | dieIdentity | deviceKey | returnHash | imageSlot (k : Nat) | domainKey | lifecycle
  deriving DecidableEq, Repr

/-- A return authorisation (R468): the die identity, the public key it is presented with, and whether the signature verifies. -/
structure AuthIn where
  dieId : Nat
  publicKey : List Byte
  verifies : Bool
  deriving DecidableEq, Repr

/-- What one loop-back depth saw (Table 19-4): nothing run; PRBS31 bits sent, checked, and in error; frames sent, and received equal
without an error; the walking patterns or the march with their uncorrected errors; the round trips of the ECHO replies, in ns. -/
inductive LbRun
  | none_
  | prbs (sent checked errors : Nat)
  | frames (sent good : Nat)
  | memory (errors : Nat)
  | echo (rts : List Nat)
  deriving DecidableEq, Repr

/-- Results of a start-up self-test (R478): the numbers of the failed tests, and the ports that failed test 9. -/
structure SelfTestIn where
  failed : List Nat
  ports : List Nat
  deriving DecidableEq, Repr


/-! ### Rounds, output and the device's own monitors -/

/-- The two tailor-core pairs (R15). -/
inductive CorePair | tc0 | tc1
  deriving DecidableEq, Repr

/-- What every stitch samples at its start (R15, R37, R77, R349, R454): the levels of VSET[3:0], MAINT and VCHG_DET, whether a
keep word arrived in the stitch that has just ended, the tailor-core pairs whose heartbeat did not, and whether one transaction has held the
NOR bus through that stitch (R26). -/
structure StitchLevels where
  vset : Nat
  maint : Bool
  vchg : Bool
  kept : Bool
  silentPairs : List CorePair
  norBusy : Bool
  deriving DecidableEq, Repr

/-- What ROUND_ZERO takes for the first snap: what the front-ends latch, and what STITCH_START takes for a later stitch (R65, R37). -/
structure ZeroIn where
  snap : SnapLatch
  levels : StitchLevels
  deriving DecidableEq, Repr

/-- A qualified transition of PACE_IN (R46, R82): its direction and its instant. -/
structure PaceChange where
  rising : Bool
  t : Ns
  deriving DecidableEq, Repr

/-- What ROUND_START takes: the PLL's tick, what the front-ends latch at the snap, the ports and PEER links that carried no valid
code group in the round before, the outcome of the run-time self-test scheduled for the round (R480), and for its stitch 0 what
STITCH_START takes for a later one. -/
structure RoundIn where
  pll : PllTick
  snap : SnapLatch
  silent : List Nat
  peerSilent : List CutSide
  testPassed : Bool
  levels : StitchLevels
  deriving DecidableEq, Repr

/-- What STITCH_START takes: the instant, and what every stitch samples. -/
structure StitchIn where
  t : Ns
  levels : StitchLevels
  deriving DecidableEq, Repr

/-- An error in a tightly coupled memory (Table 18-3): corrected, in a cell's record, or elsewhere in the memory of a pair. -/
inductive TcmError
  | correctable
  | cell (cell : CellId)
  | other (pair : CorePair)
  deriving DecidableEq, Repr

/-- The two CAN FD channels. -/
inductive CanChannel | cana | canb
  deriving DecidableEq, Repr


/-- The commands of the block: one constructor for each row of the opcode table, in its order. -/
inductive Instr
  /-- COLD_BOOT (R65) -/
  | coldBoot (cutsHigh : Bool)
  /-- STRAP_LATCH (R33) -/
  | strapLatch (x : StrapSamples)
  /-- RESISTOR_CODE_READ (R41) -/
  | resistorCodeRead (x : CodeReads)
  /-- PG_GOOD (R58) -/
  | pgGood (line : PgLine)
  /-- PMIC_HANDSHAKE_TIMEOUT (R59) -/
  | pmicHandshakeTimeout
  /-- PMIC_RETRY (R59) -/
  | pmicRetry
  /-- DOMAIN_SWITCH_ON (R61) -/
  | domainSwitchOn (d : Nat)
  /-- DOMAIN_SWITCH_TIMEOUT (R61) -/
  | domainSwitchTimeout (d : Nat)
  /-- STARTUP_SELF_TEST (R478) -/
  | startupSelfTest (x : SelfTestIn)
  /-- LPDDR5_INIT_COMPLETE (R65) -/
  | lpddr5InitComplete (x : DdrInit)
  /-- IMAGE_SELECT (R401) -/
  | imageSelect (a : Option SlotImage) (b : Option SlotImage)
  /-- ROUND_ZERO (R65) -/
  | roundZero (t : Ns) (x : ZeroIn)
  /-- CHECKPOINT_LOAD (R266) -/
  | checkpointLoad
  /-- WARM_RESUME (R68) -/
  | warmResume (cutsHigh : Bool) (t : Ns)
  /-- BOOT_SUPPLY_LOSS (R500) -/
  | bootSupplyLoss
  /-- TAP_PRESENT (R53) -/
  | tapPresent (tap : TapId)
  /-- TAP_ABSENT (R57) -/
  | tapAbsent (tap : TapId)
  /-- TAP_OVERVOLTAGE (R54) -/
  | tapOvervoltage (tap : TapId)
  /-- TAP_OVERVOLTAGE_END (R54) -/
  | tapOvervoltageEnd (tap : TapId)
  /-- TAP_REVERSE_CURRENT (R54) -/
  | tapReverseCurrent (tap : TapId)
  /-- SHARING_RUN_COMPLETE (R55) -/
  | sharingRunComplete (deviates : Bool)
  /-- RAIL_LOSS (R62) -/
  | railLoss (line : PgLine) (t : Ns)
  /-- PG2_LOSS (R63) -/
  | pg2Loss
  /-- PG2_RETURN (R63) -/
  | pg2Return
  /-- SUPPLY_LOSS_TRIGGER (R71) -/
  | supplyLossTrigger (t : Ns)
  /-- GRACE_END (R71) -/
  | graceEnd (t : Ns)
  /-- FREEZE (R71) -/
  | freeze (t : Ns)
  /-- SEAL_COMPLETE (R411) -/
  | sealComplete (t : Ns)
  /-- SUPPLY_RETURN (R72) -/
  | supplyReturn (t : Ns)
  /-- ABORT_DAMPING_END (R73) -/
  | abortDampingEnd
  /-- AON_LOST (R67) -/
  | aonLost
  /-- PARK_CRITERION (R75) -/
  | parkCriterion (fusesOk : Bool) (t : Ns)
  /-- WAKE_CAUSE (R77) -/
  | wakeCause (cause : WakeCause) (t : Ns)
  /-- PARK_TIMER (R78) -/
  | parkTimer (t : Ns)
  /-- PARK_CHECK_END (R78) -/
  | parkCheckEnd (t : Ns)
  /-- SHIP_CRITERION (R79) -/
  | shipCriterion (t : Ns)
  /-- SHIP_EXIT (R80) -/
  | shipExit (t : Ns)
  /-- PACE_EDGE (R82) -/
  | paceEdge (x : PaceChange)
  /-- PACE_LOSS (R93) -/
  | paceLoss (t : Ns)
  /-- HOLDOVER_END (R93) -/
  | holdoverEnd
  /-- SNAP_SEND (R111) -/
  | snapSend
  /-- ROUND_START (R98) -/
  | roundStart (x : RoundIn)
  /-- STITCH_START (R90) -/
  | stitchStart (x : StitchIn)
  /-- MAINT_CHANGE (R37) -/
  | maintChange
  /-- STRAP_RESAMPLE (R36) -/
  | strapResample (x : StrapLevels)
  /-- CODE_REREAD (R43) -/
  | codeReread (i : Nat) (sum : Nat)
  /-- TOKEN_SEND (R116) -/
  | tokenSend
  /-- READ_RECEIVED (R118) -/
  | readReceived (x : ReadRx)
  /-- COMMAND_RETRIES_SPENT (R131) -/
  | commandRetriesSpent (node : NodeId)
  /-- COMMAND_RESEND (R131) -/
  | commandResend (node : NodeId)
  /-- NODE_LOST (R135) -/
  | nodeLost (node : NodeId)
  /-- RING_REVERSAL (R126) -/
  | ringReversal (ring : Nat)
  /-- REVERSAL_END (R126) -/
  | reversalEnd (ring : Nat)
  /-- VIOLATION_WINDOW_END (R134) -/
  | violationWindowEnd
  /-- IDENT_RESPONSE (R146) -/
  | identResponse (x : ThreadRx)
  /-- IDENT_TIMEOUT (R146) -/
  | identTimeout (node : NodeId)
  /-- ECHO (R149) -/
  | echo (x : EchoTx)
  /-- ECHO_REPLY (R149) -/
  | echoReply (x : ThreadRx)
  /-- ECHO_TIMEOUT (R149) -/
  | echoTimeout (ring : Nat) (t : Ns)
  /-- LINK_TEST_START (R152) -/
  | linkTestStart (ring : Nat) (kind : TestKind)
  /-- BERT (R152) -/
  | bert (ring : Nat)
  /-- PRBS31_START (R152) -/
  | prbs31Start (ring : Nat) (e : RingEnd)
  /-- PRBS31_END (R152) -/
  | prbs31End (x : PrbsEnd)
  /-- BERT_REPORT (R154) -/
  | bertReport (x : ThreadRx)
  /-- INSTALLATION_TEST (R155) -/
  | installationTest
  /-- PERIODIC_TEST_DUE (R156) -/
  | periodicTestDue
  /-- PERIODIC_TEST_OVERDUE (R156) -/
  | periodicTestOverdue
  /-- MAINTENANCE_RETEST (R161) -/
  | maintenanceRetest
  /-- SHUNT_SAMPLE (R170) -/
  | shuntSample (x : ShuntSample)
  /-- SHUNT_RANGE_SENSOR (R174) -/
  | shuntRangeSensor (shunt : ShuntId) (t : Ns)
  /-- SENT_FRAME (R177) -/
  | sentFrame (x : SentFrame)
  /-- SENT_ID_TIMEOUT (R177) -/
  | sentIdTimeout (t : Ns)
  /-- SENT_LOSS (R178) -/
  | sentLoss (t : Ns)
  /-- SB_SNAP_BLANK (R184) -/
  | sbSnapBlank
  /-- SB_RESTORE (R184) -/
  | sbRestore
  /-- PACK_CHECKS (R311) -/
  | packChecks (t : Ns)
  /-- CLASSICAL_UPDATE (R191) -/
  | classicalUpdate
  /-- BASTING_FORMED (R204) -/
  | bastingFormed (cell : CellId)
  /-- TACK_OVERDUE (R213) -/
  | tackOverdue
  /-- PAIR_RECORD_WRITE (R190) -/
  | pairRecordWrite
  /-- STATE_BLOCK_FETCH (R248) -/
  | stateBlockFetch (cell : CellId)
  /-- LEARNED_RESULT_WRITTEN (R225) -/
  | learnedResultWritten (cell : CellId) (t : Ns)
  /-- OPEN_LOOP_LIMIT (R228) -/
  | openLoopLimit (cell : CellId)
  /-- WARMUP_END (R228) -/
  | warmupEnd (cell : CellId)
  /-- REPLAY_STEP (R256) -/
  | replayStep (t : Ns)
  /-- REPLAY_COMPARE (R257) -/
  | replayCompare
  /-- REPLAY_ABORT (R256) -/
  | replayAbort
  /-- REPLAY_PERIOD_END (R255) -/
  | replayPeriodEnd
  /-- STEP_ABANDON (R260) -/
  | stepAbandon (cell : CellId)
  /-- CELL_RESTORE (R261) -/
  | cellRestore (cell : CellId)
  /-- LPDDR5_ECC_ERROR (R262) -/
  | lpddr5EccError (correctable : Bool) (region : MemRegion)
  /-- BOBBIN_ECC_ERROR (R263) -/
  | bobbinEccError (correctable : Bool) (matchesMemory : Bool) (region : MemRegion)
  /-- TCM_ECC_ERROR (R455) -/
  | tcmEccError (x : TcmError)
  /-- ECC_WINDOW_END (R263) -/
  | eccWindowEnd
  /-- SCRUB_PASS (R264) -/
  | scrubPass
  /-- SCRUB_OVERDUE (R264) -/
  | scrubOverdue
  /-- ARBITRATION_REVOKE (R265) -/
  | arbitrationRevoke (holder : Requester)
  /-- PORT_UNFENCE (R265) -/
  | portUnfence (holder : Requester)
  /-- REFRESH_RATE_READ (R491) -/
  | refreshRateRead (multiplier : Rat)
  /-- CYCLE_START (R271) -/
  | cycleStart
  /-- SHADOW_STEP (R274) -/
  | shadowStep (cell : CellId) (t : Ns)
  /-- WARM_PHASE_END (R272) -/
  | warmPhaseEnd
  /-- SHADOW_UPDATE (R278) -/
  | shadowUpdate
  /-- EPOCH_END (R272) -/
  | epochEnd
  /-- FIT_DECISION (R282) -/
  | fitDecision
  /-- ADAPTER_COPY (R283) -/
  | adapterCopy
  /-- PROMOTION (R283) -/
  | promotion
  /-- SHED_LOWER (R288) -/
  | shedLower (t : Ns)
  /-- CHECKPOINT_TRIGGER (R286) -/
  | checkpointTrigger (cause : CkptCause)
  /-- CHECKPOINT_STAGED (R285) -/
  | checkpointStaged
  /-- CHECKPOINT_WRITE (R417) -/
  | checkpointWrite (ok : Bool)
  /-- NOR_BUS_REVOKE (R26) -/
  | norBusRevoke
  /-- SEAM_DECISION (R295) -/
  | seamDecision (cell : CellId)
  /-- SEAM_DEADLINE (R20) -/
  | seamDeadline
  /-- PUBLICATION (R306) -/
  | publication (summaryBegan : Bool) (faultBegan : Bool)
  /-- ROUND (R438) -/
  | roundPage (t : Ns)
  /-- ROUND_PAGE_DROP (R438) -/
  | roundPageDrop
  /-- SEAM_WINDOW_END (R307) -/
  | seamWindowEnd
  /-- CAP_LATCH (R319) -/
  | capLatch (capsBegan : Bool) (burstBegan : Bool) (t : Ns)
  /-- CAP_LATCH_MISSING (R458) -/
  | capLatchMissing
  /-- COMPARATOR_EVENT (R321) -/
  | comparatorEvent (x : CompEvent)
  /-- CELL_LIMIT_FLAG (R322) -/
  | cellLimitFlag (x : ThreadRx)
  /-- FAST_PATH_RELEASE (R325) -/
  | fastPathRelease (e : FastEvent) (t : Ns)
  /-- PIN_READBACK_MISMATCH (R328) -/
  | pinReadbackMismatch (pin : FastPin)
  /-- STORE_ABSENT (R333) -/
  | storeAbsent
  /-- STORE_PRESENT (R333) -/
  | storePresent
  /-- VMAIN_FAIL (R340) -/
  | vmainFail (x : PathSense)
  /-- RESERVE_PRECHARGE (R340) -/
  | reservePrecharge (otherHigh : Bool) (t : Ns)
  /-- STABLE_REACHED (R337) -/
  | stableReached (x : PathSense)
  /-- PATH_DWELL_END (R341) -/
  | pathDwellEnd (x : PathSense)
  /-- RAMP_COMPLETE (R344) -/
  | rampComplete (x : PathSense)
  /-- SHORT_DETECTED (R345) -/
  | shortDetected (t : Ns)
  /-- COOL_END (R346) -/
  | coolEnd (x : PathSense)
  /-- SHORT_COUNT_RESET (R346) -/
  | shortCountReset (t : Ns)
  /-- LATCHED_EXIT (R346) -/
  | latchedExit (t : Ns)
  /-- FLOOR (R337) -/
  | floor (src : FloorSource) (x : PathSense)
  /-- DAMPING_END (R342) -/
  | dampingEnd (t : Ns)
  /-- GATE_INTERLOCK_TIMEOUT (R343) -/
  | gateInterlockTimeout (t : Ns)
  /-- GATE_MONITOR_FAULT (R343) -/
  | gateMonitorFault (pair : Pair) (t : Ns)
  /-- BREQ_EDGE (R355) -/
  | breqEdge (line : Nat) (t : Ns)
  /-- BURST_RELEASE (R353) -/
  | burstRelease (line : Nat) (t : Ns)
  /-- BURST_DURATION_END (R358) -/
  | burstDurationEnd (line : Nat) (t : Ns)
  /-- BGNT_ANSWER (R354) -/
  | bgntAnswer (t : Ns)
  /-- BEAT_SEND (R365) -/
  | beatSend (t : Ns)
  /-- BEAT_RECEIVED (R443) -/
  | beatReceived (x : PeerRx)
  /-- CLAIM_RECEIVED (R444) -/
  | claimReceived (x : PeerRx)
  /-- YIELD_RECEIVED (R444) -/
  | yieldReceived (x : PeerRx)
  /-- MIRROR_RECEIVED (R445) -/
  | mirrorReceived (x : PeerRx)
  /-- PEER_WINDOW_END (R366) -/
  | peerWindowEnd
  /-- UNALIGNED (R370) -/
  | unaligned
  /-- PROVISIONAL_CLAIM (R372) -/
  | provisionalClaim
  /-- LISTEN_TIMEOUT (R372) -/
  | listenTimeout
  /-- ELECTION (R373) -/
  | election
  /-- YIELD_SEND (R375) -/
  | yieldSend
  /-- ACCEPT_CLAIM (R375) -/
  | acceptClaim
  /-- OWNER_JUDGE (R377) -/
  | ownerJudge
  /-- TRIP_DISAGREE (R377) -/
  | tripDisagree (t : Ns)
  /-- CUT_IN (R30) -/
  | cutIn (t : Ns)
  /-- FORCED_CLAIM (R380) -/
  | forcedClaim
  /-- FORCED_TAKEOVER_DRIVE (R380) -/
  | forcedTakeoverDrive (t : Ns)
  /-- OWNER_SELF_CHECK (R387) -/
  | ownerSelfCheck (passed : Bool)
  /-- CAN_TX_COMPLETE (R429) -/
  | canTxComplete (channel : CanChannel) (second : Bool) (active : Bool) (t : Ns)
  /-- CAN_ERROR_PASSIVE (R429) -/
  | canErrorPassive (channel : CanChannel)
  /-- CAN_BUS_OFF (R429) -/
  | canBusOff (channel : CanChannel)
  /-- CAN_BUS_OFF_RECOVERY (R429) -/
  | canBusOffRecovery (channel : CanChannel)
  /-- CAN_FRAME_RECEIVED (R6) -/
  | canFrameReceived (channel : CanChannel) (frame : List Byte)
  /-- SGMII_RX_DISCARD (R6) -/
  | sgmiiRxDiscard (frame : List Byte)
  /-- SGMII_LINK_CHANGE (R436) -/
  | sgmiiLinkChange (up : Bool)
  /-- PHY_RESET_RELEASE (R436) -/
  | phyResetRelease
  /-- PIN_KEEPER_EXPIRY (R454) -/
  | pinKeeperExpiry
  /-- FAST_CLOCK_LOSS (R457) -/
  | fastClockLoss (t : Ns)
  /-- CRYSTAL_FAIL (R455) -/
  | crystalFail
  /-- LOCKSTEP_MISMATCH (R456) -/
  | lockstepMismatch (pair : CorePair)
  /-- HEARTBEAT_MISS (R27) -/
  | heartbeatMiss (pair : CorePair)
  /-- DIE_OVERTEMP (R459) -/
  | dieOvertemp
  /-- BYPASS (R469) -/
  | bypass
  /-- IDCODE (R469) -/
  | idcode
  /-- SAMPLE_PRELOAD (R470) -/
  | samplePreload (pins : Nat) (scan : Nat)
  /-- EXTEST (R470) -/
  | extest (scan : Nat)
  /-- CLAMP (R470) -/
  | clamp
  /-- HIGHZ (R470) -/
  | highz
  /-- EXTEST_PULSE (R470) -/
  | extestPulse (scan : Nat)
  /-- EXTEST_TRAIN (R470) -/
  | extestTrain (scan : Nat)
  /-- LB_RESULT (R476) -/
  | lbResult
  /-- BIST_RESULT (R477) -/
  | bistResult
  /-- KEY_PROG (R471) -/
  | keyProg (item : KeyItem)
  /-- FUSE_READ (R471) -/
  | fuseRead (item : FuseItem)
  /-- LC_ADVANCE (R466) -/
  | lcAdvance (readBack : Bool)
  /-- AUTH (R468) -/
  | auth (x : AuthIn)
  /-- RETURN_HOLD_END (R468) -/
  | returnHoldEnd
  /-- LOOPBACK_PHASE (R474) -/
  | loopbackPhase (runs : List LbRun)
  /-- PRODUCTION_BIST (R477) -/
  | productionBist (result : BitVec 128) (allRun : Bool) (passed : Bool)
  /-- PACE_PLL_FAIL (R102) -/
  | pacePllFail
  /-- SNAP_RECEIVED (R145) -/
  | snapReceived (x : ThreadRx)
  /-- SHIP_N_HIGH (R79) -/
  | shipNHigh
  /-- GOOD_CHANGE (R341) -/
  | goodChange (good : Bool) (t : Ns)
  /-- MAIN_PRECHARGE (R341) -/
  | mainPrecharge (otherHigh : Bool) (t : Ns)
  deriving DecidableEq, Repr

end Sys2Proof
end

