-- ==== Sys2Proof/Decode.lean ====
section
/-!
DEFINITION. The opcode table gives no row any bits: a command is not spelled by a word.
-/
namespace Sys2Proof

/-- The command a word of `nbits` bits spells: none, since no row of the table has bits. -/
def decodeTableWord (_ _ : Nat) : Option Instr := none

end Sys2Proof
end

