-- ==== Sys2Proof/Config.lean ====
section
/-!
DEFINITION. What the manual leaves open or fixes outside itself: free values and functions without a
body, so that no proof can see a number in them. Each has its row in the assumption log.
-/
namespace Sys2Proof

/-- An order of accumulating the terms of a sum, by number. -/
inductive SumTree
  | leaf (i : Nat)
  | node (a b : SumTree)
  deriving DecidableEq, Repr, Inhabited

namespace Config

/-- A fresh free value: the plain counter of the state makes each use a different one. -/
opaque freeValue : Nat → Nat

/-- Of the two hundredths of a degree beside the temperature that R180's formula gives, the one a thermistor of r25 (Ω) and beta (K)
reads at a ratio code of 65,536ths: the manual does not state the rounding; true is the upper one. -/
opaque thermistorUp (r25 beta code : Nat) : Bool

/-- The quotient of a numerator by zero, which the manual does not state. -/
opaque divByZero : Rat → Rat

/-- A quotient of exact quantities. -/
def quot (x y : Rat) : Rat := if y = 0 then divByZero x else x / y

/-- The part, 0 to 1, that an exact real value lies above the lower bound computed for it (R195, R210). -/
opaque part : Rat → Rat

/-- The loaded-corrected voltage in mV of a record while the snap current is ABSENT, by cell and voltage (R201, R204): the manual states
none. -/
opaque unloadedAbsent (cell : Nat) (v : Rat) : Rat

/-- Where within its 4 ulp a function of the gate engine answers, by function and operand (R236). -/
opaque ulps (op : Nat) (x : Rat) : Nat

/-- The derivative that the manual does not give where a function has none (R274), at a corner of Abs, Relu, Min, Max
and Clip. -/
opaque kink (x : Rat) : Rat

/-- The slope that QuantizeLinear is differentiated with (R274), by its operand and its scale. -/
opaque quantSlope (x scale : Rat) : Rat

/-- The INT8 code of a NaN (R236). -/
opaque nanCode : Int

/-- The order in which n terms are accumulated in FP32 (R236), which the manual leaves open. -/
opaque sumOrder (n : Nat) : SumTree

/-- What a signed 32-bit record shows of a value beyond it (R168). -/
opaque beyond32 : Int → BitVec 32

/-- AES-CMAC of RFC 4493 under a 128-bit key, as a 128-bit number (R410, R441). -/
opaque aesCmac (key : Nat) (msg : List Byte) : Nat

/-- The delay, in ns, of a PEER link that is not this device's own, by hop (R368): no frame carries it. -/
opaque farLinkDelay (hop : Nat) : Nat

/-- The die's 16-bit stepping code, and the first and last interface epoch its ROM supports (R400). -/
opaque stepping : Nat
@[inherit_doc stepping] opaque epochFirst : Nat
@[inherit_doc stepping] opaque epochLast : Nat

/-- Ghedewell's manufacturer code of IDCODE (R469), as the BSDL file of the stepping gives it. -/
opaque manufacturer : Nat

end Config

end Sys2Proof
end

