-- ==== Sys2Proof/Machine/Reals.lean ====
section
/-!
DEFINITION. Real functions that the manual uses and does not round (R180, R195, R210, R236): e^x, ln x and √x. A result is a
rational just below the exact value, with a bound on what is missing; a free value of Config stands for the rest.
-/
namespace Sys2Proof.Machine

/-- 2^k for an integer k. -/
def twoPow (k : Int) : Rat := if 0 ≤ k then (2 : Rat) ^ k.toNat else 1 / (2 : Rat) ^ (-k).toNat

/-- The integer k with 2^k ≤ x < 2^(k + 1), for x > 0. -/
def log2Floor (x : Rat) : Int :=
  let k : Int := (Nat.log2 x.num.natAbs : Int) - (Nat.log2 x.den : Int)
  if x < twoPow k then k - 1 else k

/-- A rational rounded down to a multiple of 2^−96, which keeps numbers short. -/
def grid (x : Rat) : Rat := (x * 79228162514264337593543950336).floor / 79228162514264337593543950336

/-- z^k / k + z^(k + 2) / (k + 2) + …, n terms; p is z^k, and z2 is z². -/
def oddSeries (z2 : Rat) : Nat → Nat → Rat → Rat
  | 0, _, _ => 0
  | n + 1, k, p => grid (p / k) + oddSeries z2 n (k + 2) (grid (p * z2))

/-- ln((1 + z) / (1 − z)) = 2 artanh z for |z| ≤ 1/3, within 2^−80. -/
def lnRatio (z : Rat) : Rat := 2 * oddSeries (grid (z * z)) 28 1 (grid z)

/-- ln 2, within 2^−80. -/
def lnTwo : Rat := lnRatio (1 / 3)

/-- ln x for x > 0, within 2^−70 of the exact value for any x of this machine. -/
def lnNear (x : Rat) : Rat :=
  let k := log2Floor x
  let m := x / twoPow k
  let e : Int := if 4 / 3 < m then k + 1 else k
  let y := if 4 / 3 < m then m / 2 else m
  (e : Rat) * lnTwo + lnRatio ((y - 1) / (y + 1))

/-- 1 + x/k · (1 + x/(k + 1) · …), n terms: the exponential series by Horner's rule, from the innermost term. -/
def expSeries (x : Rat) : Nat → Nat → Rat
  | 0, _ => 1
  | n + 1, k => 1 + grid (x / k * expSeries x n (k + 1))

/-- e^x, within 2^−70 of it relatively. -/
def expNear (x : Rat) : Rat :=
  let k : Int := (x / lnTwo + 1 / 2).floor
  twoPow k * expSeries (grid (x - k * lnTwo)) 30 1

/-- Newton's steps down to the integer square root, from a start not below it. -/
def isqrtStep (n : Nat) : Nat → Nat → Nat
  | 0, a => a
  | k + 1, a => let b := (a + n / a) / 2; if a ≤ b then a else isqrtStep n k b

/-- The integer square root. -/
def isqrt (n : Nat) : Nat := if n = 0 then 0 else isqrtStep n (n.log2 + 8) (2 ^ (n.log2 / 2 + 1))

/-- √x for x ≥ 0, below the exact value by at most 2^−48 of it. -/
def sqrtBelow (x : Rat) : Rat :=
  if x ≤ 0 then 0
  else
    let k : Int := log2Floor x / 2 - 60
    (isqrt (x / twoPow (2 * k)).floor.toNat : Rat) * twoPow k

/-- ln (1 + t) for t > 0, relatively close for a small t too. -/
def log1pNear (t : Rat) : Rat := if t * 1099511627776 < 1 then t * (1 - t / 2 + t * t / 3) else lnNear (1 + t)

/-- 1 − e^−x for x > 0, relatively close for a small x too. -/
def decayNear (x : Rat) : Rat := if x * 1048576 < 1 then x * (1 - x / 2 + x * x / 6 - x * x * x / 24) else 1 - expNear (-x)

/-- 1 / (1 + e^−x), tanh x and ln (1 + e^x), for |x| of no more than a few hundred. -/
def sigmoidNear (x : Rat) : Rat := 1 / (1 + expNear (-x))
@[inherit_doc sigmoidNear] def tanhNear (x : Rat) : Rat :=
  let y := decayNear (2 * |x|)
  (if x < 0 then -1 else 1) * (y / (2 - y))
@[inherit_doc sigmoidNear] def softplusNear (x : Rat) : Rat := if 0 < x then x + log1pNear (expNear (-x)) else log1pNear (expNear x)

/-- 1 + w/3 · (1 + w/5 · …), n terms from the divisor k on. -/
def erfSeries (w : Rat) : Nat → Nat → Rat
  | 0, _ => 1
  | n + 1, k => 1 + grid (w / k * erfSeries w n (k + 2))

/-- 2 / √π. -/
def twoOverRootPi : Rat := 11283791670955125738961589031215451716881 / 10000000000000000000000000000000000000000

/-- erf x: 2/√π · e^(−x²) · x · (1 + 2x²/3 · (1 + 2x²/5 · …)). -/
def erfNear (x : Rat) : Rat :=
  if 6 < |x| then (if x < 0 then -1 else 1) * (1 - 1 / 36028797018963968)
  else twoOverRootPi * x * expNear (-(x * x)) * erfSeries (grid (2 * x * x)) 200 3

/-- A value somewhere between two bounds: which one is a free value of what it is computed from. -/
def between (lo hi seed : Rat) : Rat := lo + (hi - lo) * max 0 (min 1 (Config.part seed))

/-- e^x − 1 exactly, as far as the manual tells (R195): within 2^−60 of the computed value. -/
def expm1 (x : Rat) : Rat :=
  let y := expNear x
  let d := y / 1152921504606846976
  between (y - d - 1) (y + d - 1) x

/-- √x (R210): within 2^−40 of the computed value; 0 for 0. -/
def sqrt (x : Rat) : Rat :=
  let y := sqrtBelow x
  between y (y + y / 1099511627776) x

end Sys2Proof.Machine
end

