-- ==== Sys2Proof/Machine/State.lean ====
section
/-!
DEFINITION. The state of the SN4096 model as plain data, its fault and refusal reasons, and the
state right after reset.

Each structure holds the state one chapter of the manual gives the device. A quantity has the unit
its docstring names.
-/
namespace Sys2Proof.Machine

/-! ### Faults and the fault pins (chapter 18) -/

/-- A fault instance (R448): a code and a detail value, and whether the instance takes the higher
class of a two-class code (R451). -/
structure FaultInst where
  code : Nat
  detail : Nat
  high : Bool
  deriving DecidableEq, Repr

/-- Reaction classes of Table 18-1. -/
inductive FaultClass | info | learned | classical | power | fast | device
  deriving DecidableEq, Repr

/-- The event field of a FAULT entry (Table 17-5). -/
inductive FaultEventKind | raised | cleared | raisedAndCleared
  deriving DecidableEq, Repr

/-- A fault event not yet sent (R432). -/
structure FaultEvent where
  inst : FaultInst
  kind : FaultEventKind
  deriving DecidableEq, Repr

/-- An event-log entry (R414) before its CRC; the sequence number is given when TC1 writes it. -/
structure LogEntry where
  kind : Byte
  seq : Nat
  round : Round
  ticks : Nat
  payload : List Byte
  deriving DecidableEq, Repr

/-- A fault that clears after a number of rounds without its condition: the round it was last seen in. -/
structure FaultHold where
  code : Nat
  detail : Nat
  last : Round
  rounds : Nat
  deriving DecidableEq, Repr

/-- TC1's fault table, the overflow list of 0x542, the fault pins and the pin keeper (R448–R454). -/
structure Faults where
  /-- The fault table: at most 256 instances, never of code 0x542 (R449). -/
  table : List FaultInst
  /-- Instances still standing unlisted, earliest raised first (R449). -/
  unlisted : List FaultInst
  /-- The unlisted codes for which an instance of 0x542 stands (R449). -/
  overflow : List Nat
  /-- Consecutive rounds in which the table had free entries (Table 18-3, 0x542). -/
  freeRounds : Nat
  /-- Faults that clear after a time without their condition. -/
  holds : List FaultHold
  /-- Fault events not yet sent in a FAULT frame, oldest first (R432). -/
  events : List FaultEvent
  /-- The last standing fault sent in a FAULT frame, for the rotation of R432. -/
  lastSent : Option FaultInst
  /-- Log entries waiting for the journal window of R415, oldest first. -/
  logQueue : List LogEntry
  /-- Tailor-core pairs held in reset after a loss of lockstep, 0 or 1 (R456). -/
  tcDown : List Nat
  /-- Consecutive stitches without a heartbeat of TC0, and of TC1 (R15, R27). -/
  beatMiss0 : Nat
  beatMiss1 : Nat
  /-- Correctable TCM errors in the present window (Table 18-3). -/
  tcmCe : Nat
  /-- The level P0 AON drives on FAULT[2:0]. -/
  pin : BitVec 3
  /-- The first round that has shown or will show the present level from its stitch 0 (R451). -/
  pinFrom : Round
  /-- The level P0 AON drives on SAFE_N; true is high. -/
  safeN : Bool
  /-- Consecutive stitches without a keep word (R454). -/
  keepMiss : Nat
  /-- The pin-keeper flag of P0 AON (R454). -/
  pinKeeper : Bool
  /-- Instances that only a cold boot clears, held over a warm resume until its round 0 raises them again (R450). -/
  coldHeld : List FaultInst
  /-- PEER transmitters stopped by the pin keeper (R454). -/
  peerStopped : Bool
  deriving DecidableEq, Repr

/-! ### Supply, domains, boot and shut-down (chapter 03) -/

/-- The seven device states of chapter 03. -/
inductive DevState | off | boot | run | grace | seal | park | ship
  deriving DecidableEq, Repr

/-- Tap classes (R53). -/
inductive TapClass | unclassified | present | absent
  deriving DecidableEq, Repr

/-- What DGATE does with the tap's FET (R53–R55): off, regulating its forward drop, limiting its current, or held off. -/
inductive Dgate | low | regulating | limiting | heldOff
  deriving DecidableEq, Repr

/-- One supply tap. -/
structure Tap where
  cls : TapClass
  overvoltage : Bool
  dgate : Dgate
  deriving DecidableEq, Repr

/-- How far a boot has come along Table 3-4. -/
inductive BootStep | aonUp | strapsLatched | codesRead | pmicUp | domainsOn | selfTested | imageRun
  deriving DecidableEq, Repr

/-- Boot kinds as the boot entry of the event log codes them (Table 16-13). -/
inductive BootKind | cold | parkWake | parkCheck | ship | otherWarm
  deriving DecidableEq, Repr

/-- Shut-down kinds (Table 3-5); `parkCheckEnd` is the return to PARK of R78. -/
inductive ShutKind | supply | park | ship | rail | parkCheckEnd
  deriving DecidableEq, Repr

/-- A shut-down in progress (R70–R76). -/
structure Shutdown where
  kind : ShutKind
  /-- When the trigger was qualified. -/
  since : Ns
  /-- The grace period has expired (GRACE_END). -/
  graceOver : Bool
  /-- The freeze step has begun (R71). -/
  frozen : Bool
  /-- A supply return qualified in the freeze step or in SEAL (Table 3-7). -/
  returned : Bool
  /-- A wake cause latched after the freeze (R76). -/
  wake : Option WakeCause
  /-- A supply loss qualified during the freeze or seal of a park or ship shut-down (R501). -/
  lateLoss : Bool
  /-- The emergency seal began in a park check (R62). -/
  fromParkCheck : Bool
  deriving DecidableEq, Repr

/-- The supply, the power domains and the device state. -/
structure Supply where
  dev : DevState
  /-- RUN, GRACE or SEAL within a park check (R78). -/
  parkCheck : Bool
  bootStep : BootStep
  bootKind : BootKind
  tapA : Tap
  tapB : Tap
  tapC : Tap
  pmicEn : Bool
  pg0 : Bool
  pg1 : Bool
  pg2 : Bool
  pg3 : Bool
  /-- The handshake of R59 has completed in this boot. -/
  handshake : Bool
  /-- Failed attempts of R59 in this boot. -/
  attempts : Nat
  /-- PMIC_EN held low after fault 0x112 until the next cold boot (R62). -/
  held112 : Bool
  /-- Switched domains that are on, P2–P17, in switching order (R61). -/
  domains : List Nat
  /-- P7 holds LPDDR5 in self-refresh (R60). -/
  p7SelfRefresh : Bool
  /-- P1 Keep is powered. -/
  p1 : Bool
  /-- Domains whose switch did not report good in this boot (R61). -/
  failedDomains : List Nat
  /-- Times of rail losses under R62 within the last 600 s. -/
  railLosses : List Ns
  /-- PG2 alone is lost (R63). -/
  pg2Lost : Bool
  /-- A supply loss qualified before round 0 is waiting for the return (R500). -/
  bootLoss : Bool
  shut : Option Shutdown
  /-- Times of supply-loss shut-downs aborted by a supply return (R73). -/
  aborts : List Ns
  /-- P8–P17 kept off by R73. -/
  damping : Bool
  /-- The round in which fault 0x120 was raised, to be cleared one round later (R72). -/
  abortRound : Option Round
  /-- The store function is enabled (R66). -/
  storeFn : Bool
  /-- This seat was owner at park entry (R78). -/
  parkOwner : Bool
  /-- When the park timer started (R78). -/
  parkTimerFrom : Ns
  /-- Rounds still to run in a park check (R78). -/
  checkRounds : Nat
  /-- A wake cause in a park check turns it into RUN at the next round boundary (R78). -/
  checkWake : Bool
  /-- Warm resume in place: round work resumes at the first boundary after the restart (R69). -/
  resumeInPlace : Bool
  /-- SHIP_N has been seen high for 100 ms since the last cold boot or SHIP exit (R79). -/
  shipSeenHigh : Bool
  /-- VCHG_DET as last sampled, and since when the conditions of R75 have held without a break. -/
  vchg : Bool
  parkFrom : Option Ns
  /-- The runs of R55 in ns at or above 1.0 A: of each tap beyond 25 %, and of every tap within 15 %. -/
  shareA : Ns
  shareB : Ns
  shareC : Ns
  shareOk : Ns
  /-- A warm resume is due, and of which kind (R62, R72, R77, R78, R80). -/
  resume : Option BootKind
  deriving DecidableEq, Repr

/-! ### Straps and resistor codes (chapter 02) -/

/-- Consecutive re-reads that disagreed and that agreed with the latched value (R36, R43). -/
structure Streak where
  differ : Nat
  agree : Nat
  deriving DecidableEq, Repr

/-- The latched straps and their supervision (R33–R37, R499). -/
structure Straps where
  latched : StrapLevels
  /-- Straps whose five samples were not unanimous (R33). -/
  split : List Strap
  /-- MAINT was high when the straps were latched (R35). -/
  maintAtLatch : Bool
  seat1 : Streak
  seat0 : Streak
  slotPref : Streak
  install : Streak
  test1 : Streak
  test0 : Streak
  /-- The debounced MAINT level in force (R37). -/
  maint : Bool
  /-- The last MAINT sample and how many consecutive samples agreed with it (R37). -/
  maintLast : Bool
  maintRun : Nat
  /-- A debounced change waiting for the round boundary (R37). -/
  maintNext : Option Bool
  deriving DecidableEq, Repr

/-- The eight latched resistor codes in the order of Table 2-7; `none` is INVALID (R41). -/
structure Codes where
  levels : List (Option Nat)
  streaks : List Streak
  deriving DecidableEq, Repr

/-! ### Pace (chapter 04) -/

/-- Lock states of Table 4-2. -/
inductive Lock | lock | track | hold | idle | transition
  deriving DecidableEq, Repr

/-- Pace sources (R83). -/
inductive PaceSource | inverter | mains | dc
  deriving DecidableEq, Repr

/-- The two ratio modes of R84. -/
inductive PaceMode | divide | multiply
  deriving DecidableEq, Repr

/-- A ratio: N in divide mode, M in multiply mode (R84). -/
structure Ratio where
  mode : PaceMode
  n : Nat
  deriving DecidableEq, Repr

/-- An acquisition that has completed (R95): the source, the ratio chosen, the mean period in
picoseconds and the latest valid edge from which the new grid is predicted. -/
structure Acquired where
  source : PaceSource
  ratio : Ratio
  periodPs : Nat
  edge : Ns
  deriving DecidableEq, Repr

/-- The pace PLL, the round grid and their supervision. -/
structure Pace where
  /-- The pace PLL has been enabled (Table 3-4). -/
  enabled : Bool
  lock : Lock
  source : Option PaceSource
  ratio : Option Ratio
  /-- The phase index k of the present round (R87). -/
  phase : Nat
  ratioChange : Bool
  badPrev : Bool
  /-- The pace status word fixed at the present round's stitch 0 (R91). -/
  word : BitVec 24
  /-- The pace status word of the previous round. -/
  wordPrev : BitVec 24
  /-- The PLL's predicted pace period, in picoseconds. -/
  periodPs : Nat
  lastValid : Option Ns
  lastQualified : Option Ns
  /-- The next qualified edge is an opening edge whatever its time (R82). -/
  opening : Bool
  /-- Acquisition: band, count and sum (in ns) of consecutive periods (R95). -/
  acqSource : Option PaceSource
  acqCount : Nat
  acqSum : Nat
  acquired : Option Acquired
  /-- Pace loss was declared in the present round (R93). -/
  lossPending : Bool
  /-- A resumption from HOLD takes effect at the next stitch 0 (R95). -/
  resumePending : Bool
  /-- HOLD rounds still to run after the present one (R93). -/
  holdLeft : Nat
  /-- The frozen round length in HOLD, in picoseconds. -/
  heldPs : Nat
  /-- The snap C that ends a TRANSITION round, in picoseconds, and its phase index (R95). -/
  transEnd : Nat
  transPhase : Nat
  /-- A ratio waiting for its boundary (R85). -/
  ratioNext : Option Ratio
  /-- Valid edges within ±30 ns counted toward LOCK (R96), and whether LOCK has been reached. -/
  lockCount : Nat
  locked : Bool
  /-- Consecutive TRACK rounds (0x204). -/
  trackRounds : Nat
  /-- Bad edges in the present 1,000-round window, and in the present round (0x205, R92). -/
  badWindow : Nat
  badRound : Bool
  /-- Consecutive periods in a band not admitted, the round of the last one, and whether 10 have been counted since the last
  stitch 0 (0x203). -/
  foreignRun : Nat
  foreignRound : Round
  foreignHit : Bool
  /-- Start of the search run and its last period in an admitted band (0x206). -/
  searchFrom : Option Ns
  searchLast : Ns
  /-- The present round number (R98). -/
  round : Round
  /-- Whether any round has begun since the boot. -/
  running : Bool
  /-- The present stitch, 0–63 (R90). -/
  stitch : Nat
  /-- Crystal time of the present snap t_n and of the snap before (R97), in picoseconds and ns. -/
  startPs : Nat
  start : Ns
  prevStart : Ns
  /-- Δt of the present snap in 10 ns ticks (R97). -/
  dt : Nat
  /-- Crystal time of the present stitch, in ns and in picoseconds, and the shortest and the longest stitch of the round so far
  (R90), 0 before its first has ended. -/
  stitchAt : Ns
  stitchPs : Nat
  stitchMin : Nat
  stitchMax : Nat
  /-- Ticks by which the next idle boundary is moved: a steer or a join round (R368). -/
  idleAdjust : Int
  /-- Where the eighth HOLD round ends, from HOLDOVER_END to that stitch 0 (R93), in picoseconds. -/
  heldEnd : Option Nat
  deriving DecidableEq, Repr

/-! ### Threads (chapter 05) -/

/-- THREAD fields (Table 5-10). -/
structure ThreadFields where
  cmdRetries : Nat
  balHold : Nat
  balRefresh : Nat
  identInterval : Nat
  quarantineCount : Nat
  crcLimit : Nat
  /-- mV -/
  ov : Nat
  /-- mV -/
  uv : Nat
  persist : Nat
  /-- half degrees above −40 °C, the temperature code of Table 5-6 -/
  balTMax : Nat
  deriving DecidableEq, Repr

/-- PACE fields (Table 4-5): the phases in 1/256 of T_p, PACE.round_min in µs. -/
structure PaceFields where
  phiInverter : Nat
  phiMains : Nat
  phiDc : Nat
  roundMin : Nat
  deriving DecidableEq, Repr

/-- SUPPLY fields (Table 3-8): ms, A, s, h, rounds. -/
structure SupplyFields where
  grace : Nat
  parkIMax : Rat
  parkDwell : Nat
  checkInterval : Nat
  checkRounds : Nat
  deriving DecidableEq, Repr

/-- PATTERN fields (Table 6-6). -/
structure PatternFields where
  foreignLimit : Nat
  driftLimit : Nat
  installTime : Nat
  installMaxErrors : Nat
  periodicTime : Nat
  periodicMaxErrors : Nat
  periodicInterval : Nat
  deriving DecidableEq, Repr

/-- The body of a command (R123). -/
inductive CmdBody
  | bal (bitmap : BitVec 16) (hold : Nat)
  | conf (item value : Nat)
  | ident
  | echo (tag : Nat)
  | bert (side : RingEnd) (duration : Nat)
  deriving DecidableEq, Repr

/-- A command sent to a node and not yet acknowledged (R131). -/
structure Cmd where
  body : CmdBody
  seq : Nat
  /-- The epoch field it was last sent with; 15 when the node's epoch is not known (R122). -/
  epoch : Nat
  sentRound : Round
  /-- Retransmissions counted against THREAD.cmd_retries. -/
  retries : Nat
  /-- To be sent (again) in the next command round, and whether that sending is not counted. -/
  due : Bool
  free : Bool
  /-- Fault 0x302 stands for it (R131). -/
  faulted : Bool
  deriving DecidableEq, Repr

/-- Classification of a node against the pattern (Table 6-3). -/
inductive NodeClass | unknown | match_ | misfit | foreign | missing
  deriving DecidableEq, Repr

/-- A delay measurement of R149: the set in use, requests sent and round trips in hand. -/
structure Echo where
  set : Nat
  sent : Nat
  replies : List Nat
  done : Bool
  failed : Bool
  deriving DecidableEq, Repr

/-- A temperature a node reported: the code of byte 39 and when it was sampled (R182). -/
structure TempRec where
  code : Nat
  round : Round
  t : Ns
  deriving DecidableEq, Repr

/-- What the device holds of one cell-monitoring node. -/
structure Node where
  id : NodeId
  /-- The epoch of the latest accepted READ; none until one is accepted, and while lost (R122). -/
  epoch : Option Nat
  /-- The epoch last accepted, kept while the node is lost (R138, R162). -/
  lastEpoch : Option Nat
  /-- The identity of the latest IDENT response. -/
  identity : Option Nat
  cls : NodeClass
  /-- The other seats that class it FOREIGN or MISFIT (R148). -/
  badBy : List Nat
  /-- The round in which an IDENT request not yet answered left (R146). -/
  identSent : Option Round
  identDue : Bool
  /-- A new epoch was seen and the identity it brings is not yet known (R162). -/
  newEpoch : Bool
  /-- CONF items accepted since the last epoch change (R125), and items still to be written. -/
  confAccepted : List Nat
  confDue : List Nat
  /-- The CONF frames that this device's ports have sent to the node, or received in the outbound flow: sequence number and
  item (R322). -/
  confSent : List (Nat × Nat)
  /-- The 7-bit counter of addressed commands (R129). -/
  seqCtr : Nat
  /-- resp_seq and resp_code of the latest accepted READ. -/
  respSeq : Nat
  respCode : Nat
  /-- This device has sent the node a command since it took the ownership (R129). -/
  ownSent : Bool
  /-- Numbers of the ECHO and BERT requests sent to the node, newest first (R131). -/
  requests : List Nat
  /-- The addressed number last reported since the last epoch change (R129). -/
  addrReported : Option Nat
  /-- The round of the latest accepted READ, and the last one in which a command was sent to the node, or another device held
  the ownership and may have sent one (Table 5-8, 0x25). -/
  respRound : Option Round
  lastSent : Option Round
  /-- The command outstanding, an IDENT outstanding beside it (R138), and those whose retries are spent and for which fault 0x302
  stands (R131). -/
  cmd : Option Cmd
  identCmd : Option Cmd
  spent : List Cmd
  /-- The balancing bitmap decided by TC0 (R215), and the round of the last BAL. -/
  balMap : BitVec 16
  balRound : Option Round
  balDue : Bool
  balOn : Bool
  /-- The last acknowledged BAL: bitmap, hold and the round it was sent in (R191, R192). -/
  balAck : Option (BitVec 16 × Nat × Round)
  /-- Rounds without, and with, an accepted READ in succession (R135). -/
  missed : Nat
  good : Nat
  lost : Bool
  /-- An accepted READ has come in the present round. -/
  heard : Bool
  /-- The round whose samples are flagged as from a reset node (R138). -/
  resetRound : Option Round
  violations : Nat
  quarantined : Bool
  quarNext : Bool
  cleanWindows : Nat
  /-- The round of the last token skip at this node (0x303). -/
  skipRound : Option Round
  /-- The copies of the present snap's READ by the ring end that received them (R119): bytes 0–39. -/
  copyA : Option (List Byte)
  copyB : Option (List Byte)
  /-- The two copies differed, and both are discarded (R119). -/
  differed : Bool
  /-- Round of the latest snap whose samples were taken, and the samples: the raw group voltages in
  100 µV, and the limit bits. -/
  sampleRound : Option Round
  /-- The end of the SNAP the latest accepted READ was sampled on; true is B. -/
  snapEndB : Bool
  volts : List Nat
  limit : BitVec 16
  temps : List (Option TempRec)
  /-- Compensations in force and as set at the last pattern check, ns (R149, R150). -/
  compA : Option Nat
  compB : Option Nat
  checkA : Option Nat
  checkB : Option Nat
  echoA : Echo
  echoB : Echo
  /-- The last round trips measured in RUN, newest first (R150). -/
  runTrips : List Nat
  deriving DecidableEq, Repr

/-- A PRBS31 test window on a ring (R152). -/
structure LinkTest where
  kind : TestKind
  start : Round
  /-- D in units of 10 ms. -/
  duration : Nat
  /-- BERTs sent, of 2K. -/
  berts : Nat
  /-- PRBS31 intervals running, and how many have ended, of 2K + 2. -/
  running : List PrbsPoint
  ended : Nat
  /-- Checker counts by link and by which end of the link checked: bits and errors. -/
  results : List (Nat × RingEnd × Nat × Nat)
  interrupted : Bool
  /-- The round after which a report still missing fails its direction. -/
  closeRound : Option Round
  deriving DecidableEq, Repr

/-- One ring, named by its A-end port (R104). -/
structure Ring where
  port : Nat
  /-- Reversed by this device as tail, and the rounds in succession in which the head's SNAP has
  arrived while reversed (R126). -/
  reversed : Bool
  headRun : Nat
  headSeen : Bool
  /-- A head SNAP has ever been expected and seen in this turn; hops of successive intact SNAPs (R145). -/
  hopsLast : Nat
  hopsRun : Nat
  /-- The highest position from which a READ with snap end A was accepted in the present round (R159). -/
  highA : Option Nat
  /-- The round whose head SNAP was missed, until its break has been found (R159). -/
  missedRound : Option Round
  /-- Reversals so far: round and break (R159). -/
  breaks : List (Round × Nat)
  /-- At the owner of a two-seat domain: a READ sampled on the tail's SNAP was accepted in the present round, and in the round
  before; the highest position of the round before (R159). -/
  tailSeen : Bool
  tailServed : Bool
  highPrev : Option Nat
  /-- The 7-bit counter of broadcasts, and the broadcast number last reported (R129). -/
  bcCtr : Nat
  bcReported : Option Nat
  /-- Violation reports waiting for SNAP, oldest first: position and code (R133). -/
  naks : List (Nat × Nat)
  /-- The node next in rotation for IDENT, and the round of the last one (Table 5-7). -/
  identNext : Nat
  identRound : Option Round
  /-- The node next in rotation for ECHO in RUN (R150); ECHOs sent in the present round. -/
  echoNext : Nat
  echoCount : Nat
  /-- The ECHO outstanding: node, end, tag and when it left (R149). -/
  echoOut : Option (NodeId × RingEnd × Nat × Ns)
  /-- The SNAPs sent for the latest round from the A and from the B end, and that round; the command frames sent this round. -/
  snapA : List Byte
  snapB : List Byte
  snapFor : Option Round
  sent : List (List Byte)
  /-- Command frames for nodes reachable only from the tail, to be passed to it in MIRROR (R383). -/
  viaTail : List (List Byte)
  /-- The owner's commands relayed by this device as tail, not yet sent (R383). -/
  relay : List (List Byte)
  /-- The head's token in the outbound flow, and the tail's in the return flow, was sent this round (R116, R117). -/
  outToken : Bool
  returnToken : Bool
  /-- The position of the last READ received at each end this round (R118). -/
  lastAtA : Option Nat
  lastAtB : Option Nat
  test : Option LinkTest
  deriving DecidableEq, Repr

/-- One port receiver (Table 5-11). -/
structure PortRx where
  port : Nat
  /-- CRC failures and code violations in the present window (R134). -/
  crc : Nat
  /-- Rounds of the last late READ and of the last foreign SNAP. -/
  lateRound : Option Round
  foreignRound : Option Round
  deriving DecidableEq, Repr

/-- Threads as a whole. -/
structure Threads where
  rings : List Ring
  nodes : List Node
  ports : List PortRx
  /-- The window of 1,000 rounds in which violations are being counted (R134). -/
  window : Nat
  deriving DecidableEq, Repr

/-- The pattern check and the link tests (chapter 06). -/
structure Pattern where
  /-- A pattern check is running, and the seat whose turn it is (R143). -/
  turn : Option Nat
  turnStart : Round
  /-- This seat's own turn has ended, and whether its own observations passed (R147). -/
  ownTurnDone : Bool
  turnsDone : List Nat
  passed : Bool
  /-- Operating hours counted in RUN since the last completed periodic or installation test, ticks. -/
  runTicks : Nat
  periodicDue : Bool
  /-- The installation test of this cold boot has been run (R155). -/
  installDone : Bool
  /-- A test that ran in the grace of a park shut-down (R156) is in progress. -/
  testing : Option TestKind
  /-- The maintenance re-test has run for the present assertion of MAINT (R161). -/
  retestDone : Bool
  /-- The verdicts of the test in progress: ring, link, pass (R154, R155). -/
  verdicts : List (Nat × Nat × Bool)
  /-- A seat that is not the owner has mapped a link out and has not yet said so over MIRROR (R160). -/
  mapNews : Bool
  deriving DecidableEq, Repr

/-- A node of which nothing is known yet. -/
def Node.fresh (id : NodeId) : Node :=
  { id := id, epoch := none, lastEpoch := none, identity := none, cls := .unknown, badBy := [],
    identSent := none, identDue := false, newEpoch := false, confAccepted := [], confDue := [], confSent := [], seqCtr := 0,
    respSeq := 0, respCode := 255, ownSent := false, requests := [], addrReported := none, respRound := none, lastSent := none,
    cmd := none, identCmd := none, spent := [], balMap := 0, balRound := none, balDue := false,
    balOn := false, balAck := none, missed := 0, good := 0, lost := false, heard := false, resetRound := none, violations := 0,
    quarantined := false, quarNext := false, cleanWindows := 0, skipRound := none, copyA := none, copyB := none,
    differed := false, sampleRound := none, snapEndB := false, volts := [], limit := 0, temps := [],
    compA := none, compB := none, checkA := none, checkB := none,
    echoA := ⟨1, 0, [], false, false⟩, echoB := ⟨1, 0, [], false, false⟩, runTrips := [] }

/-- A ring before its first round. -/
def Ring.fresh (port : Nat) : Ring :=
  { port := port, reversed := false, headRun := 0, headSeen := false, hopsLast := 0, hopsRun := 0, highA := none,
    missedRound := none, breaks := [], tailSeen := false, tailServed := false, highPrev := none, bcCtr := 0, bcReported := none,
    naks := [], identNext := 0, identRound := none,
    echoNext := 0, echoCount := 0, echoOut := none, snapA := [], snapB := [], snapFor := none, sent := [], viaTail := [], relay := [],
    outToken := false, returnToken := false, lastAtA := none, lastAtB := none, test := none }


/-! ### Classical estimator (chapter 08) -/

/-- The fields of Table 8-9 that a classical estimator reads: the CLASSICAL fields for the pack, and the
fields that replace them for the store (R219, R332). Units as in Table 8-9. -/
structure EstFields where
  /-- Three rows of 21 OCV values, mV -/
  ocvV : List (List Rat)
  ocvT : List Rat
  ocvUv : Rat
  capNominal : Rat
  capU0 : Rat
  capUMin : Rat
  capUAge : Rat
  capStepMax : Rat
  rNominal : Rat
  rStepMin : Rat
  rGain : Rat
  rURel : Rat
  restIMax : Rat
  /-- s -/
  restT1 : Rat
  restTau : Rat
  restTLong : Rat
  maxCorr : Rat
  minDelta : Rat
  tackUMin : Rat
  tackUMax : Rat
  /-- h -/
  overdue : Rat
  overdueRate : Rat
  fullV : Rat
  fullITaper : Rat
  fullDwell : Rat
  fullU : Rat
  emptyV : Rat
  emptyDwell : Rat
  emptyU : Rat
  uUnrelaxed : Rat
  uLoaded : Rat
  gainShunt : Rat
  gainSensor : Rat
  gainSent : Rat
  offShunt : Rat
  offSensor : Rat
  offSent : Rat
  iAbsent : Rat
  parkIAllow : Rat
  selfDischarge : Rat
  rBleed : Rat
  balStart : Rat
  balStop : Rat
  balMaxWidth : Rat
  displayRate : Rat
  deriving DecidableEq, Repr

/-- The hem fields (Table 8-9): W, V and W·h. -/
structure HemFields where
  pLoad : Rat
  vShutdown : Rat
  selvage : Rat
  deriving DecidableEq, Repr

/-- Current tiers (Table 8-2), in the coding of Table 17-10. -/
inductive Tier | shunt | sensor | sent | absent
  deriving DecidableEq, Repr

/-- What is known of a group's bleed in a round (R191, R192). -/
inductive Bleed | off | on | unknown
  deriving DecidableEq, Repr

/-- The kinds of point of Table 16-10. -/
inductive PointKind | tack | full | empty
  deriving DecidableEq, Repr

/-- A capacity-learning point (R190, R202, R209): SoC and uncertainty in %, the charge count (nC) and the
cumulative time in known gaps when it was taken, and its entry in the tack-rest list. -/
structure Point where
  kind : PointKind
  soc : Rat
  u : Rat
  count : Int
  gap : Ns
  entry : Nat
  deriving DecidableEq, Repr

/-- A basting in progress (R203, R204): the window's samples as mean inputs: V and V + I × R, in mV; `none` for a record that is not
usable. -/
structure Basting where
  samples : List (Option (Rat × Rat))
  deriving DecidableEq, Repr

/-- The classical state of one cell (R188–R212): SoC and bracket in %, capacity in A·h with its relative
uncertainty in %, resistance in µΩ. -/
structure Cell where
  id : CellId
  s : Rat
  lo : Rat
  hi : Rat
  cap : Rat
  uC : Rat
  r : Rat
  basted : Bool
  loaded : Bool
  basting : Option Basting
  /-- The last usable voltage, mV (R191). -/
  vLast : Option Rat
  /-- The voltage and current of the snap before, when R212 may use them. -/
  prev : Option (Rat × Rat)
  /-- The last 64 records of the present rest, newest first (R195). -/
  hist : List (Option Rat)
  v1 : Option Rat
  v2 : Option Rat
  /-- A tack point was taken in the present rest; an anchor since the last rest (R189). -/
  tacked : Bool
  anchored : Bool
  /-- Dwell of the two anchors, s (R200, R201). -/
  fullT : Rat
  emptyT : Rat
  /-- Pair record: the start point, the balancing charge since (A·h) and its lost part (R190, R209). -/
  start : Option Point
  bal : Rat
  balLost : Rat
  /-- A gap since the last tack rest (Table 8-5). -/
  gap : Bool
  /-- The balancing decision in force (R215). -/
  bleeding : Bool
  deriving DecidableEq, Repr

/-- An entry of the tack-rest list (R190). -/
structure TackRest where
  entry : Nat
  count : Int
  t : Ns
  gap : Ns
  /-- Fault 0x612, an ABSENT current or an unknown gap since the previous entry. -/
  spoilt : Bool
  deriving DecidableEq, Repr

/-- What a gap just passed does to a rest (R194). -/
inductive RestGap | none_ | continues | ends
  deriving DecidableEq, Repr

/-- A display channel (R216). -/
structure Display where
  value : Option Rat
  /-- The value published for the present snap; none is not available. -/
  shown : Option Rat
  /-- The input's last basting value has been formed since the snap before: set to the input in this one (R216). -/
  snapTo : Bool
  deriving DecidableEq, Repr

/-- One classical estimator: the pack's or the store's. -/
structure Estimator where
  cells : List Cell
  /-- Start of the present rest (R194). -/
  restFrom : Option Ns
  restGap : RestGap
  /-- Cells that have taken a tack point in the present rest, and a full anchor in the present charge (R213). -/
  restPts : Nat
  chargePts : Nat
  charging : Bool
  /-- When the tack age last was zero (R213). -/
  tackFrom : Ns
  overdue : Bool
  /-- The last 16 entries of the tack-rest list, newest first, and the number of the next. -/
  rests : List TackRest
  nextEntry : Nat
  entryRest : Bool
  entryCharge : Bool
  spoilt : Bool
  /-- Cumulative time spent in known gaps. -/
  gapTotal : Ns
  tier : Tier
  /-- Charge count (nC) and crystal time at the last update (R205, R207). -/
  countAt : Int
  lastAt : Ns
  /-- Rounds were missed since the last update: the next one takes their charge as one round (R207). -/
  missed : Bool
  /-- The pair records and the list are due to be written (R190). -/
  pairsDue : Bool
  display : Display
  deriving DecidableEq, Repr

/-- The hem values of a snap (R217, R218): W·h and %. -/
structure Hem where
  avail : Rat
  full : Rat
  energy : Rat
  selvage : Rat
  soc : Rat
  valid : Bool
  /-- Rounds valid in succession. -/
  good : Nat
  deriving DecidableEq, Repr

/-- The classical path. -/
structure Classical where
  pack : Estimator
  store : Estimator
  hem : Hem
  /-- The round whose classical update has been made. -/
  updated : Option Round
  /-- The brackets of the store cells as the seal restored them, until the first store rest round after a boot or PARK
  (R334). -/
  storeCheck : List (CellId × Rat × Rat)
  deriving DecidableEq, Repr

/-- A cell record of the seal buffer (Table 8-1), as codes. -/
structure SealCell where
  id : CellId
  s : Nat
  wLo : Nat
  wHi : Nat
  cap : Nat
  uC : Nat
  r : Nat
  seam : BitVec 4
  basted : Bool
  loaded : Bool
  deriving DecidableEq, Repr

/-- A pair record of the journal (Table 16-10), as codes; B in mA·s. -/
structure PairRec where
  id : CellId
  kind : Option PointKind
  s : Nat
  u : Nat
  /-- The tack-rest entry; none for an anchor no longer in the list. -/
  entry : Option Nat
  bal : Int
  /-- The cell was balancing when the record was written, and its voltage then in mV (R209). -/
  balancing : Bool
  v : Rat
  deriving DecidableEq, Repr

/-- An estimator that serves no cell. -/
def Estimator.empty : Estimator :=
  { cells := [], restFrom := none, restGap := .none_, restPts := 0, chargePts := 0, charging := false, tackFrom := 0,
    overdue := false, rests := [], nextEntry := 0, entryRest := false, entryCharge := false, spoilt := false, gapTotal := 0,
    tier := .absent, countAt := 0, lastAt := 0, missed := false, pairsDue := false, display := ⟨none, none, false⟩ }

/-- The classical path before any cell. -/
def Classical.empty : Classical :=
  { pack := Estimator.empty, store := Estimator.empty, hem := ⟨0, 0, 0, 0, 0, false, 0⟩, updated := none, storeCheck := [] }

/-- The STORE fields of Table 14-6: mV, mV per cell, Ω and mV per cell per s; a code of `STORE.vset` that
is absent is `none`. -/
structure StoreFields where
  cells : Nat
  vMin : Rat
  vMax : Rat
  floorV : Rat
  presentV : Rat
  changeV : Rat
  changeStep : Rat
  vset : List (Option Rat)
  dcdcGain : Rat
  refSlew : Rat
  /-- °C -/
  chgTMin : Rat
  chgTMax : Rat
  deriving DecidableEq, Repr

/-! ### Acquisition (chapter 07) -/

/-- ACQ fields (Table 7-6). -/
structure AcqFields where
  /-- µΩ; 0 is not fitted -/
  rA : Nat
  rB : Nat
  invertA : Bool
  invertB : Bool
  /-- A -/
  agreeAbs : Rat
  /-- % -/
  agreeRel : Rat
  agreeRounds : Nat
  sentRole : Nat
  /-- µs -/
  sentTick : Nat
  sentNibbles : Nat
  sentCrcRecommended : Bool
  sentZero : Nat
  /-- mA -/
  sentLsb : Nat
  /-- µs -/
  sentLatency : Nat
  sentIdMsg : Nat
  sentIdValue : Nat
  ratioVpkA : Nat
  ratioVpkB : Nat
  /-- mV -/
  vpkAgree : Nat
  ratioVmain : Nat
  /-- Ω and K -/
  tclR25 : Nat
  tclBeta : Nat
  stR25 : Nat
  stBeta : Nat
  /-- µΩ -/
  siShunt : Nat
  deriving DecidableEq, Repr

/-- One record (R168): a signed 32-bit value, the flag field of Table 7-2 and a timestamp. -/
structure Rec where
  value : Int
  flags : BitVec 8
  round : Round
  stitch : Nat
  t : Ns
  deriving DecidableEq, Repr

/-- One shunt, or the store current sense: its hardware charge count and the round being reduced
(R172–R174, R185). -/
structure Shunt where
  /-- The 64-bit count, 1 nC -/
  count : Int
  /-- Q at the last two snaps, in pC, fractional contributions included -/
  qSnap : Int
  qPrev : Int
  /-- Minimum and maximum, mA, over the samples so far in the round being accumulated -/
  accMin : Option Int
  accMax : Option Int
  accRange : Bool
  /-- The reductions of the round that the present snap closed. -/
  minA : Int
  maxA : Int
  range : Bool
  /-- The present snap has not yet met the sample that contains it. -/
  open_ : Bool
  rangeSince : Option Ns
  /-- The full-scale SENSOR fault stands; rounds since without RANGE. -/
  sensor : Bool
  clean : Nat
  deriving DecidableEq, Repr

/-- The SENT sensor (R177, R178). -/
structure Sent where
  /-- The calibration pulse of the last valid frame, ns. -/
  cal : Option Nat
  /-- Frames in stamp order, newest first: stamp and value in mA; enough of them to reduce a round. -/
  frames : List (Ns × Int)
  /-- The slow channel: bits 3 and 2 of the status nibbles of successive valid frames, newest first. -/
  slow : List (Bool × Bool)
  /-- Frames stamped, for the frame period of R178: the last interval between stamps. -/
  period : Nat
  /-- Hold integral at the present snap and the snap before, pC. -/
  q : Int
  qPrev : Int
  firstValid : Option Ns
  lastValid : Option Ns
  idSeen : Bool
  /-- A mismatch or the want of the message has been found since the cold boot (fault 0x614). -/
  idBad : Bool
  discarded : Nat
  /-- A window of 1,000 rounds has been within the limit since the last loss. -/
  lossInWindow : Bool
  deriving DecidableEq, Repr

/-- A pair of run counters: rounds of the condition, and rounds without it. -/
structure Runs where
  bad : Nat
  good : Nat
  deriving DecidableEq, Repr

/-- A thermistor: its runs, and whether its fault stands. -/
structure Therm where
  runs : Runs
  bad : Bool
  deriving DecidableEq, Repr

/-- Acquisition. -/
structure Acq where
  ishA : Shunt
  ishB : Shunt
  store : Shunt
  /-- The pack count of P2 (R172), 1 nC. -/
  packCount : Int
  /-- The pack count and the store count at the present snap and at the snap before. -/
  packSnap : Int × Int
  storeSnap : Int × Int
  sent : Sent
  latch : Option SnapLatch
  /-- The latest snaps, newest first: round and instant. -/
  snaps : List (Round × Ns)
  /-- The store shunt in µΩ with which P1 counts, from the image last in force (R185). -/
  siHeld : Nat
  /-- The 96 streams of the present snap, once formed, and the round they were formed for. -/
  streams : List Rec
  formed : Option Round
  /-- The streams and group records of the snap before, which the classical update steps. -/
  prevStreams : List Rec
  prevGroups : List Rec
  /-- Node temperatures of the snap before, by node: records of sensors 0–7. -/
  prevTemps : List (NodeId × List Rec)
  /-- What is known of each group's bleed at the snap before, in series order (R191, R192). -/
  prevBleed : List Bleed
  /-- The tier of the present snap's pack current, and of the snap before (Table 8-2). -/
  packTier : Tier
  prevTier : Tier
  /-- Fault 0x612 stood at the snap before. -/
  prev612 : Bool
  /-- The snap before: its crystal time and its Δt in 10 ns ticks. -/
  prevT : Ns
  prevDt : Nat
  /-- The store balancing switches as they stood for the snap before. -/
  prevSb : List Bool
  /-- The other shunt is set aside by SENT arbitration (R176): the shunt whose streams carry SENSOR. -/
  rejected : Option ShuntId
  shuntRuns : Runs
  vpkARuns : Runs
  vpkBRuns : Runs
  vpkRuns : Runs
  /-- Thermistors: rounds open or short, and without, and whether the fault stands for it (R180). -/
  tclIn : Therm
  tclOut : Therm
  st1 : Therm
  st2 : Therm
  /-- 0x617: rounds in which a group had no value while its node reported, by series position. -/
  groupRuns : List (CellId × Runs)
  /-- 0x740: rounds without the condition, by store cell 1–8. -/
  cellRuns : List (Nat × Runs)
  /-- 0xA02: rounds with the die sensors spread, and within the bound. -/
  dieSpread : Runs
  /-- Consecutive rounds with T_die at or above 130 °C (Table 18-3, 0xA01). -/
  dieHot : Nat
  /-- Store balancing: the states requested for SB1–SB8, and whether the snap blanking holds them off (R184). -/
  sb : List Bool
  sbBlank : Bool
  deriving DecidableEq, Repr

/-- A shunt at rest with a count of zero. -/
def Shunt.zero : Shunt :=
  { count := 0, qSnap := 0, qPrev := 0, accMin := none, accMax := none, accRange := false, minA := 0, maxA := 0,
    range := false, open_ := false, rangeSince := none, sensor := false, clean := 0 }

/-- Acquisition before the first sample. -/
def Acq.zero : Acq :=
  { ishA := Shunt.zero, ishB := Shunt.zero, store := Shunt.zero, packCount := 0, packSnap := (0, 0), storeSnap := (0, 0),
    sent := ⟨none, [], [], 0, 0, 0, none, none, false, false, 0, false⟩, latch := none, snaps := [], siHeld := 0, streams := [],
    formed := none,
    prevStreams := [], prevGroups := [], prevTemps := [], prevBleed := [], packTier := .absent,
    prevTier := .absent, prev612 := false, prevT := 0, prevDt := 0, prevSb := [], rejected := none, shuntRuns := ⟨0, 0⟩, vpkARuns := ⟨0, 0⟩,
    vpkBRuns := ⟨0, 0⟩, vpkRuns := ⟨0, 0⟩, tclIn := ⟨⟨0, 0⟩, false⟩, tclOut := ⟨⟨0, 0⟩, false⟩, st1 := ⟨⟨0, 0⟩, false⟩,
    st2 := ⟨⟨0, 0⟩, false⟩, groupRuns := [],
    cellRuns := [], dieSpread := ⟨0, 0⟩, dieHot := 0, sb := [], sbBlank := false }


/-! ### Learned path (chapters 09 and 10) -/

/-- MODEL fields (Table 9-8) with the budget report of the selected variant (R240). -/
structure ModelFields where
  cohorts : List (Option Graph)
  store : Option Graph
  cohortMap : List Nat
  linedTauMin : Rat
  openLoopMax : Nat
  warmupRounds : Nat
  stepShare : Rat
  memShare : Rat
  budget : List Rat
  deriving DecidableEq, Repr

/-- NUMERIC fields (Table 10-6). -/
structure NumericFields where
  renormInterval : Nat
  replayPeriod : Nat
  betaOrd : Int
  betaLined : Int
  /-- mV -/
  vMax : Rat
  cohortLimit : Nat
  ceLimit : Nat
  /-- h -/
  scrubPeriod : Nat
  deriving DecidableEq, Repr

/-- TRAIN fields (Table 11-8). -/
structure TrainFields where
  enable : Bool
  activeCells : Nat
  warm : Nat
  epoch : Nat
  fit : Nat
  updateInterval : Nat
  lr : Rat
  /-- mV -/
  sigmaV : Rat
  weightSoc : Rat
  weightCap : Rat
  /-- % -/
  margin : Rat
  minSamples : Nat
  minCells : Nat
  /-- min -/
  ckptInterval : Nat
  shed1 : Rat
  shed2 : Rat
  shed3 : Rat
  deriving DecidableEq, Repr

/-- A state block (R249): class, exponent code and 32 mantissas. -/
structure Block where
  lined : Bool
  e : Nat
  m : List Int
  deriving DecidableEq, Repr

/-- A result record (Table 9-2); a present bit is `some`. -/
structure Result where
  snap : Round
  vPred : Option Rat
  soc : Option Rat
  cap : Option Rat
  res : Option Rat
  ocv : Option Rat
  anomaly : Option Rat
  degraded : Bool
  openLoop : Bool
  warmup : Bool
  nonfinite : Bool
  deriving DecidableEq, Repr

/-- What a step takes of its snap: its features with whether each was substituted (R222, R223), the cell's usable voltage, and whether
its record carried UNCOMP or RESET. -/
structure StepIn where
  features : List (Rat × Bool)
  volt : Option Rat
  flagged : Bool
  deriving DecidableEq, Repr

/-- The learned state of one cell. -/
structure LCell where
  id : CellId
  /-- The cohort, 16 for the store model. -/
  cohort : Nat
  /-- STATE_X and STATE_Y by layer, and the copy selector: true names STATE_Y (R246). -/
  x : List (List Block)
  y : List (List Block)
  selY : Bool
  adapter : List Rat
  shadow : List Rat
  /-- Crystal time of the last fresh start (feature 14), and what is left of its warm-up (R228). -/
  freshAt : Ns
  warmLeft : Nat
  warmup : Bool
  /-- A fresh start that state memory has not yet taken: it does when it is next loaded (R266). -/
  blank : Bool
  /-- The snap whose step is due or in progress, and whether its blocks are in the bobbins (R248, R260); for a step that runs late,
  its inputs, and whether it is bound to the halves that have since become the shadow ones (R283). -/
  due : Option Round
  dueT : Ns
  resident : Bool
  late : Option StepIn
  bound : Bool
  /-- The last snap stepped, and its crystal time. -/
  stepped : Option Round
  stepT : Ns
  vPred : Option Rat
  /-- What the last step took. -/
  input : StepIn
  lastTemp : Option Rat
  openRun : Nat
  nonfinite : Runs
  /-- The record in the result buffer, and the record of the last step, written or discarded. -/
  result : Option Result
  last : Option Result
  /-- Snaps in succession with an absent record although stepped outside warm-up (0x654). -/
  absent : Runs
  /-- The steps wait for a restore of the state, or for a reload of the adapter (R261, Table 10-5). -/
  restoring : Bool
  reloading : Bool
  deriving DecidableEq, Repr

/-- The parameters of a cohort's graph, or of the store model's: the live and the shadow half, and whether the live half is corrupt
(Table 10-5). -/
structure Weights where
  live : List Rat
  shadow : List Rat
  corrupt : Bool
  deriving DecidableEq, Repr

/-- One record of the fray counter (R259). -/
structure Fray where
  total : Nat
  tour : Nat
  /-- The largest φ in the last completed period, and in the present one. -/
  phi : Rat
  phiNow : Rat
  aborts : Nat
  deriving DecidableEq, Repr

/-- Reference replay (R255–R258). -/
structure Replay where
  cell : Option CellId
  /-- The reference has been seeded; it is the FP64 state by layer. -/
  seeded : Bool
  ref : List (List Rat)
  /-- Snaps of the period done. -/
  done : Nat
  /-- The snap whose reference step is complete, with its v_pred. -/
  stepped : Option Round
  vPred : Option Rat
  compared : Option Round
  /-- Re-seeds of this cell in the present period; aborts in a row. -/
  reseeds : Nat
  aborts : Nat
  /-- The tour has seen a re-seed, or a second re-seed of one cell. -/
  tourReseed : Bool
  tourDouble : Bool
  suspended : Bool
  deriving DecidableEq, Repr

/-- A requester whose port the arbitration watchdog has fenced (R265). -/
structure Fence where
  req : Requester
  round : Round
  fenced : Bool
  deriving DecidableEq, Repr

/-- One cell's entry in a checkpoint's STATE section (R416). -/
structure CkptCell where
  id : CellId
  cohort : Nat
  snap : Round
  t : Ns
  blocks : List (List Block)
  adapter : List Rat
  deriving DecidableEq, Repr

/-- A checkpoint (R285, R416). -/
structure Ckpt where
  seq : Nat
  model : List Byte
  image : List Byte
  snap : Round
  t : Ns
  rotation : Nat
  weights : List (List Rat)
  cells : List CkptCell
  length : Nat
  deriving DecidableEq, Repr

/-- A checkpoint being staged (R285). -/
structure Staging where
  cause : CkptCause
  snap : Round
  t : Ns
  cells : List CkptCell
  /-- Fully staged and handed to TC1; the area it goes to. -/
  staged : Option Ckpt
  deriving DecidableEq, Repr

/-- The learned path and its memory. -/
structure Learned where
  /-- Disabled until the next boot, or the next cold boot (R240, R245, R265). -/
  disabled : Bool
  disabledCold : Bool
  /-- LPDDR5 is initialised and laid out; the state of R266 has been loaded. -/
  ddr : Bool
  loaded : Bool
  cells : List LCell
  weights : List Weights
  lastTIn : Option Rat
  lastTOut : Option Rat
  replay : Replay
  fray : List Fray
  fences : List Fence
  /-- Correctable errors, and the window of 1,000 rounds they are counted in (R263). -/
  eccWindow : Nat
  ddrCe : Nat
  bobCe : Nat
  /-- RUN time since the last completed scrub pass, in 10 ns ticks (R264). -/
  scrubTicks : Nat
  /-- Overruns of R20 counted in total; rounds of overruns in succession. -/
  overruns : Nat
  overrunRuns : Runs
  refresh : Rat
  staging : Option Staging
  /-- Stitches through which one transaction has held the NOR bus (R26, R417). -/
  norHeld : Nat
  /-- RUN time since the last completed checkpoint, in 10 ns ticks (R286). -/
  ckptTicks : Nat
  /-- The state of memory was lost in RUN and is being restored (R266). -/
  lost : Bool
  deriving DecidableEq, Repr

/-! ### Training (chapter 11) -/

/-- Phases of a cycle (Table 11-3). -/
inductive Phase | idle | warm | epoch | fit | decision
  deriving DecidableEq, Repr

/-- Targets taken in a classical update (Table 11-5): a SoC in % with its uncertainty in %, and a capacity in
A·h with its uncertainty as a fraction. -/
structure Targets where
  id : CellId
  soc : Option (Rat × Rat)
  cap : Option (Rat × Rat)
  deriving DecidableEq, Repr

/-- The bracket of a cell's classical result (Table 8-5). -/
structure Bracket where
  lo : Rat
  hi : Rat
  capLo : Rat
  capHi : Rat
  resLo : Rat
  resHi : Rat
  deriving DecidableEq, Repr

/-- Pending outputs and sensitivities of a snap (R274, R276): six outputs of the shadow and of the live step. -/
structure Pending where
  snap : Round
  phase : Phase
  shadow : List (Option Rat)
  live : List (Option Rat)
  /-- The record carried RESET or UNCOMP; the result carried DEGRADED. -/
  flagged : Bool
  degraded : Bool
  sens : List (List (Option Rat))
  /-- Residual excess of the live and of the shadow result at the snap (R308). -/
  liveExcess : Bool
  shadowExcess : Bool
  bracket : Option Bracket
  deriving DecidableEq, Repr

/-- A cell of the active set. -/
structure ACell where
  id : CellId
  active : Bool
  /-- Scored in the fitting window. -/
  scored : Bool
  seeded : Bool
  state : List Block
  tangents : List (List Block)
  pending : Option Pending
  grad : List (Option Rat)
  master : List Rat
  mom1 : List Rat
  mom2 : List Rat
  liveResid : Nat
  shadowResid : Nat
  deriving DecidableEq, Repr

/-- The last training decision (R284, Table 17-6 page 3). -/
structure TrainRecord where
  cohort : Nat
  cycle : Nat
  reason : Nat
  lLive : Rat
  lShadow : Rat
  samples : Nat
  xLive : Nat
  xShadow : Nat
  scored : Nat
  deriving DecidableEq, Repr

/-- The training cycle. -/
structure Training where
  phase : Phase
  cycle : Nat
  cohort : Nat
  /-- Snaps stepped in the present phase. -/
  snaps : Nat
  cells : List ACell
  /-- After each cohort's last active set: the last series position (R271). -/
  lastPos : List Nat
  /-- The next cycle takes the same cohort and set again (Table 11-6). -/
  again : Bool
  grad : List (Option Rat)
  master : List Rat
  mom1 : List Rat
  mom2 : List Rat
  update : Nat
  /-- The first snap of the cycle. -/
  first : Round
  lLive : Rat
  lShadow : Rat
  samples : Nat
  xLive : Nat
  xShadow : Nat
  nonfinite : Nat
  /-- A promotion decided and waiting for its boundary; the copy of R283 step 2 is done. -/
  promote : Bool
  copied : Bool
  /-- A cohort whose shadow waits to be made equal to the live until the late steps that read it have ended (R283). -/
  copyDue : Option Nat
  /-- The round of the last promotion (R286). -/
  promoted : Option Round
  last : Option TrainRecord
  /-- Targets of the classical update of the present round, and of the round before. -/
  targets : List Targets
  targetsPrev : List Targets
  shed : Nat
  /-- Since when the conditions for a lower shed level have held (R288). -/
  coolFrom : Option Ns
  /-- Rounds with a die stream usable in succession (0xA22). -/
  dieRuns : Runs
  deriving DecidableEq, Repr

/-- A replay record before its first use. -/
def Replay.idle : Replay :=
  { cell := none, seeded := false, ref := [], done := 0, stepped := none, vPred := none, compared := none, reseeds := 0,
    aborts := 0, tourReseed := false, tourDouble := false, suspended := false }

/-- The learned path before any cell. -/
def Learned.empty : Learned :=
  { disabled := false, disabledCold := false, ddr := false, loaded := false, cells := [],
    weights := List.replicate 17 ⟨[], [], false⟩, lastTIn := none, lastTOut := none, replay := Replay.idle,
    fray := List.replicate 17 ⟨0, 0, 0, 0, 0⟩, fences := [], eccWindow := 0, ddrCe := 0, bobCe := 0, scrubTicks := 0, overruns := 0,
    overrunRuns := ⟨0, 0⟩, refresh := 1, staging := none, norHeld := 0, ckptTicks := 0, lost := false }

/-- Training before its first cycle. -/
def Training.idle : Training :=
  { phase := .idle, cycle := 0, cohort := 0, snaps := 0, cells := [], lastPos := List.replicate 17 0, again := false, grad := [],
    master := [], mom1 := [], mom2 := [], update := 0, first := 0, lLive := 0, lShadow := 0,
    samples := 0, xLive := 0, xShadow := 0, nonfinite := 0, promote := false, copied := false, copyDue := none, promoted := none,
    last := none, targets := [],
    targetsPrev := [], shed := 0, coolFrom := none, dieRuns := ⟨0, 0⟩ }


/-! ### The seam and publication (chapter 12) -/

/-- SEAM fields (Table 12-6). -/
structure SeamFields where
  /-- mV -/
  residV : Rat
  residRounds : Nat
  rejoin : Nat
  splitReport : Nat
  /-- % -/
  holdEnter : Rat
  holdExit : Rat
  holdRounds : Nat
  packSplitMax : Rat
  deriving DecidableEq, Repr

/-- Seam states (R296). -/
inductive SeamState | closed | open_ | split
  deriving DecidableEq, Repr

/-- The seam's state for one cell. -/
structure SeamCell where
  id : CellId
  state : SeamState
  rejoin : Nat
  /-- The residual count (R294). -/
  resid : Nat
  /-- v_pred of the result for the snap before, when it was present (R294). -/
  vPrev : Option Rat
  /-- Snaps split in succession (0x650). -/
  splitRun : Nat
  /-- The published SoC is the learned value. -/
  srcL : Bool
  /-- The round in which the present snap was decided, and the record it was decided on. -/
  decided : Option Round
  record : Option Result
  deriving DecidableEq, Repr

/-- Counts of a 1,000-round window (R307). -/
structure SeamCounts where
  closed : Nat
  open_ : Nat
  split : Nat
  entries : Nat
  holds : Nat
  resid : Nat
  deriving DecidableEq, Repr

/-- The seam's state for a cohort or the store model (R301). -/
structure SeamCohort where
  hold : Bool
  above : Nat
  below : Nat
  counts : SeamCounts
  deriving DecidableEq, Repr

/-- What is published for one cell (Tables 12-4 and 12-5, with the bracket). -/
structure PubCell where
  id : CellId
  soc : Rat
  lo : Rat
  hi : Rat
  cap : Rat
  res : Rat
  anomaly : Option Rat
  ocv : Option Rat
  state : SeamState
  srcL : Bool
  resid : Bool
  hold : Bool
  absentL : Bool
  warmup : Bool
  degraded : Bool
  openLoop : Bool
  nonfinite : Bool
  basted : Bool
  loaded : Bool
  overdue : Bool
  tier : Tier
  gap : Bool
  /-- What a ROUND record shows beside (Table 17-10): the classical capacity, u_C and resistance, whether capacity and
  resistance are learned, the group's voltage in 100 µV, its record flags, its node's temperature code, its cohort, and
  whether it bleeds. -/
  clsCap : Rat
  uC : Rat
  clsRes : Rat
  capL : Bool
  resL : Bool
  volt : Option Int
  flags : BitVec 8
  temp : Nat
  cohort : Nat
  balancing : Bool
  deriving DecidableEq, Repr

/-- Values aggregated over the pack or the store (R304, R305): A·h, % and µΩ; positions 0 where there is no cell. -/
structure PackVals where
  invalid : Bool
  qDis : Rat
  qChg : Rat
  cap : Rat
  soc : Rat
  lo : Rat
  hi : Rat
  posDis : CellId
  posChg : CellId
  minSoc : Rat
  posMin : CellId
  maxSoc : Rat
  posMax : CellId
  res : Rat
  closed : Nat
  open_ : Nat
  split : Nat
  holds : Nat
  deriving DecidableEq, Repr

/-- The published set of a snap (R306), with the display values, the hem values and the manoeuvre budget. -/
structure PubSet where
  snap : Round
  t : Ns
  cells : List PubCell
  store : List PubCell
  pack : PackVals
  storeVals : PackVals
  display : Option Rat
  displayStore : Option Rat
  hem : Hem
  /-- W·h and s (R359). -/
  eMan : Rat
  tMan : Rat
  committed : Rat
  invalidMan : Bool
  provisional : Bool
  damped : Bool
  deriving DecidableEq, Repr

/-- The seam arbiter. -/
structure Seam where
  cells : List SeamCell
  cohorts : List SeamCohort
  packSplit : Runs
  pub : Option PubSet
  /-- The round in which the deadline of the present snap has passed. -/
  closedFor : Option Round
  /-- The window of 1,000 rounds that the counts of R307 are of: its first round number divided by 1,000. -/
  window : Nat
  deriving DecidableEq, Repr

/-- A cohort with nothing counted. -/
def SeamCohort.zero : SeamCohort := ⟨false, 0, 0, ⟨0, 0, 0, 0, 0, 0⟩⟩

/-- The seam before any cell. -/
def Seam.empty : Seam :=
  { cells := [], cohorts := List.replicate 17 SeamCohort.zero, packSplit := ⟨0, 0⟩, pub := none, closedFor := none, window := 0 }


/-! ### Reserve store and power path (chapter 14) -/

/-- Path states in the code order of Table 14-3. -/
inductive PathState | down | rampM | vehicle | handover | reserve | handback | cool | latched
  deriving DecidableEq, Repr

/-- A gate drive: off, waiting for its pre-charge, ramping, or at full enhancement. -/
inductive GateDrive | off | waiting | ramping | full
  deriving DecidableEq, Repr

/-- PATH fields (Table 14-6): mV, V/ms and ms. -/
structure PathFields where
  fail : Rat
  good : Rat
  ov : Rat
  rampMain : Rat
  rampRes : Rat
  shortLag : Rat
  shortVds : Rat
  shortCool : Rat
  dwellMin : Rat
  deriving DecidableEq, Repr

/-- BURST fields (Table 14-6): W by line, ms, ms and W·h. -/
structure BurstFields where
  power : List (Option Rat)
  maxDuration : Nat
  release : Nat
  keep : Rat
  deriving DecidableEq, Repr

/-- How a burst closed, as Table 17-8 codes it. -/
inductive BurstEnd | released | duration | cut
  deriving DecidableEq, Repr

/-- A ledger entry (R357): W, ms, W·h and W·h. -/
structure LedgerEntry where
  line : Nat
  round : Round
  t : Ns
  power : Rat
  duration : Nat
  rb : Rat
  ed : Rat
  deriving DecidableEq, Repr

/-- The store, the path controller, the charger reference and the bursts. -/
structure Reserve where
  path : PathState
  /-- GOOD holds, since when; STABLE holds (R337). -/
  good : Bool
  goodFrom : Ns
  stable : Bool
  /-- When the present state was entered, and whether RESERVE has lasted its dwell (R341). -/
  since : Ns
  dwellMet : Bool
  gateMain : GateDrive
  gateRes : GateDrive
  shorts : Nat
  /-- Times of aborted hand-backs within the last 10 s (R342). -/
  aborts : List Ns
  damping : Bool
  /-- The stack comparator shows the stack below the floor; a store cell was at or below it at the last snap. -/
  stackLow : Bool
  cellLow : Bool
  /-- STORE_OK in consecutive rounds (0x704, 0x711). -/
  okRounds : Nat
  absent : Bool
  presRuns : Runs
  /-- The store became present again in PARK, to be taken as a change at the next RUN (R334). -/
  swapped : Bool
  /-- A store change is being basted (R334). -/
  changing : Bool
  /-- Stream 30 (10 µV) of the snap before, and whether stream 31 was quiet then (R334 rule 3). -/
  stackPrev : Option (Int × Bool)
  /-- VSET: the accepted code, the last sample and how many consecutive samples equalled it (R349). -/
  vset : Nat
  vsetLast : Nat
  vsetRun : Nat
  /-- REF_RES in V, and whether it is off or held (R350, R351). -/
  ref : Rat
  refOff : Bool
  refAt : Ns
  refRuns : Runs
  chgCell : Nat
  chgTemp : Nat
  ledger : List LedgerEntry
  /-- Entries closed and not yet shown in a BURST frame: the entry, how it ended, and elapsed ms. -/
  closed : List (LedgerEntry × BurstEnd × Nat)
  /-- BGNT_N answers waiting, in µs of low time, each with when it was decided; the end of the last pulse (R354). -/
  answers : List (Nat × Ns)
  pulseEnd : Option Ns
  /-- Refused requests by line (R355). -/
  refusals : List Nat
  deriving DecidableEq, Repr

/-- The store and path at a cold boot (R338). -/
def Reserve.cold : Reserve :=
  { path := .down, good := false, goodFrom := 0, stable := false, since := 0, dwellMet := false, gateMain := .off, gateRes := .off,
    shorts := 0, aborts := [], damping := false, stackLow := false, cellLow := false, okRounds := 0, absent := false,
    presRuns := ⟨0, 0⟩, swapped := false, changing := false, stackPrev := none, vset := 0, vsetLast := 0, vsetRun := 0, ref := 0,
    refOff := true, refAt := 0,
    refRuns := ⟨0, 0⟩, chgCell := 0, chgTemp := 0, ledger := [], closed := [], answers := [], pulseEnd := none, refusals := [0, 0] }


/-! ### Seals (R64, R189, R302, R409–R411) -/

/-- What a completed seal buffer holds. Times are crystal times; a rest and a tack age are carried as when they began. -/
structure SealBuf where
  round : Round
  t : Ns
  cells : List SealCell
  store : List SealCell
  display : Option Rat
  displayStore : Option Rat
  restFrom : Option Ns
  restFromStore : Option Ns
  tackFrom : Ns
  tackFromStore : Ns
  /-- The two bitmaps of R189. -/
  tacked : List CellId
  anchored : List CellId
  packCount : Int
  storeCount : Int
  /-- The tier of the buffer's last round; Sensor where fault 0x612 stood (R205). -/
  tier : Tier
  /-- The seam's part (R302). -/
  cohorts : List SeamCohort
  packSplit : Runs
  deriving DecidableEq, Repr

/-- Seal kinds in the code order of Table 16-9. -/
inductive SealKind | supply | park | ship | emergency | parkCheck
  deriving DecidableEq, Repr

/-- A valid seal: its header (Table 16-9) and its buffer. -/
structure Seal where
  kind : SealKind
  path : PathState
  seq : Nat
  t : Ns
  packCount : Int
  storeCount : Int
  pattern : BitVec 32
  image : List Byte
  ledger : List LedgerEntry
  pinKeeper : Bool
  buf : SealBuf
  deriving DecidableEq, Repr

/-! ### The journal (Table 16-8) -/

/-- A completed installation or periodic test: kind, the verdict on each link, whether every link passed, and when (R155). -/
structure TestRecord where
  kind : TestKind
  links : List (Nat × Nat × Bool)
  passed : Bool
  t : Ns
  deriving DecidableEq, Repr

/-- The PATTERN region. -/
structure PatternRegion where
  accepted : List (NodeId × Nat)
  delays : List (NodeId × Nat × Nat)
  mapOuts : List (Nat × Nat × Nat)
  tests : List TestRecord
  deriving DecidableEq, Repr

/-- The STATUS region. -/
structure StatusRegion where
  rests : List TackRest
  fray : List Fray
  rotation : Nat
  lastPos : List Nat
  trained : Option TrainRecord
  /-- RUN time in 10 ns ticks, park count, and the rollback accumulator in ticks (R399). -/
  runTicks : Nat
  parks : Nat
  rollback : Nat
  erase0 : List Nat
  erase1 : List Nat
  storeTackAge : Ns
  deriving DecidableEq, Repr

/-- The two copies of a region, each with its sequence number; none where the copy is not valid (R413). -/
structure Copies (α : Type) where
  a : Option (Nat × α)
  b : Option (Nat × α)
  deriving DecidableEq, Repr

/-- Both copies invalid. -/
def Copies.none_ {α : Type} : Copies α := ⟨none, none⟩


/-! ### Power limits, caps and the fast path (chapter 13) -/

/-- POWER fields (Table 13-5): mV, %, A, (°C, %) pairs, s and kW. -/
structure PowerFields where
  vMin : Rat
  vMax : Rat
  socMin : Rat
  socMax : Rat
  /-- for 2 s, 10 s and 30 s -/
  rScale : List Rat
  iDis : Rat
  iChg : Rat
  derateD : List (Rat × Rat)
  derateC : List (Rat × Rat)
  derateAbsent : Rat
  horizon : Nat
  pDis : Rat
  pChg : Rat
  deriving DecidableEq, Repr

/-- One direction of a consumer: kW. -/
structure Share where
  floor : Rat
  weight : Nat
  ceiling : Rat
  deriving DecidableEq, Repr

/-- A consumer (R315): its pin's direction, full scale in kW, its shares and its rise in % of full scale per s. -/
structure Consumer where
  pinDir : Dir
  fullScale : Option Rat
  d : Share
  c : Share
  rise : Rat
  deriving DecidableEq, Repr

/-- FAST fields (Table 13-5): A, cycles, mV, rounds, ms. -/
structure FastFields where
  dis : Rat
  chg : Rat
  filter : Nat
  disAction : Nat
  chgAction : Nat
  ovAction : Nat
  uvAction : Nat
  split : Rat
  tripReads : Nat
  zeroHold : Nat
  tripHold : Nat
  release : Bool
  deriving DecidableEq, Repr

/-- What TC1 computed in the present round: the limits by horizon (kW), the totals and the caps of each consumer. -/
structure Power where
  pd : List Rat
  pc : List Rat
  /-- Those of the snap before, which SUMMARY reports (R421). -/
  lastPd : List Rat
  lastPc : List Rat
  totalD : Rat
  totalC : Rat
  /-- Caps of the snap, discharge and charge, kW. -/
  caps : List (Rat × Rat)
  /-- Caps as last latched, and in force for the rise of R316: 0 after a zero since. -/
  latched : List (Rat × Rat)
  capRound : Option Round
  invalidRuns : Runs
  floorRuns : Runs
  /-- Consecutive snaps of a group beyond the upper, and the lower, limit of R314. -/
  above : List (CellId × Nat)
  below : List (CellId × Nat)
  /-- A zero has been coded in a direction since the last latch: plain zero until the next one (R325). -/
  zeroD : Bool
  zeroC : Bool
  /-- The coders code plain zero: the freeze (R71), or a missing latch (R458). -/
  frozen : Bool
  latchMissing : Bool
  /-- The round of the last latch a coder received, and the expected latches missed in succession before this round (R458). -/
  latchAt : Option Round
  latchMisses : Nat
  deriving DecidableEq, Repr

/-- A cause standing in the fast path (R325): its action, and when it was first and last found clear since. -/
structure FastCause where
  event : FastEvent
  action : Nat
  clear : Option (Ns × Ns)
  deriving DecidableEq, Repr

/-- A group flagged under an event, and the first and the last armed READ that has shown its flag clear since. -/
structure FlaggedGroup where
  event : FastEvent
  id : CellId
  clear : Option (Ns × Ns)
  deriving DecidableEq, Repr

/-- The fast path: the trip latch, TC1's trip request, and the forced zeros. -/
structure FastPath where
  trip : Bool
  /-- When the trip latch was set. -/
  tripAt : Ns
  request : Bool
  forcedD : Bool
  forcedC : Bool
  causes : List FastCause
  flagged : List FlaggedGroup
  /-- By group: the last round it was flagged in, and for how many rounds in succession. -/
  runs : List (CellId × Round × Nat)
  /-- The round in which a node's last armed READ came: a second copy counts nothing toward persistence (R322). -/
  seen : List (NodeId × Round)
  deriving DecidableEq, Repr

/-- No limit computed, every cap zero. -/
def Power.zero : Power :=
  { pd := [0, 0, 0], pc := [0, 0, 0], lastPd := [0, 0, 0], lastPc := [0, 0, 0], totalD := 0, totalC := 0, caps := [], latched := [],
    capRound := none, invalidRuns := ⟨0, 0⟩,
    floorRuns := ⟨0, 0⟩, above := [], below := [], zeroD := false, zeroC := false, frozen := false, latchMissing := false, latchAt := none,
    latchMisses := 0 }

/-- The fast path with nothing standing. -/
def FastPath.clear : FastPath :=
  { trip := false, tripAt := 0, request := false, forcedD := false, forcedC := false, causes := [], flagged := [], runs := [], seen := [] }

/-! ### Seats and ownership (chapter 15) -/

/-- OWN fields (Table 15-6): a bitmap of seats, rounds, µs, failures, %, and W·h. -/
structure OwnFields where
  seats : Nat
  listenMax : Nat
  beatMiss : Nat
  healthGrace : Nat
  deferMax : Nat
  tripDisagree : Nat
  authLimit : Nat
  agreeSoc : Rat
  agreePower : Rat
  agreeHem : Rat
  agreeRounds : Nat
  deriving DecidableEq, Repr

/-- Intent shown in a BEAT (Table 17-14). -/
inductive Intent | none_ | park | ship
  deriving DecidableEq, Repr

/-- A state summary (R385): SoC codes, W and 0.01 W·h. -/
structure Summary where
  snap : Round
  soc : Nat
  lo : Nat
  hi : Nat
  pD : Nat
  pC : Nat
  eHem : Nat
  packOk : Bool
  hemOk : Bool
  inRun : Bool
  deriving DecidableEq, Repr

/-- A BEAT (Table 17-14) with the round number of its header. -/
structure Beat where
  round : Round
  die : Nat
  role : Role
  lock : Nat
  cut : Bool
  trip : Bool
  safeN : Bool
  path : Nat
  intent : Intent
  pending : Bool
  /-- mV -/
  refRes : Nat
  codeWord : Nat
  digest : List Byte
  elig : BitVec 9
  /-- From the sender's stitch 0 to SOF_N leaving, ns. -/
  sof : Nat
  /-- Departure of the sender's previous BEAT and arrival of the neighbour's previous BEAT, on U and on D. -/
  uDep : Nat
  uArr : Nat
  dDep : Nat
  dArr : Nat
  sum : Summary
  deriving DecidableEq, Repr

/-- What is known of another seat. -/
structure SeatView where
  seat : Nat
  /-- The current nonce, the last four nonces, and the kept (round, sequence) pairs (R442). -/
  nonce : Option Nat
  nonces : List Nat
  kept : List (Round × Nat)
  /-- The latest BEAT received, the round it came in, and the grid time of its stitch 0 on the own time base. -/
  beat : Option Beat
  beatRound : Round
  zero : Int
  /-- Its role as its BEATs and CLAIMs give it. -/
  role : Role
  /-- Rounds in succession without a BEAT, and with an eligibility condition unmet. -/
  missed : Nat
  unmet : Nat
  heard : Bool
  deriving DecidableEq, Repr

/-- One PEER link: authentication failures in the window, the last BEAT departures and arrivals of the neighbour's
BEATs with the rounds they belong to, and the measured delay in ns (R366, R368). -/
structure PeerLink where
  fails : Nat
  dep : List (Round × Ns)
  arr : List (Round × Ns)
  delay : Int
  deriving DecidableEq, Repr

/-- A pair of eligible seats: rounds of disagreement and agreement in succession, and whether it stands in
disagreement (R385). -/
structure PairView where
  a : Nat
  b : Nat
  runs : Runs
  standing : Bool
  deriving DecidableEq, Repr

/-- A planned yield (R375, R376): the yielding seat, its successor, H, the reason of R444, deferrals so far, whether the
accept CLAIM was sent, and whether the test of R376 was passed in the round before H. -/
structure Yield where
  from_ : Nat
  succ : Nat
  h : Round
  reason : Nat
  deferrals : Nat
  accepted : Bool
  go : Bool
  deriving DecidableEq, Repr

/-- A cut asserted by this seat (R378, R380): the cut seat, its side or sides, when, and how far the takeover has come: the
round of the forced CLAIM, and whether the pins are driven. -/
structure CutPlan where
  seat : Nat
  up : Bool
  down : Bool
  at_ : Ns
  claimed : Option Round
  driven : Bool
  barred : Bool
  deriving DecidableEq, Repr

/-- Ownership. -/
structure Ownership where
  role : Role
  /-- The cut latch (R30). -/
  cut : Bool
  /-- CUT_OUT pins driven low, with the takeover that follows. -/
  cutting : Option CutPlan
  /-- The device's own role lets it drive CAP0–CAP5, and the rest of the commanding group (Table 15-3). -/
  caps : Bool
  pins : Bool
  /-- The group is released at the next stitch boundary (R381), or at a stitch 0 (R373). -/
  releaseNow : Bool
  releaseAt : Option Round
  /-- Another die reported this seat (R442); this seat is not in OWN.seats. -/
  seatBad : Bool
  outvoted : Bool
  unaligned : Bool
  alignRuns : Runs
  /-- The boot nonce, and the sequence number of the next frame of the round (Table 17-13). -/
  nonce : Nat
  seq : Nat
  views : List SeatView
  linkU : PeerLink
  linkD : PeerLink
  pairs : List PairView
  /-- The own BEAT of the present round. -/
  beat : Option Beat
  yielding : Option Yield
  /-- A yield abandoned since the domain start: its reason (R376). -/
  abandoned : Option Nat
  /-- The owner has been computed (R373), and whom the provisional owner must yield to. -/
  elected : Bool
  electedSeat : Option Nat
  /-- The own first round after the domain start. -/
  since : Round
  /-- Rounds of a self-check called for by R387: the round of the call. -/
  checkFrom : Option Round
  /-- The round in which this seat, as owner, ceased to be eligible (R374). -/
  unfit : Option Round
  /-- The owner that had parked when this seat left PARK, until it is heard (R389). -/
  parkedOwner : Option Nat
  /-- The window of 1,000 rounds that the authentication failures are of (R366): its first round number divided by 1,000. -/
  window : Nat
  /-- The grid seat's stitch 0 that the next idle round is to join (R368). -/
  joinZero : Option Int
  /-- The result of this seat's own turn has gone out in MIRROR (R148). -/
  turnSent : Bool
  /-- PEER frames sent in the present round: the link, and the bytes. -/
  sent : List (CutSide × List Byte)
  /-- Streams 12–15 of the owner as a witness takes them (R382): the round, values and flags. -/
  streams : Option (Round × List (Int × Nat))
  /-- The contents of the latest park-check result items, own or received (R384). -/
  parkItems : List (List Byte)
  deriving DecidableEq, Repr

/-- A link at rest. -/
def PeerLink.zero : PeerLink := ⟨0, [], [], 0⟩

/-- A seat of which nothing is known. -/
def SeatView.fresh (seat : Nat) : SeatView :=
  { seat := seat, nonce := none, nonces := [], kept := [], beat := none, beatRound := 0, zero := 0, role := .listener, missed := 0,
    unmet := 0, heard := false }

/-- Ownership before the first round. -/
def Ownership.cold : Ownership :=
  { role := .listener, cut := false, cutting := none, caps := false, pins := false, releaseNow := false, releaseAt := none,
    seatBad := false, outvoted := false, unaligned := false, alignRuns := ⟨0, 0⟩, nonce := 0, seq := 0, views := [],
    linkU := PeerLink.zero, linkD := PeerLink.zero, pairs := [], beat := none, yielding := none, abandoned := none, elected := false,
    electedSeat := none, since := 0, checkFrom := none, unfit := none, parkedOwner := none, window := 0, joinZero := none,
    turnSent := true, sent := [], streams := none, parkItems := [] }

/-! ### Output links (chapter 17) -/

/-- OUT fields (Table 17-16): %, ms and addresses as numbers. -/
structure OutFields where
  canaBase : Nat
  canbBase : Nat
  spArb : Rat
  spData : Rat
  tdc : Nat
  faultPeriod : Nat
  ethSeats : Nat
  macBase : Nat
  ipBase : Nat
  group : Nat
  port : Nat
  vlan : Nat
  pcp : Nat
  dscp : Nat
  ttl : Nat
  roundShare : Rat
  deriving DecidableEq, Repr

/-- The transmit buffer of one identifier (R429): the frame queued, a frame whose transmission had begun when the next was
queued, the alive counter (R425), and the rounds of the window in which a frame was replaced (0x675). -/
structure CanBuf where
  queued : Option (List Byte)
  sending : Option (List Byte)
  alive : Nat
  replaced : Nat
  lastReplaced : Option Round
  deriving DecidableEq, Repr

/-- A CAN FD channel: its two buffers in identifier order, its error state, and rounds error-active in succession. -/
structure CanChan where
  first : CanBuf
  second : CanBuf
  passive : Bool
  busOff : Bool
  activeRounds : Nat
  deriving DecidableEq, Repr

/-- The output links. -/
structure Output where
  /-- CANA carries SUMMARY and FAULT, CANB carries CAPS and BURST. -/
  canA : CanChan
  canB : CanChan
  /-- The due times of SUMMARY and FAULT (R423), and whether the first stitch 62 in GRACE has passed. -/
  summaryDue : Option Ns
  faultDue : Option Ns
  graceSent : Bool
  /-- The next service page, and the cohort page 2 shows next (R433). -/
  page : Nat
  pageCohort : Nat
  /-- PHY_RST_N is released; the SGMII link is up; rounds down and up in succession. -/
  phyOn : Bool
  linkUp : Bool
  linkRuns : Runs
  /-- ROUND pages waiting, with the round they fell due in; the last datagram sent; counters of R425 and R436. -/
  pages : List (Round × List Byte)
  lastPage : Option (List Byte)
  ident : Nat
  roundAlive : Nat
  /-- In reduced mode, the place in record order of the next cell to be sent in full (R438). -/
  fullNext : Nat
  /-- Fast-path events since the previous CAPS, and the last answer of the round by line, in units of 10 µs (Tables 17-7,
  17-8). -/
  capsEvents : List FastEvent
  answers : List Nat
  deriving DecidableEq, Repr

/-- A transmit buffer with nothing queued. -/
def CanBuf.empty : CanBuf := ⟨none, none, 0, 0, none⟩

/-- A channel at rest. -/
def CanChan.empty : CanChan := ⟨CanBuf.empty, CanBuf.empty, false, false, 0⟩

/-- The output links at a boot. -/
def Output.cold : Output :=
  { canA := CanChan.empty, canB := CanChan.empty, summaryDue := none, faultDue := none, graceSent := false, page := 0
    pageCohort := 16, phyOn := false, linkUp := false, linkRuns := ⟨0, 0⟩, pages := [], lastPage := none, ident := 0, roundAlive := 0
    fullNext := 0, capsEvents := [], answers := [0, 0] }

/-! ### Loop-backs, self-test and test access (chapter 19) -/

/-- What a cold boot with TEST[1:0] honoured runs (R474, R477). -/
inductive TestMode | none_ | loopback | bist
  deriving DecidableEq, Repr

/-- TAP instructions (Table 19-2). -/
inductive TapInstr
  | bypass | idcode | samplePreload | extest | clamp | highz | extestPulse | extestTrain | lbResult | bistResult | keyProg | fuseRead
  | lcAdvance | auth
  deriving DecidableEq, Repr

/-- Who controls the pins that boundary scan covers (R470): the device, or the TAP with the boundary register or at high
impedance. -/
inductive PinControl | device | scan | highz
  deriving DecidableEq, Repr

/-- Self-test, test modes and the TAP. -/
structure TestPort where
  /-- The Self-test condition of Table 15-2 as far as tests decide it. -/
  passed : Bool
  /-- Failures of tests 9–12 to be judged at round 0, and the ports that failed test 9 (R479). -/
  waiting : List Nat
  failedPorts : List Nat
  mode : TestMode
  /-- The loop-back phase: 0 before the first, 5 after the last (R474). -/
  phase : Nat
  /-- LB_RESULT (R476): 49 entries, 0 not run, 1 pass, 2 fail; BIST_RESULT. -/
  lb : List Nat
  bist : BitVec 128
  bistDone : Bool
  /-- The TAP: the instruction, the data register last captured, the status bit, and the boundary register. -/
  instr : TapInstr
  data : Nat
  statusFail : Bool
  scan : Nat
  pinsBy : PinControl
  /-- The hold of R468 is in progress, and an authorisation written in it verified. -/
  hold : Bool
  authOk : Bool
  deriving DecidableEq, Repr

/-- The test port at a cold boot. -/
def TestPort.cold : TestPort :=
  { passed := false, waiting := [], failedPorts := [], mode := .none_, phase := 0, lb := List.replicate 49 0, bist := 0, bistDone := false
    instr := .idcode, data := 0, statusFail := false, scan := 0, pinsBy := .device, hold := false, authOk := false }

/-- Lifecycle states (R465), as page 1 of Table 17-6 codes them. -/
inductive Lifecycle | factory | production | field | return_
  deriving DecidableEq, Repr

/-- IMAGE fields (Table 16-7): h, a bitmap and erases. -/
structure RollFields where
  commitHours : Nat
  revokeKeys : Nat
  eraseLimit : Nat
  fallback : Bool
  deriving DecidableEq, Repr

/-- Running image fields. -/
structure ImageFields where
  image : RollFields
  supply : SupplyFields
  pace : PaceFields
  thread : ThreadFields
  pattern : PatternFields
  acq : AcqFields
  est : EstFields
  estStore : EstFields
  hem : HemFields
  store : StoreFields
  path : PathFields
  burst : BurstFields
  model : ModelFields
  numeric : NumericFields
  train : TrainFields
  seam : SeamFields
  power : PowerFields
  consumers : List Consumer
  fast : FastFields
  own : OwnFields
  out : OutFields
  deriving DecidableEq, Repr

/-- The fallback set (R408): the digest of the image it was copied from, records 0x01–0x07 and 0x0B–0x12 of it, and the
variant records of the PATTERN record among them by RSEL_PACK level. -/
structure FallbackSet where
  digest : List Byte
  records : List SlotRecord
  variants : List (Nat × VariantRec)
  deriving DecidableEq, Repr

/-- What runs: the ROM defaults or an image, the slot (0 A, 1 B, 2 ROM), the failing reasons of slots A and B, the variant in
use, what Table 16-6 leaves out, the digests, the header values that later rules need, and the fields in force. -/
structure ImageRun where
  rom : Bool
  slot : Nat
  reasonA : Nat
  reasonB : Nat
  variant : Option Variant
  /-- The store is served, and bursts are allowed (Table 16-6). -/
  storeServed : Bool
  burstsOn : Bool
  digest : List Byte
  modelDigest : List Byte
  version : Nat
  rollback : Nat
  keyIndex : Nat
  /-- The records and variants of the image, for the fallback set (R408), and the time eligible in RUN, in 10 ns ticks. -/
  records : List SlotRecord
  variants : List (Nat × VariantRec)
  eligTicks : Nat
  /-- The fallback set is to be written in TC1's next journal window (R408, R415). -/
  fallbackDue : Bool
  f : ImageFields
  deriving DecidableEq, Repr

/-- The OTP fuses and keys (R465–R472): what has been programmed, the revocation fuses and image-key hashes of slots 0–3,
and the anti-rollback counter (R399). -/
structure Fuses where
  lifecycle : Lifecycle
  dieId : Option Nat
  deviceKey : Option Nat
  returnHash : Option Nat
  slots : List (Option Nat)
  revoked : List Bool
  domainKey : Option Nat
  counter : Nat
  deriving DecidableEq, Repr

/-- The regions that MRAM holds as two copies each (R413): JHDR with the die identity and the key check value, PAIRS, PATTERN, STATUS
and FALLBACK. -/
structure Regions where
  header : Copies (Nat × Nat)
  pairs : Copies (List PairRec)
  pattern : Copies PatternRegion
  status : Copies StatusRegion
  fallback : Copies FallbackSet
  deriving DecidableEq, Repr

/-- What the device keeps without power: OTP, MRAM and the NOR's checkpoint areas. -/
structure NonVol where
  fuses : Fuses
  /-- Map-outs in the journal: ring port and link, and whether PRBS31 or repeated reversal (R158, R160). -/
  mapOuts : List (Nat × Nat × Nat)
  /-- Accepted identities by node (R148). -/
  accepted : List (NodeId × Nat)
  /-- Delay tables by node: COMP_A, COMP_B (R148). -/
  delays : List (NodeId × Nat × Nat)
  /-- The checkpoints of C0 and C1; none where the area holds no valid one (R418). -/
  ckpt0 : Option Ckpt
  ckpt1 : Option Ckpt
  /-- Erases of each sector of C0 and C1 (R419). -/
  erase0 : List Nat
  erase1 : List Nat
  /-- The training rotation: the cohort of the last cycle and the last positions of the active sets (R271). -/
  rotation : Nat
  lastPos : List Nat
  trained : Option TrainRecord
  /-- TC1's working copy of the rest of the journal: completed tests, RUN time and park count, the rollback accumulator
  with the image digest it counts for, and the tack-rest list as last written. -/
  tests : List TestRecord
  runTicks : Nat
  parks : Nat
  rollback : Nat
  rollbackFor : List Byte
  rests : List TackRest
  /-- When the pair records were last written (R209), and the cumulative time spent in known gaps (R190), ns. -/
  pairsAt : Ns
  gapTotal : Ns
  /-- The regions as MRAM holds them (R413), and while TC1's writes of a journal window may still run, what they held before (R415). -/
  headerR : Copies (Nat × Nat)
  writing : Option Regions
  pairsR : Copies (List PairRec)
  patternR : Copies PatternRegion
  statusR : Copies StatusRegion
  fallbackR : Copies FallbackSet
  /-- SEAL0 and SEAL1; none where the area holds no valid seal (R411). -/
  seal0 : Option Seal
  seal1 : Option Seal
  /-- The event log, newest first, and the last sequence number (R414). -/
  events : List LogEntry
  logSeq : Nat
  deriving DecidableEq, Repr

/-- The two seal buffers of P0 AON (R64), and which was completed last: true is the second; and the seal being written. -/
structure SealBufs where
  first : Option SealBuf
  second : Option SealBuf
  latest : Bool
  writing : Option Seal
  deriving DecidableEq, Repr

/-- The state of the block. -/
structure State where
  /-- The commands waiting, first in, first out. -/
  pending : List Instr
  /-- The crystal time base in ns (R14). -/
  now : Ns
  bufs : SealBufs
  sup : Supply
  strap : Straps
  code : Codes
  img : ImageRun
  pace : Pace
  thr : Threads
  pat : Pattern
  acq : Acq
  cls : Classical
  lrn : Learned
  trn : Training
  seam : Seam
  res : Reserve
  own : Ownership
  out : Output
  nv : NonVol
  flt : Faults
  tst : TestPort
  pow : Power
  fast : FastPath
  /-- The model's own counter: each use of a free value reads and advances it. -/
  freeCtr : Nat
  deriving DecidableEq, Repr


/-! ### Before an image is selected (R401) -/

/-- No field in force. -/
def SupplyFields.zero : SupplyFields :=
  { grace := 0, parkIMax := 0, parkDwell := 0, checkInterval := 0, checkRounds := 0 }

/-- No field in force. -/
def PaceFields.zero : PaceFields :=
  { phiInverter := 0, phiMains := 0, phiDc := 0, roundMin := 0 }

/-- No field in force. -/
def ThreadFields.zero : ThreadFields :=
  { cmdRetries := 0, balHold := 0, balRefresh := 0, identInterval := 0, quarantineCount := 0, crcLimit := 0, ov := 0, uv
    := 0, persist := 0, balTMax := 0 }

/-- No field in force. -/
def PatternFields.zero : PatternFields :=
  { foreignLimit := 0, driftLimit := 0, installTime := 0, installMaxErrors := 0, periodicTime := 0, periodicMaxErrors :=
    0, periodicInterval := 0 }

/-- No field in force. -/
def AcqFields.zero : AcqFields :=
  { rA := 0, rB := 0, invertA := false, invertB := false, agreeAbs := 0, agreeRel := 0, agreeRounds := 0, sentRole := 0,
    sentTick := 0, sentNibbles := 0, sentCrcRecommended := false, sentZero := 0, sentLsb := 0, sentLatency := 0,
    sentIdMsg := 0, sentIdValue := 0, ratioVpkA := 0, ratioVpkB := 0, vpkAgree := 0, ratioVmain := 0, tclR25 := 0,
    tclBeta := 0, stR25 := 0, stBeta := 0, siShunt := 0 }

/-- No field in force. -/
def EstFields.zero : EstFields :=
  { ocvV := [], ocvT := [], ocvUv := 0, capNominal := 0, capU0 := 0, capUMin := 0, capUAge := 0, capStepMax := 0,
    rNominal := 0, rStepMin := 0, rGain := 0, rURel := 0, restIMax := 0, restT1 := 0, restTau := 0, restTLong := 0,
    maxCorr := 0, minDelta := 0, tackUMin := 0, tackUMax := 0, overdue := 0, overdueRate := 0, fullV := 0, fullITaper :=
    0, fullDwell := 0, fullU := 0, emptyV := 0, emptyDwell := 0, emptyU := 0, uUnrelaxed := 0, uLoaded := 0, gainShunt
    := 0, gainSensor := 0, gainSent := 0, offShunt := 0, offSensor := 0, offSent := 0, iAbsent := 0, parkIAllow := 0,
    selfDischarge := 0, rBleed := 0, balStart := 0, balStop := 0, balMaxWidth := 0, displayRate := 0 }

/-- No field in force. -/
def HemFields.zero : HemFields :=
  { pLoad := 0, vShutdown := 0, selvage := 0 }

/-- No field in force. -/
def StoreFields.zero : StoreFields :=
  { cells := 0, vMin := 0, vMax := 0, floorV := 0, presentV := 0, changeV := 0, changeStep := 0, vset := [], dcdcGain :=
    0, refSlew := 0, chgTMin := 0, chgTMax := 0 }

/-- No field in force. -/
def PathFields.zero : PathFields :=
  { fail := 0, good := 0, ov := 0, rampMain := 0, rampRes := 0, shortLag := 0, shortVds := 0, shortCool := 0, dwellMin
    := 0 }

/-- No field in force. -/
def BurstFields.zero : BurstFields :=
  { power := [], maxDuration := 0, release := 0, keep := 0 }

/-- No field in force. -/
def ModelFields.zero : ModelFields :=
  { cohorts := [], store := none, cohortMap := [], linedTauMin := 0, openLoopMax := 0, warmupRounds := 0, stepShare :=
    0, memShare := 0, budget := [] }

/-- No field in force. -/
def NumericFields.zero : NumericFields :=
  { renormInterval := 0, replayPeriod := 0, betaOrd := 0, betaLined := 0, vMax := 0, cohortLimit := 0, ceLimit := 0,
    scrubPeriod := 0 }

/-- No field in force. -/
def TrainFields.zero : TrainFields :=
  { enable := false, activeCells := 0, warm := 0, epoch := 0, fit := 0, updateInterval := 0, lr := 0, sigmaV := 0,
    weightSoc := 0, weightCap := 0, margin := 0, minSamples := 0, minCells := 0, ckptInterval := 0, shed1 := 0, shed2 :=
    0, shed3 := 0 }

/-- No field in force. -/
def SeamFields.zero : SeamFields :=
  { residV := 0, residRounds := 0, rejoin := 0, splitReport := 0, holdEnter := 0, holdExit := 0, holdRounds := 0,
    packSplitMax := 0 }

/-- No field in force. -/
def PowerFields.zero : PowerFields :=
  { vMin := 0, vMax := 0, socMin := 0, socMax := 0, rScale := [], iDis := 0, iChg := 0, derateD := [], derateC := [],
    derateAbsent := 0, horizon := 0, pDis := 0, pChg := 0 }

/-- No field in force. -/
def FastFields.zero : FastFields :=
  { dis := 0, chg := 0, filter := 0, disAction := 0, chgAction := 0, ovAction := 0, uvAction := 0, split := 0, tripReads
    := 0, zeroHold := 0, tripHold := 0, release := false }

/-- No field in force. -/
def OwnFields.zero : OwnFields :=
  { seats := 0, listenMax := 0, beatMiss := 0, healthGrace := 0, deferMax := 0, tripDisagree := 0, authLimit := 0,
    agreeSoc := 0, agreePower := 0, agreeHem := 0, agreeRounds := 0 }

/-- No field in force. -/
def OutFields.zero : OutFields :=
  { canaBase := 0, canbBase := 0, spArb := 0, spData := 0, tdc := 0, faultPeriod := 0, ethSeats := 0, macBase := 0,
    ipBase := 0, group := 0, port := 0, vlan := 0, pcp := 0, dscp := 0, ttl := 0, roundShare := 0 }

/-- No field in force. -/
def RollFields.zero : RollFields :=
  { commitHours := 0, revokeKeys := 0, eraseLimit := 0, fallback := false }

/-- No field in force. -/
def ImageFields.zero : ImageFields :=
  { image := RollFields.zero, supply := SupplyFields.zero, pace := PaceFields.zero, thread := ThreadFields.zero, pattern
    := PatternFields.zero, acq := AcqFields.zero, est := EstFields.zero, estStore := EstFields.zero, hem :=
    HemFields.zero, store := StoreFields.zero, path := PathFields.zero, burst := BurstFields.zero, model :=
    ModelFields.zero, numeric := NumericFields.zero, train := TrainFields.zero, seam := SeamFields.zero, power :=
    PowerFields.zero, consumers := [], fast := FastFields.zero, own := OwnFields.zero, out := OutFields.zero }


/-! ### Reset -/

/-- An unclassified tap with its FET off. -/
def Tap.off : Tap := ⟨.unclassified, false, .low⟩

/-- The supply with P0 AON unpowered. -/
def Supply.cold : Supply :=
  { dev := .off, parkCheck := false, bootStep := .aonUp, bootKind := .cold, tapA := Tap.off, tapB := Tap.off, tapC := Tap.off
    pmicEn := false, pg0 := false, pg1 := false, pg2 := false, pg3 := false, handshake := false, attempts := 0, held112 := false
    domains := [], p7SelfRefresh := false, p1 := false, failedDomains := [], railLosses := [], pg2Lost := false, bootLoss := false
    shut := none, aborts := [], damping := false, abortRound := none, storeFn := false, parkOwner := false, parkTimerFrom := 0
    checkRounds := 0, checkWake := false, resumeInPlace := false, shipSeenHigh := false, vchg := false, parkFrom := none
    shareA := 0, shareB := 0, shareC := 0, shareOk := 0, resume := none }

/-- Straps before they are latched. -/
def Straps.cold : Straps :=
  { latched := ⟨false, false, false, false, false, false⟩, split := [], maintAtLatch := false, seat1 := ⟨0, 0⟩, seat0 := ⟨0, 0⟩
    slotPref := ⟨0, 0⟩, install := ⟨0, 0⟩, test1 := ⟨0, 0⟩, test0 := ⟨0, 0⟩, maint := false, maintLast := false, maintRun := 0
    maintNext := none }

/-- Codes before they are latched. -/
def Codes.cold : Codes := ⟨List.replicate 8 none, List.replicate 8 ⟨0, 0⟩⟩

/-- The pace unit before the PLL is enabled. -/
def Pace.cold : Pace :=
  { enabled := false, lock := .idle, source := none, ratio := none, phase := 0, ratioChange := false, badPrev := false, word := 3
    wordPrev := 3, periodPs := 0, lastValid := none, lastQualified := none, opening := true, acqSource := none, acqCount := 0
    acqSum := 0, acquired := none, lossPending := false, resumePending := false, holdLeft := 0, heldPs := 1000000000, transEnd := 0
    transPhase := 0, ratioNext := none, lockCount := 0, locked := false, trackRounds := 0, badWindow := 0, badRound := false
    foreignRun := 0, foreignRound := 0, foreignHit := false, searchFrom := none, searchLast := 0, round := 0, running := false,
    stitch := 0, startPs := 0
    start := 0, prevStart := 0, dt := 0, stitchAt := 0, stitchPs := 0, stitchMin := 0, stitchMax := 0, idleAdjust := 0, heldEnd := none }

/-- The wiring before a pattern check. -/
def Pattern.cold : Pattern :=
  { turn := none, turnStart := 0, ownTurnDone := false, turnsDone := [], passed := false, runTicks := 0, periodicDue := false
    installDone := false, testing := none, retestDone := false, verdicts := [], mapNews := false }

/-- No fault stands. -/
def Faults.clean : Faults :=
  { table := [], unlisted := [], overflow := [], freeRounds := 0, holds := [], events := [], lastSent := none, logQueue := []
    tcDown := [], beatMiss0 := 0, beatMiss1 := 0, tcmCe := 0, pin := 0, pinFrom := 0, safeN := false, keepMiss := 0,
    pinKeeper := false, coldHeld := [], peerStopped := false }

/-- No image has been selected. -/
def ImageRun.none_ : ImageRun :=
  { rom := false, slot := 2, reasonA := 0, reasonB := 0, variant := none, storeServed := false, burstsOn := false, digest := []
    modelDigest := [], version := 0, rollback := 0, keyIndex := 0, records := [], variants := [], eligTicks := 0,
    fallbackDue := false, f := ImageFields.zero }

/-- A blank die (Table 19-1). -/
def Fuses.blank : Fuses :=
  { lifecycle := .factory, dieId := none, deviceKey := none, returnHash := none, slots := [none, none, none, none]
    revoked := [false, false, false, false], domainKey := none, counter := 0 }

/-- OTP, MRAM and checkpoint areas that nothing has written. -/
def NonVol.blank : NonVol :=
  { fuses := Fuses.blank, mapOuts := [], accepted := [], delays := [], ckpt0 := none, ckpt1 := none, erase0 := [], erase1 := []
    rotation := 16, lastPos := List.replicate 17 0, trained := none, tests := [], runTicks := 0, parks := 0, rollback := 0
    rollbackFor := [], rests := [], pairsAt := 0, gapTotal := 0, pairsR := Copies.none_, patternR := Copies.none_, statusR := Copies.none_
    headerR := Copies.none_, writing := none, fallbackR := Copies.none_, seal0 := none, seal1 := none, events := [], logSeq := 0 }

/-- Empty seal buffers. -/
def SealBufs.empty : SealBufs := ⟨none, none, false, none⟩

/-- The state right after reset: P0 AON unpowered (OFF), nothing waiting, on a die and with memories that nothing has written. -/
def State.reset : State :=
  { pending := [], now := 0, bufs := SealBufs.empty, sup := Supply.cold, strap := Straps.cold, code := Codes.cold, img := ImageRun.none_
    pace := Pace.cold, thr := ⟨[], [], [], 0⟩, pat := Pattern.cold, acq := Acq.zero, cls := Classical.empty, lrn := Learned.empty
    trn := Training.idle, seam := Seam.empty, res := Reserve.cold, own := Ownership.cold, out := Output.cold, nv := NonVol.blank
    flt := Faults.clean, tst := TestPort.cold, pow := Power.zero, fast := FastPath.clear, freeCtr := 0 }

/-! ### Outcomes other than a next state -/

/-- Why the block stops with a fault. No command raises one: a fault of the manual is state of the block, and it goes on. -/
inductive Fault
  deriving DecidableEq, Repr

/-- Why a command has no meaning. -/
inductive Refusal
  /-- A row of the opcode table without a meaning in this model; `exec` alone raises it. Safe: nothing follows of the command. -/
  | notModelled (mnemonic : String)
  deriving DecidableEq, Repr

end Sys2Proof.Machine
end

