-- ==== Sys2Proof/Machine/CodeRead.lean ====
section
/-!
DEFINITION. Straps and resistor codes (chapter 02): majority latching, the classification of a
code reading, the reserved levels of each code, the fallbacks, the code word, and the decode tables.
-/
namespace Sys2Proof

/-- The value of one strap. -/
def StrapLevels.get (l : StrapLevels) : Strap → Bool
  | .seat1 => l.seat1
  | .seat0 => l.seat0
  | .slotPref => l.slotPref
  | .install => l.install
  | .test1 => l.test1
  | .test0 => l.test0

/-- The samples of one strap. -/
def StrapSamples.get (l : StrapSamples) : Strap → List Bool
  | .seat1 => l.seat1
  | .seat0 => l.seat0
  | .slotPref => l.slotPref
  | .install => l.install
  | .test1 => l.test1
  | .test0 => l.test0

/-- The value of TEST[1:0]. -/
def StrapLevels.test (l : StrapLevels) : Nat := 2 * l.test1.toNat + l.test0.toNat

/-- The seat of SEAT[1:0] (Table 2-5). -/
def StrapLevels.seat (l : StrapLevels) : Nat := 2 * l.seat1.toNat + l.seat0.toNat

end Sys2Proof

namespace Sys2Proof.Machine

/-! ### Straps -/

/-- The majority of a strap's samples (R33). -/
def majority (l : List Bool) : Bool := decide (l.length < 2 * l.countP id)

/-- The samples of a strap are unanimous (R33). -/
def unanimous (l : List Bool) : Bool := l.all id || l.all not

/-- Every strap, in the order of Table 17-5. -/
def allStraps : List Strap := [.seat1, .seat0, .slotPref, .install, .test1, .test0]

/-- The detail value of a strap (Table 17-5): 0x2300 + i. -/
def strapDetail : Strap → Nat
  | .seat1 => 0x2300
  | .seat0 => 0x2301
  | .slotPref => 0x2302
  | .install => 0x2303
  | .test1 => 0x2304
  | .test0 => 0x2305

/-- The levels latched from five samples each (R33). -/
def latchLevels (x : StrapSamples) : StrapLevels :=
  { seat1 := majority x.seat1, seat0 := majority x.seat0, slotPref := majority x.slotPref,
    install := majority x.install, test1 := majority x.test1, test0 := majority x.test0 }

/-- One more re-sample or re-read: the streak of differing and of agreeing results (R36, R43). -/
def Streak.step (k : Streak) (agrees : Bool) : Streak :=
  if agrees then ⟨0, k.agree + 1⟩ else ⟨k.differ + 1, 0⟩

/-- The streak kept for one strap. -/
def Straps.streak (s : Straps) : Strap → Streak
  | .seat1 => s.seat1
  | .seat0 => s.seat0
  | .slotPref => s.slotPref
  | .install => s.install
  | .test1 => s.test1
  | .test0 => s.test0

/-- All streaks moved on by one re-sample of every strap (R36). -/
def Straps.resample (s : Straps) (x : StrapLevels) : Straps :=
  { s with
    seat1 := s.seat1.step (x.seat1 == s.latched.seat1)
    seat0 := s.seat0.step (x.seat0 == s.latched.seat0)
    slotPref := s.slotPref.step (x.slotPref == s.latched.slotPref)
    install := s.install.step (x.install == s.latched.install)
    test1 := s.test1.step (x.test1 == s.latched.test1)
    test0 := s.test0.step (x.test0 == s.latched.test0) }

/-- A MAINT sample at a stitch (R37): 64 consecutive samples that differ from the level in force
confirm a change. -/
def Straps.maintSample (s : Straps) (level : Bool) : Straps :=
  let run := if level == s.maintLast then s.maintRun + 1 else 1
  { s with maintLast := level, maintRun := run }

/-- A confirmed MAINT change takes effect at the round boundary (R37). -/
def Straps.roundStart (s : Straps) : Straps :=
  match s.maintNext with
  | some l => { s with maintNext := none, maint := l }
  | none => s

/-! ### Resistor codes -/

/-- Classification of a reading (R38). -/
inductive CodeReading | short | open_ | level (n : Nat) | between
  deriving DecidableEq, Repr

/-- Window low and high of each level of Table 2-6, in 1/10,000 of the ratio. -/
def codeWindows : List (Nat × Nat) :=
  [(335, 635), (921, 1221), (1517, 1817), (2158, 2458), (2857, 3157), (3440, 3740), (3898, 4198), (4614, 4914),
   (5088, 5388), (5850, 6150), (6517, 6817), (7147, 7447), (7676, 7976), (8211, 8511), (8763, 9063), (9324, 9624)]

/-- The ratio r is the mean of 16 conversions over 4,096, unrounded: the sum over 65,536 (R38). Both
window edges are included. -/
def classifyCode (sum : Nat) : CodeReading :=
  if sum * 10000 < 200 * 65536 then .short
  else if 9750 * 65536 < sum * 10000 then .open_
  else
    match codeWindows.findIdx? (fun w => w.1 * 65536 ≤ sum * 10000 && sum * 10000 ≤ w.2 * 65536) with
    | some n => .level n
    | none => .between

/-- The levels a code's own decode table marks reserved (R38, Tables 2-8 to 2-13, R52). Code index as
in Table 2-7. RSEL_TAPS levels 4–6 are judged later, once the lifecycle is known (R48). -/
def codeReserved (i level : Nat) : Bool :=
  match i with
  | 0 => false
  | 1 => 9 ≤ level
  | 2 => 13 ≤ level
  | 3 => 7 ≤ level
  | 4 => 6 ≤ level
  | 5 => 9 ≤ level
  | 6 => 6 ≤ level
  | _ => 1 ≤ level

/-- The level one reading of code i returns; `none` counts as INVALID (R38). -/
def readCode (i sum : Nat) : Option Nat :=
  match classifyCode sum with
  | .level n => if codeReserved i n then none else some n
  | _ => none

/-- A code is latched at a level only if both passes return that level (R41). -/
def latchCode (i sum1 sum2 : Nat) : Option Nat :=
  match readCode i sum1, readCode i sum2 with
  | some a, some b => if a = b then some a else none
  | _, _ => none

/-- The latched level of code i. -/
def Codes.level (c : Codes) (i : Nat) : Option Nat := (c.levels.getD i none)

/-- The 40-bit code word (R44): levels in bits [4i+3:4i], the INVALID mask in bits [39:32]. -/
def Codes.word (c : Codes) : BitVec 40 :=
  BitVec.ofNat 40 ((List.range 8).foldl
    (fun acc i => acc + (match c.level i with
      | some n => (n % 16) * 16 ^ i
      | none => 2 ^ (32 + i))) 0)

/-- Fallbacks of Table 2-7 for the codes that have a level to fall back to: RSEL_PACE 0, RSEL_CHEM 0,
RSEL_TAPS 1, RSEL_BURST 0. -/
def Codes.pace (c : Codes) : Nat := (c.level 1).getD 0

/-- The active edge of PACE_IN is the rising one (Table 2-8). -/
def Codes.paceRising (c : Codes) : Bool := decide (c.pace % 2 = 1)

@[inherit_doc Codes.pace] def Codes.chem (c : Codes) : Nat := (c.level 2).getD 0
@[inherit_doc Codes.pace] def Codes.taps (c : Codes) : Nat := (c.level 3).getD 1
@[inherit_doc Codes.pace] def Codes.burst (c : Codes) : Nat := (c.level 5).getD 0

/-- Active CAP pins (Table 2-11): how many of CAP0–CAP5 are active; none when RSEL_CAPS is INVALID
(Table 2-7). -/
def Codes.capPins (c : Codes) : Nat :=
  match c.level 4 with
  | some n => 4 + n % 3
  | none => 0

/-- The PWM frequency is 16 kHz rather than 4 kHz (Table 2-11). -/
def Codes.capFast (c : Codes) : Bool :=
  match c.level 4 with
  | some n => 3 ≤ n
  | none => false

/-- The BREQ inputs in use (Table 2-12). -/
def Codes.breqLines (c : Codes) : Nat :=
  if c.burst = 0 then 0 else if c.burst ≤ 4 then 1 else 2

/-- The ceiling of BURST.max_duration in ms (Table 2-12). -/
def Codes.burstCeiling (c : Codes) : Nat :=
  match (c.burst - 1) % 4 with
  | 0 => 100
  | 1 => 250
  | 2 => 500
  | _ => 1000

/-- CAN is served: RSEL_OUT is not INVALID (Table 2-7). -/
def Codes.canOn (c : Codes) : Bool := (c.level 6).isSome

/-- The CAN FD arbitration and data rates in kbit/s (Table 2-13). -/
def Codes.canRates (c : Codes) : Nat × Nat :=
  match c.level 6 with
  | some n => if n % 3 = 0 then (500, 2000) else if n % 3 = 1 then (500, 5000) else (1000, 5000)
  | none => (0, 0)

/-- The Ethernet publication is on (Table 2-13). -/
def Codes.ethernet (c : Codes) : Bool :=
  match c.level 6 with
  | some n => n < 3
  | none => false

/-- A tap is fitted (Table 2-10). -/
def Codes.tapFitted (c : Codes) : TapId → Bool
  | .a => !(c.taps == 6)
  | .b => !(c.taps == 5)
  | .c => !(c.taps == 4)

/-- Sharing is on (Table 2-10). -/
def Codes.sharing (c : Codes) : Bool := !(c.taps == 1 || c.taps == 3)

/-- The nominal system is 24 V rather than 12 V (Table 2-10). -/
def Codes.nominal24 (c : Codes) : Bool := c.taps == 2 || c.taps == 3

/-- Reserve-store chemistries (Table 2-9). -/
inductive Chemistry | none_ | lto | lfp | nmc | supercap
  deriving DecidableEq, Repr

/-- The store chemistry a level of RSEL_CHEM selects (Table 2-9). -/
def chemistry (level : Nat) : Chemistry :=
  if level = 0 then .none_ else if level ≤ 3 then .lto else if level ≤ 6 then .lfp
  else if level ≤ 9 then .nmc else .supercap

/-- The range of STORE.cells at a level of RSEL_CHEM (Table 2-9). -/
def storeCellRange (level : Nat) : Nat × Nat :=
  if level = 0 then (0, 0)
  else if level % 3 = 1 then (2, 4) else if level % 3 = 2 then (5, 6) else (7, 8)

/-- The absolute cell limits in mV at a level of RSEL_CHEM (Table 2-9). -/
def storeCellLimits (level : Nat) : Nat × Nat :=
  match chemistry level with
  | .none_ => (0, 0)
  | .lto => (1500, 2850)
  | .lfp => (2000, 3650)
  | .nmc => (2800, 4250)
  | .supercap => (0, 2850)

end Sys2Proof.Machine
end

