-- ==== Sys2Proof/Machine/Ops.lean ====
section
/-!
DEFINITION. Operations shared by the commands: bytes and CRCs, the fault table and the fault pins
(chapter 18), and the questions many commands ask of the state (which seat this is, whether it acts
as owner, which domains are on).
-/
namespace Sys2Proof.Machine

/-! ### Bytes and CRCs -/

/-- The low n bytes of a value, most significant first. -/
def beBytes : Nat → Nat → List Byte
  | 0, _ => []
  | n + 1, v => BitVec.ofNat 8 (v / 256 ^ n) :: beBytes n (v % 256 ^ n)

/-- The value of bytes, most significant first. -/
def beNat (l : List Byte) : Nat := l.foldl (fun a b => a * 256 + b.toNat) 0

/-- One bit of the CRC-24 register. -/
def crc24Bit (c : Nat) : Nat :=
  let d := 2 * c
  if 16777216 ≤ d then Nat.xor d 0x1864CFB else d

/-- CRC-24 of R109: polynomial 0x864CFB, initial value 0xB704CE, no reflection, no final XOR. -/
def crc24 (l : List Byte) : Nat :=
  l.foldl (fun c b =>
    crc24Bit (crc24Bit (crc24Bit (crc24Bit (crc24Bit (crc24Bit (crc24Bit (crc24Bit
      (Nat.xor c (b.toNat * 65536)))))))))) 0xB704CE

/-- One bit of the reflected CRC-32 register. -/
def crc32Bit (c : Nat) : Nat :=
  if c % 2 = 1 then Nat.xor (c / 2) 0xEDB88320 else c / 2

/-- CRC-32 of IEEE 802.3 (R252): reflected, initial value and final XOR all ones. -/
def crc32 (l : List Byte) : Nat :=
  Nat.xor (l.foldl (fun c b =>
    crc32Bit (crc32Bit (crc32Bit (crc32Bit (crc32Bit (crc32Bit (crc32Bit (crc32Bit
      (Nat.xor c b.toNat))))))))) 0xFFFFFFFF) 0xFFFFFFFF

/-! ### Lists keyed by a number -/

/-- Apply a change to every entry a test selects. -/
def updWhere {α : Type} (p : α → Bool) (f : α → α) (l : List α) : List α :=
  l.map fun x => if p x then f x else x

/-- The value under a key. -/
def lookupKey {α : Type} (k : Nat) (l : List (Nat × α)) : Option α :=
  (l.find? fun x => x.1 == k).map (fun x => x.2)

/-- Set the value under a key, in ascending order of keys. -/
def insertKey {α : Type} (k : Nat) (v : α) : List (Nat × α) → List (Nat × α)
  | [] => [(k, v)]
  | (j, w) :: rest =>
    if k < j then (k, v) :: (j, w) :: rest
    else if k = j then (k, v) :: rest
    else (j, w) :: insertKey k v rest

/-- Remove a key. -/
def eraseKey {α : Type} (k : Nat) (l : List (Nat × α)) : List (Nat × α) :=
  l.filter fun x => !(x.1 == k)

/-! ### Fault classes (Table 18-4) -/

/-- The level of a class on FAULT[2:0] (Table 18-1). -/
def FaultClass.level : FaultClass → BitVec 3
  | .info => 2
  | .learned => 3
  | .classical => 4
  | .power => 5
  | .fast => 6
  | .device => 7

/-- Codes of class S with one class. -/
def deviceCodes : List Nat :=
  [0x110, 0x112, 0x125, 0x210, 0x401, 0x402, 0x403, 0x404, 0x530, 0x531, 0x532, 0x534, 0x536, 0x540, 0x541,
   0x686, 0x687, 0x688, 0x689, 0x70A, 0x804, 0x805, 0x810, 0x811, 0x812, 0x822, 0x831, 0x832, 0x833, 0x904, 0x905,
   0x940, 0x944, 0xA01]

/-- Codes of class L with one class. -/
def learnedCodes : List Nat :=
  [0x104, 0x111, 0x121, 0x501, 0x502, 0x504, 0x506, 0x511, 0x512, 0x514, 0x520, 0x521, 0x522, 0x523,
   0x630, 0x631, 0x632, 0x633, 0x652, 0x653, 0x654, 0x931, 0x934, 0xA20, 0xA21, 0xA22]

/-- Codes of class C. -/
def classicalCodes : List Nat :=
  [0x122, 0x123, 0x301, 0x302, 0x305, 0x306, 0x308, 0x407, 0x409, 0x533, 0x610, 0x611, 0x612, 0x615, 0x616, 0x617,
   0x618, 0x620, 0x623, 0x624, 0x660, 0x661, 0x670, 0x671, 0x672, 0x673, 0x936, 0x937, 0x946]

/-- Codes of class P. -/
def powerCodes : List Nat :=
  [0x701, 0x702, 0x703, 0x704, 0x705, 0x706, 0x709, 0x710, 0x711, 0x740, 0x741, 0x742, 0x750, 0x911, 0x912, 0x942,
   0x945]

/-- Codes of class F. -/
def fastCodes : List Nat := [0x680, 0x681, 0x682, 0x683, 0x684, 0x685]

/-- The class of an instance (Table 18-4). 0x124 is S for P2–P6 and L otherwise, 0x406 is S at a pattern
check, 0x960 is S on a SEAT strap: such instances carry `high` (R451). Every other code of the
table is class I. -/
def FaultInst.cls (i : FaultInst) : FaultClass :=
  if i.code == 0x124 then (if i.high then .device else .learned)
  else if i.code == 0x406 || i.code == 0x960 then (if i.high then .device else .info)
  else if deviceCodes.contains i.code then .device
  else if fastCodes.contains i.code then .fast
  else if powerCodes.contains i.code then .power
  else if classicalCodes.contains i.code then .classical
  else if learnedCodes.contains i.code then .learned
  else .info

/-- Two instances are the same subject of the same code (R448). -/
def FaultInst.same (i j : FaultInst) : Bool := i.code == j.code && i.detail == j.detail

/-- Every instance standing, listed or not, those of 0x542 among them (R449). -/
def Faults.all (f : Faults) : List FaultInst :=
  f.table ++ f.unlisted ++ f.overflow.map (fun c => ⟨0x542, c, false⟩)

/-- A code's bit in the class bitmap: set while any instance of the code stands (R449). -/
def Faults.bit (f : Faults) (code : Nat) : Bool := f.all.any fun i => i.code == code

/-- An instance of the code and detail stands. -/
def Faults.stands (f : Faults) (code detail : Nat) : Bool :=
  f.all.any fun i => i.code == code && i.detail == detail

/-- The highest class level among standing instances, 0b001 when none stands (R451). -/
def Faults.level (f : Faults) : BitVec 3 :=
  f.all.foldl (fun a i => if a.toNat < i.cls.level.toNat then i.cls.level else a) 1

/-- A class-S instance stands (R452). -/
def Faults.anyDevice (f : Faults) : Bool := f.all.any fun i => i.cls == FaultClass.device

/-! ### Questions asked of the state -/

/-- This device's seat number (Table 2-5). -/
def State.seat (s : State) : Nat := s.strap.latched.seat

/-- The device acts as owner: owner, or provisional owner, which counts as owner for R29, R106 and
R124 (chapter 06). -/
def State.acts (s : State) : Bool := s.own.role == Role.owner || s.own.role == Role.provisional

/-- The device may drive TRIP_N, BGNT_N, REF_RES and the gates: its role lets it, and no cut is latched (R29, R32). -/
def State.drives (s : State) : Bool := s.own.pins && !s.own.cut && s.tst.pinsBy == PinControl.device

/-- The device drives BGNT_N, REF_RES and the gates: P1 is on (R28), and RSEL_CHEM has not left the store unserved (Table 2-7). -/
def State.drivesPath (s : State) : Bool := s.drives && s.sup.p1 && !(s.code.chem == 0)

/-- The device drives CAP0–CAP5 (R29, Table 15-3). -/
def State.drivesCaps (s : State) : Bool := s.own.caps && !s.own.cut && s.tst.pinsBy == PinControl.device

/-- The device answers a BREQ edge decided now (Table 15-3): the owner, and in a planned yield the successor from stitch 62
of the round before H. -/
def State.answersBreq (s : State) : Bool :=
  !s.own.cut &&
  match s.own.yielding with
  | some y =>
    let late := y.go && decide (y.h = s.pace.round + 1) && decide (62 ≤ s.pace.stitch)
    if y.succ == s.seat then late else s.own.pins && !late
  | none => s.own.pins

/-- TC0, and TC1, is not held in reset (R456). -/
def State.tc0Up (s : State) : Bool := !s.flt.tcDown.contains 0
@[inherit_doc State.tc0Up] def State.tc1Up (s : State) : Bool := !s.flt.tcDown.contains 1

/-- A domain is switched on. -/
def State.domainOn (s : State) (d : Nat) : Bool := s.sup.domains.contains d

/-- Round work runs: RUN (a park check among it) or GRACE, with round 0 begun; after a warm resume in place, from the first
boundary (R69). -/
def State.rounds (s : State) : Bool :=
  s.pace.running && !s.sup.resumeInPlace && (s.sup.dev == DevState.run || s.sup.dev == DevState.grace)

/-- The conditions of R452 under which SAFE_N is high in RUN and GRACE; what the pin keeper did stays until the next boot (R454). -/
def State.healthy (s : State) : Bool :=
  !s.flt.anyDevice && s.tst.passed && !s.img.rom && !s.own.cut && !s.flt.peerStopped && !(s.own.role == Role.owner && s.flt.bit 0x833)

/-- The level FAULT[2:0] is due in RUN and GRACE (R451), at least 0b110 while the fast path trips or
forces zero (R453). -/
def State.faultLevel (s : State) : BitVec 3 :=
  let l := if s.flt.peerStopped then 7 else s.flt.level
  if (s.fast.trip || s.fast.request || s.fast.forcedD || s.fast.forcedC) && l.toNat < 6 then 6 else l

/-! ### The fault pins and the fault table -/

/-- Codes of class S that clear only at a boot, a cold boot or a domain start: the latched faults of
R452. 0x124 and 0x960 are latched when they take the higher class. -/
def latchedCodes : List Nat :=
  [0x112, 0x125, 0x210, 0x401, 0x402, 0x530, 0x531, 0x532, 0x534, 0x536, 0x540, 0x541, 0x687, 0x688, 0x822, 0x904,
   0x905, 0x804, 0x805, 0x810, 0x811, 0x831, 0x832, 0x940, 0x944]

/-- A latched fault stands (R452): it holds SAFE_N low in PARK (R76). -/
def Faults.anyLatched (f : Faults) : Bool :=
  f.all.any fun i => latchedCodes.contains i.code || ((i.code == 0x124 || i.code == 0x960) && i.high)

/-- Codes that a cold boot alone clears (R450): a warm resume raises them again. Those of the straps are found standing there. -/
def coldCodes : List Nat := [0x125, 0x210, 0x401, 0x402, 0x521, 0x614, 0x805]

/-- The pins of PARK and of a park check (Table 18-2); what the pin keeper did stays until the next boot (R454). -/
def State.parkPins (s : State) : State :=
  let safe := !s.flt.anyLatched && !s.own.cut && !s.flt.peerStopped
  { s with flt := { s.flt with
      safeN := safe
      pin := if safe then 0 else 7
      pinFrom := s.pace.round } }

/-- After a change that may raise the level or end a health condition: the pins take a higher level
at once, and SAFE_N falls at once, in RUN and GRACE (R451, R452); a park check keeps to Table 18-2. -/
def State.pinsUp (s : State) : State :=
  if s.sup.parkCheck then s.parkPins
  else if s.sup.dev == DevState.run || s.sup.dev == DevState.grace then
    let l := s.faultLevel
    let up := s.flt.pin.toNat < l.toNat
    { s with flt := { s.flt with
        pin := if up then l else s.flt.pin
        pinFrom := if up then (if s.now == s.pace.start then s.pace.round else s.pace.round + 1) else s.flt.pinFrom
        safeN := s.flt.safeN && s.healthy } }
  else s

/-- A log entry joins the queue that TC1 writes in the journal window (R414, R415). -/
def State.log (s : State) (kind : Nat) (payload : List Byte) : State :=
  { s with flt := { s.flt with
      logQueue := s.flt.logQueue ++ [LogEntry.mk (BitVec.ofNat 8 kind) 0 s.pace.round (s.now / 10) payload] } }

/-- The payload of a fault entry of the event log (Table 16-13, kinds 0x01 and 0x02). -/
def State.faultPayload (s : State) (i : FaultInst) : List Byte :=
  beBytes 2 i.code ++ [BitVec.ofNat 8 i.cls.level.toNat, BitVec.ofNat 8 s.seat] ++ beBytes 2 i.detail

/-- A listed raise is a fault event and a log entry (R448). -/
def State.reportRaise (s : State) (i : FaultInst) : State :=
  ({ s with flt := { s.flt with events := s.flt.events ++ [FaultEvent.mk i .raised] } }).log 1 (s.faultPayload i)

/-- A listed clear is a fault event and a log entry; when the raise has not been sent yet, the two
make one event of kind raised and cleared (R432, R448). -/
def State.reportClear (s : State) (i : FaultInst) : State :=
  let unsent := s.flt.events.any fun e => e.inst.same i && e.kind == FaultEventKind.raised
  let ev :=
    if unsent then
      updWhere (fun e => e.inst.same i && e.kind == FaultEventKind.raised) (fun e => { e with kind := .raisedAndCleared })
        s.flt.events
    else s.flt.events ++ [FaultEvent.mk i .cleared]
  ({ s with flt := { s.flt with events := ev } }).log 2 (s.faultPayload i)

/-- An instance of 0x542 for an unlisted code (R449). -/
def State.raiseOverflow (s : State) (code : Nat) : State :=
  if s.flt.overflow.contains code then s
  else ({ s with flt := { s.flt with overflow := s.flt.overflow ++ [code] } }).reportRaise ⟨0x542, code, false⟩

/-- Raise an instance (R448, R449): nothing when it stands already; listed while the table has a
place, otherwise unlisted with fault 0x542; the pins follow. -/
def State.raiseInst (s : State) (i : FaultInst) : State :=
  if s.flt.stands i.code i.detail then s
  else if s.flt.table.length < 256 then
    (({ s with flt := { s.flt with table := s.flt.table ++ [i] } }).reportRaise i).pinsUp
  else
    (({ s with flt := { s.flt with unlisted := s.flt.unlisted ++ [i] } }).raiseOverflow i.code).pinsUp

/-- Raise a fault of the lower, or the only, class of its code. -/
def State.raise (s : State) (code : Nat) (detail : Nat := 0) : State := s.raiseInst ⟨code, detail, false⟩

/-- Raise a fault of the higher class of a two-class code. -/
def State.raiseHigh (s : State) (code : Nat) (detail : Nat := 0) : State := s.raiseInst ⟨code, detail, true⟩

/-- Clear an instance: a listed one is reported, an unlisted one is not (R449). -/
def State.clear (s : State) (code : Nat) (detail : Nat := 0) : State :=
  let hit (i : FaultInst) : Bool := i.code == code && i.detail == detail
  match s.flt.table.find? hit with
  | some i =>
    ({ s with flt := { s.flt with table := s.flt.table.filter (fun j => !hit j) } }).reportClear i
  | none =>
    if code == 0x542 && s.flt.overflow.contains detail then
      ({ s with flt := { s.flt with overflow := s.flt.overflow.filter (fun c => !(c == detail)) } }).reportClear
        ⟨0x542, detail, false⟩
    else { s with flt := { s.flt with unlisted := s.flt.unlisted.filter (fun j => !hit j) } }

/-- Clear every instance of a code. -/
def State.clearAll (s : State) (code : Nat) : State :=
  ((s.flt.all.filter fun i => i.code == code).map (fun i => i.detail)).foldl (fun t d => t.clear code d) s

/-- Raise or clear by a condition. -/
def State.judge (s : State) (code detail : Nat) (cond : Bool) : State :=
  if cond then s.raise code detail else s.clear code detail

/-- Raise when the first condition holds, clear when the second does. -/
def State.judge2 (s : State) (code detail : Nat) (up down : Bool) : State :=
  if up then s.raise code detail else if down then s.clear code detail else s

/-- Raise a fault that clears after a number of rounds without its condition, counted from now. -/
def State.raiseFor (s : State) (code detail rounds : Nat) : State :=
  ({ s with flt := { s.flt with
      holds := FaultHold.mk code detail s.pace.round rounds ::
        s.flt.holds.filter fun h => !(h.code == code && h.detail == detail) } }).raise code detail

/-- Stitch 0: faults whose condition has been away for their number of whole rounds clear. -/
def State.holdsRound (s : State) : State :=
  let gone (h : FaultHold) : Bool := decide (h.last + h.rounds < s.pace.round)
  (s.flt.holds.filter gone).foldl (fun t h => t.clear h.code h.detail)
    { s with flt := { s.flt with holds := s.flt.holds.filter fun h => !gone h } }

/-- Stitch 0: FAULT[2:0] falls once the higher level has been shown for a whole round, and SAFE_N
rises where every condition of R452 holds (R451, R452). -/
def State.pinsRound (s : State) : State :=
  if s.sup.parkCheck then s.parkPins
  else if s.sup.dev == DevState.run || s.sup.dev == DevState.grace then
    let l := s.faultLevel
    let fall := l.toNat < s.flt.pin.toNat && s.flt.pinFrom < s.pace.round
    { s with flt := { s.flt with
        pin := if fall then l else s.flt.pin
        pinFrom := if fall then s.pace.round else s.flt.pinFrom
        safeN := s.healthy } }
  else s

/-- Pins outside RUN and GRACE (Table 18-2); a latched cut holds SAFE_N low (R30). -/
def State.setPins (s : State) (safe : Bool) (level : BitVec 3) : State :=
  { s with flt := { s.flt with safeN := safe && !s.own.cut, pin := level, pinFrom := s.pace.round } }

/-- Time does not run backwards: the crystal time of a command moves the time base on (R14). -/
def State.at (s : State) (t : Ns) : State := { s with now := max s.now t }

/-- The refill of the fault table at stitch 62 (R449): each free entry takes the instance unlisted for
longest, and its raise is reported then. -/
def State.refillTable : Nat → State → State
  | 0, s => s
  | n + 1, s =>
    match s.flt.unlisted with
    | [] => s
    | i :: rest =>
      if s.flt.table.length < 256 then
        State.refillTable n
          (({ s with flt := { s.flt with table := s.flt.table ++ [i], unlisted := rest } }).reportRaise i)
      else s

end Sys2Proof.Machine
end

