-- ==== Sys2Proof/Machine/PaceGrid.lean ====
section
/-!
DEFINITION. The pace PLL and the round grid (chapter 04): the ratio choice, the classification of
edges, acquisition, loss and holdover, and what the pace does at a stitch 0.

Everything here works on the `Pace` part of the state alone; the commands PACE_EDGE, PACE_LOSS,
HOLDOVER_END and ROUND_START call it. Lengths and periods are in picoseconds.
-/
namespace Sys2Proof.Machine

/-- The band of Table 2-8 in which a period lies (R83): 2–20 kHz, 200–1,200 Hz or 45–65 Hz. -/
def paceBand (ps : Nat) : Option PaceSource :=
  if 50000000 ≤ ps ∧ ps ≤ 500000000 then some .inverter
  else if 1000000000000 ≤ ps * 1200 ∧ ps ≤ 5000000000 then some .dc
  else if 1000000000000 ≤ ps * 65 ∧ ps * 45 ≤ 1000000000000 then some .mains
  else none

/-- The sources a level of RSEL_PACE admits (Table 2-8). -/
def paceAdmits (level : Nat) (src : PaceSource) : Bool :=
  match src with
  | .inverter => 1 ≤ level && level ≤ 8
  | .mains => level == 1 || level == 2 || level == 5 || level == 6
  | .dc => level == 1 || level == 2 || level == 7 || level == 8

/-- The round length a ratio gives at a period, as a fraction of picoseconds (R84). -/
def ratioLength (ps : Nat) (r : Ratio) : Nat × Nat :=
  match r.mode with
  | .divide => (r.n * ps, 1)
  | .multiply => (ps, r.n)

/-- The round length in whole picoseconds. -/
def ratioPs (ps : Nat) (r : Ratio) : Nat :=
  (ratioLength ps r).1 / (ratioLength ps r).2

/-- |log(L / 1.000 ms)| ordered without the logarithm: the larger of L / 1 ms and 1 ms / L. -/
def ratioScore (l : Nat × Nat) : Nat × Nat :=
  if 1000000000 * l.2 ≤ l.1 then (l.1, 1000000000 * l.2) else (1000000000 * l.2, l.1)

/-- One candidate is better than another under steps 2 and 3 of R84. -/
def ratioBetter (ps : Nat) (r q : Ratio) : Bool :=
  let a := ratioLength ps r
  let b := ratioLength ps q
  let x := ratioScore a
  let y := ratioScore b
  x.1 * y.2 < y.1 * x.2 || (x.1 * y.2 == y.1 * x.2 && b.1 * a.2 < a.1 * b.2)

/-- The candidates N = 1…63 and M = 2…63 of R84. -/
def ratioCandidates : List Ratio :=
  (List.range 63).map (fun i => Ratio.mk .divide (i + 1)) ++
  (List.range 62).map (fun i => Ratio.mk .multiply (i + 2))

/-- The ratio chosen for a period (R84), with PACE.round_min in microseconds. -/
def chooseRatio (roundMin ps : Nat) : Option Ratio :=
  (ratioCandidates.filter fun r =>
      let l := ratioLength ps r
      roundMin * 1000000 * l.2 ≤ l.1 && l.1 ≤ 2000000000 * l.2).foldl
    (fun best r =>
      match best with
      | none => some r
      | some q => if ratioBetter ps r q then some r else some q) none

/-- The round length lies within 0.70–1.43 ms (R85). -/
def ratioInBand (ps : Nat) (r : Ratio) : Bool :=
  let l := ratioLength ps r
  700000000 * l.2 ≤ l.1 && l.1 ≤ 1430000000 * l.2

/-- The spacing of the instants at which a new grid may have a snap: every pace period in divide
mode, every M-th of one in multiply mode (R87). -/
def snapSpacing (ps : Nat) (r : Ratio) : Nat :=
  match r.mode with
  | .divide => ps
  | .multiply => ps / r.n

/-- The first predicted snap of a grid at or after an instant, and its count from a snap at phase φ. The grid reaches back
before the reference by whole pace periods (R87). All in picoseconds. -/
def nextSnap (ref ps spacing at_ : Nat) : Nat × Nat :=
  let first := if at_ < ref then ref - (ref - at_ + (ps - 1)) / ps * ps else ref
  let j := (at_ - first + (spacing - 1)) / spacing
  (first + j * spacing, j)

/-- The phase index of the j-th snap after the one at φ (R87). -/
def snapPhase (r : Ratio) (j : Nat) : Nat :=
  match r.mode with
  | .divide => 0
  | .multiply => j % r.n

/-- The instant of phase φ after an active edge, in picoseconds; φ in 1/256 of the period (R87). -/
def snapRef (edge : Ns) (ps phi : Nat) : Nat := edge * 1000 + phi * ps / 256

namespace Pace

/-- Edges are judged against the PLL's prediction (R82): in TRACK, LOCK and TRANSITION, and after a
resumption from HOLD, until pace loss is declared. DESIGN CHOICE where the manual is silent: from the declaration on, edges of the
round in progress are judged as in HOLD and count toward acquisition; and a loss between a resumption and its first TRACK round
withdraws the resumption, so that the same holdover runs on. -/
def tracking (p : Pace) : Bool :=
  ((p.lock == .lock || p.lock == .track || p.lock == .transition) && !p.lossPending) || p.resumePending

/-- A bad edge is counted and restarts the count toward LOCK (R82, R96). -/
def badEdge (p : Pace) : Pace :=
  { p with badWindow := p.badWindow + 1, badRound := true,
           lockCount := if p.locked then p.lockCount else 0 }

/-- The phase error of a valid edge in picoseconds: its distance from the nearest edge the grid of
the present round predicts (R88). -/
def phaseError (p : Pace) (phi : Nat) (t : Ns) : Int :=
  let k := match p.ratio with
    | some ⟨.multiply, m⟩ => p.phase * p.periodPs / (if m = 0 then 1 else m)
    | _ => 0
  let edge0 : Int := (p.startPs : Int) - (phi * p.periodPs / 256 : Nat) - (k : Nat)
  let d := ((t : Int) * 1000 - edge0) % (p.periodPs : Int)
  if 2 * d ≤ p.periodPs then d else d - p.periodPs

/-- A valid edge in TRACK or LOCK counts toward LOCK, or takes LOCK away (R89, R96). -/
def lockEdge (p : Pace) (phi : Nat) (t : Ns) : Pace :=
  if p.lock == .track || p.lock == .lock then
    let e := p.phaseError phi t
    if -30000 ≤ e ∧ e ≤ 30000 then
      { p with lockCount := p.lockCount + 1, locked := p.locked || decide (4 ≤ p.lockCount + 1) }
    else { p with lockCount := 0, locked := false }
  else p

/-- An edge while the PLL tracks: valid within ±25 % of the predicted period (R82), if its frequency lies in an admitted band
(R46, R83). -/
def trackEdge (p : Pace) (admits : PaceSource → Bool) (phi : Nat) (t : Ns) : Pace :=
  match p.lastValid with
  | none => { p with lastValid := some t }
  | some v =>
    let d := (t - v) * 1000
    let admitted := match paceBand d with | some src => admits src | none => false
    if admitted = true ∧ 3 * p.periodPs ≤ 4 * d ∧ 4 * d ≤ 5 * p.periodPs then
      { (p.lockEdge phi t) with lastValid := some t }
    else p.badEdge

/-- R95, HOLD, resumable: from the snap of the new grid nearest the end of the present round on, every snap of it up to the end of
the eighth HOLD round lies within 1 µs of the held grid's, with the same phase index. -/
def resumable (p : Pace) (a : Acquired) (phi : Nat) : Bool :=
  p.source == some a.source && p.ratio == some a.ratio &&
  let len := ratioLength a.periodPs a.ratio
  let held := p.startPs + p.heldPs
  let up := nextSnap (snapRef a.edge a.periodPs phi) a.periodPs (snapSpacing a.periodPs a.ratio) (held - 1000000)
  (a.ratio.mode == PaceMode.divide || snapPhase a.ratio up.2 == (p.phase + 1) % a.ratio.n) &&
  (List.range (p.holdLeft + 1)).all fun i =>
    let x := up.1 + i * len.1 / len.2
    let y := held + i * p.heldPs
    decide (x ≤ y + 1000000) && decide (y ≤ x + 1000000)

/-- An acquisition in HOLD resumes the held grid where it may (R95). -/
def tryResume (p : Pace) (phi : PaceSource → Nat) : Pace :=
  match p.acquired with
  | some a =>
    if p.lock == .hold && !p.lossPending && p.resumable a (phi a.source) then
      { p with resumePending := true, acquired := none, acqCount := 0, acqSum := 0, periodPs := a.periodPs }
    else p
  | none => p

/-- Acquisition completes (R95): the ratio is chosen, the search run ends, and in HOLD the held grid
is resumed where it may be. -/
def complete (p : Pace) (roundMin : Nat) (phi : PaceSource → Nat) (src : PaceSource) (ps : Nat) (t : Ns) : Pace :=
  match chooseRatio roundMin ps with
  | none => p
  | some r =>
    { p with acquired := some ⟨src, r, ps, t⟩, searchFrom := none }.tryResume phi

/-- What a period or an edge that breaks an acquisition leaves (R95): its count starts afresh. One that completed in IDLE, or was
kept until the first IDLE round, stands until its TRANSITION round; before that it is discarded. -/
def breakAcq (p : Pace) : Pace :=
  if p.lock == .idle && p.acquired.isSome then p else { p with acqCount := 0, acqSum := 0, acquired := none }

/-- One more period in an admitted band (R95 step 1): counted when it lies within ±2 % of the
running mean of those before it, otherwise the first of a new count. DESIGN CHOICE: a search run (R102) starts at the edge that
ends its first period. -/
def acquire (p : Pace) (roundMin : Nat) (phi : PaceSource → Nat) (src : PaceSource) (d : Ns) (t : Ns) : Pace :=
  let searching := if p.acquired.isNone then
      { p with searchFrom := some (p.searchFrom.getD t), searchLast := t }
    else { p with searchLast := t }
  let near := p.acqSource == some src && 0 < p.acqCount &&
    49 * p.acqSum ≤ 50 * (d * p.acqCount) && 50 * (d * p.acqCount) ≤ 51 * p.acqSum
  if near then
    let n := p.acqCount + 1
    let sum := p.acqSum + d
    let q := { searching with acqCount := n, acqSum := sum, lastValid := some t }
    match p.acquired with
    | some a => { q with acquired := some { a with periodPs := sum * 1000 / n, edge := t } }
    | none => if n = 8 then q.complete roundMin phi src (sum * 1000 / n) t else q
  else
    let q := { searching.breakAcq with lastValid := some t }
    if q.acquired.isSome then q else { q with acqSource := some src, acqCount := 1, acqSum := d }

/-- An edge in IDLE or HOLD (R82, R83): valid when the period since the previous qualified edge lies
in an admitted band. -/
def searchEdge (p : Pace) (admits : PaceSource → Bool) (roundMin : Nat) (phi : PaceSource → Nat)
    (d : Ns) (t : Ns) : Pace :=
  match paceBand (d * 1000) with
  | some src =>
    if admits src then p.acquire roundMin phi src d t
    else p.badEdge.breakAcq
  | none => p.badEdge.breakAcq

/-- Consecutive periods in a band that RSEL_PACE does not admit (Table 4-6, 0x203). -/
def foreignPeriod (p : Pace) (admits : PaceSource → Bool) (d : Ns) : Pace :=
  match paceBand (d * 1000) with
  | some src => if admits src then { p with foreignRun := 0 }
      else { p with foreignRun := p.foreignRun + 1, foreignRound := p.round
                    foreignHit := p.foreignHit || decide (10 ≤ p.foreignRun + 1) }
  | none => { p with foreignRun := 0 }

/-- A qualified active edge on PACE_IN (R82): an opening edge, a valid edge or a bad edge. DESIGN CHOICE: an opening edge does not
break a run of periods in a band not admitted (R102, fault 0x203). -/
def edge (p : Pace) (admits : PaceSource → Bool) (roundMin : Nat) (phi : PaceSource → Nat) (t : Ns) : Pace :=
  match (if p.opening then none else p.lastQualified) with
  | none => { p.breakAcq with opening := false, lastQualified := some t }
  | some q =>
    if 25000000 ≤ t - q then
      { p.breakAcq with lastQualified := some t }
    else
      let p1 := { p with lastQualified := some t }
      let p2 := p1.foreignPeriod admits (t - q)
      if p.tracking then p2.trackEdge admits ((p.source.map phi).getD 0) t
      else p2.searchEdge admits roundMin phi (t - q) t

/-- Pace loss is due: no valid edge within 1.5 predicted periods of the last one (R93). -/
def lossDue (p : Pace) (t : Ns) : Bool :=
  p.tracking &&
  match p.lastValid with
  | none => true
  | some v => 3 * p.periodPs ≤ 2 * ((t - v) * 1000)

/-- Pace loss is declared: the PLL freezes, and the next edge opens a new measurement (R82, R93). -/
def declareLoss (p : Pace) : Pace :=
  { p with lossPending := true, resumePending := false, opening := true, acqCount := 0, acqSum := 0, acquired := none,
           ratioNext := none }

/-- The grid passes to the crystal idle pace (R93, R94). -/
def toIdle (p : Pace) : Pace :=
  { p with lock := .idle, source := none, ratio := none, phase := 0, lossPending := false,
           resumePending := false, ratioNext := none, locked := false, lockCount := 0, holdLeft := 0 }

/-- HOLDOVER_END (R93): the eighth HOLD round ends, and an IDLE or a TRANSITION round begins there. -/
def endHold (p : Pace) : Pace :=
  if p.lock == .hold && p.holdLeft == 0 && !p.resumePending then { p.toIdle with heldEnd := some (p.startPs + p.heldPs) } else p

/-- The TRANSITION round from an idle boundary B, when the acquired grid has a snap C with C − B in
the window of R95. -/
def transitionFrom (p : Pace) (roundMin : Nat) (phi : PaceSource → Nat) (b : Nat) : Option (Acquired × Nat × Nat) :=
  match p.acquired with
  | none => none
  | some a =>
    let c := nextSnap (snapRef a.edge a.periodPs (phi a.source)) a.periodPs (snapSpacing a.periodPs a.ratio) (b + roundMin * 1000000)
    if c.1 ≤ b + roundMin * 1000000 + 1000000000 then some (a, c.1, snapPhase a.ratio c.2) else none

/-- The pace status word of Table 4-3. -/
def statusWord (p : Pace) : BitVec 24 :=
  let state : Nat := match p.lock with
    | .lock => 0 | .track => 1 | .hold => 2 | .idle => 3 | .transition => 4
  let src : Nat := match p.source with
    | none => 0 | some .inverter => 1 | some .mains => 2 | some .dc => 3
  let mode : Nat := match p.ratio with | some ⟨.multiply, _⟩ => 1 | _ => 0
  let n : Nat := match p.ratio with | some r => r.n % 64 | none => 0
  BitVec.ofNat 24 (state + 8 * src + 32 * mode + 64 * n + 4096 * (p.phase % 64)
    + (if p.ratioChange then 262144 else 0) + (if p.badPrev then 524288 else 0))

/-- The length of the present round in picoseconds, as the grid predicts it: exactly 100,000 ticks on the idle pace, adjusted as
R368 allows; the frozen length in HOLD; up to the snap C in a TRANSITION round; the PLL's own in TRACK and LOCK. -/
def lengthPs (p : Pace) : Nat :=
  match p.lock with
  | .idle =>
    match p.heldEnd with
    | some b => b - p.startPs
    | none => (1000000000 + p.idleAdjust * 10000).toNat
  | .hold => p.heldPs
  | .transition => p.transEnd - p.startPs
  | .track | .lock => match p.ratio with | some r => ratioPs p.periodPs r | none => 1000000000

/-- The length of a stitch that the PLL forms in TRACK or LOCK (R86, R90): within 10 % of the predicted one, and within 10 % of
every other stitch of the round, or 0.1 % in LOCK. -/
def stitchLen (p : Pace) (d : Nat) : Nat :=
  let s := p.lengthPs / 64
  let k := if p.lock == .lock then 1001 else 1100
  let lo := max (s * 10 / 11) (if p.stitchMax = 0 then 0 else p.stitchMax * 1000 / k)
  let hi := min (s * 11 / 10) (if p.stitchMin = 0 then s * 11 / 10 else p.stitchMin * k / 1000)
  max (min lo hi) (min d hi)

/-- When the next stitch begins, in picoseconds (R90): an equal part of a round whose end is known; a frozen one once loss is
declared (R93); else where the PLL puts it, within the bounds of R86 and R90. -/
def nextStitch (p : Pace) (pll : Ns) : Nat :=
  match p.lock with
  | .hold | .idle | .transition => p.startPs + (p.stitch + 1) * p.lengthPs / 64
  | .track | .lock =>
    if p.lossPending then p.stitchPs + p.lengthPs / 64
    else p.stitchPs + p.stitchLen (pll * 1000 - p.stitchPs)

/-- The next stitch 0 in picoseconds: where the stitch in progress ends; a pace-derived round is held to 0.636–1.573 ms (R86). At a
resumption the PLL gives the instant, within 1 µs of the held grid's (R95); the holdover that has ended gives its own (R93). -/
def boundary (p : Pace) (pll : Ns) : Nat :=
  let e := p.startPs + p.lengthPs
  match p.lock with
  | .hold => if p.resumePending then max (e - 1000000) (min (pll * 1000) (e + 1000000)) else e
  | .transition | .idle => e
  | .track | .lock => max (p.startPs + 636000000) (min (p.nextStitch pll) (p.startPs + 1573000000))

/-- The next stitch of the round begins (R90). -/
def stepStitch (p : Pace) (pll : Ns) : Pace :=
  let b := p.nextStitch pll
  let d := b - p.stitchPs
  { p with
      stitch := p.stitch + 1, stitchPs := b, stitchAt := b / 1000
      stitchMin := if p.stitchMin = 0 then d else min p.stitchMin d
      stitchMax := max p.stitchMax d }

/-- The PLL's period, which may change by at most 10 % in one round (R86). -/
def clampPeriod (old new : Nat) : Nat :=
  if new * 11 < old * 10 then (old * 10 + 10) / 11
  else if old * 11 < new * 10 then old * 11 / 10 else new

/-- The ratio that is to follow the one in force at a period (R85): none within 0.70–1.43 ms, else the choice of R84. -/
def judgeRatio (roundMin ps : Nat) (cur : Ratio) : Option Ratio :=
  if ratioInBand ps cur then none
  else match chooseRatio roundMin ps with
    | some q => if q = cur then none else some q
    | none => none

/-- The first TRACK round of a new or resumed grid (R85, R86, R96): the ratio is judged here too. -/
def firstTrack (p : Pace) (roundMin periodPs : Nat) : Pace :=
  let ps := clampPeriod p.periodPs periodPs
  { p with
      lock := .track, resumePending := false, holdLeft := 0, locked := false, lockCount := 0, trackRounds := 0, periodPs := ps
      ratioNext := p.ratio.bind (judgeRatio roundMin ps) }

/-- A round of the pace grid in TRACK or LOCK: a waiting ratio takes effect where R85 lets it, and
the present ratio is judged. -/
def gridRound (p : Pace) (roundMin : Nat) (periodPs : Nat) : Pace :=
  match p.ratio with
  | none => p
  | some r =>
    let nextPhase := match r.mode with
      | .divide => 0
      | .multiply => (p.phase + 1) % r.n
    let ps := clampPeriod p.periodPs periodPs
    let take := match p.ratioNext with
      | some q => if r.mode == PaceMode.divide || nextPhase == 0 then some q else none
      | none => none
    let cur := take.getD r
    { p with lock := if p.locked then .lock else .track
             ratio := some cur
             phase := if take.isSome then 0 else nextPhase
             periodPs := ps
             ratioNext := judgeRatio roundMin ps cur }

/-- The state of the grid for the round that begins at a boundary (R91, R93, R95); an acquisition that completed in the round of the
loss is tried at the first HOLD round. -/
def enterRound (p : Pace) (roundMin : Nat) (phi : PaceSource → Nat) (periodPs b : Nat) : Pace :=
  let idleOrTransition (q : Pace) : Pace :=
    match q.transitionFrom roundMin phi b with
    | some (a, c, k) =>
      { q with lock := .transition, source := some a.source, ratio := some a.ratio, phase := 0,
               periodPs := a.periodPs, transEnd := c, transPhase := k, lastValid := some a.edge,
               acquired := none, acqCount := 0, acqSum := 0 }
    | none => q
  let advance (q : Pace) : Pace :=
    match q.ratio with
    | some ⟨.multiply, m⟩ => { q with phase := (q.phase + 1) % m }
    | _ => q
  let freeze (q : Pace) : Pace :=
    ({ q with
      lock := .hold, holdLeft := 7, lossPending := false, locked := false, lockCount := 0, startPs := b
      heldPs := (match p.ratio with | some r => ratioPs p.periodPs r | none => 1000000000) } : Pace).tryResume phi
  match p.lock with
  | .idle => idleOrTransition p
  | .hold =>
    if p.resumePending then
      (advance p).firstTrack roundMin periodPs
    else if p.holdLeft = 0 then idleOrTransition p.toIdle
    else { (advance p) with holdLeft := p.holdLeft - 1 }
  | .transition =>
    let q := { p with phase := p.transPhase, locked := false, lockCount := 0, trackRounds := 0 }
    if p.lossPending then
      freeze q
    else q.firstTrack roundMin periodPs
  | .track | .lock =>
    if p.lossPending then freeze (advance p)
    else p.gridRound roundMin periodPs

/-- Stitch 0 of a new round (R91, R92, R97, R98), where 1,000 TRACK rounds in succession are counted with the one that begins (fault
0x204, DESIGN CHOICE): the grid moves on, the round number increments,
the snap is stamped, and the pace status word is fixed. -/
def startRound (p : Pace) (roundMin : Nat) (phi : PaceSource → Nat) (pll : Ns) (periodPs : Nat) : Pace :=
  let b := p.boundary pll
  let q := p.enterRound roundMin phi periodPs b
  let n (r : Option Ratio) : Nat := match r with | some x => x.n | none => 0
  let q1 := { q with
    ratioChange := !(n q.ratio == 0) && !(n q.ratio == p.word.toNat / 64 % 64) && !(q.lock == Lock.idle) && !(q.lock == Lock.hold)
    badPrev := p.badRound
    badRound := false
    round := p.round + 1
    stitch := 0
    startPs := b
    start := b / 1000
    prevStart := p.start
    dt := b / 10000 - p.start / 10
    stitchAt := b / 1000
    stitchPs := b
    stitchMin := 0
    stitchMax := 0
    idleAdjust := 0
    heldEnd := none
    trackRounds := if q.lock == Lock.track then q.trackRounds + 1 else 0 }
  { q1 with word := q1.statusWord, wordPrev := p.word }

end Pace

end Sys2Proof.Machine
end

