-- ==== Sys2Proof/Machine/ThreadOps.lean ====
section
/-!
DEFINITION. Operations on threads (chapter 05): which ring and end a port is, frame validity and
encoding, violations, the acceptance of a READ, acknowledgement, and the choice of commands.
-/
namespace Sys2Proof.Machine

/-! ### Rings, ends and nodes -/

/-- Detail values of Table 17-5. -/
def portDetail (p : Nat) : Nat := 0x2000 + p
@[inherit_doc portDetail] def nodeDetail (id : NodeId) : Nat := 0x2100 + id
@[inherit_doc portDetail] def linkDetail (ring link : Nat) : Nat := 0x3000 + 64 * ring + link

/-- The port of a node's ring and its position (R10). -/
def nodePort (id : NodeId) : Nat := id / 32
@[inherit_doc nodePort] def nodePos (id : NodeId) : Nat := id % 32
@[inherit_doc nodePort] def nodeId (port pos : Nat) : NodeId := 32 * port + pos

/-- The pattern's ring of a name. -/
def State.patRing (s : State) (port : Nat) : Option PatRing :=
  match s.img.variant with
  | none => none
  | some v => v.rings.find? fun r => r.port == port

/-- The number of nodes of a ring. -/
def State.ringLen (s : State) (port : Nat) : Nat := ((s.patRing port).map fun r => r.nodes.length).getD 0

/-- The pattern's entry for a node. -/
def State.patNode (s : State) (id : NodeId) : Option PatNode :=
  match s.patRing (nodePort id) with
  | none => none
  | some r => r.nodes[nodePos id]?

/-- This seat is attached to the threads: S0, and S1 in a two-seat configuration (R103, R140). -/
def State.attached (s : State) : Bool :=
  match s.img.variant with
  | none => false
  | some v => s.seat == 0 || (s.seat == 1 && v.twoSeats)

/-- The ring and the end of it that a port of a seat is (R103, R104). -/
def State.portEndAt (s : State) (seat port : Nat) : Option (Nat × RingEnd) :=
  match s.img.variant with
  | none => none
  | some v =>
    if v.twoSeats then
      if v.rings.any (fun r => r.port == port) then
        if seat == 0 then some (port, .a) else if seat == 1 then some (port, .b) else none
      else none
    else if seat == 0 then
      if port % 2 == 0 then (if v.rings.any (fun r => r.port == port) then some (port, .a) else none)
      else (if v.rings.any (fun r => r.port == port - 1) then some (port - 1, .b) else none)
    else none

/-- The ring and the end of it that a port of this device is. -/
def State.portEnd (s : State) (port : Nat) : Option (Nat × RingEnd) := s.portEndAt s.seat port

/-- The pattern has two attached seats. -/
def State.twoSeats (s : State) : Bool := (s.img.variant.map fun v => v.twoSeats).getD false

/-- The head end of every ring: the end at the owner; the A end with one attached seat (R105). -/
def State.headEnd (s : State) : RingEnd :=
  if s.twoSeats then (if (s.seat == 1) == s.acts then .b else .a) else .a

/-- This device is the head of its rings (R105, R106). -/
def State.isHead (s : State) : Bool := s.attached && s.acts

/-- A test window keeps the ring's rounds stopped until its last interval has ended (R152). -/
def Ring.inWindow (r : Ring) : Bool :=
  match r.test with
  | some t => t.closeRound.isNone
  | none => false

/-- The thread domain of a port is on: P4 for T0–T3, P5 for T4–T7. -/
def State.threadOn (s : State) (port : Nat) : Bool := s.domainOn (if port < 4 then 4 else 5)

def State.ring (s : State) (port : Nat) : Option Ring := s.thr.rings.find? fun r => r.port == port
def State.node (s : State) (id : NodeId) : Option Node := s.thr.nodes.find? fun n => n.id == id

def State.updRing (s : State) (port : Nat) (f : Ring → Ring) : State :=
  { s with thr := { s.thr with rings := updWhere (fun r => r.port == port) f s.thr.rings } }
def State.updNode (s : State) (id : NodeId) (f : Node → Node) : State :=
  { s with thr := { s.thr with nodes := updWhere (fun n => n.id == id) f s.thr.nodes } }
def State.updPort (s : State) (port : Nat) (f : PortRx → PortRx) : State :=
  { s with thr := { s.thr with ports := updWhere (fun p => p.port == port) f s.thr.ports } }

/-- A link is mapped out (R158). -/
def State.mappedOut (s : State) (ring link : Nat) : Bool :=
  s.nv.mapOuts.any fun m => m.1 == ring && m.2.1 == link

/-- A frame between a node and an end would cross a mapped-out link (R151, R158): from the A end it
crosses links 0 to its position, from the B end the links above its position. -/
def State.blocked (s : State) (ring pos : Nat) (e : RingEnd) : Bool :=
  s.nv.mapOuts.any fun m => m.1 == ring &&
    match e with
    | .a => decide (m.2.1 ≤ pos)
    | .b => decide (pos < m.2.1)

/-- A link of the ring is mapped out: no frame passes from one end to the other (R158). -/
def State.split (s : State) (ring : Nat) : Bool := s.nv.mapOuts.any fun m => m.1 == ring

/-- A node between two mapped-out links: no frame passes between it and either end (R158). -/
def State.isolated (s : State) (id : NodeId) : Bool :=
  s.blocked (nodePort id) (nodePos id) .a && s.blocked (nodePort id) (nodePos id) .b

/-- A node is reachable only from the tail: its latest READ was sampled on the tail's SNAP, or a
mapped-out link lies between it and the head (R106, R158). -/
def State.fromTail (s : State) (n : Node) : Bool :=
  s.blocked (nodePort n.id) (nodePos n.id) s.headEnd ||
  (n.sampleRound.isSome && n.snapEndB == (s.headEnd == RingEnd.a))

/-! ### Frames -/

/-- The control code groups of Table 5-1 that start and end frames. -/
def sofS : CodeGroup := .k 28 6
@[inherit_doc sofS] def sofC : CodeGroup := .k 28 2
@[inherit_doc sofS] def sofN : CodeGroup := .k 27 7
@[inherit_doc sofS] def eof : CodeGroup := .k 29 7
@[inherit_doc sofS] def abort : CodeGroup := .k 30 7

/-- Every K-character of a thread: K28.5 of the idles, the start and end code groups, the token K28.3, the abort, and K28.4 of /B/
(Table 5-1). -/
def threadKs : List CodeGroup := [.k 28 5, sofS, sofC, sofN, eof, .k 28 3, abort, .k 28 4]

/-- A code group is a code violation: none that the code has, or a K-character that Table 5-1 does not list (R108). -/
def CodeGroup.violates : CodeGroup → Bool
  | .bad => true
  | .d _ => false
  | .k x y => !threadKs.contains (.k x y)

/-- The byte a data code group carries. -/
def CodeGroup.byte : CodeGroup → Option Byte
  | .d b => some b
  | _ => none

/-- The bytes between the start code group and EOF. -/
def rxBytes (x : ThreadRx) : List Byte := ((x.groups.drop 1).dropLast).filterMap CodeGroup.byte

/-- A code violation fell in the frame (R108). -/
def rxViolated (x : ThreadRx) : Bool := x.groups.any CodeGroup.violates

/-- The frame begins with a start code group, ends with EOF, and has data code groups alone between (R110). -/
def rxFramed (sof : CodeGroup) (x : ThreadRx) : Bool :=
  x.groups.head? == some sof && x.groups.getLast? == some eof && decide ((rxBytes x).length + 2 = x.groups.length)

/-- The CRC-24 in the last three bytes is right (R109). -/
def crcRight (l : List Byte) : Bool :=
  decide (4 ≤ l.length) && crc24 (l.take (l.length - 3)) == beNat (l.drop (l.length - 3))

/-- A frame with a start code group is valid at a length (R110), in bytes between that and EOF. -/
def frameValid (sof : CodeGroup) (x : ThreadRx) (n : Nat) : Bool :=
  rxFramed sof x && (rxBytes x).length == n && crcRight (rxBytes x)

/-- A received node frame is valid at a length (R110). -/
def rxValid (x : ThreadRx) (n : Nat) : Bool := frameValid sofN x n

/-- SNAP is valid: its CRC covers bytes 0 and 2–5 (Table 5-2). -/
def snapValid (x : ThreadRx) : Bool :=
  let l := rxBytes x
  rxFramed sofS x && l.length == 9 && crc24 (l.take 1 ++ (l.drop 2).take 4) == beNat (l.drop 6)

/-- A frame counts toward the port's errors (R134): a code violation, or a complete frame whose CRC fails; one that /A/ ended does
not. `crcOk` is the CRC test of its kind. -/
def countsAsError (sof : CodeGroup) (x : ThreadRx) (crcOk : Bool) : Bool := rxViolated x || (rxFramed sof x && !crcOk)

/-- The byte at an offset. -/
def byteAt (l : List Byte) (i : Nat) : Nat := (l.getD i 0).toNat

/-- SNAP as sent (Table 5-2): hops 0, the round number's low 16 bits, and a violation report. -/
def snapFrame (e : RingEnd) (round : Round) (nak : Option (Nat × Nat)) : List Byte :=
  let b0 : Byte := if e == RingEnd.a then 0 else 128
  let rest := beBytes 2 (round % 65536) ++
    (match nak with
     | some (pos, code) => [BitVec.ofNat 8 (pos % 64), BitVec.ofNat 8 code]
     | none => [63, 0])
  [b0, 0] ++ rest ++ beBytes 3 (crc24 (b0 :: rest))

/-- Type and body of a command (Table 5-5, R123). -/
def cmdBytes : CmdBody → List Byte × List Byte
  | .bal m h => ([1], beBytes 2 m.toNat ++ beBytes 1 h)
  | .conf i v => ([2], beBytes 1 i ++ beBytes 4 v)
  | .ident => ([3], [])
  | .echo tag => ([4], beBytes 2 tag)
  | .bert side d => ([5], [if side == RingEnd.a then 0 else 1] ++ beBytes 2 d)

/-- A command frame between SOF_C and EOF (R122); the address 0x3F is for every node. No rule makes the device broadcast a
command, and the model's never does. -/
def cmdFrame (addr : Nat) (c : Cmd) : List Byte :=
  let b := cmdBytes c.body
  let h := [BitVec.ofNat 8 (addr % 64)] ++ b.1 ++ [BitVec.ofNat 8 c.seq, BitVec.ofNat 8 (c.epoch % 16)] ++ b.2
  h ++ beBytes 3 (crc24 h)

/-- The length of a command in code groups (R122). -/
def CmdBody.codeGroups : CmdBody → Nat
  | .bal _ _ => 12
  | .conf _ _ => 14
  | .ident => 9
  | .echo _ => 11
  | .bert _ _ => 12

/-! ### The schedule -/

/-- A ring of k nodes fits a round of that length, with an allowance added (R120, R121), in ns. -/
def ringFits (k extraNs lengthPs : Nat) : Bool :=
  decide ((11955 * k + 705 + extraNs) * 1000 * 8 ≤ lengthPs * 5)

/-- The present round is a command round for a ring of k nodes (R121). -/
def State.commandRound (s : State) (k : Nat) : Bool := ringFits k 14000 s.pace.lengthPs

/-! ### Violations (R133, R134) -/

/-- A violation is counted against a node and queued for the next SNAP of its ring; at the
quarantine count the node is quarantined from the next round. -/
def State.violate (s : State) (id : NodeId) (code : Nat) : State :=
  match s.node id with
  | none => s
  | some n =>
    let s1 := (s.updNode id fun n => { n with violations := n.violations + 1 }).updRing (nodePort id)
      fun r => { r with naks := r.naks ++ [(nodePos id, code)] }
    if s.img.f.thread.quarantineCount ≤ n.violations + 1 && !n.quarantined && !n.quarNext then
      (s1.updNode id fun n => { n with quarNext := true }).raise 0x306 (nodeDetail id)
    else s1

/-- A CRC failure or code violation is counted at the port (R134). -/
def State.portError (s : State) (port : Nat) : State :=
  let s1 := s.updPort port fun p => { p with crc := p.crc + 1 }
  match s1.thr.ports.find? fun p => p.port == port with
  | some p => if s.img.f.thread.crcLimit < p.crc then s1.raise 0x309 (portDetail port) else s1
  | none => s1

/-! ### CONF (R124, Table 5-6) -/

/-- The value the owner writes for a CONF item; none while a compensation is not yet measured. -/
def State.confValue (s : State) (n : Node) (item : Nat) : Option Nat :=
  match item with
  | 1 => n.compA
  | 2 => n.compB
  | 3 => some (s.ringLen (nodePort n.id))
  | 4 => some (10 * s.img.f.thread.ov)
  | 5 => some (10 * s.img.f.thread.uv)
  | 6 => some s.img.f.thread.persist
  | 7 => some (((s.patNode n.id).map fun p => p.groups).getD 16)
  | 8 => some (((s.patNode n.id).map fun p => p.temps).getD 8)
  | 9 => some s.img.f.thread.balTMax
  | _ => none

/-- Every CONF item of Table 5-6. -/
def confItems : List Nat := [1, 2, 3, 4, 5, 6, 7, 8, 9]

/-- Every CONF item has been accepted since the node's last epoch change (R125). -/
def Node.configured (n : Node) : Bool := confItems.all fun i => n.confAccepted.contains i

/-- A valid command frame's position, number and, for CONF, item (Table 5-5, R123); none for a broadcast. -/
def cmdRecord (l : List Byte) : Option (Nat × Nat × Option Nat) :=
  if crcRight l ∧ byteAt l 0 < 32 then some (byteAt l 0, byteAt l 2, if byteAt l 1 = 2 ∧ l.length = 12 then some (byteAt l 4) else none)
  else none

/-- A port records the number of a CONF frame that it transmits, or receives in the outbound flow (R322); any other command to the
node with that number takes it over. -/
def State.recordConf (s : State) (port : Nat) (l : List Byte) : State :=
  match cmdRecord l with
  | some (pos, seq, some item) => s.updNode (nodeId port pos) fun n => { n with confSent := insertKey seq item n.confSent }
  | some (pos, seq, none) => s.updNode (nodeId port pos) fun n => { n with confSent := eraseKey seq n.confSent }
  | none => s

/-- A READ that carries the number of a recorded CONF with resp_code 0x00 marks its item accepted (R125, R322). -/
def Node.markConf (n : Node) (seq code : Nat) : Node :=
  match lookupKey seq n.confSent with
  | some i => if code = 0 && !n.confAccepted.contains i then { n with confAccepted := n.confAccepted ++ [i] } else n
  | none => n

/-! ### Acknowledgement (R131) -/

/-- Commands of one kind replace each other: every command is absolute (R131). -/
def CmdBody.sameKey : CmdBody → CmdBody → Bool
  | .bal _ _, .bal _ _ => true
  | .conf i _, .conf j _ => i == j
  | .ident, .ident => true
  | _, _ => false

/-- The unacknowledged commands of a node. -/
def Node.unacked (n : Node) : List Cmd := n.identCmd.toList ++ n.cmd.toList ++ n.spent

/-- Replace one unacknowledged command, or drop it. -/
def Node.setCmd (n : Node) (c : Cmd) (d : Option Cmd) : Node :=
  if n.identCmd = some c then { n with identCmd := d }
  else if n.cmd = some c then { n with cmd := d }
  else { n with spent := n.spent.flatMap fun x => if x = c then d.toList else [x] }

/-- A command is no longer held unacknowledged; fault 0x302 clears with the last one for which it stands (R131). -/
def State.dropCmd (s : State) (n : Node) (c : Cmd) : State :=
  let s1 := s.updNode n.id fun m => m.setCmd c none
  if c.faulted && !((n.setCmd c none).unacked.any fun x => x.faulted) then s1.clear 0x302 (nodeDetail n.id) else s1

/-- This device no longer sends the node commands: nothing is held unacknowledged, and fault 0x302 clears. -/
def State.dropCmds (s : State) (n : Node) : State :=
  let s1 := s.updNode n.id fun m => { m with cmd := none, identCmd := none, spent := [] }
  if n.unacked.any fun c => c.faulted then s1.clear 0x302 (nodeDetail n.id) else s1

/-- resp_seq has changed although no command was sent to the node since the READ before; commands that pass by the tail take up
to two rounds more (Table 5-8, 0x25). The pair of R130 for "no command yet" is no such change. -/
def State.respCheck (s : State) (id : NodeId) (seq code : Nat) : State :=
  match s.node id with
  | none => s
  | some n =>
    let unsent := match n.respRound, n.lastSent with
      | some r, some q => decide (q + 2 < r)
      | some _, none => true
      | none, _ => false
    if code != 255 && seq != n.respSeq && unsent then s.violate id 0x25 else s

/-- A NAK on which the owner does not retransmit and counts violation 0x2C (R131). -/
def nakInvalid (code : Nat) : Bool := code == 1 || code == 2 || code == 3 || code == 4 || code == 7

/-- What an accepted READ's response pair does to the node's unacknowledged commands (R131), and to an ECHO or BERT request, whose
repetition R149 and R152 give. The content of a quarantined node's READ is discarded (R134). NAK 0x09 tells that the node will have
to adopt its position: every CONF item is written again (R124, DEDUCED). DESIGN CHOICE: a reserved code of Table 5-8 ends the
command without retransmission, violation or fault. -/
def State.ackCheck (s : State) (id : NodeId) (seq code epoch : Nat) : State :=
  match s.node id with
  | none => s
  | some n =>
    if n.quarantined || code == 255 then s
    else
      match n.unacked.find? fun c => c.seq == seq && decide (c.sentRound < s.pace.round) with
      | none =>
        if n.requests.contains seq && nakInvalid code then
          (s.updNode id fun n => { n with requests := n.requests.filter fun q => !(q == seq) }).violate id 0x2C
        else s
      | some c =>
        if code == 0 then
          let s1 := match c.body with
            | .bal m h => s.updNode id fun n => { n with balAck := some (m, h, c.sentRound) }
            | _ => s
          s1.dropCmd n c
        else if code == 5 then
          s.updNode id fun n => n.setCmd c (some { c with due := true, free := true, epoch := epoch })
        else if code == 8 || code == 9 then
          let s1 := if code == 9 then s.updNode id fun n => { n with confDue := confItems, balDue := true } else s
          if c.retries < s.img.f.thread.cmdRetries then s1.updNode id fun n => n.setCmd c (some { c with due := true }) else s1
        else
          let s1 := s.dropCmd n c
          if nakInvalid code then s1.violate id 0x2C else s1

/-! ### Acceptance of a READ (R118, R119, R138, R162) -/

/-- Byte 0 without the snap end, as R119 compares the copies. -/
def readBody (l : List Byte) : List Byte :=
  match l with
  | [] => []
  | b :: rest => (b &&& 0xDF#8) :: rest

/-- The sixteen group voltages of a READ, 100 µV, 0xFFFF for no value (Table 5-3). -/
def readVolts (l : List Byte) : List Nat :=
  (List.range 16).map fun g => byteAt l (7 + 2 * g) * 256 + byteAt l (8 + 2 * g)

/-- Set an entry of a list of eight. -/
def setEight {α : Type} (l : List (Option α)) (i : Nat) (v : α) : List (Option α) :=
  (List.range 8).map fun j => if j = i then some v else (l.getD j none)

/-- An epoch differs from the last one accepted: the samples are flagged, every CONF item and the
present BAL are due, and IDENT is due (R138). A change without an absence is violation 0x2A. -/
def State.epochCheck (s : State) (id : NodeId) (e : Nat) : State :=
  match s.node id with
  | none => s
  | some n =>
    match n.lastEpoch with
    | none => s.updNode id fun n => { n with epoch := some e, lastEpoch := some e }
    | some e0 =>
      if e = e0 then s.updNode id fun n => { n with epoch := some e }
      else
        let s1 := s.updNode id fun n =>
          { n with epoch := some e, lastEpoch := some e, resetRound := some s.pace.round, confAccepted := [], confSent := []
                   confDue := confItems, balDue := true, identDue := true, newEpoch := true, addrReported := none }
        if n.missed = 0 then s1.violate id 0x2A else s1

/-- The samples and the temperature of an accepted READ (R125, R134, R182). DESIGN CHOICE: violation 0x24 is judged against the
pattern's TEMPS even while the node may still hold its reset value. -/
def State.takeSamples (s : State) (id : NodeId) (l : List Byte) : State :=
  let idx := byteAt l 2 % 8
  let temps := ((s.patNode id).map fun p => p.temps).getD 8
  let s1 := s.updNode id fun n =>
    if n.quarantined then n
    else
      { n with
        sampleRound := some s.pace.round
        snapEndB := decide (byteAt l 0 / 32 % 2 = 1)
        volts := readVolts l
        limit := BitVec.ofNat 16 (byteAt l 5 * 256 + byteAt l 6)
        balOn := decide (byteAt l 2 / 8 % 2 = 1)
        temps := setEight n.temps idx ⟨byteAt l 39, s.pace.round, s.pace.start⟩ }
  if idx = s.pace.round % temps then s1 else s1.violate id 0x24

/-- The pair a READ reports is kept. Until this device sends the node a command as owner, the counters follow the numbers reported,
from which a new owner continues; with none since the last epoch change they start at 0 (R129). -/
def State.reported (s : State) (id : NodeId) (seq code : Nat) : State :=
  let addr := code != 255 && decide (seq < 128)
  let s1 := s.updNode id fun n =>
    let rep := if addr then some seq else n.addrReported
    { n with respSeq := seq, respCode := code, respRound := some s.pace.round, addrReported := rep,
             seqCtr := if n.ownSent then n.seqCtr else rep.getD 0 }
  if code != 255 && 128 ≤ seq then
    s1.updRing (nodePort id) fun r =>
      { r with bcReported := some (seq - 128), bcCtr := seq - 128 }
  else s1

/-- A READ that stands (R119): no copy differs from it. Its node is heard in this round, and its fields take effect. A node that comes
back after it was lost, or was classed MISSING, may have adopted its position anew: every CONF item is written again (R124, DEDUCED). -/
def State.settleRead (s : State) (id : NodeId) (l : List Byte) : State :=
  match s.node id with
  | none => s
  | some n =>
    let back := decide (0 < n.missed) && (n.cls == NodeClass.missing || n.lost)
    let s1 := s.epochCheck id (byteAt l 2 / 16)
    let s2 := s1.updNode id fun m =>
      { m with
          heard := true, good := m.good + 1, missed := 0
          cls := if back && m.cls == NodeClass.missing then .unknown else m.cls
          identDue := m.identDue || (back && n.cls == NodeClass.missing)
          confDue := if back then confItems else m.confDue
          balDue := m.balDue || back }
    let s3 := s2.clear 0x407 (nodeDetail id)
    let s4 := ((s3.respCheck id (byteAt l 3) (byteAt l 4)).updNode id fun n => n.markConf (byteAt l 3) (byteAt l 4)).ackCheck id
      (byteAt l 3) (byteAt l 4) (byteAt l 2 / 16)
    let s5 := s4.reported id (byteAt l 3) (byteAt l 4)
    let s6 := s5.takeSamples id l
    -- samples are used from the first accepted READ (R162); fault 0x301 clears with the third in succession
    let s7 := s6.updNode id fun n => { n with lost := false }
    match s7.node id with
    | some m => if 3 ≤ m.good then s7.clear 0x301 (nodeDetail id) else s7
    | none => s7

/-- Bytes 0–39 of a READ that passed R118, received or relayed at one end of the ring (R119, R382). It is held until the other copy
has come or can come no more (`settleReads`); copies that differ are both discarded, without any effect of their fields. A copy that
comes after the first has been used and differs takes the samples back. -/
def State.acceptRead (s : State) (id : NodeId) (e : RingEnd) (l : List Byte) : State :=
  match s.node id with
  | none => s
  | some n =>
    let other := if e == RingEnd.a then n.copyB else n.copyA
    let s1 := s.updNode id fun n => if e == RingEnd.a then { n with copyA := some l } else { n with copyB := some l }
    match other with
    | some o =>
      if readBody o == readBody l then (if n.heard || n.differed then s1 else s1.settleRead id l)
      else
        (s1.updNode id fun n =>
          { n with differed := true, heard := false,
                   sampleRound := if n.sampleRound = some s.pace.round then none else n.sampleRound,
                   limit := if n.sampleRound = some s.pace.round then 0 else n.limit }).violate id 0x2B
    | none => s1

/-- The READs of which one copy has come are used once the other can come no more: from stitch 43 on (R118, R382), or when the pack
checks take them. -/
def State.settleReads (s : State) : State :=
  s.thr.nodes.foldl (fun u n =>
    if n.heard || n.differed then u
    else match n.copyA, n.copyB with
      | some l, _ => u.settleRead n.id l
      | none, some l => u.settleRead n.id l
      | none, none => u) s

/-- A position agrees with the order at the receiving end (R118): READs reach the A end from the
highest position down, and the B end from the lowest up. -/
def inOrder (e : RingEnd) (last : Option Nat) (pos : Nat) : Bool :=
  match last with
  | none => true
  | some q => match e with
    | .a => decide (pos < q)
    | .b => decide (q < pos)

/-! ### Commands (R121–R131) -/

/-- A new addressed command: the counter moves on, modulo 128 (R129), with the epoch of R122. It takes the place of one of the
same kind whose retries are spent, and fault 0x302 stands for it then. -/
def Node.newCmd (n : Node) (b : CmdBody) (round : Round) : Node :=
  let q := (n.seqCtr + 1) % 128
  let c : Cmd := { body := b, seq := q, epoch := n.epoch.getD 15, sentRound := round, retries := 0, due := true, free := true
                   faulted := n.unacked.any fun c => c.faulted && c.body.sameKey b }
  { n with seqCtr := q, ownSent := true,
           cmd := if b == CmdBody.ident then n.cmd else some c, identCmd := if b == CmdBody.ident then some c else n.identCmd,
           spent := n.spent.filter fun c => !c.body.sameKey b }

/-- The next CONF due for a node: none in a turn to one that is MISSING or lost (R144, step 6). -/
def State.nextConf (s : State) (n : Node) : Option CmdBody :=
  if s.pat.turn.isSome && n.lost then none
  else match n.confDue.find? fun i => (s.confValue n i).isSome with
    | some i => (s.confValue n i).map fun v => CmdBody.conf i v
    | none => none

/-- The next command due for a node, where none of its kind is outstanding: IDENT, or CONF, then BAL, which goes to every node
(R124). -/
def State.nextCmd (s : State) (n : Node) (identFree : Bool) : Option CmdBody :=
  if identFree then (if n.identDue then some .ident else none)
  else
    match s.nextConf n with
    | some b => some b
    | none =>
      if n.balDue then some (.bal n.balMap s.img.f.thread.balHold) else none

/-- After a command is taken for sending: what was due no longer is. -/
def Node.taken (n : Node) (b : CmdBody) (round : Round) : Node :=
  match b with
  | .ident => { n with identDue := false, identSent := some round }
  | .conf i _ => { n with confDue := n.confDue.filter fun j => !(j == i) }
  | .bal _ _ => { n with balDue := false, balRound := some round }
  | _ => n

/-- The choice of a ring's commands so far: budget left in code groups, whether an IDENT may still be sent, and the frames, by
the end they leave from. -/
structure CmdPick where
  budget : Nat
  identFree : Bool
  frames : List (List Byte)
  viaTail : List (List Byte)
  state : State

/-- A command still fits: one IDENT per ring per round, within 36 code groups (R121, R144). -/
def CmdPick.fits (p : CmdPick) (b : CmdBody) : Bool :=
  decide (b.codeGroups ≤ p.budget) && (p.identFree || !(b == CmdBody.ident))

/-- Send an outstanding command of a node, with the epoch as it is known now (R122); one that passes by the tail leaves in the next
round (R383). -/
def CmdPick.send (p : CmdPick) (n : Node) (c : Cmd) : CmdPick :=
  let tail := p.state.fromTail n
  let round := p.state.pace.round + (if tail then 1 else 0)
  let c1 := { c with due := false, free := false, sentRound := round, epoch := n.epoch.getD 15,
                     retries := if c.free then c.retries else c.retries + 1 }
  let f := cmdFrame (nodePos n.id) c1
  let s1 := (p.state.updNode n.id fun m => { m.setCmd c (some c1) with lastSent := some round }).recordConf
    (nodePort n.id) f
  { budget := p.budget - c.body.codeGroups, identFree := p.identFree && !(c.body == CmdBody.ident)
    frames := if tail then p.frames else p.frames ++ [f]
    viaTail := if tail then p.viaTail ++ [f] else p.viaTail, state := s1 }

/-- One node in the choice of a ring's commands, IDENTs alone or the rest. A quarantined node is sent none, nor is one
between two mapped-out links, and one classed MISSING none but the IDENT in rotation while it is heard (R134, R144, R162). -/
def CmdPick.visit (ident : Bool) (p : CmdPick) (id : NodeId) : CmdPick :=
  match p.state.node id with
  | none => p
  | some n =>
    let takes (b : CmdBody) : Bool := (b == CmdBody.ident) == ident && p.fits b
    let silent := n.cls == NodeClass.missing && !(ident && p.state.pat.turn.isNone && n.epoch.isSome)
    if n.quarantined || silent || p.state.isolated id then p
    else
      match (if ident then n.identCmd else n.cmd) with
      | some c => if c.due && takes c.body then p.send n c else p
      | none =>
        match n.spent.find? fun c => c.due && takes c.body with
        | some c => p.send n c
        | none =>
          match p.state.nextCmd n ident with
          | none => p
          | some b =>
            if !takes b then p
            else
              let n1 := (n.newCmd b p.state.pace.round).taken b p.state.pace.round
              match (if ident then n1.identCmd else n1.cmd) with
              | none => p
              | some c => ({ p with state := p.state.updNode id fun _ => n1 } : CmdPick).send n1 c

/-- The commands of a command round for one ring (R121): the round's IDENT, then CONF and BAL, which fit in pairs, or one
beside the IDENT (R144, step 5). The node that is next in turn for an IDENT is left free for it. -/
def State.pickCommands (s : State) (port : Nat) : CmdPick :=
  let ids := (List.range (s.ringLen port)).map fun j => nodeId port j
  let p := ids.foldl (CmdPick.visit true) ⟨36, true, [], [], s⟩
  let next := ids.find? fun id => ((p.state.node id).map fun n => n.identDue).getD false
  (ids.filter fun id => !(next == some id)).foldl (CmdPick.visit false) p

/-- The first three rounds of a turn carry SNAP alone (R144, step 1): the nodes adopt their positions in them. -/
def State.turnWaits (s : State) : Bool := s.pat.turn == some s.seat && decide (s.pace.round < s.pat.turnStart + 3)

end Sys2Proof.Machine
end

