-- ==== Sys2Proof/Machine/Thread.lean ====
section
/-!
DEFINITION. The thread commands (chapter 05): SNAP_SEND, SNAP_RECEIVED, TOKEN_SEND, READ_RECEIVED,
COMMAND_RETRIES_SPENT, COMMAND_RESEND, NODE_LOST, RING_REVERSAL, REVERSAL_END, VIOLATION_WINDOW_END,
and what the threads do at a stitch 0.
-/
namespace Sys2Proof.Machine

/-! ### SNAP -/

/-- A ring on which this device sends SNAP now: it is the head and link 0 at its end is not mapped
out, or it is the tail and the ring is reversed or held so by a map-out (R106, R126, R158); never
within a test window (R152). -/
def State.sendsSnap (s : State) (r : Ring) (e : RingEnd) : Bool :=
  let k := s.ringLen r.port
  let own := if e == RingEnd.a then 0 else k
  let held := s.split r.port
  !r.inWindow && s.threadOn r.port && !s.own.cut && !s.own.unaligned && !s.mappedOut r.port own &&
  ((s.acts && e == s.headEnd) || (s.attached && e != s.headEnd && (r.reversed || held)))

/-- The ends of a ring this device holds. -/
def State.ownEnds (s : State) : List RingEnd :=
  if s.twoSeats then (if s.seat == 0 then [.a] else if s.seat == 1 then [.b] else [])
  else if s.seat == 0 then [.a, .b] else []

/-- SNAP on one ring: the frame of the coming round from each end that sends it; the head's carries the oldest violation report in
the outbound flow (R106, R111, R126, R133). -/
def State.snapRing (s : State) (r : Ring) : State :=
  let head := s.acts && s.ownEnds.contains s.headEnd && s.sendsSnap r s.headEnd
  let frame (e : RingEnd) : List Byte :=
    if s.ownEnds.contains e && s.sendsSnap r e then
      snapFrame e (s.pace.round + 1) (if s.acts && e == s.headEnd then r.naks.head? else none)
    else []
  s.updRing r.port fun r =>
    { r with snapA := frame .a, snapB := frame .b, snapFor := some (s.pace.round + 1), naks := if head then r.naks.tail else r.naks }

/-- SNAP_SEND (R111): 20.000 µs before stitch 0 of the next round, in its last three stitches, SNAP leaves on every active ring. -/
def snapSend (s : State) : State :=
  if s.rounds && decide (61 ≤ s.pace.stitch) then
    (s.thr.rings.filter fun r => !(r.snapFor == some (s.pace.round + 1))).foldl State.snapRing s
  else s

/-- SNAP at a device port (R126, R145). Its sender's end decides: this device's own ring's far end at
the head is a foreign SNAP (0x308); the head's SNAP at the tail gives the ring length and counts
toward the end of a reversal. A length that differs fails this seat's check, also after its own turn (R147). A SNAP that has
crossed a mapped-out link is discarded (R158). DESIGN CHOICE: where three consecutive intact SNAPs differ in their hops the manual
does not say which counts, and the run begins anew, so that three equal counts are judged. -/
def snapReceived (x : ThreadRx) (s : State) : State :=
  match s.portEnd x.port with
  | none => s
  | some (port, e) =>
    if !s.rounds || !s.threadOn x.port then s
    else if !snapValid x then
      (if countsAsError sofS x (!(rxFramed sofS x && decide ((rxBytes x).length = 9))) then s.portError x.port else s)
    else
      let fromB := decide (128 ≤ byteAt (rxBytes x) 0)
      let far := fromB == (e == RingEnd.a)
      let hops := byteAt (rxBytes x) 1 % 32
      if !far || s.split port then s
      else if s.acts && e == s.headEnd then
        (s.updPort x.port fun p => { p with foreignRound := some s.pace.round }).raise 0x308 (portDetail x.port)
      else
        let s1 := s.updRing port fun r =>
          { r with headSeen := true,
                   hopsRun := if r.hopsRun = 0 || r.hopsLast = hops then r.hopsRun + 1 else 1,
                   hopsLast := hops }
        match s1.ring port with
        | some r =>
          if 3 ≤ r.hopsRun && s.pat.turn.isSome then
            let bad := hops != s.ringLen port
            { s1 with pat := { s1.pat with passed := s1.pat.passed && !bad } }.judge 0x404 (portDetail port) bad
          else s1
        | none => s1

/-! ### Tokens and commands -/

/-- The round's commands and tokens on one ring, once a round (R116, R117, R121, R383). The head sends its command frames in a
command round, from round 3 of its own turn (R144), and its token; the tail device sends the return token, and before it the
commands the owner relayed. -/
def State.tokenRing (s : State) (r : Ring) : State :=
  if r.outToken || r.returnToken then s
  else if r.inWindow || !s.threadOn r.port || s.own.cut || s.own.unaligned then s.updRing r.port fun r => { r with sent := [] }
  else if s.isHead then
    if s.commandRound (s.ringLen r.port) && !s.turnWaits then
      let p := s.pickCommands r.port
      p.state.updRing r.port fun r => { r with sent := p.frames, viaTail := p.viaTail, outToken := true, returnToken := !s.twoSeats }
    else s.updRing r.port fun r => { r with sent := [], viaTail := [], outToken := true, returnToken := !s.twoSeats }
  else
    (r.relay.foldl (fun u f => u.recordConf r.port f) s).updRing r.port fun r =>
      { r with sent := r.relay, relay := [], returnToken := true }

/-- TOKEN_SEND (R100, R116, R117): at the start of stitch 1, the round's commands, then the token. -/
def tokenSend (s : State) : State :=
  if s.rounds && s.attached && decide (s.pace.stitch = 1) then s.thr.rings.foldl State.tokenRing s else s

/-! ### READ -/

/-- What the receiver saw in the flow beside the frame (R127, R128, Table 5-11). -/
def State.flowMarks (s : State) (port : Nat) (x : ReadRx) : State :=
  let s1 := match x.skippedAt with
    | some q => ((s.violate (nodeId port q) 0x26).updNode (nodeId port q)
        fun n => { n with skipRound := some s.pace.round }).raise 0x303 (nodeDetail (nodeId port q))
    | none => s
  match x.abortedAt with
  | some q => s1.violate (nodeId port q) 0x27
  | none => s1

/-- The tail of another seat's turn sees an IDENT request pass, and expects the response (R144, R146). -/
def State.identSeen (s : State) (ring : Nat) (l : List Byte) : State :=
  if !s.acts && s.pat.turn.isSome && byteAt l 1 = 3 then
    s.updNode (nodeId ring (byteAt l 0 % 32)) fun n => { n with identSent := some s.pace.round }
  else s

/-- A command frame that came ahead of the READs in the outbound flow (R116, R134, R322). -/
def State.takeCommand (s : State) (ring port : Nat) (f : ThreadRx) : State :=
  let l := rxBytes f
  if frameValid sofC f l.length then (s.recordConf ring l).identSeen ring l
  else if countsAsError sofC f (crcRight l) then s.portError port
  else s

/-- What an accepted READ shows of a ring's break (R159): the highest position with snap end A, and, to the owner, that the tail's SNAP
was sampled. -/
def State.markEnd (s : State) (port b : Nat) : State :=
  let fromB := b / 32 % 2 == 1
  let tail := s.acts && fromB == (s.headEnd == RingEnd.a)
  s.updRing port fun r =>
    { r with highA := if fromB then r.highA else some (max (r.highA.getD 0) (b % 32)), tailSeen := r.tailSeen || tail }

/-- A valid READ from a position that passed the order test (R118): judged by round tag. -/
def State.judgeRead (s : State) (port : Nat) (e : RingEnd) (l : List Byte) : State :=
  let id := nodeId port (byteAt l 0 % 32)
  if byteAt l 1 = s.pace.round % 256 then
    (s.acceptRead id e (l.take 40)).markEnd port (byteAt l 0)
  else s.violate id 0x22

/-- READ_RECEIVED (R118): a READ frame is accepted or discarded. One that comes in stitch 0, before any token, is late. -/
def readReceived (x : ReadRx) (s : State) : State :=
  match s.portEnd x.rx.port with
  | none => s
  | some (port, e) =>
    if !s.rounds || !s.threadOn x.rx.port then s
    else
      let s := x.commands.foldl (fun u f => u.takeCommand port x.rx.port f) (s.flowMarks port x)
      let l := rxBytes x.rx
      if !rxValid x.rx l.length then (if countsAsError sofN x.rx (crcRight l) then s.portError x.rx.port else s)
      else
        let pos := byteAt l 0 % 32
        let id := nodeId port pos
        if l.length != 43 || byteAt l 0 / 64 != 0 then s.violate id 0x23
        else if s.ringLen port ≤ pos || s.blocked port pos e then s
        else if s.pace.stitch = 0 || decide (40 < s.pace.stitch) then
          (s.updPort x.rx.port fun p => { p with lateRound := some s.pace.round }).raise 0x307 (portDetail x.rx.port)
        else
          let last := (s.ring port).bind fun r => if e == RingEnd.a then r.lastAtA else r.lastAtB
          if !inOrder e last pos then s.violate id 0x21
          else
            let s1 := s.updRing port fun r =>
              if e == RingEnd.a then { r with lastAtA := some pos } else { r with lastAtB := some pos }
            s1.judgeRead port e l

/-! ### Retries -/

/-- A command's retries are spent without an acknowledgement (R131): the READs of the snap after its round are past. -/
def Cmd.spent (c : Cmd) (retries : Nat) (p : Pace) : Bool :=
  !c.due && decide (retries ≤ c.retries) && (decide (c.sentRound + 2 ≤ p.round) || (decide (c.sentRound < p.round) && decide (40 < p.stitch)))

/-- COMMAND_RETRIES_SPENT (R131): fault 0x302 is raised for the node, and the command no longer holds up the others. -/
def retriesSpent (id : NodeId) (s : State) : State :=
  match s.node id with
  | none => s
  | some n =>
    let done := (n.identCmd.toList ++ n.cmd.toList).filter fun c => c.spent s.img.f.thread.cmdRetries s.pace
    if done.isEmpty || !s.acts then s
    else
      (s.updNode id fun n =>
        { done.foldl (fun m c => m.setCmd c none) n with spent := n.spent ++ done.map fun c => { c with faulted := true } }).raise
        0x302 (nodeDetail id)

/-- COMMAND_RESEND (R131): every 100 rounds while fault 0x302 stands, the command is sent afresh with a
new sequence number. -/
def commandResend (id : NodeId) (s : State) : State :=
  match s.node id with
  | none => s
  | some n =>
    match n.spent.find? fun c => !c.due && decide (c.sentRound + 100 ≤ s.pace.round) with
    | none => s
    | some c =>
      if s.acts then
        let q := (n.seqCtr + 1) % 128
        s.updNode id fun n =>
          { n.setCmd c (some { c with seq := q, epoch := n.epoch.getD 15, due := true, free := true }) with seqCtr := q, ownSent := true }
      else s

/-- NODE_LOST (R135): a node without an accepted READ for 3 rounds is lost. -/
def nodeLost (id : NodeId) (s : State) : State :=
  match s.node id with
  | none => s
  | some n =>
    if 3 ≤ n.missed && !n.lost then
      (s.updNode id fun n => { n with lost := true, epoch := none }).raise 0x301 (nodeDetail id)
    else s

/-! ### Reversal -/

/-- The break of a reversal (R159): link h + 1 above the highest position heard with snap end A in
the round in which the head's SNAP was missed, link 0 with none. -/
def Ring.breakLink (r : Ring) : Nat :=
  match r.highA with
  | some h => h + 1
  | none => 0

/-- A link is held mapped out (R158, R160), with the fault that this device found, or 0 for one that another seat reports. -/
def State.holdOut (s : State) (ring link cause : Nat) : State :=
  if s.mappedOut ring link then s else { s with nv := { s.nv with mapOuts := s.nv.mapOuts ++ [(ring, link, cause)] } }

/-- This device maps a link out by a cause, 0x410 or 0x412, and raises the fault, also for a link that is out already (R154, R159); a
seat that is not the owner has news for the others (R160). -/
def State.mapOut (s : State) (ring link cause : Nat) : State :=
  let s1 := (s.holdOut ring link cause).raise cause (linkDetail ring link)
  if s.acts then s1 else { s1 with pat := { s1.pat with mapNews := true } }

/-- RING_REVERSAL (R126): the head's SNAP has not come, and the tail device reverses the ring. The
round missed is the one whose SNAP was due: the coming round when the lead of R111 falls in the last
stitches of the present one. -/
def ringReversal (port : Nat) (s : State) : State :=
  match s.ring port with
  | none => s
  | some r =>
    let tail := s.attached && (!s.twoSeats || !s.acts)
    if s.rounds && tail && !r.reversed && !r.headSeen && !r.inWindow then
      (s.updRing port fun r =>
        { r with reversed := true, headRun := 0,
                 missedRound := some (if 60 ≤ s.pace.stitch then s.pace.round + 1 else s.pace.round) }).raise
        0x304 (portDetail port)
    else s

/-- A reversal of a ring is counted at its break; the third at the same break within 10,000 rounds maps that link out (R159). -/
def State.countBreak (s : State) (port m link : Nat) : State :=
  match s.ring port with
  | none => s
  | some r =>
    let recent := (r.breaks.filter fun b => decide (m < b.1 + 10000)) ++ [(m, link)]
    let s1 := s.updRing port fun r => { r with breaks := recent }
    if 3 ≤ recent.countP (fun b => b.2 == link) then s1.mapOut port link 0x412 else s1

/-- The break of a reversal is found once the round whose SNAP was missed has ended (R159). With one seat the device that reverses the
ring also has the READs of both its ends. With two, only the owner obtains them all (R382), and it sees the reversal in the first READ
that was sampled on the tail's SNAP: the round before is the one missed (DEDUCED). -/
def State.findBreak (s : State) (r : Ring) : State :=
  if s.twoSeats then
    if s.acts && r.tailSeen && !r.tailServed && !s.split r.port then
      s.countBreak r.port (s.pace.round - 2) (match r.highPrev with | some h => h + 1 | none => 0)
    else s
  else
    match r.missedRound with
    | none => s
    | some m =>
      if m < s.pace.round then
        (s.updRing r.port fun r => { r with missedRound := none }).countBreak r.port m r.breakLink
      else s

/-- REVERSAL_END (R126): the head's SNAP has arrived in 16 consecutive rounds, and no map-out holds the
reversal. -/
def reversalEnd (port : Nat) (s : State) : State :=
  match s.ring port with
  | none => s
  | some r =>
    if r.reversed && 16 ≤ r.headRun && !s.split port then
      (s.updRing port fun r => { r with reversed := false, headRun := 0 }).clear 0x304 (portDetail port)
    else s

/-! ### Windows -/

/-- One node at the end of a violation window (R134). -/
def State.windowNode (s : State) (n : Node) : State :=
  let clean := n.violations < s.img.f.thread.quarantineCount
  let runs := if clean then n.cleanWindows + 1 else 0
  let ends := n.quarantined && 10 ≤ runs
  let s1 := s.updNode n.id fun n =>
    { n with violations := 0, cleanWindows := if n.quarantined then (if ends then 0 else runs) else 0,
             quarantined := n.quarantined && !ends }
  if ends then s1.clear 0x306 (nodeDetail n.id) else s1

/-- One port at the end of a window (0x309). -/
def State.windowPort (s : State) (p : PortRx) : State :=
  let s1 := s.updPort p.port fun p => { p with crc := 0 }
  s1.judge 0x309 (portDetail p.port) (s.img.f.thread.crcLimit < p.crc)

/-- VIOLATION_WINDOW_END (R134): the window of 1,000 rounds that began at a round number divisible by 1,000 is over. -/
def violationWindowEnd (s : State) : State :=
  if s.thr.window = s.pace.round / 1000 then s
  else
    let s1 := s.thr.ports.foldl State.windowPort (s.thr.nodes.foldl State.windowNode s)
    { s1 with thr := { s1.thr with window := s.pace.round / 1000 } }

/-! ### Stitch 0 -/

/-- One node at stitch 0: absence is counted, a quarantine takes effect, an unacknowledged command
falls due again, and token-skip faults clear (R131, R134, R135, Table 5-11). A device that does not act as owner holds no
command unacknowledged (R106), and cannot tell what another sends. -/
def State.roundNode (s : State) (n : Node) : State :=
  let again (c : Cmd) : Cmd :=
    if !c.due && c.sentRound + 2 ≤ s.pace.round && c.retries < s.img.f.thread.cmdRetries then { c with due := true } else c
  let m := { n with
    heard := false
    missed := if n.heard then 0 else n.missed + 1
    good := if n.heard then n.good else 0
    copyA := none
    copyB := none
    differed := false
    quarantined := n.quarantined || n.quarNext
    cleanWindows := if n.quarNext then 0 else n.cleanWindows
    quarNext := false
    cmd := n.cmd.map again
    identCmd := n.identCmd.map again
    ownSent := n.ownSent && s.acts
    lastSent := if s.acts then n.lastSent else some s.pace.round
    balDue := n.balDue || (match n.balRound with
      | some r => decide (r + s.img.f.thread.balRefresh ≤ s.pace.round)
      | none => true) }
  let s0 := s.updNode n.id fun _ => m
  let s1 := if s.acts then s0 else s0.dropCmds m
  match n.skipRound with
  | some r => if r + 1000 < s.pace.round then
      (s1.updNode n.id fun n => { n with skipRound := none }).clear 0x303 (nodeDetail n.id)
    else s1
  | none => s1

/-- One ring at stitch 0. In RUN an IDENT falls due every THREAD.ident_interval rounds, in rotation. -/
def State.roundRing (s : State) (r : Ring) : State :=
  let s := s.findBreak r
  let k := s.ringLen r.port
  let due := s.pat.turn.isNone && 0 < k &&
    (match r.identRound with
     | some q => decide (q + s.img.f.thread.identInterval ≤ s.pace.round)
     | none => true)
  let s1 := s.updRing r.port fun r =>
    { r with
      headRun := if r.headSeen then r.headRun + 1 else 0
      headSeen := false
      hopsRun := if r.headSeen then r.hopsRun else 0
      highA := none
      highPrev := r.highA
      tailServed := r.tailSeen
      tailSeen := false
      lastAtA := none
      lastAtB := none
      echoCount := 0
      sent := []
      outToken := false
      returnToken := false
      identRound := if due then some s.pace.round else r.identRound
      identNext := if due then (r.identNext + 1) % k else r.identNext }
  if due then s1.updNode (nodeId r.port (r.identNext % k)) fun n => { n with identDue := true } else s1

/-- One port at stitch 0 (0x307, 0x308). -/
def State.roundPort (s : State) (p : PortRx) : State :=
  let s1 := match p.lateRound with
    | some r => if r + 1000 < s.pace.round then
        (s.updPort p.port fun p => { p with lateRound := none }).clear 0x307 (portDetail p.port) else s
    | none => s
  match p.foreignRound with
  | some r => if r + 100 < s1.pace.round then
      (s1.updPort p.port fun p => { p with foreignRound := none }).clear 0x308 (portDetail p.port) else s1
  | none => s1

/-- The threads at stitch 0; `silent` names the port receivers that saw no valid code group for the
whole round just ended (0x305). -/
def State.threadRound (s : State) (silent : List Nat) : State :=
  let s1 := s.thr.nodes.foldl State.roundNode s
  let s2 := s1.thr.rings.foldl State.roundRing s1
  let s3 := s2.thr.ports.foldl State.roundPort s2
  s3.thr.ports.foldl (fun t p => if t.threadOn p.port then t.judge 0x305 (portDetail p.port) (silent.contains p.port) else t) s3

end Sys2Proof.Machine
end

