-- ==== Sys2Proof/Machine/Wiring.lean ====
section
/-!
DEFINITION. The pattern check, node delays and link tests (chapter 06): the record's consistency, the
turns of a check, IDENT and ECHO, PRBS31 windows, judging links and map-outs.
-/
namespace Sys2Proof.Machine

/-! ### The pattern record -/

/-- A list of numbers holds a repeat. -/
def hasRepeat : List Nat → Bool
  | [] => false
  | x :: rest => rest.contains x || hasRepeat rest

end Sys2Proof.Machine

namespace Sys2Proof
open Machine

/-- The record is inconsistent (R140). -/
def Variant.inconsistent (v : Variant) : Bool :=
  let ports := v.rings.map fun r => r.port
  let ids := (v.rings.map fun r => r.nodes.map fun n => n.identity).flatten
  let groups := (v.rings.map fun r => (r.nodes.map fun n => n.groups).sum).sum
  hasRepeat ports ||
  (!v.twoSeats && ports.any fun p => p % 2 == 1 || ports.contains (p + 1)) ||
  hasRepeat ids || decide (4096 < groups)

/-- The nodes of the pattern in series order, each with its id and groups (R141). -/
def Variant.nodeList (v : Variant) : List (NodeId × PatNode) :=
  (v.rings.map fun r => (List.range r.nodes.length).filterMap fun j =>
    (r.nodes[j]?).map fun n => (nodeId r.port j, n)).flatten

/-- Series positions: the first position of a node of the pattern (R141); 0 when it is not in it. -/
def Variant.firstPos (v : Variant) (id : NodeId) : Nat :=
  go v.nodeList 1
where
  go : List (NodeId × PatNode) → Nat → Nat
    | [], _ => 0
    | (k, n) :: rest, p => if k == id then p else go rest (p + n.groups)

/-- The node and group at a series position (R141). -/
def Variant.groupAt (v : Variant) (pos : Nat) : Option (NodeId × Nat) :=
  go v.nodeList 1
where
  go : List (NodeId × PatNode) → Nat → Option (NodeId × Nat)
    | [], _ => none
    | (k, n) :: rest, p => if p ≤ pos && pos < p + n.groups then some (k, pos - p) else go rest (p + n.groups)

/-- The number of fitted groups. -/
def Variant.groups (v : Variant) : Nat := (v.nodeList.map fun n => n.2.groups).sum

/-- The series positions of a node. -/
def Variant.nodeCells (v : Variant) (id : NodeId) : List CellId :=
  match v.nodeList.find? fun n => n.1 == id with
  | some (_, n) => (List.range n.groups).map fun g => v.firstPos id + g
  | none => []

/-- Rings and nodes as the selected variant lays them out, before anything has been heard. -/
def Variant.threads (v : Variant) : Threads :=
  { rings := v.rings.map fun r => Ring.fresh r.port
    nodes := v.nodeList.map fun n => Node.fresh n.1
    ports := (v.rings.map fun r =>
      if v.twoSeats then [PortRx.mk r.port 0 none none]
      else [PortRx.mk r.port 0 none none, PortRx.mk (r.port + 1) 0 none none]).flatten
    window := 0 }

end Sys2Proof

namespace Sys2Proof.Machine

/-! ### Turns of the pattern check (R143, R144) -/

/-- The CONF items this seat's own turn writes (Table 6-2, step 5). -/
def State.turnItems (s : State) : List Nat :=
  if s.twoSeats then (if s.seat == 0 then confItems.filter (fun i => !(i == 2)) else [2]) else confItems

/-- Another attached seat's turn begins: this device is its tail (R143, R145). -/
def State.otherTurn (s : State) (k : Nat) : State :=
  if s.attached && s.pat.turn.isNone && !decide (k = s.seat) && !s.pat.turnsDone.contains k then
    { s with pat := { s.pat with turn := some k, turnStart := s.pace.round } }
  else s

/-- A seat's turn has ended: both attached seats then exchange what they found (R148). -/
def State.turnOver (s : State) (k : Nat) : State :=
  let first := !s.pat.turnsDone.contains k
  { s with
    pat := { s.pat with
      turn := if s.pat.turn = some k then none else s.pat.turn
      turnsDone := if first then s.pat.turnsDone ++ [k] else s.pat.turnsDone }
    own := { s.own with turnSent := s.own.turnSent && !first } }

/-- This seat's own turn begins: IDENT, delay measurement and CONF become due for every node. -/
def State.beginTurn (s : State) : State :=
  let items := s.turnItems
  let due (n : Node) : Node :=
    { n with identDue := true, confDue := items,
             echoA := ⟨1, 0, [], false, false⟩, echoB := ⟨1, 0, [], false, false⟩ }
  let s1 : State := { s with
    pat := { s.pat with turn := some s.seat, turnStart := s.pace.round, ownTurnDone := false }
    thr := { s.thr with nodes := s.thr.nodes.map due } }
  s1.clearAll 0x40A

/-- The delay measurement at an end. -/
def Node.echo (n : Node) (e : RingEnd) : Echo := if e == RingEnd.a then n.echoA else n.echoB
def Node.setEcho (n : Node) (e : RingEnd) (x : Echo) : Node :=
  if e == RingEnd.a then { n with echoA := x } else { n with echoB := x }
def Node.comp (n : Node) (e : RingEnd) : Option Nat := if e == RingEnd.a then n.compA else n.compB

/-- A node no longer holds the turn open: it is missing, quarantined, lost or cut off by map-outs, or it has been
identified, measured at each end of this device that reaches it, and configured: every CONF written has been acknowledged, or has spent its
retries (R144, step 6). -/
def State.nodeSettled (s : State) (n : Node) : Bool :=
  n.cls == NodeClass.missing || n.quarantined || n.lost || s.isolated n.id ||
  (n.cls != NodeClass.unknown && !n.identDue && n.identSent.isNone &&
   (s.ownEnds.all fun e => (n.echo e).done || (n.echo e).failed || s.blocked (nodePort n.id) (nodePos n.id) e) &&
   (n.confDue.all fun i => (s.confValue n i).isNone) &&
   (match n.cmd with
    | some c => (match c.body with | .conf _ _ => c.faulted | _ => true)
    | none => true))

/-- The identities a node of another ring should have: more than half of the identified nodes of a
ring carry them (R147, 0x403). -/
def State.crossed (s : State) (v : Variant) (r : PatRing) : Bool :=
  let heard := s.thr.nodes.filter fun n => nodePort n.id == r.port && n.identity.isSome
  let others := ((v.rings.filter fun q => !(q.port == r.port)).map fun q => q.nodes.map fun n => n.identity).flatten
  let wrong := heard.countP fun n => others.contains (n.identity.getD 0)
  decide (heard.length < 2 * wrong)

/-- This device classes a node FOREIGN or MISFIT. -/
def Node.bad (n : Node) : Bool := n.cls == NodeClass.foreign || n.cls == NodeClass.misfit

/-- FOREIGN and MISFIT nodes by this seat's own observations (R147, R148). -/
def State.ownBad (s : State) : Nat := s.thr.nodes.countP Node.bad

/-- FOREIGN and MISFIT nodes of the domain: a node is one for every seat if any seat classes it so (R148, R163). -/
def State.badNodes (s : State) : Nat := s.thr.nodes.countP fun n => n.bad || !n.badBy.isEmpty

/-- The findings that fail this seat's check (R147). -/
def State.patternFails (s : State) : Bool :=
  s.flt.bit 0x401 || s.flt.bit 0x402 || s.flt.bit 0x403 || s.flt.bit 0x404 || s.flt.bit 0x940 ||
  (s.flt.all.any fun i => i.code == 0x406 && i.high)

/-- The journal records, for every position, the identity accepted at the pattern check, and the delay table (R148). -/
def State.recordCheck (s : State) : State :=
  let acc := s.thr.nodes.foldl (fun l n =>
    match n.identity with
    | some i => if n.cls == NodeClass.match_ || n.cls == NodeClass.foreign then insertKey n.id i l else l
    | none => l) s.nv.accepted
  let del := s.thr.nodes.foldl (fun l n =>
    match n.compA, n.compB with
    | none, none => l
    | _, _ => insertKey n.id (n.compA.getD 0, n.compB.getD 0) l) s.nv.delays
  { s with nv := { s.nv with accepted := acc, delays := del } }

/-- The end of this seat's own turn: the findings of R147 are judged on this seat's own observations (R148), and recorded. -/
def State.endTurn (s : State) : State :=
  match s.img.variant with
  | none => ({ s with pat := { s.pat with ownTurnDone := true, passed := false } } : State).turnOver s.seat
  | some v =>
    let s1 := v.rings.foldl (fun t r => t.judge 0x403 (portDetail r.port) (t.crossed v r)) s
    let bad := s1.ownBad
    let s2 := if s1.img.f.pattern.foreignLimit < bad then (s1.clear 0x406 0).raiseHigh 0x406 0 else s1.clear 0x406 0
    let s3 := s2.thr.nodes.foldl (fun t n =>
      let t1 := if n.cls == NodeClass.misfit then t else t.clear 0x408 (nodeDetail n.id)
      if n.cls == NodeClass.match_ then t1.clear 0x40B (nodeDetail n.id) else t1) s2
    let s4 : State := { s3 with
      pat := { s3.pat with ownTurnDone := true, passed := !s3.patternFails }
      thr := { s3.thr with nodes := s3.thr.nodes.map fun n => { n with checkA := n.compA, checkB := n.compB } } }
    (s4.turnOver s4.seat).recordCheck

/-- TURN_END is judged wherever a turn may have ended (R144). -/
def State.turnCheck (s : State) : State :=
  if s.pat.turn == some s.seat && s.acts && s.pat.turnStart + 3 ≤ s.pace.round && s.thr.nodes.all s.nodeSettled then
    s.endTurn
  else s

/-! ### IDENT -/

/-- Classification of an identity response (Table 6-3). -/
def classify (p : PatNode) (identity type groups temps ifRev : Nat) : NodeClass :=
  if identity ≠ p.identity then .foreign
  else if type = p.type ∧ groups = p.groups ∧ temps = p.temps ∧ p.ifRevMin ≤ ifRev then .match_
  else .misfit

/-- FOREIGN and MISFIT nodes above the limit in RUN, whoever classes them so (R163): an instance of the lower class. -/
def State.foreignCount (s : State) : State :=
  if s.pat.turn.isNone && s.img.f.pattern.foreignLimit < s.badNodes then s.raise 0x406 0 else s

/-- An IDENT response is taken (R146, R162, R163): the node is classified, its faults judged. The
answer also says whether the node's cells are to be basted. -/
def State.takeIdent (s : State) (id : NodeId) (l : List Byte) : State × Bool :=
  match s.node id, s.patNode id with
  | some n, some p =>
    let ident := beNat ((l.drop 2).take 8)
    let changed := !n.newEpoch && (match n.identity with | some i => i != ident | none => false)
    let c := classify p ident (byteAt l 10 * 256 + byteAt l 11) (byteAt l 14 % 16 + 1) (byteAt l 14 / 16) (byteAt l 13)
    let s1 := s.updNode id fun n =>
      { n with identity := some ident, cls := c, identSent := none, newEpoch := false }
    let s2 := if c == NodeClass.foreign then s1.raise 0x405 (nodeDetail id) else s1
    let s3 := if ident = p.identity then s2.clear 0x405 (nodeDetail id) else s2
    let s4 := if c == NodeClass.misfit then s3.raise 0x408 (nodeDetail id) else s3
    let s5 := if changed then s4.raise 0x40B (nodeDetail id) else s4
    let s6 := (s5.clear 0x407 (nodeDetail id)).foreignCount
    let known := lookupKey id s.nv.accepted == some ident
    let first := n.identity.isNone
    let new := match n.identity with | some i => i != ident | none => false
    -- a check compares with the journal; a node that returns in RUN compares with what it was
    (if new && c == NodeClass.foreign then
       { s6 with nv := { s6.nv with accepted := insertKey id ident s6.nv.accepted } } else s6,
     if first then !known else new)
  | _, _ => (s, false)

/-- A valid IDENT response at a port: the node it names and its bytes (R110, Table 5-7). -/
def State.identFrame (s : State) (x : ThreadRx) : Option NodeId :=
  match s.portEnd x.port with
  | some (port, e) =>
    let pos := byteAt (rxBytes x) 0 % 32
    if s.rounds && s.threadOn x.port && rxValid x 18 && byteAt (rxBytes x) 0 / 64 == 1 && pos < s.ringLen port &&
       !s.blocked port pos e then some (nodeId port pos) else none
  | none => none

/-- A missing response (R146): MISSING with fault 0x407 in a pattern check, violation 0x29 in RUN. -/
def identTimeout (id : NodeId) (s : State) : State :=
  match s.node id with
  | none => s
  | some n =>
    match n.identSent with
    | none => s
    | some r =>
      if r + 3 ≤ s.pace.round then
        let s1 := s.updNode id fun n => { n with identSent := none }
        if s.pat.turn.isSome then
          (((s1.dropCmds n).updNode id fun n => { n with cls := .missing, confDue := [] }).raise 0x407 (nodeDetail id)).turnCheck
        else s1.violate id 0x29
      else s

/-! ### ECHO -/

/-- An ECHO or BERT request with a number leaves for a node (R129, R131). -/
def Node.request (n : Node) (q round : Nat) : Node :=
  { n with seqCtr := q, ownSent := true, lastSent := some round, requests := q :: n.requests.filter fun y => !(y == q)
           confSent := eraseKey q n.confSent }

/-- The node whose delay the owner measures next in RUN (R150): the first in turn that can be sent an ECHO. -/
def State.echoTurn (s : State) (r : Ring) : Option NodeId :=
  let k := s.ringLen r.port
  ((List.range k).map fun j => nodeId r.port ((r.echoNext + j) % k)).find? fun id =>
    match s.node id with
    | some n => !n.quarantined && !s.blocked r.port (nodePos id) s.headEnd
    | none => false

/-- ECHO (R132, R149, R150): a request leaves in stitches 41–60, one at a time, at most 4 per ring per
round in a turn and one in RUN, never across a mapped-out link (R158), nor while the thread transmitters are cut (R29). The attempt
number of the tag is, DESIGN CHOICE, 1 for the first request of a set, also of the second, and 0 for the ECHOs of RUN. -/
def echoSend (x : EchoTx) (s : State) : State :=
  let port := nodePort x.node
  match s.ring port, s.node x.node with
  | some r, some n =>
    let turn := s.pat.turn == some s.seat
    let e := n.echo x.ringEnd
    let okTime := decide (41 ≤ s.pace.stitch) && decide (s.pace.stitch ≤ 60)
    let okEnd := s.ownEnds.contains x.ringEnd && s.acts && s.rounds && s.threadOn port && !r.inWindow && !n.quarantined &&
      !s.own.cut && !s.blocked port (nodePos x.node) x.ringEnd
    let okTurn := turn && decide (s.pat.turnStart + 3 ≤ s.pace.round) && !e.done && !e.failed &&
      decide (e.sent < 16) && decide (r.echoCount < 4)
    let okRun := s.pat.turn.isNone && decide (r.echoCount < 1) && x.ringEnd == s.headEnd && s.echoTurn r == some x.node
    if okTime && okEnd && r.echoOut.isNone && (okTurn || okRun) then
      let attempt := if turn then e.sent + 1 else 0
      let tag := 256 * nodePos x.node + attempt
      let q := (n.seqCtr + 1) % 128
      let s1 := s.updNode x.node fun n =>
        let m := n.request q s.pace.round
        if turn then m.setEcho x.ringEnd { e with sent := e.sent + 1 } else m
      (s1.updRing port fun r =>
        { r with
          echoOut := some (x.node, x.ringEnd, tag, x.t)
          echoCount := r.echoCount + 1
          echoNext := if turn then r.echoNext else (nodePos x.node + 1) % (max 1 (s.ringLen port))
          sent := r.sent ++ [cmdFrame (nodePos x.node) ⟨.echo tag, q, n.epoch.getD 15, s.pace.round, 0, false, false, false⟩] }).at x.t
    else s
  | _, _ => s

/-- COMP of eight round trips (R149): 20,000 ns − (mean RT − 2,000 ns) / 2, rounded to 1 ns; none when
the delay exceeds 18,000 ns. -/
def compOf (sum : Nat) : Option Nat :=
  if 16000 + 288000 < sum then none else some ((336000 - sum + 8) / 16)

/-- The spread of round trips. -/
def spread (l : List Nat) : Nat := l.foldl max 0 - l.foldl min (l.headD 0)

/-- A node fails measurement at an end (R149): fault 0x409, and no COMP is written. -/
def State.failEcho (s : State) (id : NodeId) (e : RingEnd) : State :=
  (s.updNode id fun n =>
    let x := n.echo e
    let m := n.setEcho e { x with failed := true }
    if e == RingEnd.a then { m with compA := none, confDue := m.confDue.filter fun i => !(i == 1) }
    else { m with compB := none, confDue := m.confDue.filter fun i => !(i == 2) }).raise 0x409 (nodeDetail id)

/-- A set that has had its 16 requests with fewer than 8 replies fails (R149). -/
def State.echoBudget (s : State) (id : NodeId) (e : RingEnd) : State :=
  match s.node id with
  | none => s
  | some n =>
    let x := n.echo e
    if 16 ≤ x.sent && x.replies.length < 8 && !x.done && !x.failed then s.failEcho id e else s

/-- Eight replies of a set are in hand (R149). -/
def State.echoSet (s : State) (id : NodeId) (e : RingEnd) (l : List Nat) : State :=
  match s.node id with
  | none => s
  | some n =>
    let x := n.echo e
    if 10 < spread l then
      if x.set = 1 then s.updNode id fun n => n.setEcho e ⟨2, 0, [], false, false⟩ else s.failEcho id e
    else
      match compOf l.sum with
      | none => s.failEcho id e
      | some c =>
        (s.updNode id fun n =>
          let m := n.setEcho e { x with replies := l, done := true }
          if e == RingEnd.a then { m with compA := some c } else { m with compB := some c }).clear 0x409 (nodeDetail id)

/-- A round trip measured in RUN (R150): the mean of the last 8 is compared with the compensation in
force and with that of the last pattern check. -/
def State.echoRun (s : State) (id : NodeId) (e : RingEnd) (rt : Nat) : State :=
  match s.node id with
  | none => s
  | some n =>
    let l := (rt :: n.runTrips).take 8
    let s1 := s.updNode id fun n => { n with runTrips := l }
    if l.length < 8 then s1
    else
      match compOf l.sum, n.comp e with
      | some c, some old =>
        let dist := fun (a b : Nat) => (a - b) + (b - a)
        let chk := (if e == RingEnd.a then n.checkA else n.checkB).getD old
        let item := if e == RingEnd.a then 1 else 2
        let s2 := if 5 < dist c old then
            s1.updNode id fun n =>
              let m := { n with confDue := if n.confDue.contains item then n.confDue else n.confDue ++ [item] }
              if e == RingEnd.a then { m with compA := some c } else { m with compB := some c }
          else s1
        if s.img.f.pattern.driftLimit < dist c chk then s2.raise 0x40A (nodeDetail id) else s2
      | _, _ => s1

/-- A frame that cannot be taken as the node frame of a kind and length (R110): an error at the port (R134), or, where its CRC is
right, violation 0x23 of the node it names. -/
def State.badFrame (s : State) (x : ThreadRx) (port kind len : Nat) : State :=
  if !rxValid x (rxBytes x).length then (if countsAsError sofN x (crcRight (rxBytes x)) then s.portError x.port else s)
  else if byteAt (rxBytes x) 0 / 64 != kind || (rxBytes x).length != len then s.violate (nodeId port (byteAt (rxBytes x) 0 % 32)) 0x23
  else s

/-- A node frame that comes after READs from beyond its node came outside its token position: violation 0x28 (R115). -/
def State.tokenOrder (s : State) (port : Nat) (e : RingEnd) (pos : Nat) : State :=
  let last := (s.ring port).bind fun r => if e == RingEnd.a then r.lastAtA else r.lastAtB
  if last == some pos || inOrder e last pos then s else s.violate (nodeId port pos) 0x28

/-- ECHO_REPLY (R149, R150): the reply to the outstanding request is timestamped as a round trip. -/
def echoReply (x : ThreadRx) (s : State) : State :=
  match s.portEnd x.port with
  | none => s
  | some (port, e) =>
    if !s.rounds || !s.threadOn x.port then s
    else if !(rxValid x 6) || byteAt (rxBytes x) 0 / 64 != 2 then s.badFrame x port 2 6
    else
      match s.ring port with
      | none => s
      | some r =>
        match r.echoOut with
        | none => s
        | some (id, e0, tag, t0) =>
          let got := byteAt (rxBytes x) 1 * 256 + byteAt (rxBytes x) 2
          if e0 != e || got != tag || nodePos id != byteAt (rxBytes x) 0 % 32 || t0 + 45000 < x.t || s.blocked port (nodePos id) e then s
          else
            let rt := x.t - t0
            let s1 := (s.updRing port fun r => { r with echoOut := none }).at x.t
            if s.pat.turn == some s.seat then
              match s1.node id with
              | none => s1
              | some n =>
                let l := (n.echo e).replies ++ [rt]
                let s2 := s1.updNode id fun n => n.setEcho e { (n.echo e) with replies := l }
                let s3 := if 8 ≤ l.length then s2.echoSet id e l else s2.echoBudget id e
                s3.turnCheck
            else s1.echoRun id e rt

/-- ECHO_TIMEOUT (R149): a reply not received within 45 µs is lost. -/
def echoTimeout (port : Nat) (t : Ns) (s : State) : State :=
  match s.ring port with
  | none => s
  | some r =>
    match r.echoOut with
    | none => s
    | some (id, e, _, t0) =>
      if t0 + 45000 ≤ t then
        let s1 := (s.updRing port fun r => { r with echoOut := none }).at t
        if s.pat.turn == some s.seat then (s1.echoBudget id e).turnCheck else s1
      else s

/-! ### Link tests (R152–R161) -/

/-- D of a test kind in units of 10 ms (Table 6-4). -/
def State.testD (s : State) : TestKind → Nat
  | .installation => 100 * s.img.f.pattern.installTime
  | .periodic => 100 * s.img.f.pattern.periodicTime
  | .maintenance => 100 * s.img.f.pattern.installTime

/-- The error limit of a test kind (Table 6-4). -/
def State.testErrors (s : State) : TestKind → Nat
  | .installation => s.img.f.pattern.installMaxErrors
  | .periodic => s.img.f.pattern.periodicMaxErrors
  | .maintenance => s.img.f.pattern.installMaxErrors

/-- A test window opens on a ring (R152); every cell of the ring is absent from this round on. -/
def State.openWindow (s : State) (kind : TestKind) (port : Nat) : State :=
  let absent (n : Node) : Node :=
    if nodePort n.id == port && n.sampleRound == some s.pace.round then { n with sampleRound := none, limit := 0 } else n
  let s1 : State := { s with thr := { s.thr with nodes := s.thr.nodes.map absent } }
  s1.updRing port fun r =>
    if r.test.isSome then r
    else { r with test := some ⟨kind, s.pace.round, s.testD kind, 0, [], 0, [], false, none⟩ }

/-- A test opens a window on every ring (R152: rings are tested in parallel). -/
def State.startTests (s : State) (kind : TestKind) : State :=
  { (s.thr.rings.foldl (fun t r => t.openWindow kind r.port) s) with
    pat := { s.pat with testing := some kind, verdicts := [] } }

/-- The BERT in turn (R152): N(K−1) side B, N(K−1) side A, …, N0 side A. -/
def bertTarget (k i : Nat) : Nat × RingEnd := (k - 1 - i / 2, if i % 2 = 0 then .b else .a)

/-- BERT (R132, R152): in stitches 41–60 of each round after the window's first, the owner sends the
next BERT, one in a round. -/
def bertSend (port : Nat) (s : State) : State :=
  match s.ring port with
  | none => s
  | some r =>
    match r.test with
    | none => s
    | some t =>
      let k := s.ringLen port
      if s.acts && s.rounds && s.threadOn port && !s.own.cut && 41 ≤ s.pace.stitch && s.pace.stitch ≤ 60 &&
         t.start + t.berts < s.pace.round && t.berts < 2 * k && t.closeRound.isNone && !t.interrupted then
        let (pos, side) := bertTarget k t.berts
        let id := nodeId port pos
        match s.node id with
        | none => s
        | some n =>
          let q := (n.seqCtr + 1) % 128
          let c : Cmd := ⟨.bert side t.duration, q, n.epoch.getD 15, s.pace.round, 0, false, false, false⟩
          (s.updNode id fun n => n.request q s.pace.round).updRing port fun r =>
            { r with sent := r.sent ++ [cmdFrame pos c],
                     test := some { t with berts := t.berts + 1, running := t.running ++ [.node pos side] } }
      else s

/-- A seat that does not send the BERTs follows them by their schedule, one in each round after the window's first (R152, DEDUCED): those
of the rounds past have left, and the intervals they begin run at the nodes. -/
def State.followBerts (s : State) (r : Ring) : State :=
  match r.test with
  | none => s
  | some t =>
    let k := s.ringLen r.port
    let gone := min (2 * k) (s.pace.round - t.start - 1)
    if s.acts || t.interrupted || t.closeRound.isSome || gone ≤ t.berts then s
    else
      let new := (List.range (gone - t.berts)).map fun j => let b := bertTarget k (t.berts + j); PrbsPoint.node b.1 b.2
      s.updRing r.port fun r => { r with test := some { t with berts := gone, running := t.running ++ new } }

/-- PRBS31_START (R152): an end port starts its interval, the tail end after the first BERT, the head
end after the last. The tail device of another owner has had the first BERT pass in stitch 41 or later of the window's second round. -/
def prbsStart (port : Nat) (e : RingEnd) (s : State) : State :=
  match s.ring port with
  | none => s
  | some r =>
    match r.test with
    | none => s
    | some t =>
      let passed := decide (1 ≤ t.berts) || (!s.acts && decide (t.start + 1 ≤ s.pace.round) && decide (41 ≤ s.pace.stitch))
      let after := if e == s.headEnd then decide (2 * s.ringLen port ≤ t.berts) else passed
      if after && s.rounds && s.threadOn port && !s.own.cut && !t.interrupted && t.closeRound.isNone && s.ownEnds.contains e &&
         !t.running.contains (.port e) then
        s.updRing port fun r => { r with test := some { t with running := t.running ++ [.port e] } }
      else s

/-- The link a checker receives and the end of the link at which it stands (R151): N j's A side and
the B end port stand at the B-ward end of their link. -/
def checkerOf (k : Nat) : PrbsPoint → Nat × RingEnd
  | .port .a => (0, .a)
  | .port .b => (k, .b)
  | .node pos .a => (pos, .b)
  | .node pos .b => (pos + 1, .a)

/-- A direction passes (R154): at least 95 % of 40 Mbit/s × D checked, errors within the limit. -/
def directionPasses (d limit bits errors : Nat) : Bool := decide (380000 * d ≤ bits) && decide (errors ≤ limit)

/-- A direction that this device judges (R154): every one whose counts its own port or a node reports. The counts of the other seat's
port reach no other device (no MIRROR item carries them): that seat judges its direction, and a map-out it finds joins the union
(R160, DEDUCED). -/
def State.judgesDir (s : State) (k link : Nat) (e : RingEnd) : Bool :=
  !s.twoSeats || !((link == 0 && e == RingEnd.a && !s.ownEnds.contains .a) || (link == k && e == RingEnd.b && !s.ownEnds.contains .b))

/-- The verdict on a link of a ring of k nodes: none while a direction is not in hand and reports may still come. -/
def State.linkVerdict (s : State) (k : Nat) (t : LinkTest) (link : Nat) (closed : Bool) : Option Bool :=
  let dir (e : RingEnd) : Option Bool :=
    if !s.judgesDir k link e then some true
    else (t.results.find? fun x => x.1 == link && x.2.1 == e).map fun x =>
      directionPasses t.duration (s.testErrors t.kind) x.2.2.1 x.2.2.2
  match dir .a, dir .b with
  | some x, some y => some (x && y)
  | some false, none => some false
  | none, some false => some false
  | _, _ => if closed then some false else none

/-- A link's verdict is applied (R158, R161): a failure maps it out; a passing maintenance re-test
restores it. -/
def State.applyVerdict (s : State) (kind : TestKind) (port link : Nat) (pass : Bool) : State :=
  if pass then
    if kind == TestKind.maintenance then
      ({ s with nv := { s.nv with mapOuts := s.nv.mapOuts.filter fun m => !(m.1 == port && m.2.1 == link) } }.clear 0x410
        (linkDetail port link)).clear 0x412 (linkDetail port link)
    else s
  else s.mapOut port link 0x410

/-- Every test window has closed: the test is complete (R156, R161). An interrupted one stays due. -/
def State.testsOver (s : State) (kind : TestKind) : State :=
  if s.thr.rings.any fun r => r.test.isSome then s
  else
    let s1 := { s with pat := { s.pat with testing := none, verdicts := [] } }
    match kind with
    | .maintenance =>
      (s1.thr.nodes.foldl (fun t n =>
        if n.quarantined || n.quarNext then
          (t.updNode n.id fun n => { n with quarantined := false, quarNext := false, cleanWindows := 0, violations := 0 }).clear
            0x306 (nodeDetail n.id)
        else t) s1).clear 0x411 0
    | _ =>
      let s2 : State := { s1 with
        pat := { s1.pat with runTicks := 0, periodicDue := false, installDone := true }
        nv := { s1.nv with tests := (TestRecord.mk kind s.pat.verdicts (s.pat.verdicts.all fun v => v.2.2) s1.now :: s1.nv.tests).take 16 } }
      (s2.clear 0x413 0).clear 0x411 0

/-- A BERT report that has not come when due is violation 0x29 of its node (Table 5-8). -/
def State.reportsMissing (s : State) (port : Nat) (t : LinkTest) : State :=
  let k := s.ringLen port
  ((List.range k).flatMap fun pos => [(pos, RingEnd.a), (pos, RingEnd.b)]).foldl (fun u p =>
    if t.results.any fun y => (y.1, y.2.1) == checkerOf k (.node p.1 p.2) then u else u.violate (nodeId port p.1) 0x29) s

/-- A ring's test is concluded when every link has its verdict. -/
def State.concludeTest (s : State) (port : Nat) (closed : Bool) : State :=
  match s.ring port with
  | none => s
  | some r =>
    match r.test with
    | none => s
    | some t =>
      if t.closeRound.isNone then s
      else if t.interrupted then
        if closed then s.updRing port fun r => { r with test := none } else s
      else
        let k := s.ringLen port
        let vs := (List.range (k + 1)).map fun j => (j, s.linkVerdict k t j closed)
        if vs.all (fun (v : Nat × Option Bool) => v.2.isSome) then
          let s0 := if closed then s.reportsMissing port t else s
          let s1 := vs.foldl (fun (u : State) (v : Nat × Option Bool) => u.applyVerdict t.kind port v.1 (v.2.getD false)) s0
          { (s1.updRing port fun r => { r with test := none }) with
            pat := { s1.pat with
               verdicts := s1.pat.verdicts ++ vs.map fun (v : Nat × Option Bool) => (port, v.1, v.2.getD false) } }.testsOver t.kind
        else s

/-- PRBS31_END (R152, R157): an interval ends; after the ring's last one SNAP resumes, and the reports have
2K command rounds in which to come (R153). -/
def prbsEnd (x : PrbsEnd) (s : State) : State :=
  match s.ring x.ring with
  | none => s
  | some r =>
    match r.test with
    | none => s
    | some t =>
      if t.running.contains x.at_ then
        let k := s.ringLen x.ring
        let c := checkerOf k x.at_
        let isPort := match x.at_ with | .port _ => true | .node _ _ => false
        let t1 := { t with
          running := t.running.filter fun p => !(p == x.at_)
          ended := t.ended + 1
          results := if isPort then t.results ++ [(c.1, c.2, x.bits, x.errors)] else t.results }
        let last := (t1.interrupted || decide (2 * k ≤ t1.berts)) && t1.running.isEmpty
        ((s.updRing x.ring fun r =>
          { r with test := some { t1 with closeRound := if last then some (s.pace.round + 2 * k + 1) else none } }).at x.t)
      else s

/-- BERT_REPORT (R154): a report gives the counts of one node side's checker. -/
def bertReport (x : ThreadRx) (s : State) : State :=
  match s.portEnd x.port with
  | none => s
  | some (port, e) =>
    if !s.rounds || !s.threadOn x.port then s
    else if !(rxValid x 13) || byteAt (rxBytes x) 0 / 64 != 3 then s.badFrame x port 3 13
    else
      match s.ring port with
      | none => s
      | some r =>
        match r.test with
        | none => s
        | some t =>
          let pos := byteAt (rxBytes x) 0 % 32
          let c := checkerOf (s.ringLen port) (.node pos (if byteAt (rxBytes x) 1 = 0 then .a else .b))
          let res := (c.1, c.2, beNat (((rxBytes x).drop 2).take 4), beNat (((rxBytes x).drop 6).take 4))
          let t1 := { t with results := if t.results.any (fun y => y.1 == c.1 && y.2.1 == c.2) then t.results
                                        else t.results ++ [res] }
          ((s.tokenOrder port e pos).updRing port fun r => { r with test := some t1 }).concludeTest port false

/-- The periodic test that is due runs in a park check of a one-seat configuration, after its pattern check (R156). -/
def State.checkTest (s : State) : State :=
  if s.pat.periodicDue && s.sup.parkCheck && s.sup.dev == DevState.run && s.attached && !s.twoSeats && s.pat.ownTurnDone &&
     s.pat.turn.isNone && s.pat.testing.isNone then
    s.startTests .periodic
  else s

/-- Stitch 0: a window whose reports are overdue is closed, a missing report failing its direction; a test due in a park check begins. -/
def State.testRound (s : State) : State :=
  (s.thr.rings.foldl (fun t r =>
    match r.test with
    | some x => match x.closeRound with
      | some c => if c ≤ t.pace.round then t.concludeTest r.port true else t
      | none => t.followBerts r
    | none => t) s).checkTest

/-- A wake during a test window (R157): the results are discarded and fault 0x411 is raised. A ring with no interval running returns
to rounds at once. -/
def State.abortTests (s : State) : State :=
  if s.thr.rings.any fun r => r.test.isSome then
    let mark (r : Ring) : Ring := { r with test := r.test.map fun (t : LinkTest) =>
      { t with interrupted := true, closeRound := if t.running.isEmpty && t.closeRound.isNone then some (s.pace.round + 1) else t.closeRound } }
    let s1 : State := { s with
      thr := { s.thr with rings := s.thr.rings.map mark }
      pat := { s.pat with testing := none, verdicts := [] } }
    s1.raise 0x411 0
  else s

/-- Ticks in an hour. -/
def hourTicks : Nat := 360000000000

/-- PERIODIC_TEST_DUE (R156). -/
def periodicDue (s : State) : State :=
  if s.img.f.pattern.periodicInterval * hourTicks ≤ s.pat.runTicks then
    { s with pat := { s.pat with periodicDue := true } }
  else s

/-- PERIODIC_TEST_OVERDUE (R156): twice the interval without a completed test. -/
def periodicOverdue (s : State) : State :=
  if 2 * (s.img.f.pattern.periodicInterval * hourTicks) ≤ s.pat.runTicks then s.raise 0x413 0 else s

/-- A periodic test may run (R156): one is due, in the grace of a park shut-down, or in a park check of a one-seat configuration after
the pattern check. -/
def State.periodicNow (s : State) : Bool :=
  s.pat.periodicDue &&
  ((match s.sup.shut with | some h => h.kind == ShutKind.park && s.sup.dev == DevState.grace | none => false) ||
   (s.sup.parkCheck && s.sup.dev == DevState.run && !s.twoSeats && s.pat.ownTurnDone && s.pat.turn.isNone))

/-- LINK_TEST_START (R152): a window begins on a ring, for the test that is in progress or a periodic one that may begin. -/
def linkTestStart (port : Nat) (kind : TestKind) (s : State) : State :=
  if s.rounds && s.attached && (s.ring port).isSome &&
     (s.pat.testing == some kind || (s.pat.testing.isNone && kind == TestKind.periodic && s.periodicNow)) then
    let s1 := s.openWindow kind port
    { s1 with pat := { s1.pat with testing := some kind } }
  else s

/-- INSTALLATION_TEST (R155): after the pattern check of a cold boot with INSTALL honoured, the test
opens a window on every ring. -/
def installationTest (due : Bool) (s : State) : State :=
  if due && s.attached && s.rounds && s.sup.bootKind == BootKind.cold && !s.pat.installDone then
    s.startTests .installation
  else s

end Sys2Proof.Machine
end

