-- ==== Sys2Proof/Machine/AcqOps.lean ====
section
/-!
DEFINITION. Acquisition (chapter 07): shunt samples and charge counts, SENT, the reductions of a
round, the 96 streams, the cell sample set, and the acquisition faults.
-/
namespace Sys2Proof.Machine

/-! ### Flags and records -/

/-- The flag field of Table 7-2. -/
def mkFlags (absent range unaligned uncomp reset stale sensor reduced : Bool) : BitVec 8 :=
  BitVec.ofNat 8 (absent.toNat + 2 * range.toNat + 4 * unaligned.toNat + 8 * uncomp.toNat + 16 * reset.toNat
    + 32 * stale.toNat + 64 * sensor.toNat + 128 * reduced.toNat)

/-- The value of a record that is ABSENT: 0x80000000 (R168). -/
def absentValue : Int := -2147483648

def Rec.absent (r : Rec) : Bool := r.flags.getLsbD 0
def Rec.hasRange (r : Rec) : Bool := r.flags.getLsbD 1
def Rec.hasSensor (r : Rec) : Bool := r.flags.getLsbD 6
/-- Usable: ABSENT, RANGE and SENSOR all clear (R169). -/
def Rec.usable (r : Rec) : Bool := !r.absent && !r.hasRange && !r.hasSensor

/-- The nearest integer, a half rounded away from zero. -/
def roundDiv (n : Int) (d : Nat) : Int :=
  if 0 ≤ n then (2 * n + d) / (2 * d : Nat) else -((2 * (-n) + d) / (2 * d : Nat))

/-- A value as a record carries it: signed 32 bits, above the code of ABSENT (R168). The manual does not say what a record shows of a
value beyond them, which is free. -/
def value32 (v : Int) : Int := if absentValue < v ∧ v < 2147483648 then v else (Config.beyond32 v).toInt

/-- A record of the present snap. -/
def State.mkRec (s : State) (value : Int) (absent range stale sensor reduced : Bool) : Rec :=
  ⟨if absent then absentValue else value32 value,
   mkFlags absent range (!(s.pace.lock == Lock.lock)) false false stale sensor reduced,
   s.pace.round, 0, s.pace.start⟩

/-! ### Shunts (R170–R174) -/

/-- The modulator's full scale: the greatest 24-bit codes. -/
def fullScale (code : Int) : Bool := decide (8388607 ≤ code) || decide (code ≤ -8388607)

/-- A shunt code in mA (R171): code × 100 mV / 2^24 / r_shunt, rounded to the nearest mA. -/
def shuntMA (code : Int) (r : Nat) (invert : Bool) : Int :=
  let i := if r = 0 then 0 else roundDiv (code * 100000000) (16777216 * r)
  if invert then -i else i

/-- One 8 kHz sample of a channel at a current in mA, ending at t (R172, R173): the sample whose interval
contains the open snap closes the round with the fraction that lies before it, on the 10 ns count of the crystal (R14). -/
def Shunt.sample (x : Shunt) (snap : Ns) (ma : Int) (clip : Bool) (t : Ns) : Shunt :=
  let x1 := { x with count := x.count + 125 * ma,
                     rangeSince := if clip then some (x.rangeSince.getD t) else none }
  let lo (a : Option Int) : Int := min (a.getD ma) ma
  let hi (a : Option Int) : Int := max (a.getD ma) ma
  if x.open_ && decide (snap ≤ t) then
    let d : Nat := min 12500 (snap / 10 - (t / 10 - 12500))
    let before := decide (0 < d)
    let after := decide (d < 12500)
    { x1 with
      open_ := false
      qPrev := x.qSnap
      qSnap := x.count * 1000 + ma * (10 * d)
      minA := if before then lo x.accMin else x.accMin.getD ma
      maxA := if before then hi x.accMax else x.accMax.getD ma
      range := x.accRange || (before && clip)
      accMin := if after then some ma else none
      accMax := if after then some ma else none
      accRange := after && clip }
  else
    { x1 with accMin := some (lo x.accMin), accMax := some (hi x.accMax), accRange := x.accRange || clip }

/-- The round charge of the snap in µC (R173): ⌊Q(t_n)/1,000⌋ − ⌊Q(t_(n−1))/1,000⌋ in nC. -/
def Shunt.charge (x : Shunt) : Int := x.qSnap / 1000000 - x.qPrev / 1000000

/-- A shunt whose advance the pack count takes: fitted, without RANGE in this sample and without its
SENSOR fault (R172). -/
def Shunt.counts (x : Shunt) (r : Nat) (clip : Bool) : Bool := !(r == 0) && !clip && !x.sensor

/-- SHUNT_SAMPLE (R170, R172, R185): the counts advance by one sample × 125 µs; the store count of P1 in PARK too. -/
def shuntSample (x : ShuntSample) (s : State) : State :=
  let f := s.img.f.acq
  let ia := shuntMA x.a f.rA f.invertA
  let ib := shuntMA x.b f.rB f.invertB
  let is := shuntMA x.store s.acq.siHeld false
  let p2 := s.domainOn 2
  let ca := s.acq.ishA.counts f.rA (fullScale x.a)
  let cb := s.acq.ishB.counts f.rB (fullScale x.b)
  let adv : Int :=
    if ca && cb then (125 * ia + 125 * ib) / 2 else if ca then 125 * ia else if cb then 125 * ib else 0
  { s with acq := { s.acq with
      ishA := if p2 && !(f.rA == 0) then s.acq.ishA.sample s.pace.start ia (fullScale x.a) x.t else s.acq.ishA
      ishB := if p2 && !(f.rB == 0) then s.acq.ishB.sample s.pace.start ib (fullScale x.b) x.t else s.acq.ishB
      packCount := if p2 then s.acq.packCount + adv else s.acq.packCount
      store := if s.sup.p1 then s.acq.store.sample s.pace.start is (fullScale x.store) x.t else s.acq.store } }.at x.t

/-- SHUNT_RANGE_SENSOR (R174, R185): RANGE has lasted 10 ms. -/
def shuntRangeSensor (id : ShuntId) (t : Ns) (s : State) : State :=
  let x := match id with | .a => s.acq.ishA | .b => s.acq.ishB | .store => s.acq.store
  match x.rangeSince with
  | none => s
  | some t0 =>
    if t0 + 10000000 ≤ t then
      match id with
      | .a => ({ s with acq := { s.acq with ishA := { x with sensor := true, clean := 0 } } }.at t).raise 0x610 0
      | .b => ({ s with acq := { s.acq with ishB := { x with sensor := true, clean := 0 } } }.at t).raise 0x611 0
      | .store => ({ s with acq := { s.acq with store := { x with sensor := true, clean := 0 } } }.at t).raise 0x741 0
    else s

/-! ### SENT (R177, R178) -/

/-- One nibble of the SAE J2716 CRC. PRESUMED: polynomial x^4 + x^3 + x^2 + 1, seed 0b0101. -/
def sentCrcStep (c n : Nat) : Nat :=
  Nat.xor ([0, 13, 7, 10, 14, 3, 9, 4, 1, 12, 6, 11, 15, 2, 8, 5].getD (c % 16) 0) (n % 16)

/-- The CRC nibble of the data nibbles, legacy or recommended. -/
def sentCrc (recommended : Bool) (data : List Nat) : Nat :=
  let c := data.foldl sentCrcStep 5
  if recommended then sentCrcStep c 0 else c

/-- A SENT frame is valid (R177). The tick is the calibration pulse over 56; nibble lengths are 12–27 ticks. PRESUMED (SAE J2716): with
no valid frame before it, a calibration pulse lies within 20 % of 56 ticks of `ACQ.sent.tick`. -/
def State.sentValid (s : State) (x : SentFrame) : Bool :=
  let f := s.img.f.acq
  let okCal := match s.acq.sent.cal with
    | none => decide (4 * 56000 * f.sentTick ≤ 5 * x.cal) && decide (5 * x.cal ≤ 6 * 56000 * f.sentTick)
    | some c => decide (64 * (x.cal - c) ≤ c) && decide (64 * (c - x.cal) ≤ c)
  let lens := [x.status] ++ x.data ++ [x.crc]
  okCal && x.data.length == f.sentNibbles && (lens.all fun n => decide (12 ≤ n) && decide (n ≤ 27)) &&
  sentCrc f.sentCrcRecommended (x.data.map fun n => n - 12) == x.crc - 12

/-- The number that bits make, most significant first. -/
def bitsMsb (l : List Bool) : Nat := l.foldl (fun a b => 2 * a + b.toNat) 0

/-- One bit of the CRC of an enhanced serial message. PRESUMED (SAE J2716): polynomial x^6 + x^4 + x^3 + 1. -/
def slowCrcStep (c : Nat) (b : Bool) : Nat :=
  let x := 2 * c + b.toNat
  if 64 ≤ x then Nat.xor (x - 64) 25 else x

/-- A short serial message in the last 16 frames, oldest first: ID and data. PRESUMED (SAE J2716): bit 3 is 1 in the first frame alone;
bit 2 carries 4 bits of ID, 8 of data and 4 of CRC, formed as for the fast channel. -/
def shortSerial (recommended : Bool) (l : List (Bool × Bool)) : Option (Nat × Nat) :=
  let b := l.map fun x => x.2
  let id := bitsMsb (b.take 4)
  let v := bitsMsb ((b.drop 4).take 8)
  if l.length = 16 ∧ (l.map fun x => x.1) = true :: List.replicate 15 false ∧
     sentCrc recommended [id, v / 16, v % 16] = bitsMsb (b.drop 12) then some (id, v) else none

/-- An enhanced serial message in the last 18 frames, oldest first: ID and data. PRESUMED (SAE J2716): bit 3 is 1 in frames 1–6 and 0 in
frames 7, 13 and 18, frame 8 is the configuration bit, frames 9–12 and 14–17 carry the ID, or its low part and the highest four
bits of 16 of data; bit 2 carries the CRC in frames 1–6 and 12 bits of data in frames 7–18; the CRC covers bits 2 and 3 of frames
7–18 in turn, from a seed of 0b010101, with six zeros after them. -/
def enhancedSerial (l : List (Bool × Bool)) : Option (Nat × Nat) :=
  let a := l.map fun x => x.1
  let b := l.map fun x => x.2
  let msg := ((l.drop 6).map fun x => [x.2, x.1]).flatten ++ List.replicate 6 false
  let hi := bitsMsb ((a.drop 8).take 4)
  let lo := bitsMsb ((a.drop 13).take 4)
  let d := bitsMsb (b.drop 6)
  if l.length = 18 ∧ a.take 7 = List.replicate 6 true ++ [false] ∧ a.getD 12 true = false ∧ a.getD 17 true = false ∧
     msg.foldl slowCrcStep 21 = bitsMsb (b.take 6) then
    (if a.getD 7 false then some (hi, 4096 * lo + d) else some (16 * hi + lo, d))
  else none

/-- The serial message that the newest of the slow channel's frames completes (R177). -/
def slowMessage (recommended : Bool) (l : List (Bool × Bool)) : Option (Nat × Nat) :=
  match enhancedSerial (l.take 18).reverse with
  | some x => some x
  | none => shortSerial recommended (l.take 16).reverse

/-- SENT_FRAME: a frame is decoded, checked and stamped, or discarded (R177, R178). A discarded frame breaks the slow channel's
message. -/
def sentFrame (x : SentFrame) (s : State) : State :=
  let f := s.img.f.acq
  if f.sentRole = 0 || !s.domainOn 2 then s
  else if s.sentValid x then
    let d : Int := (x.data.foldl (fun a n => a * 16 + (n - 12)) 0 : Nat)
    let stamp := x.t - 1000 * f.sentLatency
    let nib := x.status - 12
    let slow := ((nib.testBit 3, nib.testBit 2) :: s.acq.sent.slow).take 18
    let match_ := match slowMessage f.sentCrcRecommended slow with
      | some (id, v) => if id = f.sentIdMsg then some (v == f.sentIdValue) else none
      | none => none
    let s1 : State := { s with acq := { s.acq with sent := { s.acq.sent with
      cal := some x.cal
      frames := ((stamp, (d - f.sentZero) * f.sentLsb) :: s.acq.sent.frames).take 64
      slow := slow
      period := match s.acq.sent.frames with | (t0, _) :: _ => stamp - t0 | [] => 0
      firstValid := some (s.acq.sent.firstValid.getD x.t)
      lastValid := some x.t
      idSeen := s.acq.sent.idSeen || match_ == some true
      idBad := s.acq.sent.idBad || match_ == some false } } }
    if match_ == some false then (s1.at x.t).raise 0x614 0 else s1.at x.t
  else
    let n := s.acq.sent.discarded + 1
    let s1 : State := { s with acq := { s.acq with sent := { s.acq.sent with discarded := n, slow := [] } } }
    if 10 < n then (s1.at x.t).raise 0x613 0 else s1.at x.t

/-- SENT_ID_TIMEOUT (R177): no matching message within 2 s of the first valid frame. -/
def sentIdTimeout (t : Ns) (s : State) : State :=
  match s.acq.sent.firstValid with
  | none => s
  | some t0 =>
    if t0 + 2000000000 ≤ t && !s.acq.sent.idSeen then
      ({ s with acq := { s.acq with sent := { s.acq.sent with idBad := true } } }.at t).raise 0x614 0
    else s

/-- SENT_LOSS (R178): no valid frame for 50 ms. -/
def sentLoss (t : Ns) (s : State) : State :=
  if s.img.f.acq.sentRole = 0 then s
  else if (s.acq.sent.lastValid.getD 0) + 50000000 ≤ t then
    ({ s with acq := { s.acq with sent := { s.acq.sent with lossInWindow := true } } }.at t).raise 0x613 0
  else s

/-- The hold integral of SENT frames over an interval, in mA × 10 ns: each frame's value from its stamp to the
next stamp (R178), on the crystal's 10 ns count (R14). Frames newest first; `up` is where the newest still open span ends. -/
def holdIntegral (lo up : Ns) : List (Ns × Int) → Int
  | [] => 0
  | (t, v) :: rest =>
    let a := max t lo
    (if a < up then v * ((up / 10 - a / 10 : Nat) : Int) else 0) + holdIntegral lo (min up a) rest

/-! ### Voltages and temperatures on chip (R179, R180) -/

/-- A pin code within 0.5 % of either rail. -/
def railCode (c : Nat) : Bool := decide (c * 1000 < 5 * 65536) || decide (995 * 65536 < c * 1000)

/-- A pin code of 16 bits over 0–1.2 V times a divider ratio, in mV. -/
def pinMV (c ratio : Nat) : Int := roundDiv (c * 1200 * ratio : Nat) 65536

/-- A thermistor ratio is open or short (R180). -/
def thermOpen (c : Nat) : Bool := decide (49 * 65536 < 50 * c) || decide (50 * c < 65536)

/-- One more round of a pair of runs. -/
def Runs.step (r : Runs) (bad : Bool) : Runs := if bad then ⟨r.bad + 1, 0⟩ else ⟨0, r.good + 1⟩

/-- The temperature of R180 in 0.01 °C, rounded down: R = 10.0 kΩ × r / (1 − r), T = 1 / (1/298.15 K + ln(R / r25) / beta) − 273.15 K. -/
def thermFloor (r25 beta c : Nat) : Int :=
  let r : Rat := 10000 * c / (65536 - c : Nat)
  (100 * (1 / (100 / 29815 + lnNear (r / r25) / beta)) - 27315).floor

/-- A thermistor record: SENSOR while it is open or short, and while its fault stands (R180, Table 7-2). -/
def State.thermRec (s : State) (fitted : Bool) (r25 beta c : Nat) (bad : Bool) : Rec :=
  let v := thermFloor r25 beta c + (Config.thermistorUp r25 beta c).toNat
  if !fitted then s.mkRec 0 true false false false false
  else if thermOpen c then s.mkRec 0 true false false true false
  else s.mkRec v false (decide (v < -4000) || decide (12500 < v)) false bad false

/-- A thermistor's fault stands from the tenth round of its condition in succession until the hundredth without it (Table 7-7). -/
def Therm.step (r : Therm) (c : Nat) : Therm :=
  let q := r.runs.step (thermOpen c)
  ⟨q, decide (10 ≤ q.bad) || (r.bad && decide (q.good < 100))⟩

/-! ### The cell sample set (R181–R183) -/

/-- A node's samples are those of the present snap. The cells of a node classed MISSING are absent (Table 6-3). -/
def State.nodeSampled (s : State) (n : Node) : Bool :=
  n.sampleRound == some s.pace.round && !n.lost && !n.quarantined && !n.differed && n.cls != NodeClass.missing

/-- A reporting node gives no value for a fitted group (Table 7-3). -/
def State.groupMissing (s : State) (n : Node) (g : Nat) : Bool := s.nodeSampled n && n.volts.getD g 65535 == 65535

/-- The record of one group of a node at a series position (Table 7-3), in 10 µV; SENSOR also while fault 0x617 stands for the group
(Table 7-2). -/
def State.groupRec (s : State) (id : NodeId) (g pos : Nat) : Rec :=
  let un := !(s.pace.lock == Lock.lock)
  let stands := s.flt.stands 0x617 pos
  match s.node id with
  | none => ⟨absentValue, mkFlags true false un false false false stands false, s.pace.round, 0, s.pace.start⟩
  | some n =>
    let comp := n.configured
    let rst := n.resetRound == some s.pace.round
    let rec_ (v : Int) (absent range sensor : Bool) : Rec :=
      ⟨v, mkFlags absent range (un || !comp) (!comp) rst false (sensor || stands) false, s.pace.round, 0, s.pace.start⟩
    if s.nodeSampled n then
      let c := n.volts.getD g 65535
      if c = 65535 then rec_ absentValue true false true
      else if c = 65534 then rec_ 655340 false true false
      else rec_ (10 * (c : Int)) false false false
    else rec_ absentValue true false false

/-- Every fitted group's record in series order. -/
def State.groupRecs (s : State) : List Rec :=
  match s.img.variant with
  | none => []
  | some v => (v.nodeList.map fun n => (List.range n.2.groups).map fun g => s.groupRec n.1 g (v.firstPos n.1 + g)).flatten

/-- A node temperature record in 0.01 °C (R182), flagged as every sample of its node (R125, R138). -/
def State.tempRec (s : State) (id : NodeId) (temps j : Nat) : Rec :=
  let un := !(s.pace.lock == Lock.lock)
  match s.node id with
  | none => ⟨absentValue, mkFlags true false un false false false false false, s.pace.round, 0, s.pace.start⟩
  | some n =>
    let comp := n.configured
    let rst := n.resetRound == some s.pace.round
    let fl (absent range stale sensor : Bool) := mkFlags absent range un (!comp) rst stale sensor false
    match n.temps.getD j none with
    | none => ⟨absentValue, fl true false false false, s.pace.round, 0, s.pace.start⟩
    | some t =>
      let age := s.pace.round - t.round
      let stale := decide (2 * temps < age)
      if 8 * temps < age then ⟨absentValue, fl true false false false, s.pace.round, 0, s.pace.start⟩
      else if t.code = 255 then ⟨absentValue, fl true false stale true, t.round, 0, t.t⟩
      else ⟨50 * (t.code : Int) - 4000, fl false (t.code == 254) stale false, t.round, 0, t.t⟩

/-- The temperature records of a node. -/
def State.nodeTemps (s : State) (id : NodeId) (temps : Nat) : List Rec :=
  (List.range temps).map fun j => s.tempRec id temps j

/-- The least value of a list, with a start. -/
def minOf (l : List Int) : Int := l.foldl min (l.headD 0)
@[inherit_doc minOf] def maxOf (l : List Int) : Int := l.foldl max (l.headD 0)

/-- A stream reduced from usable records of a number fitted (R183). -/
def State.reduced (s : State) (fitted : Nat) (vals : List Int) (v : Int) : Rec :=
  if vals.isEmpty then s.mkRec 0 true false false false false
  else s.mkRec v false false false false (decide (vals.length < fitted))

/-- The six streams of one port (Table 7-1, R183). -/
def State.portStreams (s : State) (p : Nat) : List Rec :=
  match s.img.variant with
  | none => List.replicate 6 (s.mkRec 0 true false false false false)
  | some v =>
    match v.rings.find? fun r => r.port == p with
    | none => List.replicate 6 (s.mkRec 0 true false false false false)
    | some r =>
      let idx := (List.range r.nodes.length).filterMap fun j => (r.nodes[j]?).map fun n => (nodeId p j, n)
      let gs := (idx.map fun n => (List.range n.2.groups).map fun g => s.groupRec n.1 g (v.firstPos n.1 + g)).flatten
      let ts := (idx.map fun n => s.nodeTemps n.1 n.2.temps).flatten
      let gv := (gs.filter Rec.usable).map fun r => r.value
      let tv := (ts.filter Rec.usable).map fun r => r.value
      [s.reduced gs.length gv (roundDiv gv.sum 100),
       s.reduced gs.length gv (minOf gv / 10), s.reduced gs.length gv (maxOf gv / 10),
       s.mkRec gv.length false false false false (decide (gv.length < gs.length)),
       s.reduced ts.length tv (minOf tv), s.reduced ts.length tv (maxOf tv)]

/-! ### The streams of a snap (R167, R175, R176, R178) -/

/-- The four streams of a shunt; snap 0 of a cold boot, which alone is round 0 (R98), closes an empty interval (R173). -/
def State.shuntStreams (s : State) (x : Shunt) (r : Nat) (invert : Bool) (code : Int) (sensor : Bool) : List Rec :=
  if r = 0 then List.replicate 4 (s.mkRec 0 true false false false false)
  else
    let snap := shuntMA code r invert
    let sens := x.sensor || sensor
    let rng := x.range || fullScale code
    let zero := s.pace.round == 0
    [s.mkRec snap false rng false sens false,
     s.mkRec (if zero then 0 else x.charge) false rng false sens false,
     s.mkRec (if zero then snap else x.minA) false rng false sens false,
     s.mkRec (if zero then snap else x.maxA) false rng false sens false]

/-- The round and the stitch in which an instant fell: those of the latest snap no later than it (R168). -/
def State.stampAt (s : State) (t : Ns) : Round × Nat :=
  let older := s.acq.snaps.dropWhile fun p => decide (t < p.2)
  let next := (s.acq.snaps.takeWhile fun p => decide (t < p.2)).getLast?
  match older with
  | [] => (s.pace.round, 0)
  | (r, t0) :: _ =>
    let len := match next with | some q => q.2 - t0 | none => s.pace.lengthPs / 1000
    (r, if len = 0 then 0 else min 63 (64 * (t - t0) / len))

/-- The four SENT streams (R178). Stream 8 carries the latest frame with its own timestamp, and STALE past its limit. DESIGN CHOICE:
in a round in which no frame is stamped, streams 10 and 11 carry the held value of the latest one. -/
def State.sentStreams (s : State) : List Rec :=
  let z := s.acq.sent
  let tn := s.pace.start
  let tp := s.pace.prevStart
  let up (r : Rec) : Rec := { r with flags := r.flags ||| 4#8 }
  if s.img.f.acq.sentRole = 0 then List.replicate 4 (up (s.mkRec 0 true false false false false))
  else
    match (z.frames.dropWhile fun f => decide (tn < f.1)) with
    | [] => List.replicate 4 (up (s.mkRec 0 true false false false false))
    | (t0, v0) :: older =>
      let sens := s.flt.bit 0x613 || s.flt.bit 0x614
      let stale := decide (max (3 * z.period) 5000000 < tn - t0)
      let inRound := (((t0, v0) :: older).takeWhile fun f => decide (tp < f.1)).map fun f => f.2
      let vals := if s.pace.round == 0 || inRound.isEmpty then [v0] else inRound
      let q := 10 * holdIntegral tp tn ((t0, v0) :: older)
      let charge := (z.qPrev + q) / 1000000 - z.qPrev / 1000000
      let stamp := s.stampAt t0
      [{ up (s.mkRec v0 false false stale sens false) with t := t0, round := stamp.1, stitch := stamp.2 },
       up (s.mkRec (if s.pace.round == 0 then 0 else charge) false false false sens false),
       up (s.mkRec (minOf vals) false false false sens false),
       up (s.mkRec (maxOf vals) false false false sens false)]

/-- The mean of two integers; a half is rounded toward −∞. -/
def meanInt (a b : Int) : Int := (a + b) / 2

/-- A record of a list of streams. -/
def streamAt (l : List Rec) (i : Nat) : Rec := l.getD i ⟨absentValue, 1, 0, 0, 0⟩

/-- The two shunts agree in the round (R176). Charges in µC, Δt in 10 ns ticks. DESIGN CHOICE: a round with Δt = 0, for which the
formula has no value, counts as agreeing. -/
def shuntsAgree (abs_ rel : Rat) (qa qb : Int) (dt : Nat) : Bool :=
  let d : Rat := (dt : Rat) / 100
  decide (dt = 0) || decide ((|qa - qb| : Int) ≤ abs_ * d + rel / 100 * ((max |qa| |qb| : Int) : Rat))

/-- Streams 12–15 as the owner sent them for the present snap, with the tier their flags show: what a witness without a
shunt of its own takes (R382). -/
def State.ownerStreams (s : State) : Option (List Rec × Tier) :=
  match s.own.streams with
  | some (r, l) =>
    if !s.attached && s.img.f.acq.rA == 0 && s.img.f.acq.rB == 0 && r == s.pace.round then
      let recs := l.map fun x => { s.mkRec x.1 false false false false false with flags := BitVec.ofNat 8 x.2 }
      let q := streamAt recs 1
      let reduced := q.flags.getLsbD 7 && q.flags.getLsbD 2
      some (recs, if q.absent then .absent else if q.hasSensor then .sensor else if reduced then .sent else .shunt)
    else none
  | none => none

/-- Streams 12–15 (R175, R176), and the shunt set aside by SENT arbitration. DESIGN CHOICE: where both shunts lie equally near the SENT
mean, ISH_A is taken. -/
def State.packStreams (s : State) (a b z : List Rec) : List Rec × Option ShuntId × Tier :=
  let ua := (streamAt a 1).usable && (streamAt a 0).usable
  let ub := (streamAt b 1).usable && (streamAt b 0).usable
  let uz := (streamAt z 1).usable && (streamAt z 0).usable
  let stands := s.flt.bit 0x612
  let merge (sensor : Bool) : List Rec :=
    (List.range 4).map fun i => s.mkRec (meanInt (streamAt a i).value (streamAt b i).value) false false false sensor false
  let take (l : List Rec) : List Rec :=
    (List.range 4).map fun i => s.mkRec (streamAt l i).value false false false false true
  let sent : List Rec := (List.range 4).map fun i => { streamAt z i with flags := (streamAt z i).flags ||| 132#8 }
  let plain (l : List Rec) : List Rec :=
    (List.range 4).map fun i => s.mkRec (streamAt l i).value false false false false false
  if ua && ub then
    if stands then
      if uz && (s.img.f.acq.sentRole == 1 || s.img.f.acq.sentRole == 2) then
        let q := (streamAt z 1).value
        if |(streamAt a 1).value - q| ≤ |(streamAt b 1).value - q| then (plain a, some .b, .shunt) else (plain b, some .a, .shunt)
      else (merge true, none, .sensor)
    else (merge false, none, .shunt)
  else if ua then (take a, none, .shunt)
  else if ub then (take b, none, .shunt)
  else if let some (l, tier) := s.ownerStreams then (l, none, tier)
  else if uz && s.img.f.acq.sentRole == 1 then (sent, none, .sent)
  else (List.replicate 4 (s.mkRec 0 true false false false false), none, .absent)

/-- Store cells by RSEL_CHEM and the image: those fitted. -/
def State.storeCells (s : State) : Nat := if s.code.chem = 0 || !s.img.storeServed then 0 else s.img.f.store.cells

/-- The condition of R184 on a store cell: adjacent taps below −50 mV, or a reading of zero ± 2 mV
while the stack and the other cells disagree by more than 100 mV. -/
def cellChannelBad (x : SnapLatch) (n k : Nat) : Bool :=
  let v := x.sc.getD (k - 1) 0
  let others := ((List.range n).map fun j => if j + 1 = k then 0 else x.sc.getD j 0).sum
  decide (v < -5000) || (decide (-200 ≤ v) && decide (v ≤ 200) && decide (10000 < |x.stack - others|))

/-- A store cell's conversion is at or beyond a limit of its range, 0 to 5.0 V (R184, Table 7-2), in 10 µV. -/
def storeRange (v : Int) : Bool := decide (v ≤ 0) || decide (500000 ≤ v)

/-- The streams of the present snap formed from what was latched and read (R167). -/
def State.formStreams (s : State) : State :=
  match s.acq.latch with
  | none => s
  | some x =>
    if s.acq.formed == some s.pace.round then s
    else
      let f := s.img.f.acq
      let a0 := s.shuntStreams s.acq.ishA f.rA f.invertA x.ishA false
      let b0 := s.shuntStreams s.acq.ishB f.rB f.invertB x.ishB false
      let z := s.sentStreams
      -- agreement of the shunts is judged first, over the records without arbitration
      let both := (streamAt a0 1).usable && (streamAt b0 1).usable
      let agree := shuntsAgree f.agreeAbs f.agreeRel (streamAt a0 1).value (streamAt b0 1).value s.pace.dt
      let runs := if both then s.acq.shuntRuns.step (!agree) else s.acq.shuntRuns
      let s1 : State := { s with acq := { s.acq with shuntRuns := runs } }
      let s2 := s1.judge2 0x612 0 (f.agreeRounds ≤ runs.bad) (f.agreeRounds ≤ runs.good)
      let (p, rej, tier) := s2.packStreams a0 b0 z
      let a := if rej == some ShuntId.a then s2.shuntStreams s.acq.ishA f.rA f.invertA x.ishA true else a0
      let b := if rej == some ShuntId.b then s2.shuntStreams s.acq.ishB f.rB f.invertB x.ishB true else b0
      let s3 := s2.judge 0x618 0 ((streamAt p 1).absent)
      let gs := s3.groupRecs
      let gv := (gs.filter Rec.usable).map fun r => r.value
      let nst := s3.storeCells
      let cell (k : Nat) : Rec :=
        if nst < k then s3.mkRec 0 true false false false false
        else s3.mkRec (x.sc.getD (k - 1) 0) false (storeRange (x.sc.getD (k - 1) 0)) false
          (s3.flt.stands 0x740 (4096 + k) || cellChannelBad x nst k) false
      let si := s3.shuntStreams s3.acq.store f.siShunt false x.si false
      let fit := decide (0 < nst)
      let l : List Rec :=
        a ++ b ++ z ++ p ++
        [s3.mkRec (pinMV x.vpkA f.ratioVpkA) false (railCode x.vpkA) false false false,
         s3.mkRec (pinMV x.vpkB f.ratioVpkB) false (railCode x.vpkB) false false false,
         s3.reduced gs.length gv (roundDiv gv.sum 100),
         s3.mkRec gv.length gs.isEmpty false false false (decide (gv.length < gs.length)),
         s3.thermRec true f.tclR25 f.tclBeta x.tclIn s3.acq.tclIn.bad, s3.thermRec true f.tclR25 f.tclBeta x.tclOut s3.acq.tclOut.bad] ++
        ((List.range 8).map fun k => cell (k + 1)) ++
        [s3.mkRec x.stack (!fit) false false false false,
         if fit then streamAt si 0 else s3.mkRec 0 true false false false false,
         if fit then streamAt si 1 else s3.mkRec 0 true false false false false,
         s3.thermRec fit f.stR25 f.stBeta x.st1 s3.acq.st1.bad, s3.thermRec fit f.stR25 f.stBeta x.st2 s3.acq.st2.bad,
         s3.mkRec (pinMV x.vmain f.ratioVmain) false (railCode x.vmain) false false false,
         s3.mkRec x.vcomb false false false false false] ++
        (([(0, TapId.a), (1, TapId.b), (2, TapId.c)] : List (Nat × TapId)).map fun i =>
          s3.mkRec (x.vtap.getD i.1 0) (!s3.code.tapFitted i.2) false false false false) ++
        (([(0, TapId.a), (1, TapId.b), (2, TapId.c)] : List (Nat × TapId)).map fun i =>
          s3.mkRec (x.itap.getD i.1 0) (!s3.code.tapFitted i.2) false false false false) ++
        ((List.range 4).map fun i => s3.mkRec (x.die.getD i 0) false false false false false) ++
        [s3.mkRec x.vref false false false false false] ++
        ((List.range 8).map fun q => s3.portStreams q).flatten
      let q := 10 * holdIntegral s3.pace.prevStart s3.pace.start
        (s3.acq.sent.frames.dropWhile fun g => decide (s3.pace.start < g.1))
      { s3 with acq := { s3.acq with
          streams := l, formed := some s3.pace.round, rejected := rej, packTier := tier
          sent := { s3.acq.sent with qPrev := s3.acq.sent.qPrev + q, q := q } } }

/-- R179: pack voltages against the cell sum, and against each other, when every group is usable. -/
def State.voltageCheck (s : State) : State :=
  let l := s.acq.streams
  let lim : Int := s.img.f.acq.vpkAgree
  let full := !(streamAt l 18).absent && (streamAt l 18).flags.getLsbD 7 == false
  let far (i j : Nat) : Bool := decide (lim < |(streamAt l i).value - (streamAt l j).value|)
  let ra := if full && (streamAt l 16).usable then s.acq.vpkARuns.step (far 16 18) else s.acq.vpkARuns
  let rb := if full && (streamAt l 17).usable then s.acq.vpkBRuns.step (far 17 18) else s.acq.vpkBRuns
  let rr := if (streamAt l 16).usable && (streamAt l 17).usable then s.acq.vpkRuns.step (far 16 17) else s.acq.vpkRuns
  let s1 : State := { s with acq := { s.acq with vpkARuns := ra, vpkBRuns := rb, vpkRuns := rr } }
  (s1.judge2 0x615 0 (decide (10 ≤ ra.bad) || decide (10 ≤ rb.bad))
    ((decide (100 ≤ ra.good) || !(streamAt l 16).usable) && (decide (100 ≤ rb.good) || !(streamAt l 17).usable)
      && (decide (100 ≤ ra.good) || decide (100 ≤ rb.good)))).judge2
    0x616 0 (10 ≤ rr.bad) (100 ≤ rr.good)

/-- R180, R184: thermistor and store-channel conditions of the snap. -/
def State.channelCheck (s : State) : State :=
  match s.acq.latch with
  | none => s
  | some x =>
    let i := s.acq.tclIn.step x.tclIn
    let o := s.acq.tclOut.step x.tclOut
    let n := s.storeCells
    let t1 := if 0 < n then s.acq.st1.step x.st1 else ⟨⟨0, 0⟩, false⟩
    let t2 := if 0 < n then s.acq.st2.step x.st2 else ⟨⟨0, 0⟩, false⟩
    let s1 : State := { s with acq := { s.acq with tclIn := i, tclOut := o, st1 := t1, st2 := t2 } }
    let s2 := ((s1.judge 0xA10 0 i.bad).judge 0xA11 0 o.bad).judge 0x742 0 (t1.bad || t2.bad)
    (List.range n).foldl (fun u j =>
      let k := j + 1
      let r := ((lookupKey k u.acq.cellRuns).getD ⟨0, 0⟩).step (cellChannelBad x n k)
      let u1 : State := { u with acq := { u.acq with cellRuns := insertKey k r u.acq.cellRuns } }
      u1.judge2 0x740 (4096 + k) (1 ≤ r.bad) (100 ≤ r.good)) s2

/-- R181: a fitted group without a value in 10 consecutive rounds while its node reports raises 0x617, and 10 consecutive rounds with one
clear it; a round without a READ is neither, and breaks both runs. -/
def State.groupCheck (s : State) : State :=
  match s.img.variant with
  | none => s
  | some v =>
    let groups := (v.nodeList.map fun n => (List.range n.2.groups).map fun g => (n.1, g)).flatten
    (List.range groups.length).foldl (fun u j =>
      let id := groups.getD j (0, 0)
      let pos := j + 1
      let old := lookupKey pos u.acq.groupRuns
      let reporting := match u.node id.1 with | some n => u.nodeSampled n | none => false
      let bad := match u.node id.1 with | some n => u.groupMissing n id.2 | none => false
      if !bad && old.isNone then u
      else
        let q : Runs := if reporting then (old.getD ⟨0, 0⟩).step bad else ⟨0, 0⟩
        let done := decide (10 ≤ q.good) || (!reporting && !u.flt.stands 0x617 pos)
        let u1 : State := { u with acq := { u.acq with
          groupRuns := if done then eraseKey pos u.acq.groupRuns else insertKey pos q u.acq.groupRuns } }
        u1.judge2 0x617 pos (10 ≤ q.bad) (10 ≤ q.good)) s

/-- The full-scale fault of one channel clears after 100 rounds without RANGE, in the round's samples or in its snap value (R174). -/
def Shunt.roundClean (x : Shunt) (snapClip : Bool) : Shunt :=
  let c := if x.range || snapClip then 0 else x.clean + 1
  { x with clean := c, sensor := x.sensor && decide (c < 100) }

/-- What is known of a group's bleed at the present snap (R191, R192). -/
def State.groupBleed (s : State) (id : NodeId) (g : Nat) : Bleed :=
  match s.node id with
  | none => .off
  | some n =>
    match n.balAck with
    | none => .off
    | some (m, h, r) =>
      if !m.getLsbD g then .off
      else if s.nodeSampled n then (if n.balOn then .on else .off)
      else if s.pace.round < r + h then .unknown else .off

/-- The bleeds of every group in series order. -/
def State.groupBleeds (s : State) : List Bleed :=
  match s.img.variant with
  | none => []
  | some v => (v.nodeList.map fun n => (List.range n.2.groups).map fun g => s.groupBleed n.1 g).flatten

/-- At the boundary the records of the snap just worked on are kept for the classical update, and the
next snap is latched (R17, R167). -/
def State.acqClose (s : State) : State :=
  let s1 := s.formStreams
  let temps := match s1.img.variant with
    | none => []
    | some v => v.nodeList.map fun n => (n.1, s1.nodeTemps n.1 n.2.temps)
  { s1 with acq := { s1.acq with
      prevStreams := s1.acq.streams, prevGroups := s1.groupRecs, prevTemps := temps, prevBleed := s1.groupBleeds
      prevTier := s1.acq.packTier, prev612 := s1.flt.bit 0x612, prevT := s1.pace.start, prevDt := s1.pace.dt
      prevSb := s1.acq.sb } }

/-- The latch of a snap (R170, R179, R184): every count awaits the sample that contains the snap. -/
def State.acqLatch (s : State) (x : SnapLatch) : State :=
  let clip (g : SnapLatch → Int) : Bool := match s.acq.latch with | some y => fullScale (g y) | none => false
  let a := s.acq.ishA.roundClean (clip fun y => y.ishA)
  let b := s.acq.ishB.roundClean (clip fun y => y.ishB)
  let c := s.acq.store.roundClean (clip fun y => y.si)
  let win := s.pace.round % 1000 == 0
  let z := s.acq.sent
  let silent := !(s.img.f.acq.sentRole == 0) && decide (z.lastValid.getD 0 + 50000000 ≤ s.pace.start)
  let s1 : State := { s with acq := { s.acq with
    ishA := { a with open_ := true }, ishB := { b with open_ := true }, store := { c with open_ := true }
    latch := some x
    snaps := ((s.pace.round, s.pace.start) :: s.acq.snaps).take 64
    packSnap := (s.acq.packCount, s.acq.packSnap.1)
    storeSnap := (s.acq.store.count, s.acq.storeSnap.1)
    sent := if win then { z with discarded := 0, lossInWindow := silent } else z } }
  let s2 := if s.acq.ishA.sensor && !a.sensor then s1.clear 0x610 0 else s1
  let s3 := if s.acq.ishB.sensor && !b.sensor then s2.clear 0x611 0 else s2
  let s4 := if s.acq.store.sensor && !c.sensor then s3.clear 0x741 0 else s3
  if win && z.discarded ≤ 10 && !z.lossInWindow && !silent then s4.clear 0x613 0 else s4

/-! ### Store balancing switches (R184) -/

/-- SB_SNAP_BLANK: 100 µs before a predicted snap every store balancing switch is turned off. -/
def sbBlank (s : State) : State :=
  if s.sup.p1 then { s with acq := { s.acq with sbBlank := true } } else s

/-- SB_RESTORE: 20 µs after the snap the requested states are restored. -/
def sbRestore (s : State) : State := { s with acq := { s.acq with sbBlank := false } }

/-- The state of a store balancing switch at its pin: k from 1 to 8. Outside RUN, in a park check, on any path but VEHICLE and while a store
change is being basted every switch is off (R335, R347). -/
def State.sbPin (s : State) (k : Nat) : Bool :=
  s.sup.p1 && !s.acq.sbBlank && k ≤ s.storeCells && s.acq.sb.getD (k - 1) false &&
    s.sup.dev == DevState.run && !s.sup.parkCheck && s.res.path == PathState.vehicle && !s.res.changing

/-- The shunt currents of the round are below a bound in A (R75, R161): for each fitted shunt the larger
magnitude of its round minimum and maximum, usable. -/
def State.shuntsBelow (s : State) (lim : Rat) : Bool :=
  let l := if s.acq.formed == some s.pace.round then s.acq.streams else s.acq.prevStreams
  let ok (r i : Nat) : Bool :=
    r == 0 || ((streamAt l (i + 2)).usable && (streamAt l (i + 3)).usable &&
      decide (((max |(streamAt l (i + 2)).value| |(streamAt l (i + 3)).value| : Int) : Rat) < lim * 1000))
  ok s.img.f.acq.rA 0 && ok s.img.f.acq.rB 4

end Sys2Proof.Machine
end

