-- ==== Sys2Proof/Machine/EstOps.lean ====
section
/-!
DEFINITION. The classical estimator of chapter 08 on one cell and one estimator: OCV tables, counting,
tack points, anchors, basting, capacity learning, resistance, balancing, the hem values, and the
cell records of the seal and the journal. The commands that use it are in Classical.lean.
-/
namespace Sys2Proof.Machine
open Sys2Proof.Config (quot)

/-- A quantity held between two bounds. -/
def clampR (lo hi x : Rat) : Rat := max lo (min hi x)

/-! ### OCV tables (R197) -/

/-- Linear interpolation between two values. -/
def lerp (x0 x1 y0 y1 x : Rat) : Rat := y0 + quot ((x - x0) * (y1 - y0)) (x1 - x0)

/-- The curve at a temperature: linear between the three temperatures, the end rows held outside. -/
def ocvCurve (f : EstFields) (t : Rat) : List Rat :=
  let t0 := f.ocvT.getD 0 0
  let t1 := f.ocvT.getD 1 0
  let t2 := f.ocvT.getD 2 0
  let row (i : Nat) := f.ocvV.getD i []
  let mix (a b : Nat) (u v : Rat) := (List.range 21).map fun i => lerp u v ((row a).getD i 0) ((row b).getD i 0) t
  if t ≤ t0 then row 0
  else if t2 ≤ t then row 2
  else if t ≤ t1 then mix 0 1 t0 t1 else mix 1 2 t1 t2

/-- OCV at a SoC in %. -/
def ocvAt (curve : List Rat) (soc : Rat) : Rat :=
  let x := clampR 0 100 soc
  let i := min 19 (x / 5).floor.toNat
  lerp (5 * i) (5 * (i + 1)) (curve.getD i 0) (curve.getD (i + 1) 0) x

/-- The segment of a curve that holds a voltage: the first whose upper value is not below it. -/
def ocvSegment (curve : List Rat) (v : Rat) : Nat :=
  ((List.range 19).find? fun i => decide (v ≤ curve.getD (i + 1) 0)).getD 19

/-- SoC in % from OCV, and the slope of the segment in mV per %. -/
def socFromOcv (curve : List Rat) (v : Rat) : Rat × Rat :=
  let i := ocvSegment curve v
  let a := curve.getD i 0
  let b := curve.getD (i + 1) 0
  (clampR 0 100 (lerp a b (5 * i) (5 * (i + 1)) v), (b - a) / 5)

/-! ### One cell -/

/-- The inputs of a round common to every cell of an estimator: charge in µC, Δt in s, snap current in A (none where it is ABSENT)
and mean current in A, and the age of the rest at this snap and the one before, in s. -/
structure EstRound where
  q : Rat
  tier : Tier
  dt : Rat
  iSnap : Option Rat
  iMean : Option Rat
  age0 : Option Rat
  age : Option Rat
  /-- Further widening of both edges in the round, in % (R213). -/
  extra : Rat
  /-- The charge count (nC), the time spent in gaps and the entry a point of this round takes. -/
  count : Int
  gap : Ns
  entry : Nat

/-- The inputs of a round for one cell: voltage in mV when the record is usable, the UNCOMP flag, its bleed,
and the temperature of R197. -/
structure CellIn where
  v : Option Rat
  uncomp : Bool
  bleed : Bleed
  temp : Rat

/-- s_lo ≤ s ≤ s_hi, and both edges within −2 % to 102 % (R188). -/
def Cell.fix (c : Cell) : Cell :=
  let lo := clampR (-2) 102 c.lo
  let hi := clampR lo 102 c.hi
  { c with lo := lo, hi := hi, s := clampR lo hi c.s }

/-- A tier's gain in % and offset in A (Table 8-2). -/
def EstFields.tier (f : EstFields) : Tier → Rat × Rat
  | .shunt => (f.gainShunt, f.offShunt)
  | .sensor => (f.gainSensor, f.offSensor)
  | .sent => (f.gainSent, f.offSent)
  | .absent => (0, f.iAbsent)

/-- Counting and widening over one round (R191, R192, R193): Q in µC, the bleed's charge in A·h, Δt in s. -/
def Cell.count (f : EstFields) (tier : Tier) (q dt extra : Rat) (bleed : Bleed) (c : Cell) : Cell :=
  let b := quot ((c.vLast.getD 0) / 1000) f.rBleed * dt / 3600
  let lost := if bleed = .unknown then quot b c.cap * 100 else 0
  if tier = .absent then
    let d := quot (f.iAbsent * dt / 3600) c.cap * 100 + extra
    ({ c with lo := c.lo - d - lost, hi := c.hi + d } : Cell).fix
  else
    let on := if bleed = .on then b else 0
    let qh := q / 3600000000
    let ds := -(quot (qh + on) c.cap) * 100
    let (eps, off) := f.tier tier
    let d := quot (eps / 100 * |qh| + off * dt / 3600) c.cap * 100 + c.uC / 100 * |ds| + extra
    ({ c with s := c.s + ds, lo := c.lo + ds - d - lost, hi := c.hi + ds + d, bal := c.bal + on } : Cell).fix

/-- Resistance from consecutive snaps (R212). -/
def Cell.resist (f : EstFields) (v : Option Rat) (uncomp : Bool) (i : Option Rat) (c : Cell) : Cell :=
  match v, i with
  | some v, some i =>
    if uncomp then { c with prev := none }
    else
      let r := match c.prev with
        | none => c.r
        | some (v0, i0) =>
          if |i - i0| < f.rStepMin then c.r
          else
            let m := -(quot (v - v0) (i - i0)) * 1000
            if m < f.rNominal / 4 ∨ 4 * f.rNominal < m then c.r else c.r + f.rGain * (m - c.r)
      { c with r := r, prev := some (v, i) }
  | _, _ => { c with prev := none }

/-- What a round says of one cell beside its new state: a fault to raise or to clear, or a target of Table 11-5, a SoC in
% or a capacity in A·h with its uncertainty in the same unit. -/
inductive CellNote
  | fault (code : Nat) (cell : CellId) (up : Bool)
  | soc (cell : CellId) (value u : Rat)
  | cap (cell : CellId) (value u : Rat)
  deriving DecidableEq, Repr

/-- A capacity measurement between two points (R209): A·h, and relative uncertainty as a fraction. -/
def Cell.measure (f : EstFields) (a b : Point) (c : Cell) : Rat × Rat :=
  let d := a.soc - b.soc
  let cm := quot (((b.count - a.count : Int) : Rat) / 3600000000000 + c.bal) (d / 100)
  let park := f.parkIAllow * ((b.gap - a.gap : Nat) : Rat) / 3600000000000
  let um := quot (a.u + b.u) |d| + f.gainShunt / 100 + quot (park + c.balLost) (c.cap * |d| / 100)
  (cm, um)

/-- The list entries after one point and up to another are all sound (R209). -/
def Estimator.sound (e : Estimator) (a b : Nat) : Bool :=
  (e.rests.any fun r => r.entry == a) && !(e.spoilt) &&
  e.rests.all fun r => !(a < r.entry && r.entry ≤ b && r.spoilt)

/-- A new point b in the pair record of a cell (R209–R211); `ok` is whether no fault, gap or absent current
lies between the points. -/
def Cell.learn (f : EstFields) (ok : Bool) (b : Point) (c : Cell) : Cell × List CellNote :=
  match c.start with
  | none => ({ c with start := some b, bal := 0, balLost := 0 }, [])
  | some a =>
    if ok && decide (f.minDelta ≤ |a.soc - b.soc|) then
      let (cm, um) := c.measure f a b
      let kept : Cell := { c with start := some b, bal := 0, balLost := 0 }
      if cm ≤ 0 ∨ cm < f.capNominal / 2 ∨ f.capNominal * 6 / 5 < cm then (kept, [.fault 0x621 c.id true])
      else
        let u2 := (c.uC / 100) ^ 2
        let m2 := um ^ 2
        let w := quot u2 (u2 + m2)
        let lim := f.capStepMax / 100 * c.cap
        let cap := c.cap + clampR (-lim) lim (w * (cm - c.cap))
        let u := max f.capUMin (100 * sqrt (quot (u2 * m2) (u2 + m2)))
        ({ kept with cap := cap, uC := u },
         [.fault 0x621 c.id false, .cap c.id cm (um * cm)] ++ if cap * 5 < f.capNominal * 4 then [.fault 0x622 c.id true] else [])
    else if |a.soc - 50| < |b.soc - 50| then ({ c with start := some b, bal := 0, balLost := 0 }, [])
    else (c, [])

/-- The first point of a basted cell ends BASTED and its fault 0x624 (R203, Table 8-10). LOADED tells of the last basting and stays
(Table 8-1). -/
def Cell.pointTaken (c : Cell) : Cell × List CellNote :=
  ({ c with basted := false, basting := none },
   if c.basted && c.loaded then [.fault 0x624 c.id false] else [])

/-- A tack point (R196, R198): V_ocv and k in mV. The second result is the faults; the third, whether a point
was taken. -/
def Cell.tack (f : EstFields) (x : EstRound) (ok : Bool) (temp v k : Rat) (c : Cell) : Cell × List CellNote × Bool :=
  let (s, m) := socFromOcv (ocvCurve f temp) v
  let u := max f.tackUMin (quot (f.ocvUv + |k| / 2) m)
  if f.tackUMax < u then (c, [], false)
  else
    let lo := max c.lo (s - u)
    let hi := min c.hi (s + u)
    let (c1, e1) := ({ c with tacked := true, gap := false } : Cell).pointTaken
    if lo ≤ hi then
      let c2 := ({ c1 with lo := lo, hi := hi } : Cell).fix
      let (c3, e3) := c2.learn f ok ⟨.tack, s, u, x.count, x.gap, x.entry⟩
      (c3, [.fault 0x620 c.id false, .soc c.id s u] ++ e1 ++ e3, true)
    else
      let c2 := ({ c1 with lo := min c.lo (s - u), hi := max c.hi (s + u) } : Cell).fix
      (c2, [.fault 0x620 c.id true] ++ e1, true)

/-- The mean of a full window of 64 records of which at least 56 are usable (R195). -/
def window64 (l : List (Option Rat)) : Option Rat :=
  let v := (l.take 64).filterMap id
  if l.length < 64 || v.length < 56 then none else some (quot v.sum v.length)

/-- An age crosses a moment in this round. -/
def crosses (x : EstRound) (t : Rat) : Bool :=
  match x.age with
  | none => false
  | some a => decide (t ≤ a) && (match x.age0 with | none => true | some b => decide (b < t))

/-- The relaxed voltage V_ocv and the correction k of a cell with both averages (R195), in mV. -/
def Cell.relaxed (f : EstFields) (c : Cell) : Option (Rat × Rat) :=
  match c.v1, c.v2 with
  | some a, some b =>
    let k := quot (b - a) (expm1 (quot f.restT1 f.restTau))
    some (b + k, k)
  | _, _ => none

/-- R195, R196, R208: the averages of a rest, and the tack point of this round if it is one of the two
moments. -/
def Cell.rest (f : EstFields) (x : EstRound) (y : CellIn) (ok : Bool) (c : Cell) : Cell × List CellNote × Bool :=
  match x.age with
  | none => (c, [], false)
  | some age =>
    let hist := (y.v :: c.hist).take 64
    let avg := window64 hist
    let c1 := { c with hist := hist
                       v1 := if crosses x f.restT1 then avg else c.v1
                       v2 := if crosses x (2 * f.restT1) then avg else c.v2 }
    let first := crosses x (2 * f.restT1)
    let long := (crosses x f.restTLong && hist.length == 64) ||
      (decide (f.restTLong ≤ age) && hist.length == 64 && c.hist.length == 63)
    if c1.tacked then (c1, [], false)
    else
      let early := match first, c1.relaxed f with
        | true, some (v, k) => if |k| ≤ f.maxCorr then c1.tack f x ok y.temp v k else (c1, [], false)
        | _, _ => (c1, [], false)
      match early.2.2, long, avg with
      | false, true, some v => c1.tack f x ok y.temp v 0
      | _, _, _ => early

/-- The dwell of a condition: a record that is not usable pauses it (R200). -/
def dwell (t dt : Rat) (v : Option Rat) (cond : Rat → Bool) : Rat :=
  match v with
  | none => t
  | some v => if cond v then t + dt else 0

/-- The loaded-corrected voltage V + I × R of a record, mV (R201, R204); a free value where the snap current is ABSENT. -/
def Cell.unloaded (x : EstRound) (v : Rat) (c : Cell) : Rat :=
  match x.iSnap with
  | some i => v + i * c.r / 1000
  | none => Config.unloadedAbsent c.id v

/-- The anchors of R200–R202. A snap that closes no round (Δt = 0, R97) leaves the dwells. -/
def Cell.anchor (f : EstFields) (x : EstRound) (y : CellIn) (ok : Bool) (c : Cell) : Cell × List CellNote × Option PointKind :=
  let taper := match x.iMean with | some i => decide (i < 0) && decide (-i ≤ f.fullITaper) | none => false
  let ft := dwell c.fullT x.dt y.v fun v => decide (f.fullV ≤ v) && taper
  let et := dwell c.emptyT x.dt y.v fun v => decide (c.unloaded x v ≤ f.emptyV)
  let c1 := { c with fullT := ft, emptyT := et }
  if x.dt = 0 then (c, [], none)
  else if c.anchored || y.v.isNone then (c1, [], none)
  else if f.fullDwell ≤ ft then
    let (c2, e2) := ({ c1 with anchored := true, s := 100, lo := 100 - f.fullU, hi := 100 } : Cell).pointTaken
    let (c3, e3) := c2.fix.learn f ok ⟨.full, 100, f.fullU, x.count, x.gap, x.entry⟩
    (c3, .soc c.id 100 f.fullU :: e2 ++ e3, some .full)
  else if f.emptyDwell ≤ et then
    let (c2, e2) := ({ c1 with anchored := true, s := 0, lo := 0, hi := f.emptyU } : Cell).pointTaken
    let (c3, e3) := c2.fix.learn f ok ⟨.empty, 0, f.emptyU, x.count, x.gap, x.entry⟩
    (c3, .soc c.id 0 f.emptyU :: e2 ++ e3, some .empty)
  else (c1, [], none)

/-- u_C grows with crystal time up to its starting value (R211). -/
def Cell.age (f : EstFields) (dt : Rat) (c : Cell) : Cell :=
  if c.uC < f.capU0 then { c with uC := min f.capU0 (c.uC + f.capUAge * dt / 3600000) } else c

/-- A cell's round (R191–R202, R212): counting and widening, then resistance, then anchors, then the
averages and the tack point of a rest, then the basting window. -/
def Cell.round (f : EstFields) (x : EstRound) (okFor : Point → Bool) (y : CellIn) (c : Cell) :
    Cell × List CellNote × Option PointKind :=
  let ok := match c.start with | some a => okFor a | none => false
  let c0 := { c with vLast := match y.v with | some v => some v | none => c.vLast }
  let c1 := (c0.count f x.tier x.q x.dt x.extra y.bleed).age f x.dt
  let c2 := c1.resist f y.v y.uncomp x.iSnap
  let (c3, e3, p) := c2.anchor f x y ok
  let (c4, e4, t) := c3.rest f x y ok
  let c5 := match c4.basting with
    | none => c4
    | some b =>
      if b.samples.length < 64 then
        let smp := y.v.map fun v => (v, c4.unloaded x v)
        { c4 with basting := some ⟨b.samples ++ [smp]⟩ }
      else c4
  (c5, e3 ++ e4, if t then some .tack else p)

/-! ### Basting (R203, R204) -/

/-- A cell at a basting trigger: its bracket is [0 %, 100 %] and s = 50 %; `fresh` also sets capacity and
resistance to their nominal values (Table 8-3). DESIGN CHOICE: LOADED is clear from the trigger until the value is formed. -/
def Cell.baste (f : EstFields) (fresh : Bool) (c : Cell) : Cell :=
  let c1 := { c with s := 50, lo := 0, hi := 100, basted := true, loaded := false, basting := some ⟨[]⟩
                     fullT := 0, emptyT := 0 }
  if fresh then
    { c1 with cap := f.capNominal, uC := f.capU0, r := f.rNominal, start := none, bal := 0, balLost := 0, prev := none }
  else c1

/-- A cell never seen before. -/
def Cell.new (f : EstFields) (id : CellId) : Cell :=
  { id := id, s := 50, lo := 0, hi := 100, cap := f.capNominal, uC := f.capU0, r := f.rNominal, basted := true, loaded := false,
    basting := some ⟨[]⟩, vLast := none, prev := none, hist := [], v1 := none, v2 := none, tacked := false,
    anchored := false, fullT := 0, emptyT := 0, start := none, bal := 0, balLost := 0, gap := false, bleeding := false }

/-- BASTING_FORMED for one cell (R204, Table 8-4): none while the window is not complete. A window that does
not serve gives way to a fresh one. -/
def Cell.formBasting (f : EstFields) (age : Option Rat) (temp : Rat) (c : Cell) : Option (Cell × List CellNote) :=
  match c.basting with
  | none => none
  | some b =>
    if b.samples.length < 64 then none
    else
      let us := b.samples.filterMap fun x => x
      let again : Cell := { c with basting := some ⟨[]⟩ }
      if us.length < 56 then some (again, [])
      else
        let vs := us.map fun p => p.1
        let mean := quot vs.sum vs.length
        let curve := ocvCurve f temp
        let set (s u : Rat) (loaded : Bool) : Cell × List CellNote :=
          (({ c with s := s, lo := s - u, hi := s + u, basting := none, loaded := loaded } : Cell).fix, [.fault 0x624 c.id loaded])
        match age with
        | some a =>
          if 2 * f.restT1 ≤ a then
            let (v, k) := match c.relaxed f with
              | some (v, k) => if |k| ≤ f.maxCorr then (v, k) else (mean, 0)
              | none => (mean, 0)
            let (s, m) := socFromOcv curve v
            some (set s (max f.tackUMin (quot (f.ocvUv + |k| / 2) m)) false)
          else
            let (s, m) := socFromOcv curve mean
            some (set s (f.uUnrelaxed + quot f.ocvUv m) false)
        | none => some (set (socFromOcv curve (quot (us.map fun p => p.2).sum us.length)).1 f.uLoaded true)

/-! ### One estimator -/

/-- A new rest: its points and averages begin afresh (R195, R196, R202). -/
def Cell.newRest (c : Cell) : Cell := { c with tacked := false, anchored := false, hist := [], v1 := none, v2 := none }

/-- The rest after a gap that continues it: averages not yet used are lost (R208). -/
def Cell.resumeRest (c : Cell) : Cell := { c with hist := [], v1 := none, v2 := none }

/-- The round of an estimator: crystal time of the snap, Δt in 10 ns ticks, charge (µC, when usable), tier, snap
current (A, none where ABSENT), the charge count, fault 0x612, and each cell's input. -/
structure EstIn where
  t : Ns
  dt : Nat
  q : Option Rat
  usable : Bool
  tier : Tier
  iSnap : Option Rat
  count : Int
  bad612 : Bool
  cells : List CellIn

/-- The start of a rest as the round leaves it (R194); a snap that closes no round leaves it as it is. -/
def Estimator.restAfter (f : EstFields) (x : EstIn) (e : Estimator) : Option Ns :=
  let restful := x.usable && (match x.q with
    | some q => decide (|q| ≤ f.restIMax * ((x.dt : Rat) / 100))
    | none => false)
  if x.dt = 0 then e.restFrom
  else if !restful then none
  else if e.restGap = .ends then some (x.t - 10 * x.dt)
  else some (e.restFrom.getD (x.t - 10 * x.dt))

/-- A list of cells with its inputs, one by one. -/
def roundCells (f : EstFields) (x : EstRound) (okFor : Point → Bool) :
    List Cell → List CellIn → List (Cell × List CellNote × Option PointKind)
  | [], _ => []
  | c :: cs, ys =>
    let y := ys.headD ⟨none, false, .off, 25⟩
    c.round f x okFor y :: roundCells f x okFor cs ys.tail

/-- One round of an estimator (R191–R213). -/
def Estimator.round (f : EstFields) (x : EstIn) (e : Estimator) : Estimator × List CellNote :=
  let rest := e.restAfter f x
  let fresh := decide (0 < x.dt) && rest.isSome && (e.restFrom.isNone || e.restGap = .ends)
  let cellsR := if fresh then e.cells.map Cell.newRest
    else if e.restGap = .none_ || x.dt = 0 then e.cells else e.cells.map Cell.resumeRest
  -- after missed rounds the snap before is not consecutive (R212)
  let cells0 := if e.missed then cellsR.map fun c => { c with prev := none } else cellsR
  let secs (a b : Ns) : Rat := ((a - b : Nat) : Rat) / 1000000000
  let dtS : Rat := (x.dt : Rat) / 100000000
  let dtQ : Rat := (x.dt : Rat) / 100
  let iMean := x.q.map fun q => quot q dtQ
  let charging := if x.dt = 0 then e.charging else match x.q with | some q => decide (q < 0) | none => false
  let spoilt := e.spoilt || x.bad612 || x.tier = .absent
  let entryRest := if fresh then false else e.entryRest
  let entryCharge := if rest.isSome then false else e.entryCharge
  let has := if rest.isSome then entryRest else entryCharge
  let entry := if has then e.nextEntry - 1 else e.nextEntry
  let e1 : Estimator := { e with spoilt := spoilt }
  let ri : EstRound :=
    { q := x.q.getD 0, tier := x.tier, dt := dtS, iSnap := x.iSnap
      iMean := if x.dt = 0 then none else iMean
      age0 := if fresh then none else match rest with
        | some r => if e.lastAt < r then none else some (secs e.lastAt r)
        | none => none
      age := if x.dt = 0 then none else rest.map fun r => secs x.t r
      extra := if e.overdue then f.overdueRate * dtS / 3600 else 0
      count := x.count, gap := e.gapTotal, entry := entry }
  let out := roundCells f ri (fun a => e1.sound a.entry entry) cells0 x.cells
  let cells := out.map fun o => o.1
  let kinds := out.filterMap fun o => o.2.2
  let tacks := kinds.countP fun k => k == PointKind.tack
  let fulls := kinds.countP fun k => k == PointKind.full
  let took := !kinds.isEmpty
  let newEntry := took && !has
  let restPts := (if fresh then 0 else e.restPts) + (if rest.isSome then tacks else 0)
  let chargePts := (if charging && !e.charging then 0 else e.chargePts) + fulls
  let n := cells.length
  let half := (rest.isSome && decide (n ≤ 2 * restPts)) || (charging && decide (n ≤ 2 * chargePts))
  let tackFrom := if half && decide (0 < n) then x.t else e.tackFrom
  ({ e with
      cells := cells
      restFrom := rest
      restGap := if x.dt = 0 then e.restGap else .none_
      restPts := restPts
      chargePts := chargePts
      charging := charging
      tackFrom := tackFrom
      rests := if newEntry then (TackRest.mk e.nextEntry x.count x.t e.gapTotal spoilt :: e.rests).take 16 else e.rests
      nextEntry := if newEntry then e.nextEntry + 1 else e.nextEntry
      entryRest := entryRest || (rest.isSome && took)
      entryCharge := entryCharge || (rest.isNone && took)
      spoilt := if newEntry then false else spoilt
      tier := x.tier
      countAt := x.count
      lastAt := x.t
      missed := false
      pairsDue := e.pairsDue || took },
   (out.map fun o => o.2.1).flatten)

/-- The tack age, ns (R213). -/
def Estimator.tackAge (e : Estimator) (t : Ns) : Ns := t - e.tackFrom

/-- The tack age is over the limit in hours. -/
def Estimator.isOverdue (f : EstFields) (e : Estimator) (t : Ns) : Bool :=
  decide (f.overdue * 3600000000000 < ((e.tackAge t : Nat) : Rat))

/-! ### Balancing (R215, R335) -/

/-- A group is eligible: usable, not BASTED, and a bracket no wider than twice the limit. -/
def Cell.eligible (f : EstFields) (usable : Bool) (c : Cell) : Bool :=
  usable && !c.basted && decide (c.hi - c.lo ≤ 2 * f.balMaxWidth)

/-- The balancing decision over a list of cells with the usability of their records. -/
def balanceCells (f : EstFields) (l : List (Cell × Bool)) : List Cell :=
  let el := (l.filter fun p => p.1.eligible f p.2).map fun p => p.1.s
  let ref := el.foldl min (el.headD 0)
  l.map fun p =>
    let on := if decide (el.length < 2) || !p.1.eligible f p.2 then false
      else if f.balStart ≤ p.1.s - ref then true
      else if p.1.s - ref ≤ f.balStop then false else p.1.bleeding
    { p.1 with bleeding := on }

/-! ### The hem channel (R217, R218) -/

/-- The lowest SoC at which the OCV reaches a voltage (R217 step 3); 100 % for one above the table (R197). -/
def lowestSoc (curve : List Rat) (v : Rat) : Rat := if v ≤ curve.getD 0 0 then 0 else (socFromOcv curve v).1

/-- The usable charge of a store cell above its zero, and the energy it makes available over n cells. -/
def hemEnergy (curve : List Rat) (n : Nat) (im s0 lo : Rat) (c : Cell) : Rat × Rat :=
  let q := max 0 (lo - s0) / 100 * c.cap
  (q, q * n * (ocvAt curve ((s0 + lo) / 2) / 1000 - im * c.r / 1000000))

/-- The hem values from classical lower edges; `ok` is whether every store cell record is usable. -/
def hemCompute (h : HemFields) (f : EstFields) (vMin temp : Rat) (cells : List Cell) (ok : Bool) (old : Hem) : Hem :=
  let n := cells.length
  let curve := ocvCurve f temp
  let im := quot h.pLoad h.vShutdown
  let vz := max (quot h.vShutdown n) (vMin / 1000)
  let z (c : Cell) := lowestSoc curve ((vz + im * c.r / 1000000) * 1000)
  let now := cells.map fun c => hemEnergy curve n im (z c) c.lo c
  let top := cells.map fun c => hemEnergy curve n im (z c) 100 c
  let best := now.foldl (fun a b => if b.1 < a.1 then b else a) (now.headD (0, 0))
  let full := top.foldl (fun a b => min a b.2) ((top.headD (0, 0)).2)
  let valid := ok && decide (h.selvage < full)
  let e := max 0 (best.2 - h.selvage)
  { avail := best.2, full := full, energy := e, selvage := h.selvage, soc := 100 * quot e (full - h.selvage), valid := valid,
    good := if valid then old.good + 1 else 0 }

/-! ### Records of the seal and the journal (Tables 8-1 and 16-10) -/

/-- A code within a field of a width. -/
def codeOf (maxCode : Nat) (x : Int) : Nat := min maxCode x.toNat

/-- The nearest integer, a half upward. -/
def nearest (x : Rat) : Int := (x + 1 / 2).floor

/-- A cell's record in the seal buffer: bracket edges outward, u_C up (R189). -/
def Cell.seal (f : EstFields) (seam : BitVec 4) (c : Cell) : SealCell :=
  let s := codeOf 65535 (nearest ((c.s + 2) * 500))
  let sq : Rat := (s : Rat) / 500 - 2
  { id := c.id, s := s
    wLo := codeOf 255 ((sq - c.lo) * 10).ceil
    wHi := codeOf 255 ((c.hi - sq) * 10).ceil
    cap := codeOf 16383 (nearest (quot (c.cap * 10000) f.capNominal))
    uC := codeOf 63 (c.uC * 4).ceil
    r := codeOf 4095 (nearest (quot (c.r * 1024) f.rNominal))
    seam := seam, basted := c.basted, loaded := c.loaded }

/-- A cell restored from its record; `tacked` and `anchored` come from the bitmaps (R189), and `gap` says whether a gap lies since its
last tack rest (Table 8-5). -/
def SealCell.load (f : EstFields) (tacked anchored gap : Bool) (q : SealCell) : Cell :=
  let s : Rat := (q.s : Rat) / 500 - 2
  ({ Cell.new f q.id with
      s := s
      lo := if q.wLo = 255 then -2 else s - (q.wLo : Rat) / 10
      hi := if q.wHi = 255 then 102 else s + (q.wHi : Rat) / 10
      cap := f.capNominal * q.cap / 10000
      uC := (q.uC : Rat) / 4
      r := f.rNominal * q.r / 1024
      basted := q.basted, loaded := q.loaded, basting := none
      tacked := tacked, anchored := anchored, gap := gap } : Cell).fix

/-- The 72-bit word of a cell record (Table 8-1). -/
def SealCell.word (q : SealCell) : BitVec 72 :=
  BitVec.ofNat 72 ((((((q.s * 256 + q.wLo) * 256 + q.wHi) * 16384 + q.cap) * 64 + q.uC) * 4096 + q.r) * 256
    + q.seam.toNat * 16 + q.basted.toNat * 8 + q.loaded.toNat * 4)

/-- A cell's pair record in the journal (Table 16-10). -/
def Cell.pair (e : Estimator) (c : Cell) : PairRec :=
  match c.start with
  | none => { id := c.id, kind := none, s := 0, u := 255, entry := none, bal := nearest (c.bal * 3600000), balancing := c.bleeding,
              v := c.vLast.getD 0 }
  | some p =>
    { id := c.id, kind := some p.kind, s := codeOf 65535 (nearest ((p.soc + 2) * 500)), u := codeOf 254 (p.u * 20).ceil
      entry := if e.rests.any fun r => r.entry == p.entry then some p.entry else none
      bal := nearest (c.bal * 3600000), balancing := c.bleeding, v := c.vLast.getD 0 }

/-- A cell with its pair record restored: the bleed since the record was written is unknown (R209), over a
time in s. -/
def PairRec.load (f : EstFields) (rests : List TackRest) (secs : Rat) (p : PairRec) (c : Cell) : Cell :=
  let lost := if p.balancing then quot (p.v / 1000) f.rBleed * secs / 3600 else 0
  let start := match p.kind, p.entry with
    | some k, some i =>
      (rests.find? fun r => r.entry == i).map fun r => Point.mk k ((p.s : Rat) / 500 - 2) ((p.u : Rat) / 20) r.count r.gap i
    | _, _ => none
  { c with start := start, bal := (p.bal : Rat) / 3600000, balLost := lost }

/-! ### Gaps (R205–R207) -/

/-- A change of every cell but those that wait for their basting value: these keep s = 50 % and [0 %, 100 %] (R203). -/
def Estimator.settled (g : Cell → Cell) (e : Estimator) : Estimator :=
  { e with cells := e.cells.map fun c => if c.basting.isSome then c else g c }

/-- Charge that passed without rounds, applied as one round: nC, the tier, and Δt in s; `bleedOn` says which
cells bleed through it. u_C ages by that time (R211). -/
def Estimator.catchUp (f : EstFields) (tier : Tier) (dq : Int) (dt : Rat) (bleedOn : CellId → Bool) (e : Estimator) : Estimator :=
  let extra : Rat := if e.overdue then f.overdueRate * dt / 3600 else 0
  e.settled fun c => (c.count f tier ((dq : Rat) / 1000) dt extra (if bleedOn c.id then .on else .off)).age f dt

/-- A known gap lowers s_lo by the allowed park current and the self-discharge (R206); t in s. u_C ages
by it (R211). -/
def Estimator.knownGap (f : EstFields) (t : Rat) (e : Estimator) : Estimator :=
  e.settled fun c =>
    (Cell.fix { c with lo := c.lo - quot (f.parkIAllow * t / 3600) c.cap * 100 - f.selfDischarge * t / 86400 }).age f t

/-- Every cell a predicate selects is basted. -/
def Estimator.baste (f : EstFields) (sel : CellId → Bool) (fresh : Bool) (e : Estimator) : Estimator :=
  { e with cells := e.cells.map fun c => if sel c.id then c.baste f fresh else c }

/-- The cells among those a predicate selects that carry LOADED and BASTED: fault 0x624 stands for them (R204). -/
def Estimator.loadedIn (sel : CellId → Bool) (e : Estimator) : List CellId :=
  (e.cells.filter fun c => sel c.id && c.basted && c.loaded).map fun c => c.id

/-- Every cell carries BASTED and none has taken a point since its basting, and the last basting value has just been
formed (R216). -/
def Estimator.allBasted (e : Estimator) : Bool := e.cells.all fun c => c.basted && c.basting.isNone

/-! ### Display channels (R216) -/

/-- One snap of a display channel: the input x with its counted change in %, Δt in s; `none` for an input with
the invalid flag. It is set to x with no value before it, and in the snap that formed the last basting value. -/
def Display.step (rate : Rat) (x : Option (Rat × Rat)) (dt : Rat) (d : Display) : Display :=
  match x with
  | none => { d with shown := none, snapTo := false }
  | some (x, c) =>
    let n := match d.value, d.snapTo with
      | some v, false =>
        let p := v + c
        let r := rate * dt / 60
        clampR 0 100 (p + clampR (-r) r (x - p))
      | _, _ => clampR 0 100 x
    { value := some n, shown := some n, snapTo := false }

end Sys2Proof.Machine
end

