-- ==== Sys2Proof/Machine/Float.lean ====
section
/-!
DEFINITION. Floating point (R227, R236): FP32, BF16 and FP64 rounding of exact numbers, FP32 values with infinities and NaN, and the
functions of the gate engine on them, each value with its derivative.
-/
namespace Sys2Proof.Machine

/-! ### Rounding -/

/-- The nearest integer, a half to even. -/
def roundEven (x : Rat) : Int :=
  let f := x.floor
  let d := x - f
  if d < 1 / 2 then f else if 1 / 2 < d then f + 1 else if f % 2 = 0 then f else f + 1

/-- Rounding to a binary format of p significant bits, to nearest even; a value below the least normal exponent
is flushed where the format flushes, and none on overflow. -/
def roundBin (p : Nat) (eMin eMax : Int) (flush : Bool) (x : Rat) : Option Rat :=
  if x = 0 then some 0
  else
    let e0 := log2Floor |x|
    if flush && decide (e0 < eMin) then some 0
    else
      let q := twoPow ((max e0 eMin) - (p : Int) + 1)
      let r := (roundEven (x / q) : Rat) * q
      if twoPow (eMax + 1) ≤ |r| then none else some r

/-- Rounding to FP32 (R236), to BF16 and to FP64. -/
def fl32 (x : Rat) : Option Rat := roundBin 24 (-126) 127 true x
@[inherit_doc fl32] def flB16 (x : Rat) : Option Rat := roundBin 8 (-126) 127 true x
@[inherit_doc fl32] def fl64 (x : Rat) : Option Rat := roundBin 53 (-1022) 1023 false x

/-- A trainable value rounded to its storage format (R279). -/
def storeRound (f : StoreFmt) (x : Rat) : Option Rat :=
  match f with
  | .bf16 => flB16 x
  | .f32 => fl32 x
  | .int8 sc => if sc = 0 then some 0 else some (((max (-128) (min 127 (roundEven (x / sc))) : Int) : Rat) * sc)

/-- The FP32 bits of a number, as a frame or a log entry carries it; the greatest finite magnitude on overflow. -/
def f32Bits (x : Rat) : Nat :=
  match fl32 x with
  | none => (if x < 0 then 2147483648 else 0) + 0x7F7FFFFF
  | some y =>
    if y = 0 then 0
    else
      let e := log2Floor |y|
      let m := (|y| * twoPow (23 - e)).floor.toNat - 8388608
      (if y < 0 then 2147483648 else 0) + (e + 127).toNat * 8388608 + m

/-! ### FP32 values -/

/-- An FP32 value: NaN, an infinity or a zero with its sign (true is negative), or another number. -/
inductive Fp
  | nan
  | inf (neg : Bool)
  | zero (neg : Bool)
  | fin (x : Rat)
  deriving DecidableEq, Repr

/-- An exact number as FP32, and rounded through BF16 (R236). -/
def Fp.by (fl : Rat → Option Rat) (x : Rat) : Fp :=
  match fl x with
  | none => .inf (decide (x < 0))
  | some y => if y = 0 then .zero (decide (x < 0)) else .fin y
@[inherit_doc Fp.by] def Fp.of (x : Rat) : Fp := Fp.by fl32 x
@[inherit_doc Fp.by] def Fp.toB16 : Fp → Fp
  | .fin x => Fp.by flB16 x
  | a => a

/-- The sign; true is negative. -/
def Fp.sign : Fp → Bool
  | .nan => false
  | .inf n => n
  | .zero n => n
  | .fin x => decide (x < 0)

/-- The number a finite value is. -/
def Fp.rat : Fp → Option Rat
  | .zero _ => some 0
  | .fin x => some x
  | _ => none

def Fp.neg : Fp → Fp
  | .nan => .nan
  | .inf n => .inf !n
  | .zero n => .zero !n
  | .fin x => .fin (-x)

def Fp.add : Fp → Fp → Fp
  | .nan, _ => .nan
  | _, .nan => .nan
  | .inf m, .inf n => if m = n then .inf m else .nan
  | .inf m, _ => .inf m
  | _, .inf n => .inf n
  | .zero m, .zero n => .zero (m && n)
  | .zero _, b => b
  | a, .zero _ => a
  | .fin x, .fin y => if x + y = 0 then .zero false else Fp.of (x + y)

def Fp.mul (a b : Fp) : Fp :=
  let n := a.sign != b.sign
  match a, b with
  | .nan, _ => .nan
  | _, .nan => .nan
  | .inf _, .zero _ => .nan
  | .zero _, .inf _ => .nan
  | .inf _, _ => .inf n
  | _, .inf _ => .inf n
  | .zero _, _ => .zero n
  | _, .zero _ => .zero n
  | .fin x, .fin y => Fp.of (x * y)

def Fp.div (a b : Fp) : Fp :=
  let n := a.sign != b.sign
  match a, b with
  | .nan, _ => .nan
  | _, .nan => .nan
  | .inf _, .inf _ => .nan
  | .zero _, .zero _ => .nan
  | .inf _, _ => .inf n
  | _, .inf _ => .zero n
  | .zero _, _ => .zero n
  | _, .zero _ => .inf n
  | .fin x, .fin y => Fp.of (x / y)

/-- a is not above b; neither is NaN, and −0 is below +0. -/
def Fp.le : Fp → Fp → Bool
  | .inf m, b => m || b == .inf false
  | a, .inf n => !n || a == .inf true
  | a, b =>
    let x := a.rat.getD 0
    let y := b.rat.getD 0
    decide (x < y) || (decide (x = y) && (a.sign || !b.sign))

/-! ### Nonlinear functions (R236) -/

/-- A value within 4 ulp of a number y, the value of function number `op` at x: which one is a free value of both. -/
def Fp.near (op : Nat) (x y : Rat) : Fp :=
  let u := twoPow ((max (log2Floor |y|) (-126)) - 23)
  let g : Rat := (y / u).floor * u
  let p : Rat := g + (((Config.ulps op x % 9 : Nat) : Int) - 4 : Int) * u
  Fp.of (if |p - y| ≤ 4 * u then p else g)

/-- A function within 4 ulp, given close to its value where |x| ≤ lim; `low` and `high` are its values below and above. -/
def Fp.smooth (op : Nat) (f : Rat → Rat) (lim : Rat) (low high : Fp) (x : Rat) : Fp :=
  if x < -lim then low else if lim < x then high else Fp.near op x (f x)

/-- An operator on one element. -/
def Fp.un (f : UnOp) (a : Fp) : Fp :=
  match f, a with
  | .neg, a => a.neg
  | .abs, a => if a.sign then a.neg else a
  | .relu, .fin x => if x < 0 then .zero false else .fin x
  | .relu, .inf n => if n then .zero false else .inf false
  | .relu, .zero _ => .zero false
  | _, .nan => .nan
  | .exp, .inf n => if n then .zero false else .inf false
  | .exp, .zero _ => Fp.near 2 0 1
  | .exp, .fin x => Fp.smooth 2 expNear 104 (.zero false) (.inf false) x
  | .log, .inf n => if n then .nan else .inf false
  | .log, .zero _ => .inf true
  | .log, .fin x => if x < 0 then .nan else if x = 1 then .zero false else Fp.near 3 x (lnNear x)
  | .sqrt, .inf n => if n then .nan else .inf false
  | .sqrt, .zero n => .zero n
  | .sqrt, .fin x => if x < 0 then .nan else Fp.near 4 x (sqrtBelow x)
  | .sigmoid, .inf n => if n then .zero false else .fin 1
  | .sigmoid, .zero _ => Fp.near 5 0 (1 / 2)
  | .sigmoid, .fin x => Fp.smooth 5 sigmoidNear 104 (.zero false) (Fp.near 5 x 1) x
  | .tanh, .inf n => .fin (if n then -1 else 1)
  | .tanh, .zero n => .zero n
  | .tanh, .fin x => Fp.smooth 6 tanhNear 104 (Fp.near 6 x (-1)) (Fp.near 6 x 1) x
  | .softplus, .inf n => if n then .zero false else .inf false
  | .softplus, .zero _ => Fp.near 7 0 lnTwo
  | .softplus, .fin x => Fp.smooth 7 softplusNear 104 (.zero false) (Fp.near 7 x x) x
  | .erf, .inf n => .fin (if n then -1 else 1)
  | .erf, .zero n => .zero n
  | .erf, .fin x => Fp.near 9 x (erfNear x)

/-- 1 − e^−κ within 4 ulp (R250), for κ ≥ 0. -/
def Fp.complement : Fp → Fp
  | .fin k => if 104 < k then Fp.near 10 k 1 else Fp.near 10 k (decayNear k)
  | .inf _ => .fin 1
  | a => a

/-! ### Values with a derivative (R274 step 4) -/

/-- A value and its derivative in one direction; none where that is not finite. -/
structure Du where
  v : Fp
  d : Option Rat
  deriving DecidableEq, Repr

/-- A constant. -/
def Du.const (v : Fp) : Du := ⟨v, some 0⟩

/-- Two numbers combined where both are there. -/
def opt2 (f : Rat → Rat → Rat) (a b : Option Rat) : Option Rat := a.bind fun x => b.map fun y => f x y

/-- The derivative of an operator at x where its value is y; where it has none, a free value. -/
def UnOp.slope (f : UnOp) (x y : Rat) : Option Rat :=
  match f with
  | .neg => some (-1)
  | .abs => some (if x < 0 then -1 else if 0 < x then 1 else Config.kink x)
  | .exp => some y
  | .log => if x = 0 then none else some (1 / x)
  | .sqrt => if y = 0 then none else some (1 / (2 * y))
  | .sigmoid => some (y * (1 - y))
  | .tanh => some (1 - y * y)
  | .softplus => some (if x < -104 then 0 else if 104 < x then 1 else sigmoidNear x)
  | .relu => some (if x < 0 then 0 else if 0 < x then 1 else Config.kink x)
  | .erf => some (if 100 < x * x then 0 else twoOverRootPi * expNear (-(x * x)))

/-- An operator on one element. -/
def Du.un (f : UnOp) (a : Du) : Du :=
  let v := Fp.un f a.v
  ⟨v, a.v.rat.bind fun x => v.rat.bind fun y => opt2 (fun k d => k * d) (UnOp.slope f x y) a.d⟩

/-- An operator on two elements. -/
def Du.bin (f : BinOp) (a b : Du) : Du :=
  let pick (first : Bool) : Du :=
    if a.v == .nan || b.v == .nan then ⟨.nan, none⟩
    else if a.v == b.v then ⟨a.v, if a.d == b.d then a.d else opt2 (fun x y => y + (x - y) * Config.kink (x - y)) a.d b.d⟩
    else if first then a else b
  match f with
  | .add => ⟨a.v.add b.v, opt2 (fun x y => x + y) a.d b.d⟩
  | .sub => ⟨a.v.add b.v.neg, opt2 (fun x y => x - y) a.d b.d⟩
  | .mul =>
    ⟨a.v.mul b.v, opt2 (fun x y => x + y) (opt2 (fun k d => k * d) b.v.rat a.d) (opt2 (fun k d => k * d) a.v.rat b.d)⟩
  | .div =>
    let top := opt2 (fun x y => x - y) (opt2 (fun k d => k * d) b.v.rat a.d) (opt2 (fun k d => k * d) a.v.rat b.d)
    ⟨a.v.div b.v, b.v.rat.bind fun y => if y = 0 then none else top.map fun t => t / (y * y)⟩
  | .min => pick (a.v.le b.v)
  | .max => pick (!a.v.le b.v)

end Sys2Proof.Machine
end

