-- ==== Sys2Proof/Machine/Numerics.lean ====
section
/-!
DEFINITION. The arithmetic of state memory (chapters 10 and 11): block-floating state and its quantiser, the fused gates, a scan step,
the reference step, and the tangents.
-/
namespace Sys2Proof.Machine

/-! ### State blocks (R249, R252, R253) -/

/-- The mantissa width of a class. -/
def mantWidth (lined : Bool) : Nat := if lined then 32 else 16

/-- The quantum of a class at an exponent code (Table 10-3). -/
def quantum (lined : Bool) (e : Nat) : Rat := twoPow ((e : Int) - (if lined then 158 else 142))

/-- The block scale S = 2^(e − 127). -/
def blockScale (e : Nat) : Rat := twoPow ((e : Int) - 127)

/-- A zero block. -/
def Block.zero (lined : Bool) : Block := ⟨lined, 0, List.replicate 32 0⟩

/-- A poisoned block. -/
def Block.poison (lined : Bool) : Block := ⟨lined, 255, List.replicate 32 0⟩

def Block.poisoned (b : Block) : Bool := b.e == 255

/-- The values of a block. -/
def Block.values (b : Block) : List Rat := b.m.map fun m => (m : Rat) * quantum b.lined b.e

/-- The required exponent of a block whose largest magnitude is positive (R252 step 1); none above 254. -/
def requiredExp (lined : Bool) (mx : Rat) : Option Nat :=
  let k := log2Floor mx
  let e : Int := if mx ≤ (1 - twoPow (-((mantWidth lined : Int) - 1))) * twoPow (k + 1) then k + 128 else k + 129
  if 254 < e then none else some (max 1 e).toNat

/-- The dither u of a state (R252 step 3), 24 bits. -/
def dither (pos layer idx : Nat) (snap : Round) (purpose : Nat) : Nat :=
  crc32 (beBytes 2 (pos % 65536) ++ beBytes 1 (layer % 256) ++ beBytes 1 (idx % 256) ++ beBytes 6 (snap % 2 ^ 48) ++
    beBytes 1 purpose) % 16777216

/-- How the exponent of a block is chosen (R252 step 2, R258 step 1). -/
inductive ExpRule | keep | renorm | reseed
  deriving DecidableEq, Repr

/-- The new exponent from the required one and the current one. -/
def newExp (r : ExpRule) (cur req : Nat) : Nat :=
  match r with
  | .reseed => min 254 (req + 1)
  | .keep => if cur < req then req else cur
  | .renorm => if cur < req then req else min cur (req + 1)

/-- The quantiser: one block from its 32 values, `none` where a value is not finite. -/
def quantise (lined : Bool) (r : ExpRule) (cur pos layer block : Nat) (snap : Round) (purpose : Nat)
    (xs : List (Option Rat)) : Block :=
  if xs.any Option.isNone then Block.poison lined
  else
    let vs := xs.filterMap fun x => x
    let mx := vs.foldl (fun a x => max a |x|) 0
    if mx = 0 then Block.zero lined
    else
      match requiredExp lined mx with
      | none => Block.poison lined
      | some req =>
        let e := newExp r cur req
        let q := quantum lined e
        ⟨lined, e, (List.range vs.length).map fun i =>
          (vs.getD i 0 / q + (dither pos layer (32 * block + i) snap purpose : Rat) / 16777216).floor⟩

/-! ### The fused gates (R235, R250) -/

/-- What the fused operation gives for one state: ā of an ordinary state or α = 1 − ā of a lined one, b̄ and u, which go to the scan
lane, and for the tangents κ with whether the floor is in force, bx, exp(a_log) and φ (Table 11-4). -/
structure Gates where
  lined : Bool
  a : Fp
  b : Fp
  u : Fp
  kappa : Fp
  floored : Bool
  bx : Fp
  e : Fp
  phi : Option Rat
  deriving DecidableEq, Repr

/-- The floor of κ of a class. -/
def kappaFloor (lined : Bool) : Rat := twoPow (if lined then -26 else -17)

/-- The fused operation on one state. -/
def fuse (lined : Bool) (alog u delta bx : Fp) (phi : Option Rat) : Gates :=
  let e := Fp.un .exp alog
  let k0 := delta.mul e
  let low := match k0.rat with | some k => decide (k < kappaFloor lined) | none => false
  let k := if low then .fin (kappaFloor lined) else k0
  let abar := Fp.un .exp k.neg
  let alpha := if lined then k.complement else (Fp.fin 1).add abar.neg
  { lined := lined, a := if lined then alpha else abar, b := (alpha.div e).mul bx, u := u, kappa := k, floored := low, bx := bx, e := e, phi := phi }

/-- ā and α of a state, one of them exactly as passed on. -/
def Gates.decay (g : Gates) : Option (Rat × Rat) := g.a.rat.map fun x => if g.lined then (1 - x, x) else (x, 1 - x)

/-! ### The scan step (R251) -/

/-- The new value of one state from its gates; none where an input or a rounded term is not finite (R261). -/
def stepValue (h : Rat) (g : Gates) : Option Rat :=
  match g.a.rat, (g.b.mul g.u).rat with
  | some a, some p => if g.lined then (fl32 (p - a * h)).map fun d => h + d else some (a * h + p)
  | _, _ => none

/-- The 32 entries of block k of a list, filled up with a value. -/
def chunk32 {α : Type} (l : List α) (k : Nat) (fill : α) : List α :=
  (List.range 32).map fun i => (l.getD (32 * k + i) fill)

/-- One layer of a cell stepped and quantised. -/
def stepLayer (renorm : Bool) (pos layer : Nat) (snap : Round) (purpose : Nat) (bs : List Block) (gs : List Gates) :
    List Block :=
  (List.range bs.length).filterMap fun k => (bs[k]?).map fun b =>
    let g := chunk32 (gs.map some) k none
    let v := b.values
    quantise b.lined (if renorm then .renorm else .keep) b.e pos layer k snap purpose
      ((List.range 32).map fun i => (g.getD i none).bind fun x => stepValue (v.getD i 0) x)

/-- A state holds a poisoned block. -/
def poisonedState (st : List (List Block)) : Bool := st.any fun l => l.any Block.poisoned

/-- A layer's reference states stepped in FP64 (R256), one rounding for each state. -/
def refLayer (ref : List Rat) (gs : List Gates) : List Rat :=
  (List.range ref.length).map fun i =>
    let h := ref.getD i 0
    match (gs[i]?).bind fun g => g.a.rat.bind fun a => g.b.rat.bind fun b => g.u.rat.map fun u => (g.lined, a, b, u) with
    | some (lined, a, b, u) => (fl64 (if lined then h + (b * u - a * h) else a * h + b * u)).getD h
    | none => h

/-- What a layer's states are to the operators after it (Table 9-5, output h): FP32, and NaN in a poisoned block. -/
def stateOut (bs : List Block) : List Fp := (bs.map fun b => if b.poisoned then b.m.map fun _ => Fp.nan else b.values.map Fp.of).flatten

/-- A live state converted to FP64, which is exact (R256). -/
def refSeed (st : List (List Block)) : List (List Rat) := st.map fun l => (l.map Block.values).flatten

/-- The fray ratio φ (R257). -/
def frayRatio (betaOrd betaLined : Int) (st : List (List Block)) (ref : List (List Rat)) : Rat :=
  ((List.range st.length).map fun l =>
    let bs := st.getD l []
    let r := ref.getD l []
    ((List.range bs.length).filterMap fun k => (bs[k]?).map fun b =>
      let den := twoPow (if b.lined then betaLined else betaOrd) * blockScale b.e
      let v := b.values
      ((List.range 32).map fun i => |v.getD i 0 - r.getD (32 * k + i) 0| / den).foldl max 0).foldl max 0).foldl max 0

/-- A state re-quantised from the reference (R258 step 1). -/
def reseedState (layers : List (List Bool)) (pos : Nat) (snap : Round) (ref : List (List Rat)) : List (List Block) :=
  (List.range layers.length).map fun l =>
    let cl := layers.getD l []
    let r := ref.getD l []
    (List.range cl.length).map fun k =>
      quantise (cl.getD k false) .reseed 0 pos l k snap 2 ((chunk32 r k 0).map some)

/-- The zero state of a graph. -/
def zeroState (layers : List (List Bool)) : List (List Block) := layers.map fun l => l.map Block.zero

/-! ### Tangents (R274, Table 11-4) -/

/-- One tangent update. h is the shadow state before the step. -/
def tangentValue (c : Channel) (t h : Rat) (g : Gates) : Option Rat :=
  match g.decay, g.kappa.rat, (if g.floored then some 0 else g.phi), g.bx.rat, g.e.rat, g.b.rat, g.u.rat with
  | some (a, al), some k, some phi, some bx, some e, some b, some u =>
    let ka := if g.floored then 0 else k * a
    if e = 0 then none
    else
      some (a * t + match c with
        | .delta => phi * a * (bx * u - e * h)
        | .b => al * u / e
        | .u => b
        | .a => -(ka * h) + u * bx * (ka - al) / e)
  | _, _, _, _, _, _, _ => none

/-- A channel's blocks after a shadow step. -/
def tangentLayer (renorm : Bool) (c : Channel) (pos layer : Nat) (snap : Round) (hs : List Block) (ts : List Block)
    (xs : List Gates) : List Block :=
  (List.range ts.length).filterMap fun k => (ts[k]?).map fun b =>
    let v := b.values
    let h := ((hs[k]?).map Block.values).getD []
    let x := chunk32 (xs.map some) k none
    quantise b.lined (if renorm then .renorm else .keep) b.e pos layer k snap 1
      ((List.range 32).map fun i => (x.getD i none).bind fun g => tangentValue c (v.getD i 0) (h.getD i 0) g)

end Sys2Proof.Machine
end

