-- ==== Sys2Proof/Machine/Gate.lean ====
section
/-!
DEFINITION. The gate engine (chapter 09): evaluating a cohort graph with its scans (R221, R230, R233–R236), the derivatives of its outputs
(R274), and the cost rules and limits of a graph (R232, R238–R240, R270).
-/
namespace Sys2Proof.Machine

/-! ### Tensors -/

/-- A tensor: its static shape, and its elements in row-major order. -/
structure Tensor where
  shape : List Nat
  v : List Du
  deriving DecidableEq, Repr

/-- The number of elements of a shape. -/
def volume (l : List Nat) : Nat := l.foldl (fun a b => a * b) 1

/-- The index of an element on each axis, and its place. -/
def unflat : List Nat → Nat → List Nat
  | [], _ => []
  | _ :: ds, i => i / volume ds :: unflat ds (i % volume ds)
@[inherit_doc unflat] def flat : List Nat → List Nat → Nat
  | _ :: ds, i :: is => i * volume ds + flat ds is
  | _, _ => 0

/-- An element; NaN where there is none. -/
def Tensor.get (t : Tensor) (i : Nat) : Du := t.v.getD i ⟨.nan, none⟩

/-- An element under the broadcasting of Table 9-4: a scalar, or a vector of the last axis. -/
def Tensor.spread (t : Tensor) (i : Nat) : Du := t.get (i % t.v.length)

/-- A tensor from its elements. -/
def Tensor.tab (shape : List Nat) (f : Nat → Du) : Tensor := ⟨shape, (List.range (volume shape)).map f⟩

/-! ### Sums -/

/-- The terms of an order, and their sum in it. -/
def leaves : SumTree → List Nat
  | .leaf i => [i]
  | .node a b => leaves a ++ leaves b
@[inherit_doc leaves] def treeSum (f : Nat → Du) : SumTree → Du
  | .leaf i => f i
  | .node a b => Du.bin .add (treeSum f a) (treeSum f b)

/-- A sum accumulated in FP32, in an order that the manual leaves open. -/
def sumOf (l : List Du) : Du :=
  let f (i : Nat) : Du := l.getD i (Du.const (.zero false))
  let t := Config.sumOrder l.length
  if (leaves t).isPerm (List.range l.length) then treeSum f t
  else l.tail.foldl (Du.bin .add) (f 0)

/-! ### MatMul and Gemm (R236) -/

/-- How a product is formed: FP32, BF16 operands, or INT8 codes with the weights' scale. -/
inductive MulMode | f32 | bf16 | int8
  deriving DecidableEq, Repr

/-- An INT8 operand's code: a weight's value over its scale, or an activation that QuantizeLinear has coded. -/
def codeDu (scale : Option Rat) (a : Du) : Du :=
  match scale with
  | some sc => ⟨match a.v.rat with | some x => .fin (roundEven (x / sc)) | none => a.v, a.d.map fun d => d / sc⟩
  | none => a

/-- Rows times columns, the inner dimension n. -/
def dot (m : MulMode) (n : Nat) (a b : Nat → Du) : Du :=
  let b16 (x : Du) : Du := ⟨x.v.toB16, x.d⟩
  match m with
  | .f32 => sumOf ((List.range n).map fun j => Du.bin .mul (a j) (b j))
  | .bf16 => sumOf ((List.range n).map fun j => Du.bin .mul (b16 (a j)) (b16 (b j)))
  | .int8 =>
    let r (x : Du) : Rat := x.v.rat.getD 0
    let d := (List.range n).map fun j =>
      opt2 (fun x y => x + y) ((a j).d.map fun x => x * r (b j)) ((b j).d.map fun y => r (a j) * y)
    ⟨.fin ((List.range n).map fun j => r (a j) * r (b j)).sum, d.foldl (opt2 fun x y => x + y) (some 0)⟩

/-- A matrix product into a shape; `ta` and `tb` transpose an operand. -/
def matmul (m : MulMode) (ta tb : Bool) (shape : List Nat) (a b : Tensor) : Tensor :=
  let cols := if b.shape.length < 2 then 1 else if tb then b.shape.headD 1 else b.shape.getLastD 1
  let inner := b.v.length / cols
  let rows := a.v.length / inner
  Tensor.tab shape fun i =>
    let r := i / cols
    let c := i % cols
    dot m inner (fun j => a.get (if ta then j * rows + r else r * inner + j)) (fun j => b.get (if tb then c * inner + j else j * cols + c))

/-! ### The other operators -/

/-- The elements that a reduction brings together in each element of its result. -/
def reduceGroups (axes : List Nat) (t : Tensor) : List (List Du) :=
  let kept (l : List Nat) : List Nat := (List.range l.length).filterMap fun k => if axes.contains k then none else l[k]?
  let shape := kept t.shape
  let place (i : Nat) : Nat := flat shape (kept (unflat t.shape i))
  (List.range (volume shape)).map fun o =>
    (List.range t.v.length).filterMap fun i => if place i = o then t.v[i]? else none

/-- A constant number. -/
def Du.num (x : Rat) : Du := Du.const (Fp.of x)

/-- One element of a reduction. -/
def reduceOne (f : RedOp) (l : List Du) : Du :=
  match f with
  | .sum => sumOf l
  | .mean => Du.bin .div (sumOf l) (Du.num l.length)
  | .max => l.tail.foldl (Du.bin .max) (l.headD ⟨.nan, none⟩)

/-- LayerNormalization over one row, as ONNX opset 17 composes it. -/
def normRow (eps : Rat) (l : List Du) : List Du :=
  let mean := reduceOne .mean l
  let d := l.map fun x => Du.bin .sub x mean
  let var := reduceOne .mean (d.map fun x => Du.bin .mul x x)
  let inv := Du.bin .div (Du.num 1) (Du.un .sqrt (Du.bin .add var (Du.num eps)))
  d.map fun x => Du.bin .mul x inv

@[inherit_doc normRow] def layerNorm (axis : Nat) (eps : Rat) (x : Tensor) (scale bias : Option Tensor) : Tensor :=
  let row := volume (x.shape.drop axis)
  let rows := (List.range (x.v.length / row)).map fun r => normRow eps ((x.v.drop (r * row)).take row)
  let y : Tensor := ⟨x.shape, rows.flatten⟩
  Tensor.tab x.shape fun i =>
    let a := match scale with | some s => Du.bin .mul (y.get i) (s.spread i) | none => y.get i
    match bias with | some b => Du.bin .add a (b.spread i) | none => a

/-- Slice and Gather with constant indices: those kept on each axis. -/
def selectAxes (axes : List (Option (List Nat))) (shape : List Nat) (t : Tensor) : Tensor :=
  let pick (k : Nat) : List Nat := match axes.getD k none with | some l => l | none => List.range (t.shape.getD k 1)
  let dims := (List.range t.shape.length).map fun k => (pick k).length
  Tensor.tab shape fun i => t.get (flat t.shape ((List.range t.shape.length).map fun k => (pick k).getD ((unflat dims i).getD k 0) 0))

/-- Concat: the element at an index along the axis, from the operand that reaches there. -/
def concatAt (axis : Nat) : List Tensor → List Nat → Du
  | [], _ => ⟨.nan, none⟩
  | t :: ts, idx =>
    let n := t.shape.getD axis 0
    let k := idx.getD axis 0
    if k < n then t.get (flat t.shape idx) else concatAt axis ts (idx.set axis (k - n))

/-- QuantizeLinear with zero point 0: an INT8 code. -/
def quantizeDu (scale : Rat) (a : Du) : Du :=
  let code : Int := match a.v.div (Fp.of scale) with
    | .nan => Config.nanCode
    | .inf n => if n then -128 else 127
    | q => roundEven (q.rat.getD 0)
  ⟨.fin ((max (-128) (min 127 code) : Int) : Rat), a.v.rat.bind fun x => a.d.map fun d => d * Config.quantSlope x scale⟩

/-- DequantizeLinear: the INT32 sum or the code scaled to FP32, rounded once. -/
def dequantizeDu (scale : Rat) (a : Du) : Du :=
  ⟨match a.v.rat with | some x => Fp.of (x * scale) | none => a.v, a.d.map fun d => d * scale⟩

end Sys2Proof.Machine

namespace Sys2Proof
open Machine

/-! ### A graph -/

/-- Where an initializer's values begin. -/
def Graph.initAt (g : Graph) (k : Nat) : Nat := ((g.inits.take k).map fun x => volume x.shape).sum

/-- A value with derivative 1 where it is the parameter differentiated by. -/
def seeded (hit : Bool) (x : Rat) : Du := ⟨Fp.of x, some (if hit then 1 else 0)⟩

/-- The initializers of a graph as tensors, from one after another of their values. -/
def Graph.constants (g : Graph) (w : List Rat) (seed : Option Param) : List Tensor :=
  (List.range g.inits.length).map fun k =>
    let shape := (g.inits.getD k ⟨[], .f32⟩).shape
    Tensor.tab shape fun i => let p := g.initAt k + i; seeded (seed == some (.weight p)) (w.getD p 0)

/-- What a run of a graph is given: the features, the adapter, the initializers, and the results so far. -/
structure Env where
  features : Tensor
  adapter : Tensor
  inits : List Tensor
  nodes : List Tensor

def Env.get (e : Env) : Src → Tensor
  | .features => e.features
  | .adapter => e.adapter
  | .init k => e.inits.getD k ⟨[], []⟩
  | .node k => e.nodes.getD k ⟨[], []⟩

/-- The storage format of an operand that is an initializer. -/
def Graph.fmtOf (g : Graph) : Src → Option StoreFmt
  | .init k => (g.inits[k]?).map fun x => x.fmt
  | _ => none

/-- The scale of an INT8 operand. -/
def Graph.scaleOf (g : Graph) (x : Src) : Option Rat := match g.fmtOf x with | some (.int8 sc) => some sc | _ => none

/-- How a product of operands is formed (R236): in BF16 where one is stored so. -/
def Graph.mulMode (g : Graph) (int8 : Bool) (args : List Src) : MulMode :=
  if int8 then .int8 else if args.any fun x => g.fmtOf x == some .bf16 then .bf16 else .f32

/-- DT of a run: feature 0 (R235). -/
def Graph.dt (g : Graph) (e : Env) : Rat := ((e.features.get (g.features.idxOf 0)).v.rat).getD 0

/-- The gates of a scan layer (R235, R250). -/
def Graph.gatesOf (g : Graph) (e : Env) (alog : Nat) (f : UnOp) (classes : List Bool) (args : List Src) : List Gates :=
  let arg (k : Nat) : Tensor := e.get (args.getD k .features)
  (List.range (32 * classes.length)).map fun i =>
    let z := ((arg 3).get i).v
    let phi := z.rat.bind fun x => ((Fp.un f z).rat).bind fun y => (UnOp.slope f x y).map fun k => g.dt e * k
    fuse (classes.getD (i / 32) false) ((e.get (.init alog)).get i).v ((arg 0).get i).v ((arg 1).get i).v ((arg 2).get i).v phi

/-- One operator that is no scan. -/
def Graph.apply (g : Graph) (e : Env) (n : GateNode) : Tensor :=
  let arg (k : Nat) : Tensor := e.get (n.args.getD k .features)
  let opt (k : Nat) : Option Tensor := (n.args[k]?).map e.get
  let tab := Tensor.tab n.shape
  match n.op with
  | .matmul int8 =>
    let coded (k : Nat) : Tensor :=
      if int8 then ⟨(arg k).shape, (arg k).v.map (codeDu (g.scaleOf (n.args.getD k .features)))⟩ else arg k
    matmul (g.mulMode int8 n.args) false false n.shape (coded 0) (coded 1)
  | .gemm ta tb =>
    let y := matmul (g.mulMode false (n.args.take 2)) ta tb n.shape (arg 0) (arg 1)
    match opt 2 with | some c => tab fun i => Du.bin .add (y.get i) (c.spread i) | none => y
  | .un f => tab fun i => Du.un f ((arg 0).get i)
  | .bin f => tab fun i => Du.bin f ((arg 0).spread i) ((arg 1).spread i)
  | .clip lo hi => tab fun i =>
      let x := match lo with | some b => Du.bin .max ((arg 0).get i) (Du.num b) | none => (arg 0).get i
      match hi with | some b => Du.bin .min x (Du.num b) | none => x
  | .where_ => tab fun i => if ((arg 0).spread i).v.rat == some 0 then (arg 2).spread i else (arg 1).spread i
  | .reduce f axes => ⟨n.shape, (reduceGroups axes (arg 0)).map (reduceOne f)⟩
  | .layerNorm axis eps => layerNorm axis eps (arg 0) (opt 1) (opt 2)
  | .select axes => selectAxes axes n.shape (arg 0)
  | .concat axis => tab fun i => concatAt axis (n.args.map e.get) (unflat n.shape i)
  | .reshape => ⟨n.shape, (arg 0).v⟩
  | .quantize sc => tab fun i => quantizeDu sc ((arg 0).get i)
  | .dequantize sc => tab fun i => dequantizeDu sc ((arg 0).get i)
  | .scan _ _ _ _ => ⟨n.shape, []⟩

/-- A graph run in order (R236): `scan` is what the scan engine makes of a layer's gates, beside what the layer hands on. -/
def Graph.run {σ : Type} (g : Graph) (w : List Rat) (fs ad : List Rat) (seed : Option Param) (scan : Nat → List Gates → σ × List Du) :
    Env × List σ :=
  let ads := (List.range ad.length).map fun i => seeded (seed == some (.adapter i)) (ad.getD i 0)
  let e0 : Env := ⟨⟨[fs.length], fs.map fun x => seeded false x⟩, ⟨[ad.length], ads⟩, g.constants w seed, []⟩
  g.ops.foldl (fun r n =>
    match n.op with
    | .scan alog f classes _ =>
      let (st, h) := scan r.2.length (g.gatesOf r.1 alog f classes n.args)
      ({ r.1 with nodes := r.1.nodes ++ [⟨n.shape, h⟩] }, r.2 ++ [st])
    | _ => ({ r.1 with nodes := r.1.nodes ++ [g.apply r.1 n] }, r.2)) (e0, [])

/-- The six outputs of a run in the order of Table 9-2; none where the graph provides none. -/
def Graph.results (g : Graph) (e : Env) : List (Option Du) :=
  (List.range 6).map fun i => (g.outputs.getD i none).map fun x => (e.get x).get 0

/-- The class of every block of every layer; the outputs that are provided. -/
def Graph.layers (g : Graph) : List (List Bool) :=
  g.ops.filterMap fun n => match n.op with | .scan _ _ classes _ => some classes | _ => none
@[inherit_doc Graph.layers] def Graph.provides (g : Graph) : List Bool := (List.range 6).map fun i => (g.outputs.getD i none).isSome

/-- The adapter of a fresh cell: P_a values in FP32 (R228, R230). -/
def Graph.firstAdapter (g : Graph) : List Rat := (List.range g.adapterSize).map fun i => (fl32 (g.adapterInit.getD i 0)).getD 0

end Sys2Proof

namespace Sys2Proof.Machine

/-! ### Live, reference and shadow runs -/

/-- What a run of a graph gives: the new state and the six outputs, `none` for one that is not provided. -/
structure Stepped (σ : Type) where
  state : List σ
  outputs : List (Option Fp)

/-- What a layer's states hand on, with no derivative. -/
def plainOut (l : List Fp) : List Du := l.map Du.const

/-- A live step of a cell (R221, R246, R251–R253): its state from the one before, quantised. -/
def liveStep (g : Graph) (w fs ad : List Rat) (renorm : Bool) (pos : Nat) (snap : Round) (st : List (List Block)) : Stepped (List Block) :=
  let (e, bs) := g.run w fs ad none fun l gs =>
    let b := stepLayer renorm pos l snap 0 (st.getD l []) gs
    (b, plainOut (stateOut b))
  ⟨bs, (g.results e).map fun o => o.map fun x => x.v⟩

/-- A reference step (R256): the same graph on the reference states in FP64. -/
def refStep (g : Graph) (w fs ad : List Rat) (ref : List (List Rat)) : Stepped (List Rat) :=
  let (e, rs) := g.run w fs ad none fun l gs =>
    let r := refLayer (ref.getD l []) gs
    (r, plainOut (r.map Fp.of))
  ⟨rs, (g.results e).map fun o => o.map fun x => x.v⟩

/-- The part of a shadow step that evaluates the graph on the shadow parameters (R274 steps 1, 2 and 4): the layers before the last hand
on the live state of the snap, and the last layer's gates and what it hands on are `last`. -/
def shadowRun {σ : Type} (g : Graph) (w fs ad : List Rat) (seed : Option Param) (live : List (List Block)) (last : List Gates → σ × List Du)
    : Env × List (Option σ) :=
  g.run w fs ad seed fun l gs =>
    if l + 1 < g.layers.length then (none, plainOut (stateOut (live.getD l [])))
    else let (x, h) := last gs; (some x, h)

/-- The gates of the last layer on the shadow parameters. -/
def shadowGates (g : Graph) (w fs ad : List Rat) (live : List (List Block)) : List Gates :=
  (((shadowRun g w fs ad none live fun gs => (gs, [])).2.getLastD none).getD [])

/-- The outputs on the shadow state, with their derivatives by one state of the last layer, by one parameter, or by nothing. -/
def shadowOutputs (g : Graph) (w fs ad : List Rat) (live : List (List Block)) (hs : List Block) (state : Option Nat) (seed : Option Param) :
    List (Option Du) :=
  let h := stateOut hs
  let out := (List.range h.length).map fun i => (⟨h.getD i .nan, some (if state = some i then 1 else 0)⟩ : Du)
  g.results (shadowRun g w fs ad seed live fun _ => ((), out)).1

/-- The pending sensitivities (R274 step 5) of v_pred, soc and cap, in FP32: channel by channel over the states, then the head. -/
def sensitivities (g : Graph) (w fs ad : List Rat) (live : List (List Block)) (hs : List Block) (ts : List (List Block)) :
    List (List (Option Rat)) :=
  let by_ (state : Option Nat) (seed : Option Param) : List (Option Du) := shadowOutputs g w fs ad live hs state seed
  let n := (stateOut hs).length
  let dh := (List.range n).map fun i => by_ (some i) none
  let dt := g.plan.heads.map fun p => by_ none (some p)
  let d (k : Nat) (o : List (Option Du)) : Option Rat := (o.getD k none).bind fun x => x.d
  (List.range 3).map fun k =>
    ((ts.map fun bs =>
      let t := (bs.map Block.values).flatten
      (List.range n).map fun i => (d k (dh.getD i [])).bind fun x => fl32 (x * t.getD i 0)).flatten) ++
    dt.map fun o => (d k o).bind fl32

/-! ### Cost rules (R238–R240) -/

/-- The quotient rounded up. -/
def ceilDiv (a b : Nat) : Nat := (a + b - 1) / b

end Sys2Proof.Machine


namespace Sys2Proof
open Machine

/-- The inner dimension of a product: the length of the left operand's rows. -/
def Graph.macs (g : Graph) (n : GateNode) : Nat :=
  let shape (x : Src) : List Nat := match x with
    | .features => [g.features.length]
    | .adapter => [g.adapterSize]
    | .init k => (g.inits.getD k ⟨[], .f32⟩).shape
    | .node k => ((g.ops[k]?).map fun n => n.shape).getD []
  let b := shape (n.args.getD 1 .features)
  let tb := match n.op with | .gemm _ t => t | _ => false
  let inner := volume b / (if b.length < 2 then 1 else if tb then b.headD 1 else b.getLastD 1)
  volume n.shape * inner

/-- Operands a gate cycle takes (Table 9-6). -/
def Machine.MulMode.width : MulMode → Nat
  | .f32 => 64
  | .bf16 => 128
  | .int8 => 256

/-- Gate cycles of one operator (Table 9-6): m multiply-accumulates, or n elements produced. QuantizeLinear and DequantizeLinear cost as
elementwise operators (DEDUCED). -/
def Graph.cycles (g : Graph) (n : GateNode) : Nat :=
  let k := ceilDiv (volume n.shape) 64
  match n.op with
  | .matmul int8 => ceilDiv (g.macs n) (g.mulMode int8 n.args).width + 4
  | .gemm _ _ => ceilDiv (g.macs n) (g.mulMode false (n.args.take 2)).width + 4
  | .un f => if f = .neg ∨ f = .abs then k + 4 else 4 * k + 4
  | .bin _ => k + 4
  | .clip _ _ => k + 4
  | .where_ => k + 4
  | .quantize _ => k + 4
  | .dequantize _ => k + 4
  | .reduce _ _ => 4 * k + 4
  | .layerNorm _ _ => 4 * k + 4
  | .scan _ _ _ _ => 4 * k + 4
  | .select _ => 0
  | .concat _ => 0
  | .reshape => 0

/-- Blocks of a graph: ordinary and lined. -/
def Graph.blocks (g : Graph) : Nat × Nat :=
  ((g.layers.map fun l => l.countP fun b => !b).sum, (g.layers.map fun l => l.countP fun b => b).sum)

/-- Gate cycles per cell. -/
def Graph.gateCycles (g : Graph) : Nat := (g.ops.map g.cycles).sum

/-- Lined states of every layer (R237). -/
def Graph.lined (g : Graph) : List Nat := g.ops.filterMap fun n => match n.op with | .scan _ _ _ l => some l | _ => none

/-- Scan lane-cycles per cell: (N + ℓ) / 32 per layer. -/
def Graph.laneCycles (g : Graph) : Nat := g.blocks.1 + 2 * g.blocks.2

/-- Parameters, and the bytes a stored one takes. -/
def Graph.params (g : Graph) : Nat := (g.inits.map fun x => volume x.shape).sum
@[inherit_doc Graph.params] def StoreFmt.bytes : StoreFmt → Nat
  | .bf16 => 2
  | .f32 => 4
  | .int8 _ => 1

/-- Bytes of state per cell in one copy. -/
def Graph.stateBytes (g : Graph) : Nat := 65 * g.blocks.1 + 129 * g.blocks.2

def Graph.weightBytes (g : Graph) : Nat := (g.inits.map fun x => x.fmt.bytes * volume x.shape).sum

/-- The elements of the largest tensor that is no initializer. -/
def Graph.maxTensor (g : Graph) : Nat := (g.ops.map fun n => volume n.shape).foldl max (max g.features.length g.adapterSize)

end Sys2Proof

namespace Sys2Proof.Machine

/-- The greatest sum over c cores of the per-cell costs dealt to them in turn, cohort by cohort (R225). -/
def dealt (c : Nat) (costs : List (List Nat)) : Nat :=
  ((List.range c).map fun k =>
    (costs.map fun l => ((List.range l.length).filterMap fun i => if i % c = k then l[i]? else none).sum).sum).foldl max 0

/-- A model plan: for each cohort with a graph, and then the store model, its number and its cells. -/
abbrev ModelPlan := List (Nat × Graph × List CellId)

/-- Gate time and scan time in ns, at 1.0 GHz, and memory traffic in bytes per round. -/
def planCosts (p : ModelPlan) : Nat × Nat × Nat :=
  (dealt 8 (p.map fun x => x.2.2.map fun _ => x.2.1.gateCycles),
   dealt 4 (p.map fun x => x.2.2.map fun _ => x.2.1.laneCycles),
   (p.map fun x => x.2.2.length * (2 * x.2.1.stateBytes + 4 * x.2.1.adapterSize) + x.2.1.weightBytes).sum)

/-- The budget report of R240, as numbers in the order the rule names them: per cohort and the store model cells,
states, lined states, parameters, adapter values, gate cycles and lane-cycles per cell; then in total cells, states,
lined states, parameters and adapter values, gate time, scan time, traffic, W_min, both shares and both margins. -/
def budgetReport (m : ModelFields) (roundMin : Nat) (p : ModelPlan) : List Rat :=
  let each := (p.map fun x =>
    let n : Nat := x.2.2.length
    let st : Nat := 32 * (x.2.1.blocks.1 + x.2.1.blocks.2)
    [(x.1 : Rat), (n : Rat), ((n * st : Nat) : Rat), ((n * x.2.1.lined.sum : Nat) : Rat), (x.2.1.params : Rat),
     ((n * x.2.1.adapterSize : Nat) : Rat), (x.2.1.gateCycles : Rat), (x.2.1.laneCycles : Rat)]).flatten
  let sum (f : Nat × Graph × List CellId → Nat) : Rat := (((p.map f).sum : Nat) : Rat)
  let (g, sc, tr) := planCosts p
  let wMin : Rat := 53 * (roundMin : Rat) * 1000 / 64
  let step := m.stepShare / 100 * wMin
  let mem := m.memShare / 100 * 51200 * (roundMin : Rat)
  each ++ [sum fun x => x.2.2.length, sum fun x => x.2.2.length * 32 * (x.2.1.blocks.1 + x.2.1.blocks.2),
    sum fun x => x.2.2.length * x.2.1.lined.sum, sum fun x => x.2.1.params, sum fun x => x.2.2.length * x.2.1.adapterSize,
    (g : Rat), (sc : Rat), (tr : Rat), wMin, step, mem, step - g - sc, mem - tr]

/-- The plan fits (R239). -/
def planFits (m : ModelFields) (roundMin : Nat) (p : ModelPlan) : Bool :=
  let (g, sc, tr) := planCosts p
  decide (((g + sc : Nat) : Rat) ≤ m.stepShare / 100 * (53 * (roundMin : Rat) * 1000 / 64)) &&
  decide ((tr : Rat) ≤ m.memShare / 100 * 51200 * (roundMin : Rat))

end Sys2Proof.Machine

namespace Sys2Proof
open Machine

/-- The limits of Table 9-3 for a graph. -/
def Graph.withinLimits (g : Graph) (isStore : Bool) : Bool :=
  let layerOk (l : List Bool) : Bool :=
    let n := 32 * l.length
    if isStore then decide (32 ≤ n) && decide (n ≤ 64) else decide (32 ≤ n) && decide (n ≤ 256)
  decide (1 ≤ g.layers.length) && decide (g.layers.length ≤ (if isStore then 2 else 4)) && (g.layers.all layerOk) &&
  (g.lined.all fun k => decide (k ≤ (if isStore then 16 else 64))) &&
  decide (1 ≤ g.features.length) && decide (g.features.length ≤ (if isStore then 8 else 16)) &&
  decide (g.adapterSize ≤ (if isStore then 256 else 1024)) && decide (g.params ≤ (if isStore then 65536 else 1048576)) &&
  decide (g.operators ≤ (if isStore then 128 else 512)) && decide (g.maxTensor ≤ 1024) &&
  decide (g.gateCycles ≤ (if isStore then 8192 else 65536))

/-- The training limits of Table 11-2 for a graph and a number of active cells. -/
def Graph.trainOk (g : Graph) (active : Nat) : Bool :=
  let nAd := (g.plan.adapter.filterMap fun x => x).length
  let n := 32 * ((g.layers.getLastD []).length)
  let outs := ((List.range 3).countP fun i => g.provides.getD i false)
  let sens := g.plan.channels.length * n + g.plan.heads.length
  decide (g.plan.channels.length ≤ 4) && decide (g.plan.heads.length ≤ 2048) && decide (nAd ≤ 1024) &&
  decide (12 * (g.plan.cohort.length + active * nAd) + 4 * active * outs * sens + 4 * (g.plan.cohort.length + active * nAd) ≤ 3670016)

end Sys2Proof
end

