-- ==== Sys2Proof/Machine/LearnedOps.lean ====
section
/-!
DEFINITION. Operations on the learned path (chapters 09 and 10): which cells have a model, fresh
starts, features, poisoned blocks, re-seeds and the tour of reference replay, checkpoints in storage,
and leaving the training active set.
-/
namespace Sys2Proof.Machine

/-! ### Cells and graphs -/

/-- The graph of a cohort; 16 is the store model. -/
def State.graph (s : State) (c : Nat) : Option Graph :=
  if c = 16 then s.img.f.model.store else s.img.f.model.cohorts.getD c none

/-- The cohort of a cell, when it has a model (R229, R231): a pack entry names cohort 0 to 15. -/
def State.cohortOf (s : State) (id : CellId) : Option Nat :=
  let c := if 4096 < id then 16 else s.img.f.model.cohortMap.getD (id - 1) 255
  if (decide (c ≤ 15) || decide (4096 < id)) && (s.graph c).isSome then some c else none

/-- Every fitted cell: pack positions, then store cells. -/
def State.fittedCells (s : State) : List CellId :=
  (List.range ((s.img.variant.map Variant.groups).getD 0)).map (fun i => i + 1) ++
  (List.range s.storeCells).map fun i => 4097 + i

/-- The model plan of the selected variant: every cohort with a graph, then the store model (R225, R240). -/
def State.modelPlan (s : State) : ModelPlan :=
  (List.range 17).filterMap fun c =>
    (s.graph c).map fun g => (c, g, s.fittedCells.filter fun id => s.cohortOf id == some c)

def State.lcell (s : State) (id : CellId) : Option LCell := s.lrn.cells.find? fun c => c.id == id

def State.updL (s : State) (id : CellId) (f : LCell → LCell) : State :=
  { s with lrn := { s.lrn with cells := updWhere (fun c => c.id == id) f s.lrn.cells } }

/-- The cell's last complete state, and the other copy (R246). -/
def LCell.state (c : LCell) : List (List Block) := if c.selY then c.y else c.x
@[inherit_doc LCell.state] def LCell.other (c : LCell) : List (List Block) := if c.selY then c.x else c.y

/-- A complete write of the other copy, which the selector then names (R246). -/
def LCell.write (c : LCell) (st : List (List Block)) : LCell :=
  if c.selY then { c with x := st, selY := false } else { c with y := st, selY := true }

/-- The last complete state replaced where it stands. -/
def LCell.setState (c : LCell) (st : List (List Block)) : LCell :=
  if c.selY then { c with y := st } else { c with x := st }

/-- P7–P17 are on, and P7 is out of self-refresh (Table 3-3). -/
def State.memoryUp (s : State) : Bool := !s.sup.p7SelfRefresh && (List.range 11).all fun k => s.domainOn (7 + k)

/-- The learned path runs: enabled, its memory laid out and loaded, its domains on, and not shed. -/
def State.learnedOn (s : State) : Bool :=
  !s.lrn.disabled && !s.lrn.disabledCold && s.lrn.ddr && s.lrn.loaded && decide (s.trn.shed < 3) && s.memoryUp

/-- A requester's port is fenced (R265). -/
def State.fenced (s : State) (r : Requester) : Bool := s.lrn.fences.any fun f => f.req == r && f.fenced

/-- A cell with a model before its first step; its state memory is empty until it is loaded (R266). -/
def LCell.new (id : CellId) (cohort : Nat) (t : Ns) : LCell :=
  { id := id, cohort := cohort, x := [], y := [], selY := false, adapter := [], shadow := [], freshAt := t, warmLeft := 0, warmup := false
    blank := false, due := none, dueT := 0, resident := false, late := none, bound := false, stepped := none, stepT := t, vPred := none
    input := ⟨[], none, false⟩, lastTemp := none, openRun := 0, nonfinite := ⟨0, 0⟩, result := none, last := none, absent := ⟨0, 0⟩
    restoring := false, reloading := false }

/-- A cell whose state memory is lost: what is not held there stays (R266). -/
def LCell.drop (c : LCell) : LCell :=
  { c with x := [], y := [], adapter := [], shadow := [], due := none, resident := false, late := none, bound := false, result := none
           restoring := false, reloading := false }

/-- Every state of a cell zero, and its adapter the cohort's first (R228). -/
def LCell.zeroed (g : Graph) (c : LCell) : LCell :=
  { c with x := zeroState g.layers, y := zeroState g.layers, selY := false, adapter := g.firstAdapter, shadow := g.firstAdapter, blank := false }

/-- A fresh start at a crystal time (R228); state memory that is not loaded takes it when it is. -/
def LCell.fresh (g : Graph) (warm : Nat) (loaded : Bool) (t : Ns) (c : LCell) : LCell :=
  let c1 := { c with freshAt := t, warmLeft := warm, warmup := decide (0 < warm), restoring := false, reloading := false }
  if loaded then c1.zeroed g else { c1 with blank := true }

/-- The cells with a model of the selected variant, in the order of R225; one that had that model before keeps what is not in state
memory. -/
def State.learnCells (s : State) : List LCell :=
  s.fittedCells.filterMap fun id => (s.cohortOf id).map fun c =>
    ((s.lrn.cells.find? fun x => x.id == id && x.cohort == c).map LCell.drop).getD (LCell.new id c s.now)

/-! ### The order of steps (R19, R225, R260) -/

/-- A step of a cell is queued: due, and not waiting for a restore. -/
def LCell.queued (c : LCell) : Bool := c.due.isSome && !c.restoring && !c.reloading

/-- A step of an earlier snap than the present round's. -/
def LCell.isLate (round : Round) (c : LCell) : Bool := match c.due with | some n => decide (n + 1 < round) | none => false

/-- The place of a cell in its cohort. -/
def State.placeOf (s : State) (c : LCell) : Nat := s.lrn.cells.countP fun d => d.cohort == c.cohort && decide (d.id < c.id)

/-- A queued step that comes before a cell's: a late one before those of the snap due, an earlier cohort's, and in its own cohort an
earlier cell's of the same gate core. -/
def State.stepAhead (s : State) (c : LCell) : Bool :=
  let n := s.pace.round
  s.lrn.cells.any fun d =>
    d.queued && d.id != c.id &&
      (if d.isLate n != c.isLate n then d.isLate n
       else decide (d.cohort < c.cohort) ||
         (d.cohort == c.cohort && decide (d.id < c.id) && s.placeOf d % 8 == s.placeOf c % 8))

/-- Work of class 1 is queued, a present snap's from stitch 8 on, and of class 2: the replay of a cell whose live step of the snap is
complete (R17, R19). -/
def State.stepsQueued (s : State) : Bool :=
  s.learnedOn && s.lrn.cells.any fun c => c.queued && (c.isLate s.pace.round || decide (8 ≤ s.pace.stitch))
@[inherit_doc State.stepsQueued] def State.replayQueued (s : State) : Bool :=
  s.learnedOn && !s.lrn.replay.suspended && decide (s.pace.stitch ≤ 61) && !(s.lrn.replay.stepped == some (s.pace.round - 1)) &&
    (match s.lrn.replay.cell.bind s.lcell with | some c => c.stepped == some (s.pace.round - 1) | none => false)

/-! ### Leaving the active set (R273) -/

/-- A cell leaves the training active set for the rest of the cycle. -/
def State.leaveActive (s : State) (sel : CellId → Bool) : State :=
  { s with trn := { s.trn with cells := updWhere (fun a => sel a.id) (fun a => { a with active := false }) s.trn.cells } }

/-! ### Reference replay (R255–R259) -/

def State.updFray (s : State) (c : Nat) (f : Fray → Fray) : State :=
  let get (i : Nat) : Fray := s.lrn.fray.getD i ⟨0, 0, 0, 0, 0⟩
  let l := (List.range 17).map fun i => if i = c then f (get i) else get i
  { s with lrn := { s.lrn with fray := l } }

/-- Detail value of a cohort (Table 17-5). -/
def cohortDetail (c : Nat) : Nat := 0x2600 + c

/-- A tour has ended: faults of the tour are judged, and the counts of the new tour begin (R258, R259). -/
def State.tourEnd (s : State) : State :=
  let s1 := if s.lrn.replay.tourReseed then s else s.clear 0x510 0
  let s2 := if s.lrn.replay.tourDouble then s1 else s1.clearAll 0x511
  let s3 := (List.range 17).foldl (fun t c =>
    if (t.lrn.fray.getD c ⟨0, 0, 0, 0, 0⟩).tour ≤ t.img.f.numeric.cohortLimit then t.clear 0x512 (cohortDetail c) else t) s2
  { s3 with lrn := { s3.lrn with
      fray := s3.lrn.fray.map fun r => { r with tour := 0, aborts := 0 }
      replay := { s3.lrn.replay with tourReseed := false, tourDouble := false } } }

/-- The next replay cell in ascending position, without cells in warm-up; passing the end ends the tour. It begins with the next snap
(R255, R256). -/
def State.nextReplay (s : State) : State :=
  let ids := (s.lrn.cells.filter fun c => !c.warmup).map fun c => c.id
  let after := match s.lrn.replay.cell with
    | some id => ids.filter fun j => decide (id < j)
    | none => ids
  let s1 := if after.isEmpty && s.lrn.replay.cell.isSome then s.tourEnd else s
  let next := if after.isEmpty then ids.head? else after.head?
  { s1 with lrn := { s1.lrn with replay := { s1.lrn.replay with
      cell := next, seeded := false, ref := [], done := 0, stepped := some (s.pace.round - 1), vPred := none, compared := none, reseeds := 0 } } }

/-- A re-seed of the replay cell from the reference (R258). -/
def State.reseed (s : State) (id : CellId) : State :=
  match s.lcell id with
  | none => s
  | some c =>
    match s.graph c.cohort with
    | none => s
    | some g =>
      let snap := c.stepped.getD 0
      let s1 := (s.updL id fun c => c.write (reseedState g.layers id snap s.lrn.replay.ref)).raise 0x510 0
      let s2 := s1.updFray c.cohort fun r => { r with total := r.total + 1, tour := r.tour + 1 }
      let s3 := { s2 with lrn := { s2.lrn with replay := { s2.lrn.replay with
        done := 0, reseeds := s2.lrn.replay.reseeds + 1, tourReseed := true } } }
      let s4 := if s3.img.f.numeric.cohortLimit < (s3.lrn.fray.getD c.cohort ⟨0, 0, 0, 0, 0⟩).tour then
          s3.raise 0x512 (cohortDetail c.cohort) else s3
      if 2 ≤ s4.lrn.replay.reseeds then
        ({ s4 with lrn := { s4.lrn with replay := { s4.lrn.replay with tourDouble := true } } }.raise 0x511 id).nextReplay
      else s4

/-- The replay of the present cell is aborted (R256, R260). -/
def State.abortReplay (s : State) : State :=
  match s.lrn.replay.cell with
  | none => s
  | some id =>
    let n := s.lrn.replay.aborts + 1
    let s1 : State := { s with lrn := { s.lrn with replay := { s.lrn.replay with aborts := n } } }
    let s2 := match s1.lcell id with
      | some c => s1.updFray c.cohort fun r => { r with aborts := r.aborts + 1 }
      | none => s1
    (if 3 ≤ n then s2.raise 0x513 0 else s2).nextReplay

/-! ### Fresh starts (R228, R303) -/

/-- A seam cell at a fresh start of its cell. -/
def SeamCell.fresh (c : SeamCell) : SeamCell :=
  { c with state := .open_, rejoin := 0, resid := 0, splitRun := 0, srcL := false, vPrev := none }

/-- Every selected cell takes a fresh start: learned state, seam state, active set, replay. -/
def State.freshStart (s : State) (sel : CellId → Bool) : State :=
  let warm := s.img.f.model.warmupRounds
  let cells := s.lrn.cells.map fun c =>
    if sel c.id then
      match s.graph c.cohort with
      | some g => c.fresh g warm s.lrn.loaded s.now
      | none => c
    else c
  let faults := (s.seam.cells.filter fun c => sel c.id).map fun c => c.id
  let s1 : State := { s with
    lrn := { s.lrn with cells := cells }
    seam := { s.seam with cells := updWhere (fun c => sel c.id) SeamCell.fresh s.seam.cells } }
  let s2 := faults.foldl (fun t id => (t.clear 0x650 id).clear 0x651 id) s1
  let s3 := s2.leaveActive sel
  match s3.lrn.replay.cell with
  | some id => if sel id then s3.nextReplay else s3
  | none => s3

/-! ### Checkpoints in storage (R418) -/

/-- The newest valid checkpoint, whose area is given: true is C1. -/
def NonVol.newestCkpt (n : NonVol) : Option (Bool × Ckpt) :=
  match n.ckpt0, n.ckpt1 with
  | some a, some b => if a.seq < b.seq then some (true, b) else some (false, a)
  | some a, none => some (false, a)
  | none, some b => some (true, b)
  | none, none => none

/-- The newest valid checkpoint that matches the running image (R266, R418). -/
def State.matchingCkpt (s : State) : Option Ckpt :=
  match s.nv.newestCkpt with
  | some (_, k) => if k.model == s.img.modelDigest then some k else none
  | none => none

/-- The entry of a cell in the newest valid checkpoint that holds it. -/
def State.ckptCell (s : State) (id : CellId) : Option CkptCell :=
  match s.matchingCkpt with
  | some k => k.cells.find? fun c => c.id == id
  | none => none

/-! ### Poisoned blocks (R261) -/

/-- A poisoned block of a cell. -/
def State.poison (s : State) (id : CellId) : State :=
  match s.lcell id with
  | none => s
  | some c =>
    let s1 := (s.raiseFor 0x514 id 1000).leaveActive fun j => j == id
    if s1.lrn.replay.cell == some id && s1.lrn.replay.seeded then s1.reseed id
    else if (s1.ckptCell id).isSome then s1.updL id fun c => { c with restoring := true }
    else
      match s1.graph c.cohort with
      | some g => s1.updL id fun c => c.setState (zeroState g.layers)
      | none => s1

/-! ### Features (R222, R223) -/

/-- A stream's value in a unit, when it is usable. -/
def State.streamVal (s : State) (i : Nat) (scale : Rat) : Option Rat :=
  let r := streamAt s.acq.prevStreams i
  if r.usable then some ((r.value : Rat) / scale) else none

/-- The mean of the usable ones of some records, in a unit. -/
def meanUsable (l : List Rec) (scale : Rat) : Option Rat :=
  let v := (l.filter Rec.usable).map fun r => (r.value : Rat) / scale
  if v.isEmpty then none else some (v.sum / v.length)

/-- The temperature of a group's node in °C, mean of usable values (R182). -/
def State.nodeTemp (s : State) (pos : CellId) : Option Rat :=
  match s.img.variant with
  | none => none
  | some v =>
    match v.groupAt pos with
    | none => none
    | some (id, _) =>
      match s.acq.prevTemps.find? fun p => p.1 == id with
      | none => none
      | some p => meanUsable p.2 100

/-- The temperature of a cell, °C (feature 6). -/
def State.cellTemp (s : State) (id : CellId) : Option Rat :=
  if 4096 < id then meanUsable [streamAt s.acq.prevStreams 33, streamAt s.acq.prevStreams 34] 100 else s.nodeTemp id

/-- The temperature of R197: the node's, else the pack's, else 25 °C; for the store the mean of streams 33 and 34. -/
def State.ocvTemp (s : State) (id : CellId) : Rat :=
  match s.cellTemp id with
  | some t => t
  | none => if 4096 < id then 25 else (meanUsable (s.acq.prevTemps.map fun p => p.2).flatten 100).getD 25

/-- The record of a cell at the snap before: a pack group's, or a store cell's stream. -/
def State.cellRec (s : State) (id : CellId) : Rec :=
  if 4096 < id then streamAt s.acq.prevStreams (22 + (id - 4097)) else streamAt s.acq.prevGroups (id - 1)

/-- A cell's voltage in V, when its record is usable. -/
def State.cellVolt (s : State) (id : CellId) : Option Rat :=
  let r := s.cellRec id
  if r.usable then some ((r.value : Rat) / 100000) else none

/-- The mean usable voltage of the cell's port, or of the store cells (R223, feature 10). -/
def State.portMean (s : State) (id : CellId) : Option Rat :=
  if 4096 < id then meanUsable ((List.range s.storeCells).map fun k => streamAt s.acq.prevStreams (22 + k)) 100000
  else
    match s.img.variant with
    | none => none
    | some v =>
      match v.groupAt id with
      | none => none
      | some (n, _) =>
        let p := nodePort n
        let a := streamAt s.acq.prevStreams (48 + 6 * p)
        let k := streamAt s.acq.prevStreams (51 + 6 * p)
        if a.usable && decide (0 < k.value) then some ((a.value : Rat) / 1000 / k.value) else none

/-- The charge and snap-current streams of a cell's set (R222, R231). -/
def chargeStream (id : CellId) : Nat := if 4096 < id then 32 else 13
@[inherit_doc chargeStream] def snapStream (id : CellId) : Nat := if 4096 < id then 31 else 12

/-- The mean current of the round in A. -/
def State.meanCurrent (s : State) (id : CellId) : Option Rat :=
  match s.streamVal (chargeStream id) 1 with
  | some q => if s.acq.prevDt = 0 then none else some (q * 100 / s.acq.prevDt)
  | none => none

/-- The estimator's fields for a cell. -/
def State.estOf (s : State) (id : CellId) : EstFields := if 4096 < id then s.img.f.estStore else s.img.f.est

/-- What is known of a cell's bleed at the snap before. -/
def State.cellBleed (s : State) (id : CellId) : Bleed :=
  if 4096 < id then (if s.acq.prevSb.getD (id - 4097) false then .on else .off) else s.acq.prevBleed.getD (id - 1) .off

/-- One feature of a cell with whether it is substituted (Table 9-1). A cell not yet stepped takes the round's Δt; the bleed
current takes the last usable voltage where there is none (R191). -/
def State.feature (s : State) (c : LCell) (f : Nat) : Rat × Bool :=
  let im := s.meanCurrent c.id
  let cur (i : Nat) : Rat × Bool :=
    if 4096 < c.id && f != 3 then (im.getD 0, true)
    else match s.streamVal i 1000 with | some v => (v, false) | none => (im.getD 0, true)
  let v := s.cellVolt c.id
  let temp (x last : Option Rat) : Rat × Bool := match x with | some t => (t, false) | none => (last.getD 25, true)
  match f with
  | 0 => (if c.stepped.isNone then (s.acq.prevDt : Rat) / 100000000 else ((s.acq.prevT - c.stepT : Nat) : Rat) / 1000000000, false)
  | 1 =>
    match v with
    | some x => (x, false)
    | none =>
      match c.vPred with
      | some p => (p, true)
      | none =>
        match s.portMean c.id with
        | some m => (m, true)
        | none => (ocvAt (ocvCurve (s.estOf c.id) 25) 50 / 1000, true)
  | 2 => match im with | some i => (i, false) | none => (0, true)
  | 3 => cur (snapStream c.id)
  | 4 => cur 14
  | 5 => cur 15
  | 6 =>
    temp (s.cellTemp c.id) c.lastTemp
  | 7 => temp (s.streamVal 20 100) s.lrn.lastTIn
  | 8 => temp (s.streamVal 21 100) s.lrn.lastTOut
  | 9 =>
    match s.cellBleed c.id, v with
    | .on, some x => (Config.quot x (s.estOf c.id).rBleed, false)
    | .on, none =>
      match (if 4096 < c.id then s.cls.store else s.cls.pack).cells.find? fun e => e.id == c.id with
      | some e => (Config.quot ((e.vLast.getD 0) / 1000) (s.estOf c.id).rBleed, false)
      | none => (0, true)
    | .unknown, _ => (0, true)
    | .off, _ => (0, false)
  | 10 => match v, s.portMean c.id with | some x, some m => (x - m, false) | _, _ => (0, true)
  | 11 => match v, c.vPred with | some x, some p => (x - p, false) | _, _ => (0, true)
  | 12 =>
    let r := s.cellRec c.id
    (if !r.usable then 1 else if r.flags.getLsbD 2 || r.flags.getLsbD 3 then 1 else 0, false)
  | 13 => (if v.isNone then 1 else 0, false)
  | 14 => (min 65535 (((s.acq.prevT - c.freshAt : Nat) : Rat) / 3600000000000), false)
  | _ => match s.streamVal 21 100, s.streamVal 20 100 with | some o, some i => (o - i, false) | _, _ => (0, true)

/-- The features of a cell in the order of its graph's list, as FP32. -/
def State.features (s : State) (g : Graph) (c : LCell) : List (Rat × Bool) :=
  g.features.map fun f => let (v, b) := s.feature c f; ((fl32 v).getD 0, b)

/-- What a step of the snap before takes from its records. -/
def State.stepIn (s : State) (g : Graph) (c : LCell) : StepIn :=
  let r := s.cellRec c.id
  ⟨s.features g c, s.cellVolt c.id, r.flags.getLsbD 3 || r.flags.getLsbD 4⟩

/-- Before the records move on, a step that has not completed keeps the inputs of its snap (R260). -/
def State.keepLate (s : State) : State :=
  let keep (c : LCell) : LCell := match s.graph c.cohort with
    | some g => if c.due.isSome && c.late.isNone then { c with late := some (s.stepIn g c) } else c
    | none => c
  { s with lrn := { s.lrn with cells := s.lrn.cells.map keep } }

end Sys2Proof.Machine
end

