-- ==== Sys2Proof/Machine/TrainOps.lean ====
section
/-!
DEFINITION. Operations on a training cycle (chapter 11): its end, unpicking, and the scoring of a
shadow step.
-/
namespace Sys2Proof.Machine

/-- A cycle is in force (Table 11-3). -/
def State.cycleOn (s : State) : Bool := !(s.trn.phase == Phase.idle)

/-- The payload of a training entry of the event log (Table 16-13, kind 0x04). -/
def TrainRecord.payload (r : TrainRecord) : List Byte :=
  beBytes 1 r.cohort ++ beBytes 1 r.reason ++ beBytes 4 (r.cycle % 2 ^ 32) ++ beBytes 4 (f32Bits r.lLive) ++ beBytes 4 (f32Bits r.lShadow)
    ++ beBytes 4 (r.samples % 2 ^ 32) ++ beBytes 4 (r.xLive % 2 ^ 32) ++ beBytes 4 (r.xShadow % 2 ^ 32) ++ beBytes 2 (r.scored % 65536)

/-- The position the rotation of the cohort continues from: the last of the active set in the order it was taken. -/
def Training.lastOf (t : Training) : Nat := ((t.cells.map fun a => a.id).getLast?).getD 0

/-- The decision of a cycle is recorded (R284): 0 is promoted. The rotation moves on, but for reason 4. -/
def State.recordCycle (s : State) (reason : Nat) : State :=
  let t := s.trn
  let r : TrainRecord :=
    ⟨t.cohort, t.cycle, reason, t.lLive, t.lShadow, t.samples, t.xLive, t.xShadow, t.cells.countP fun a => a.scored⟩
  let last := (List.range 17).map fun i => if i = t.cohort then t.lastOf else t.lastPos.getD i 0
  let keep := reason == 4
  ({ s with
    trn := { t with last := some r, cycle := t.cycle + 1, again := keep, lastPos := if keep then t.lastPos else last }
    nv := { s.nv with
      trained := some r
      rotation := if keep then s.nv.rotation else t.cohort
      lastPos := if keep then s.nv.lastPos else last } } : State).log 4 r.payload

/-- A late step of a cohort still reads the halves that have become the shadow ones (R283). -/
def State.halvesRead (s : State) (cohort : Nat) : Bool := s.lrn.cells.any fun c => c.cohort == cohort && c.bound && c.due.isSome

/-- The shadow of a cohort is made equal to the live again, once no late step reads it (R283). -/
def State.restoreShadow (s : State) (cohort : Nat) : State :=
  if s.halvesRead cohort then { s with trn := { s.trn with copyDue := some cohort } }
  else { s with trn := { s.trn with copyDue := none }, lrn := { s.lrn with
      weights := (List.range s.lrn.weights.length).filterMap fun i =>
        (s.lrn.weights[i]?).map fun w => if i = cohort then { w with shadow := w.live } else w
      cells := updWhere (fun c => c.cohort == cohort) (fun c => { c with shadow := c.adapter }) s.lrn.cells } }

/-- In a warm phase the shadow that a promotion or a late step has left behind is made equal to the live (R283). -/
def State.settleShadow (s : State) : State :=
  match s.trn.copyDue with
  | some c => if s.trn.phase = .warm then s.restoreShadow c else s
  | none => s

/-- UNPICK (R284): the cycle ends for a reason of Table 11-6. A promotion decided and not yet made is given up without
a second record. -/
def State.unpick (s : State) (reason : Nat) : State :=
  if !s.cycleOn then s
  else if s.trn.phase = .decision then
    let s1 := s.restoreShadow s.trn.cohort
    { s1 with trn := { s1.trn with phase := .idle, promote := false, copied := false } }
  else
    let s1 := (s.restoreShadow s.trn.cohort).recordCycle reason
    let cells := s1.trn.cells.map fun a => { a with state := [], tangents := [], pending := none }
    let s2 : State := { s1 with trn := { s1.trn with
      phase := .idle, cells := cells, master := [], mom1 := [], mom2 := [], grad := [], promote := false, copied := false } }
    if reason = 5 ∨ reason = 6 then s2.raise 0x640 0 else if 1 ≤ reason ∧ reason ≤ 3 then s2.clear 0x640 0 else s2

/-- Corrupt shadow or tangent data, or a corrupt training partition (Table 10-5, Table 11-6 code 5). -/
def State.trainCorrupt (s : State) : State := s.unpick 5

def State.updA (s : State) (id : CellId) (f : ACell → ACell) : State :=
  { s with trn := { s.trn with cells := updWhere (fun a => a.id == id) f s.trn.cells } }

/-! ### Scoring (R276, R281, R308) -/

/-- The classical bracket of a cell (Table 8-5). -/
def Cell.bracket (f : EstFields) (c : Cell) : Bracket :=
  ⟨c.lo, c.hi, c.cap * (1 - c.uC / 100), c.cap * (1 + c.uC / 100), c.r * (1 - f.rURel / 100), c.r * (1 + f.rURel / 100)⟩

/-- Verdicts (Table 12-2). -/
inductive Verdict | in_ | none_ | out
  deriving DecidableEq, Repr

/-- A quantity within a closed bracket; one that is not present is not OUT (R293). -/
def within (x : Option Rat) (lo hi : Rat) : Bool := match x with | none => true | some v => decide (lo ≤ v) && decide (v ≤ hi)

/-- The verdict of R295 on SoC (a fraction), capacity and resistance, with residual excess. -/
def verdictOf (b : Bracket) (soc cap res : Option Rat) (excess : Bool) : Verdict :=
  if excess || !within (soc.map fun x => x * 100) b.lo b.hi || !within cap b.capLo b.capHi || !within res b.resLo b.resHi then .out
  else if soc.isNone then .none_ else .in_

/-- The residual test (R294) in mV: the new count; `app` is whether it applies. -/
def residCount (limit : Rat) (app : Bool) (v pred : Option Rat) (n : Nat) : Nat :=
  match v, pred with
  | some a, some p => if app then (if limit < |a - p| * 1000 then n + 1 else 0) else n
  | _, _ => n

/-- A scored term: the output it is on, its weight, its target and the factor from the output's unit. -/
structure Term where
  out : Nat
  w : Rat
  target : Rat
  unit : Rat
  deriving DecidableEq, Repr

/-- The terms of Table 11-5 that are available. -/
def terms (f : TrainFields) (v : Option Rat) (t : Option Targets) : List Term :=
  (match v with | some v => [⟨0, 1 / f.sigmaV ^ 2, v * 1000, 1000⟩] | none => []) ++
  (match t.bind fun t => t.soc with | some (x, u) => [⟨1, Config.quot f.weightSoc (u ^ 2), x, 100⟩] | none => []) ++
  (match t.bind fun t => t.cap with | some (x, u) => [⟨2, Config.quot f.weightCap (u ^ 2), x, 1⟩] | none => [])

/-- The loss of the terms on a list of outputs. -/
def loss (l : List Term) (out : List (Option Rat)) : Rat :=
  (l.map fun t => match out.getD t.out none with | some y => t.w * (t.target - y * t.unit) ^ 2 / 2 | none => 0).sum

/-- The gradient of one trainable value of sensitivity number i; none where it is not finite. -/
def gradient (l : List Term) (p : Pending) (i : Nat) : Option Rat :=
  (l.map fun t => match p.shadow.getD t.out none with
    | some y => ((p.sens.getD t.out []).getD i (some 0)).map fun d => -(t.w * (t.target - y * t.unit) * (d * t.unit))
    | none => some 0).foldl (opt2 fun a b => a + b) (some 0)

/-- Sums added value by value. -/
def addLists (a b : List (Option Rat)) : List (Option Rat) :=
  (List.range (max a.length b.length)).map fun i => opt2 (fun x y => x + y) (a.getD i (some 0)) (b.getD i (some 0))

/-- The pending outputs of a cell are scored (R276): in the epoch they add to the gradients, in the fitting window to
its counts. `v` is the V target where it is available. -/
def State.scorePending (s : State) (g : Graph) (a : ACell) (p : Pending) (v : Option Rat) : State :=
  let ts := terms s.img.f.train v (s.trn.targetsPrev.find? fun t => t.id == a.id)
  match p.phase with
  | .epoch =>
    let gc := g.plan.cohort.map fun x => gradient ts p x.sens
    let ga := g.plan.adapter.map fun x => match x with | some i => gradient ts p i | none => some 0
    let s1 := s.updA a.id fun a => { a with grad := addLists a.grad ga }
    { s1 with trn := { s1.trn with grad := addLists s1.trn.grad gc } }
  | .fit =>
    let both := ts.filter fun t => (p.shadow.getD t.out none).isSome && (p.live.getD t.out none).isSome
    let bad (o : List (Option Rat)) (x : Bool) : Nat := match p.bracket with
      | some b => if verdictOf b (o.getD 1 none) (o.getD 2 none) (o.getD 3 none) x = .in_ then 0 else 1
      | none => 0
    let nonf := (List.range 6).countP fun i => g.provides.getD i false && (p.shadow.getD i none).isNone
    let s1 := s.updA a.id fun a => { a with scored := a.scored || !both.isEmpty }
    { s1 with trn := { s1.trn with
      lLive := s1.trn.lLive + loss both p.live
      lShadow := s1.trn.lShadow + loss both p.shadow
      samples := s1.trn.samples + (both.countP fun t => t.out == 0)
      xLive := s1.trn.xLive + bad p.live p.liveExcess
      xShadow := s1.trn.xShadow + bad p.shadow p.shadowExcess
      nonfinite := s1.trn.nonfinite + nonf } }
  | _ => s

end Sys2Proof.Machine
end

