-- ==== Sys2Proof/Machine/Learned.lean ====
section
/-!
DEFINITION. The commands of the learned path (chapters 09 and 10): fetching, learned steps, replay,
abandoned and broken steps, ECC events, scrubbing, arbitration, and loading state memory.
-/
namespace Sys2Proof.Machine

/-! ### Steps -/

/-- STATE_BLOCK_FETCH (R17, R248), in stitches 0–60: the blocks, adapter and weights of a cell's due step are resident. -/
def stateBlockFetch (id : CellId) (s : State) : State :=
  if s.learnedOn && !s.fenced .scheduler && decide (s.pace.stitch ≤ 60) then
    s.updL id fun c => { c with resident := c.due.isSome }
  else s

/-- The result record of a step (Table 9-2, R227, R228). -/
def resultOf (snap : Round) (v : List (Option Rat)) (hide degraded openLoop warmup nonfinite : Bool) : Result :=
  let f (i : Nat) : Option Rat := if hide then none else v.getD i none
  { snap := snap, vPred := f 0, soc := f 1, cap := f 2, res := f 3, ocv := f 4, anomaly := f 5
    degraded := degraded, openLoop := openLoop, warmup := warmup, nonfinite := nonfinite }

/-- A feature other than V was substituted (Table 9-2). -/
def anySubstituted (ids : List Nat) (fs : List (Rat × Bool)) : Bool :=
  (ids.zip fs).any fun p => p.1 != 1 && p.2.2

/-- A stepped cell's entry of a checkpoint being staged of this snap (R285 step 1). -/
def State.stageCell (s : State) (id : CellId) : State :=
  match s.lrn.staging, s.lcell id with
  | some st, some c =>
    if st.staged.isSome then s
    else
      let e : CkptCell := ⟨id, c.cohort, c.stepped.getD 0, c.stepT, c.state, []⟩
      let l := st.cells.filter fun x => !(x.id == id)
      { s with lrn := { s.lrn with staging := some { st with cells := l ++ [e] } } }
  | _, _ => s

/-- The halves a cell's step reads: the live ones, or those that were live when it was bound (R224, R283). -/
def State.halves (s : State) (c : LCell) : List Rat × List Rat :=
  let w := s.lrn.weights.getD c.cohort ⟨[], [], false⟩
  if c.bound then (w.shadow, c.shadow) else (w.live, c.adapter)

/-- A step can complete now: its blocks are resident, nothing of it is fenced or waits, no queued step comes before it, and the stitch is
its own (R17, R225, R260). -/
def State.canStep (s : State) (c : LCell) : Bool :=
  s.learnedOn && c.resident && c.queued && !s.fenced .scheduler && !s.fenced .scan && !s.stepAhead c &&
    (if c.isLate s.pace.round then decide (s.pace.stitch < 8) else decide (8 ≤ s.pace.stitch))

/-- The record of a cell that has no model (R229, R242): written every round with every present bit clear; of another, what is in the
result buffer. -/
def State.bufferRecord (s : State) (id : CellId) : Option Result :=
  if (s.cohortOf id).isNone && s.fittedCells.contains id then some (resultOf (s.pace.round - 1) [] true false false false false)
  else (s.lcell id).bind fun c => c.result

/-- A cell after a step, its record written to the result buffer or discarded (R20, R227, R228). -/
def LCell.stepped_ (late keep : Bool) (now : Round × Ns) (snap : Round) (x : StepIn) (st : List (List Block)) (vals : List (Option Rat))
    (run : Nat) (r : Result) (c : LCell) : LCell :=
  { (c.write st) with
      due := if late then some now.1 else none
      dueT := if late then now.2 else c.dueT
      resident := false
      late := none
      bound := false
      stepped := some snap
      stepT := c.dueT
      vPred := vals.getD 0 none
      input := x
      openRun := run
      nonfinite := if keep && r.nonfinite then ⟨c.nonfinite.bad + 1, 0⟩ else c.nonfinite
      result := if keep then some r else c.result
      last := some r }

/-- LEARNED_RESULT_WRITTEN (R221, R224–R228, R246, R251–R253): the due step of a resident cell completes, the gate engine having
evaluated its graph; its state is written and the selector flipped; its record goes to the result buffer when it is the present snap's
and the deadline has not passed, and is discarded otherwise (R20). -/
def learnedResult (id : CellId) (t : Ns) (s : State) : State :=
  match s.lcell id with
  | none => s
  | some c =>
    match s.graph c.cohort, c.due with
    | some g, some snap =>
      if !s.canStep c then s
      else
        let late := c.isLate s.pace.round
        let renorm := (snap + id) % s.img.f.numeric.renormInterval == 0
        let x := c.late.getD (s.stepIn g c)
        let h := s.halves c
        let y := liveStep g h.1 (x.features.map fun p => p.1) h.2 renorm id snap c.state
        let vals := y.outputs.map fun o => o.bind Fp.rat
        let nonf := y.outputs.any fun o => match o with | some v => v.rat.isNone | none => false
        let run := if x.volt.isNone then c.openRun + 1 else 0
        let corrupt := (s.lrn.weights.getD c.cohort ⟨[], [], false⟩).corrupt
        let hide := c.warmup || decide (s.img.f.model.openLoopMax < run) || corrupt
        let r := resultOf snap vals hide (anySubstituted g.features x.features) x.volt.isNone c.warmup nonf
        let keep := !late && !(s.seam.closedFor == some s.pace.round)
        let c1 := c.stepped_ late keep (s.pace.round - 1, s.acq.prevT) snap x y.state vals run r
        let s1 := (s.at t).updL id fun _ => c1
        let s2 := if keep && nonf && decide (10 ≤ c1.nonfinite.bad) then s1.raise 0x630 id else s1
        let s3 := if !late && x.volt.isSome then s2.clear 0x631 id else s2
        let s4 := (match s3.lrn.staging with
          | some k => if k.snap = snap then s3.stageCell id else s3
          | none => s3).settleShadow
        if poisonedState y.state then s4.poison id else s4
    | _, _ => s

/-- OPEN_LOOP_LIMIT (R228): the cell's results are cleared and fault 0x631 is raised. -/
def openLoopLimit (id : CellId) (s : State) : State :=
  match s.lcell id with
  | none => s
  | some c =>
    if s.img.f.model.openLoopMax < c.openRun then
      let hid := fun (r : Result) => resultOf r.snap [] true r.degraded r.openLoop r.warmup r.nonfinite
      (s.updL id fun c => { c with result := c.result.map hid }).raise 0x631 id
    else s

/-- WARMUP_END (R228). -/
def warmupEnd (id : CellId) (s : State) : State :=
  s.updL id fun c => if c.warmLeft = 0 then { c with warmup := false } else c

/-- STEP_ABANDON (R260): a late step not completed by stitch 8 is given up; the selector does not change. -/
def stepAbandon (id : CellId) (s : State) : State :=
  match s.lcell id with
  | none => s
  | some c =>
    match c.due with
    | none => s
    | some snap =>
      if snap + 1 < s.pace.round && decide (8 ≤ s.pace.stitch) then
        let s0 := match s.lrn.staging with
          | some k => if k.snap = snap then s.stageCell id else s
          | none => s
        let s1 := (s0.updL id fun c =>
          { c with due := some (s.pace.round - 1), dueT := s.acq.prevT, resident := false, late := none, bound := false }).leaveActive
          fun j => j == id
        (if s1.lrn.replay.cell == some id then s1.abortReplay else s1).settleShadow
      else s

/-- CELL_RESTORE (R261): the state, and a corrupt adapter, come back, by TC1, from the newest checkpoint that holds the cell;
without one the adapter takes its initial value. -/
def cellRestore (id : CellId) (s : State) : State :=
  match s.lcell id with
  | none => s
  | some c =>
    if !s.tc1Up || (!c.restoring && !c.reloading) then s
    else
      let init := ((s.graph c.cohort).map Graph.firstAdapter).getD []
      match s.ckptCell id with
      | some k =>
        (s.updL id fun c =>
          let c1 := if c.restoring then { (c.setState k.blocks) with stepped := some k.snap, stepT := k.t } else c
          { c1 with restoring := false, reloading := false, adapter := if c.reloading then k.adapter else c.adapter }).leaveActive
          fun j => c.restoring && j == id
      | none => s.updL id fun c => { c with restoring := false, reloading := false, adapter := if c.reloading then init else c.adapter }

/-! ### Replay (R255–R258) -/

/-- REPLAY_STEP (R19, R256), by stitch 61, once no live step is queued: the reference of the replay cell is seeded at the first snap,
from the state before its live step, and stepped in FP64 on the live step's weights, adapter and features. -/
def replayStep (t : Ns) (s : State) : State :=
  match s.lrn.replay.cell with
  | none => if s.learnedOn && !s.lrn.replay.suspended then (s.at t).nextReplay else s
  | some id =>
    match s.lcell id with
    | none => s
    | some c =>
      match s.graph c.cohort with
      | none => s
      | some g =>
        if s.stepsQueued || !s.replayQueued || s.fenced .scan then s
        else
          let r0 := if s.lrn.replay.seeded then s.lrn.replay.ref else refSeed c.other
          let (w, ad) := s.halves c
          let y := refStep g w (c.input.features.map fun p => p.1) ad r0
          { s.at t with lrn := { s.lrn with replay := { s.lrn.replay with
              seeded := true, ref := y.state, stepped := some (s.pace.round - 1), vPred := (y.outputs.getD 0 none).bind Fp.rat } } }

/-- REPLAY_COMPARE (R257, R258): both steps of the snap are complete; φ and Δv are judged. -/
def replayCompare (s : State) : State :=
  match s.lrn.replay.cell with
  | none => s
  | some id =>
    match s.lcell id with
    | none => s
    | some c =>
      let p := s.lrn.replay
      if !p.seeded || c.stepped.isNone || !(c.stepped == p.stepped) || p.compared == p.stepped then s
      else
        let f := s.img.f.numeric
        let phi := frayRatio f.betaOrd f.betaLined c.state p.ref
        let far := match c.vPred, p.vPred with
          | some a, some b => decide (f.vMax < |a - b| * 1000)
          | _, _ => false
        let s1 : State := { s with lrn := { s.lrn with replay := { p with compared := p.stepped, done := p.done + 1 } } }
        let s2 := s1.updFray c.cohort fun r => { r with phiNow := max r.phiNow phi }
        if 1 < phi || far || poisonedState c.state then s2.reseed id else s2

/-- The reference step of the snap is missing. -/
def State.replayMissing (s : State) : Bool :=
  s.lrn.replay.seeded && !s.lrn.replay.suspended && !(s.lrn.replay.stepped == some (s.pace.round - 1))

/-- REPLAY_ABORT (R256): the reference step was not complete by stitch 61. -/
def replayAbort (s : State) : State := if s.replayMissing && decide (61 ≤ s.pace.stitch) then s.abortReplay else s

/-- REPLAY_PERIOD_END (R255): the period is complete, and the next cell becomes the replay cell. -/
def replayPeriodEnd (s : State) : State :=
  let p := s.lrn.replay
  if p.done < s.img.f.numeric.replayPeriod then s
  else
    let c := ((p.cell.bind s.lcell).map fun c => c.cohort).getD 17
    let s1 := (s.updFray c fun r => { r with phi := r.phiNow, phiNow := 0 }).clear 0x513 0
    ({ s1 with lrn := { s1.lrn with replay := { s1.lrn.replay with aborts := 0 } } } : State).nextReplay

/-! ### ECC, scrubbing, arbitration (R262–R265) -/

/-- An uncorrectable error by region (Table 10-5). -/
def State.regionLost (s : State) (r : MemRegion) : State :=
  match r with
  | .state y id l k =>
    let bad (st : List (List Block)) : List (List Block) :=
      (List.range st.length).map fun i =>
        let b := st.getD i []
        if i = l then (List.range b.length).map fun j => let q := b.getD j ⟨false, 0, []⟩; if j = k then Block.poison q.lined else q else b
    match s.lcell id with
    | none => s
    | some c =>
      let s1 := s.updL id fun c => if y then { c with y := bad c.y } else { c with x := bad c.x }
      if c.selY == y then s1.poison id else s1.raiseFor 0x514 id 1000
  | .ref => s.abortReplay
  | .weightsLive c =>
    { s with lrn := { s.lrn with weights := (List.range 17).map fun i =>
        let w := s.lrn.weights.getD i ⟨[], [], false⟩; if i = c then { w with corrupt := true } else w } }
  | .adaptLive id => s.updL id fun c => { c with reloading := true }
  | .weightsShadow _ => s.trainCorrupt
  | .adaptShadow _ => s.trainCorrupt
  | .tangent _ => s.trainCorrupt
  | .training => s.trainCorrupt
  | .ckptStage => { s with lrn := { s.lrn with staging := none } }

/-- LPDDR5_ECC_ERROR (R262). -/
def ddrEcc (correctable : Bool) (r : MemRegion) (s : State) : State :=
  if correctable then { s with lrn := { s.lrn with ddrCe := s.lrn.ddrCe + 1 } }
  else (s.raiseFor 0x504 0 1000).regionLost r

/-- BOBBIN_ECC_ERROR (R263): corrected, fetched again where the line matches LPDDR5, or handled by region. -/
def bobbinEcc (correctable matchesMemory : Bool) (r : MemRegion) (s : State) : State :=
  if correctable then { s with lrn := { s.lrn with bobCe := s.lrn.bobCe + 1 } }
  else if matchesMemory then s
  else (s.raiseFor 0x506 0 1000).regionLost r

/-- ECC_WINDOW_END (R263, and Table 18-3 for the tightly coupled memories): a window of 1,000 rounds is over. -/
def eccWindowEnd (s : State) : State :=
  if !s.rounds || s.lrn.eccWindow == s.pace.round / 1000 then s else
  let n := s.img.f.numeric.ceLimit
  let s1 := ((s.judge 0x503 0 (decide (n < s.lrn.ddrCe))).judge 0x505 0 (decide (n < s.lrn.bobCe))).judge 0x535 0
    (decide (16 < s.flt.tcmCe))
  { s1 with lrn := { s1.lrn with eccWindow := s.pace.round / 1000, ddrCe := 0, bobCe := 0 }, flt := { s1.flt with tcmCe := 0 } }

/-- SCRUB_PASS (R264): no pass ends while the scrubber's port is fenced (R265). -/
def scrubPass (s : State) : State := if s.fenced .scrubber then s else ({ s with lrn := { s.lrn with scrubTicks := 0 } } : State).clear 0x515 0

/-- SCRUB_OVERDUE (R264): no pass within twice the period. -/
def scrubOverdue (s : State) : State :=
  if 2 * s.img.f.numeric.scrubPeriod * hourTicks < s.lrn.scrubTicks then s.raise 0x515 0 else s

/-- ARBITRATION_REVOKE (R265): the grant is cleared, the holder's port fenced and what it had in flight discarded; a second revocation of one
requester within 1,000 rounds disables the learned path and training until the next cold boot. Table 11-6 lists no reason for a cycle
that ends so: DESIGN CHOICE, code 4. -/
def arbitrationRevoke (r : Requester) (s : State) : State :=
  let again := s.lrn.fences.any fun f => f.req == r && decide (s.pace.round < f.round + 1000)
  let l := Fence.mk r s.pace.round true :: s.lrn.fences.filter fun f => !(f.req == r)
  let cut (c : LCell) : LCell := if r == .scheduler || r == .scan then { c with resident := false } else c
  let s1 := ({ s with lrn := { s.lrn with fences := l, cells := s.lrn.cells.map cut } } : State).raiseFor 0x520 0 1000
  if again then ({ s1.unpick 4 with lrn := { (s1.unpick 4).lrn with disabledCold := true } } : State).raise 0x521 0 else s1

/-- PORT_UNFENCE (R265): by TC1 at a round boundary after the revocation. -/
def portUnfence (r : Requester) (s : State) : State :=
  if !s.tc1Up || !(s.pace.stitch == 0) || (s.lrn.fences.any fun f => f.req == r && f.round == s.pace.round) then s
  else { s with lrn := { s.lrn with fences := updWhere (fun f => f.req == r) (fun f => { f with fenced := false }) s.lrn.fences } }

/-- REFRESH_RATE_READ (R491): the multiplier the refresh-rate register reports is applied. -/
def refreshRateRead (multiplier : Rat) (s : State) : State :=
  if s.lrn.ddr then { s with lrn := { s.lrn with refresh := multiplier } } else s

/-! ### Laying out and loading state memory (R244, R245, R266, R287) -/

/-- The sizes of the regions of Table 10-1 for the selected variant, in the order laid out from the lowest address: STATE_X, STATE_Y,
REF, WEIGHTS_LIVE, WEIGHTS_SHADOW, ADAPT_LIVE, ADAPT_SHADOW, TANGENT, CKPT_STAGE (R244, R275). -/
def State.regions (s : State) : List Nat :=
  let p := s.modelPlan
  let state := (p.map fun x => x.2.2.length * x.2.1.stateBytes).sum
  let adapt := (p.map fun x => x.2.2.length * 4 * x.2.1.adapterSize).sum
  let weights := (p.map fun x => x.2.1.weightBytes).sum
  let states (g : Graph) : Nat := 32 * (g.blocks.1 + g.blocks.2)
  let ref := 8 * (p.map fun x => states x.2.1).foldl max 0
  let tangent := s.img.f.train.activeCells * (p.map fun x =>
    let last := x.2.1.layers.getLastD []
    (x.2.1.plan.channels.length + 1) * (65 * (last.countP fun b => !b) + 129 * (last.countP fun b => b))).foldl max 0
  let stage := 256 + weights + adapt + state + 16 * (p.map fun x => x.2.2.length).sum + 64
  [state, state, ref, weights, weights, adapt, adapt, tangent, stage]

/-- Where a region of LPDDR5 begins. -/
def State.regionBase (s : State) (k : Nat) : Nat := (s.regions.take k).sum

/-- LPDDR5_INIT_COMPLETE (R245): the regions are laid out, or the learned path is disabled with fault 0x501 or 0x502. -/
def ddrInit (x : DdrInit) (s : State) : State :=
  if !s.domainOn 7 then s
  else if !x.ok then ({ s with lrn := { s.lrn with disabled := true } } : State).raise 0x501 0
  else if 8 * x.installed < 9 * s.regions.sum then ({ s with lrn := { s.lrn with disabled := true } } : State).raise 0x502 0
  else { s with lrn := { s.lrn with ddr := true } }

/-- The image's weights, live and shadow. -/
def State.imageWeights (s : State) : List Weights :=
  (List.range 17).map fun c =>
    let w := ((s.graph c).map fun g => g.weights).getD []
    ⟨w, w, false⟩

/-- A cell's state memory is loaded (R266, R287, R418): zero where the cell has started afresh since, else from its entry of the
checkpoint; without an entry of its cohort the cell takes a fresh start. -/
def State.loadCell (s : State) (k : Option Ckpt) (c : LCell) : LCell :=
  match s.graph c.cohort with
  | none => c
  | some g =>
    if c.blank then c.zeroed g
    else match k.bind fun k => k.cells.find? fun e => e.id == c.id && e.cohort == c.cohort with
      | some e => { c with x := e.blocks, y := e.blocks, adapter := e.adapter, shadow := e.adapter, stepped := some e.snap, stepT := e.t }
      | none => c.fresh g s.img.f.model.warmupRounds true s.now

/-- CHECKPOINT_LOAD (R266, R287, R418): weights, adapters and every cell's state come from the newest valid checkpoint
that matches the image; a cell of another cohort takes a fresh start; without a checkpoint every cell does, and training begins with cohort 0. -/
def checkpointLoad (s : State) : State :=
  if !s.lrn.ddr || s.lrn.loaded || s.lrn.disabled || s.lrn.disabledCold then s
  else
    let invalid := s.nv.ckpt0.isNone || s.nv.ckpt1.isNone
    let s0 := if invalid then s.raise 0x930 0 else s
    let s1 := match s0.nv.newestCkpt with
      | some (_, k) => if k.model == s0.img.modelDigest then s0 else s0.raise 0x931 0
      | none => s0
    let held := s1.matchingCkpt
    let ws := match held with
      | some k => (List.range 17).map fun c => let w := k.weights.getD c []; (⟨w, w, false⟩ : Weights)
      | none => s1.imageWeights
    let rotation := if held.isNone then 16 else s1.nv.rotation
    let u : State := { s1 with
        nv := { s1.nv with rotation := rotation }
        lrn := { s1.lrn with loaded := true, weights := ws, cells := s1.lrn.cells.map (s1.loadCell held) } }
    let s2 := if held.isNone then u.raise 0x523 0 else u
    let s3 := if s2.lrn.lost then
        ({ s2 with lrn := { s2.lrn with lost := false } } : State).raiseFor 0x522 0 1000 else s2
    { s3 with lrn := { s3.lrn with replay := Replay.idle } }

/-- State memory is lost (R63, R266, R288): no state, adapter or weight is held until the next load. -/
def State.loseMemory (s : State) : State :=
  { s with lrn := { s.lrn with ddr := false, loaded := false, cells := s.lrn.cells.map LCell.drop, replay := Replay.idle, staging := none } }

/-! ### What the learned path does at a stitch 0 and at the seam deadline -/

/-- At a boundary, what a cell counts in rounds (R222, R227, R228): its warm-up, the rounds without NONFINITE, and its last usable
temperature. -/
def State.roundCell (s : State) (c : LCell) : LCell :=
  let bad := match c.result with | some r => r.nonfinite | none => false
  { c with
      warmLeft := c.warmLeft - 1
      nonfinite := if bad then c.nonfinite else ⟨0, c.nonfinite.good + 1⟩
      lastTemp := match s.cellTemp c.id with | some t => some t | none => c.lastTemp }

/-- At a boundary every cell's step of the snap just closed falls due; a step still to complete runs on late (R260),
and its result not written in its round raises fault 0x633; a replay without its step is aborted (R256); corrupt weights are back
(Table 10-5). -/
def State.learnedRound (s : State) : State :=
  let n := s.pace.round
  let counted := s.lrn.cells.map s.roundCell
  let calm := (counted.filter fun c => c.nonfinite.good == 1000).map fun c => c.id
  let keep (i : Nat) (old : Option Rat) : Option Rat := match s.streamVal i 100 with | some t => some t | none => old
  let s0 : State := calm.foldl (fun u id => u.clear 0x630 id) { s with lrn := { s.lrn with
    cells := counted, lastTIn := keep 20 s.lrn.lastTIn, lastTOut := keep 21 s.lrn.lastTOut } }
  if !s0.learnedOn then s0
  else
    let next (c : LCell) : LCell := match c.due with
      | some _ => { c with result := none }
      | none => { c with due := some (n - 1), dueT := s0.acq.prevT, resident := false, result := none }
    let stuck := (s0.lrn.cells.filter fun c => c.resident && decide (c.due = some (n - 2))).map fun c => c.id
    let reload (i : Nat) (w : Weights) : Weights :=
      if w.corrupt then
        { w with corrupt := false, live := match s0.matchingCkpt with
          | some k => k.weights.getD i []
          | none => ((s0.graph i).map fun g => g.weights).getD [] }
      else w
    let missing := s0.lrn.replay.seeded && !s0.lrn.replay.suspended && !(s0.lrn.replay.stepped == some (n - 2))
    let s1 : State := { s0 with lrn := { s0.lrn with
      cells := s0.lrn.cells.map next
      weights := (List.range 17).map fun i => reload i (s0.lrn.weights.getD i ⟨[], [], false⟩)
      scrubTicks := s0.lrn.scrubTicks + s0.pace.dt
      ckptTicks := s0.lrn.ckptTicks + s0.pace.dt } }
    let s2 := if missing then s1.abortReplay else s1
    stuck.foldl (fun t id => t.raiseFor 0x633 id 1000) s2

/-- At the seam deadline: cells stepped without a record in the buffer are overruns (R20). -/
def State.countOverruns (s : State) : State :=
  if !s.learnedOn then s
  else
    let n := (s.lrn.cells.filter fun c => c.result.isNone && c.due.isSome).length
    let r := s.lrn.overrunRuns.step (decide (0 < n))
    let s1 : State := { s with lrn := { s.lrn with overruns := s.lrn.overruns + n, overrunRuns := r } }
    s1.judge2 0x632 0 (decide (10 ≤ r.bad)) (decide (1000 ≤ r.good))

end Sys2Proof.Machine
end

