-- ==== Sys2Proof/Machine/Hash.lean ====
section
/-!
DEFINITION. SHA-256 (FIPS 180-4), and the pattern digest that R142 takes from it.
-/
namespace Sys2Proof.Machine

/-- The round constants of SHA-256. -/
def shaK : List Nat :=
  [0x428a2f98, 0x71374491, 0xb5c0fbcf, 0xe9b5dba5, 0x3956c25b, 0x59f111f1, 0x923f82a4, 0xab1c5ed5,
   0xd807aa98, 0x12835b01, 0x243185be, 0x550c7dc3, 0x72be5d74, 0x80deb1fe, 0x9bdc06a7, 0xc19bf174,
   0xe49b69c1, 0xefbe4786, 0x0fc19dc6, 0x240ca1cc, 0x2de92c6f, 0x4a7484aa, 0x5cb0a9dc, 0x76f988da,
   0x983e5152, 0xa831c66d, 0xb00327c8, 0xbf597fc7, 0xc6e00bf3, 0xd5a79147, 0x06ca6351, 0x14292967] ++
  [0x27b70a85, 0x2e1b2138, 0x4d2c6dfc, 0x53380d13, 0x650a7354, 0x766a0abb, 0x81c2c92e, 0x92722c85,
   0xa2bfe8a1, 0xa81a664b, 0xc24b8b70, 0xc76c51a3, 0xd192e819, 0xd6990624, 0xf40e3585, 0x106aa070,
   0x19a4c116, 0x1e376c08, 0x2748774c, 0x34b0bcb5, 0x391c0cb3, 0x4ed8aa4a, 0x5b9cca4f, 0x682e6ff3,
   0x748f82ee, 0x78a5636f, 0x84c87814, 0x8cc70208, 0x90befffa, 0xa4506ceb, 0xbef9a3f7, 0xc67178f2]

/-- The initial hash value. -/
def shaInit : List (BitVec 32) :=
  [0x6a09e667, 0xbb67ae85, 0x3c6ef372, 0xa54ff53a, 0x510e527f, 0x9b05688c, 0x1f83d9ab, 0x5be0cd19]

/-- The message schedule: each further word comes from the sixteen before it, newest first. -/
def shaSchedule : Nat → List (BitVec 32) → List (BitVec 32)
  | 0, w => w
  | n + 1, w =>
    let x := w.getD 14 0
    let y := w.getD 1 0
    let s0 := x.rotateRight 7 ^^^ x.rotateRight 18 ^^^ (x >>> 3)
    let s1 := y.rotateRight 17 ^^^ y.rotateRight 19 ^^^ (y >>> 10)
    shaSchedule n ((s1 + w.getD 6 0 + s0 + w.getD 15 0) :: w)

/-- One round of the compression function on the working variables a to h. -/
def shaRound (v : List (BitVec 32)) (kw : Nat × BitVec 32) : List (BitVec 32) :=
  let a := v.getD 0 0
  let e := v.getD 4 0
  let s1 := e.rotateRight 6 ^^^ e.rotateRight 11 ^^^ e.rotateRight 25
  let ch := (e &&& v.getD 5 0) ^^^ ((~~~e) &&& v.getD 6 0)
  let t1 := v.getD 7 0 + s1 + ch + BitVec.ofNat 32 kw.1 + kw.2
  let s0 := a.rotateRight 2 ^^^ a.rotateRight 13 ^^^ a.rotateRight 22
  let maj := (a &&& v.getD 1 0) ^^^ (a &&& v.getD 2 0) ^^^ (v.getD 1 0 &&& v.getD 2 0)
  [t1 + s0 + maj, a, v.getD 1 0, v.getD 2 0, v.getD 3 0 + t1, e, v.getD 5 0, v.getD 6 0]

/-- One block of sixteen words. -/
def shaBlock (h w : List (BitVec 32)) : List (BitVec 32) :=
  List.zipWith (fun x y => x + y) h ((shaK.zip (shaSchedule 48 w.reverse).reverse).foldl shaRound h)

/-- The padded message: a one bit, zeros to 56 bytes modulo 64, and the length in bits. -/
def shaPad (l : List Byte) : List Byte :=
  l ++ [0x80#8] ++ List.replicate ((119 - l.length % 64) % 64) 0x00#8 ++
    (List.range 8).map fun i => BitVec.ofNat 8 (8 * l.length / 256 ^ (7 - i))

/-- Bytes as big-endian words. -/
def shaWords : List Byte → List (BitVec 32)
  | a :: b :: c :: d :: rest => (a ++ b ++ c ++ d) :: shaWords rest
  | _ => []

/-- The blocks in turn. -/
def shaBlocks : Nat → List (BitVec 32) → List (BitVec 32) → List (BitVec 32)
  | 0, _, h => h
  | n + 1, w, h => shaBlocks n (w.drop 16) (shaBlock h (w.take 16))

/-- SHA-256 as its eight words. -/
def sha256 (l : List Byte) : List (BitVec 32) :=
  let w := shaWords (shaPad l)
  shaBlocks (w.length / 16) w shaInit

/-- SHA-256 as a number of 256 bits. -/
def shaNat (l : List Byte) : Nat := (sha256 l).foldl (fun a w => a * 2 ^ 32 + w.toNat) 0

/-- The hash of a public key: uncompressed, 65 bytes that begin with 0x04 (R394, R398); none for anything else. -/
def keyHash (l : List Byte) : Option Nat := if l.length = 65 ∧ l.head? = some 0x04#8 then some (shaNat l) else none

/-- The pattern digest: bits [255:224] of SHA-256 over the variant record as it is encoded in the image (R142). -/
def patternDigest (l : List Byte) : BitVec 32 := (sha256 l).getD 0 0

end Sys2Proof.Machine
end

