-- ==== Sys2Proof/Machine/Journal.lean ====
section
/-!
DEFINITION. The journal (chapter 16): the two copies of a region, the event log, and what TC1 writes
in its window.
-/
namespace Sys2Proof.Machine

/-! ### Regions of two copies (R413) -/

/-- The valid copy with the greater sequence number: true is the second. -/
def Copies.newest {α : Type} (c : Copies α) : Option (Bool × Nat × α) :=
  match c.a, c.b with
  | some (n, x), some (m, y) => if n < m then some (true, m, y) else some (false, n, x)
  | some (n, x), none => some (false, n, x)
  | none, some (m, y) => some (true, m, y)
  | none, none => none

/-- The content of a region; none when it is taken as empty. -/
def Copies.content {α : Type} (c : Copies α) : Option α := c.newest.map fun x => x.2.2

/-- A write goes into the copy that does not hold the newer valid content. -/
def Copies.write {α : Type} (c : Copies α) (x : α) : Copies α :=
  match c.newest with
  | none => { c with a := some (1, x) }
  | some (false, n, _) => { c with b := some (n + 1, x) }
  | some (true, n, _) => { c with a := some (n + 1, x) }

/-- Invalid copies of a region. -/
def Copies.invalid {α : Type} (c : Copies α) : Nat := c.a.isNone.toNat + c.b.isNone.toNat

/-- A key's check value (R471): bits [23:0] of AES-CMAC over one zero block; 0 where the key is blank. -/
def keyCheck (k : Option Nat) : Nat := match k with | some v => Config.aesCmac v (List.replicate 16 0) % 16777216 | none => 0

/-- What JHDR must say of the die (Table 16-8): its identity and the check value of its device-unique key. -/
def Fuses.mark (f : Fuses) : Nat × Nat := (f.dieId.getD 0, keyCheck f.deviceKey)

/-- Faults 0x935 and 0x936 stand while a region has one, or two, invalid copies (R413). The fallback region is empty
by right until a set is first written (R408). -/
def State.judgeCopies (s : State) : State :=
  let l := [s.nv.headerR.invalid, s.nv.pairsR.invalid, s.nv.patternR.invalid, s.nv.statusR.invalid] ++
    (if s.nv.fallbackR.invalid = 1 then [1] else [])
  (s.judge 0x935 0 (l.any fun n => n == 1)).judge 0x936 0 (l.any fun n => n == 2)

/-! ### The event log (R414) -/

/-- An entry is written with the next sequence number; the ring holds 24,128. -/
def State.writeLog (s : State) (e : LogEntry) : State :=
  let n := s.nv.logSeq + 1
  { s with nv := { s.nv with logSeq := n, events := ({ e with seq := n } :: s.nv.events).take 24128 } }

/-- The queued entries are written in order (R414, R415). -/
def State.flushLog (s : State) : State :=
  s.flt.logQueue.foldl State.writeLog { s with flt := { s.flt with logQueue := [] } }

/-! ### What TC1 writes -/

/-- The content of the three regions as they now stand. -/
def State.pairsNow (s : State) : List PairRec :=
  s.cls.pack.cells.map (Cell.pair s.cls.pack) ++ s.cls.store.cells.map (Cell.pair s.cls.store)

@[inherit_doc State.pairsNow] def State.patternNow (s : State) : PatternRegion :=
  ⟨s.nv.accepted, s.nv.delays, s.nv.mapOuts, s.nv.tests⟩

@[inherit_doc State.pairsNow] def State.statusNow (s : State) : StatusRegion :=
  ⟨s.nv.rests, s.lrn.fray, s.nv.rotation, s.nv.lastPos, s.nv.trained, s.nv.runTicks, s.nv.parks, s.nv.rollback, s.nv.erase0, s.nv.erase1,
    s.now - s.cls.store.tackFrom⟩

/-- The pair records and the tack-rest list (R190). -/
def State.writePairs (s : State) : State :=
  let s1 : State := { s with nv := { s.nv with pairsR := s.nv.pairsR.write s.pairsNow, rests := s.cls.pack.rests, pairsAt := s.now } }
  { s1 with
    nv := { s1.nv with statusR := s1.nv.statusR.write s1.statusNow }
    cls := { s1.cls with pack := { s1.cls.pack with pairsDue := false }, store := { s1.cls.store with pairsDue := false } } }

/-- The PATTERN region, when its content has changed or a copy is invalid. -/
def State.writePattern (s : State) : State :=
  if s.nv.patternR.content == some s.patternNow && s.nv.patternR.invalid == 0 then s
  else { s with nv := { s.nv with patternR := s.nv.patternR.write s.patternNow } }

/-- The STATUS region, when more than the running counts has changed or a copy is invalid. -/
def State.writeStatus (s : State) : State :=
  let n := s.statusNow
  let same := match s.nv.statusR.content with
    | some o => { o with runTicks := n.runTicks, rollback := n.rollback, storeTackAge := n.storeTackAge } == n
    | none => false
  if same && s.nv.statusR.invalid == 0 then s else { s with nv := { s.nv with statusR := s.nv.statusR.write n } }

/-- TC1 may write: between stitch 62 and stitch 7 of the following round (R415). -/
def State.journalWindow (s : State) : Bool :=
  s.rounds && (decide (62 ≤ s.pace.stitch) || decide (s.pace.stitch < 8)) && s.tc1Up

/-- The regions as they stand. -/
def NonVol.regions (n : NonVol) : Regions := ⟨n.headerR, n.pairsR, n.patternR, n.statusR, n.fallbackR⟩

/-- Writes of TC1: what the regions held before is kept until the writes have ended, at stitch 8 at the latest (R415). -/
def State.inWindow (s : State) (write : State → State) : State :=
  let u := write s
  if u.nv.regions == s.nv.regions then u else { u with nv := { u.nv with writing := some (s.nv.writing.getD s.nv.regions) } }

/-- JHDR, when it does not name this die or a copy is invalid; a die without identity or key has none. -/
def State.writeHeader (s : State) : State :=
  let n := s.nv
  if n.fuses.dieId.isNone || n.fuses.deviceKey.isNone || (n.headerR.content == some n.fuses.mark && n.headerR.invalid == 0) then s
  else { s with nv := { n with headerR := n.headerR.write n.fuses.mark } }

/-- The fallback set that is due (R408). -/
def State.writeFallback (s : State) : State :=
  if !s.img.fallbackDue then s
  else
    { s with
        img := { s.img with fallbackDue := false }
        nv := { s.nv with fallbackR := s.nv.fallbackR.write ⟨s.img.digest, s.img.records, s.img.variants⟩ } }

/-- TC1's journal window: the regions that are due, and log entries. -/
def State.writeJournal (s : State) : State :=
  if !s.tc1Up then s
  else
    (s.inWindow fun u =>
      (if u.cls.pack.pairsDue || u.cls.store.pairsDue then u.writeHeader.writePairs else u.writeHeader).writePattern.writeStatus.writeFallback)
      |>.judgeCopies.flushLog

/-- A copy that was being written is cut short: it fails its test, and its other copy stands. -/
def Copies.tear {α : Type} [DecidableEq α] (old new : Copies α) : Copies α :=
  ⟨if new.a = old.a then old.a else none, if new.b = old.b then old.b else none⟩

/-- A region when writes end after `k` regions of the order: written, cut short, or not begun. -/
def Copies.cutAt {α : Type} [DecidableEq α] (k i : Nat) (old new : Copies α) : Copies α :=
  if i < k then new else if i = k then Copies.tear old new else old

/-- The seal controller revokes the MRAM bus (R26, R415): of the writes that may still run, a number that nothing fixes have ended, and
the one in progress is cut short. DESIGN CHOICE: they run in the order of Table 16-8. -/
def State.cutWrites (s : State) : State :=
  match s.nv.writing with
  | none => s
  | some old =>
    let k := Config.freeValue s.freeCtr % 6
    let n := s.nv
    { s with
        freeCtr := s.freeCtr + 1
        nv := { n with
          writing := none, headerR := Copies.cutAt k 0 old.header n.headerR, pairsR := Copies.cutAt k 1 old.pairs n.pairsR
          patternR := Copies.cutAt k 2 old.pattern n.patternR, statusR := Copies.cutAt k 3 old.status n.statusR
          fallbackR := Copies.cutAt k 4 old.fallback n.fallbackR } }

end Sys2Proof.Machine
end

