-- ==== Sys2Proof/Machine/Classical.lean ====
section
/-!
DEFINITION. The commands of the classical path (chapter 08, and R332–R335 for the store): the update
of a snap, basting values, the tack age, and the journal's pair records.
-/
namespace Sys2Proof.Machine

/-! ### What a round says of a cell -/

/-- A target of Table 11-5 joins those of the present update. -/
def State.addTarget (s : State) (id : CellId) (f : Targets → Targets) : State :=
  let old := (s.trn.targets.find? fun t => t.id == id).getD ⟨id, none, none⟩
  { s with trn := { s.trn with targets := f old :: s.trn.targets.filter fun t => !(t.id == id) } }

/-- One note of a cell's round. -/
def State.note (s : State) (n : CellNote) : State :=
  match n with
  | .fault code id up => s.judge code id up
  | .soc id v u => s.addTarget id fun t => { t with soc := some (v, u) }
  | .cap id v u => s.addTarget id fun t => { t with cap := some (v, u) }

def State.notes (s : State) (l : List CellNote) : State := l.foldl State.note s

/-! ### The inputs of a snap -/

/-- A cell's input: its voltage in mV, UNCOMP, its bleed and the temperature of R197. -/
def State.cellIn (s : State) (id : CellId) : CellIn :=
  ⟨(s.cellVolt id).map fun v => v * 1000, (s.cellRec id).flags.getLsbD 3, s.cellBleed id, s.ocvTemp id⟩

/-- A stream's value in a unit; none where it is ABSENT. -/
def State.streamKnown (s : State) (i : Nat) (scale : Rat) : Option Rat :=
  let r := streamAt s.acq.prevStreams i
  if r.flags.getLsbD 0 then none else some ((r.value : Rat) / scale)

/-- The pack's round: streams 12 and 13 with their tier (Table 8-2). -/
def State.packIn (s : State) : EstIn :=
  let q := streamAt s.acq.prevStreams 13
  let e := s.cls.pack
  let all : Rat := ((s.acq.packSnap.2 - e.countAt : Int) : Rat) / 1000
  { t := s.acq.prevT, dt := if e.missed then s.acq.prevT / 10 - e.lastAt / 10 else s.acq.prevDt
    q := if s.acq.prevTier = .absent then none else some (if e.missed then all else (q.value : Rat))
    usable := q.usable, tier := s.acq.prevTier, iSnap := s.streamKnown 12 1000, count := s.acq.packSnap.2
    bad612 := s.acq.prev612, cells := s.cls.pack.cells.map fun c => s.cellIn c.id }

/-- The store's round: streams 31 and 32 (R332). -/
def State.storeIn (s : State) : EstIn :=
  let q := streamAt s.acq.prevStreams 32
  let e := s.cls.store
  let all : Rat := ((s.acq.storeSnap.2 - e.countAt : Int) : Rat) / 1000
  { t := s.acq.prevT, dt := if e.missed then s.acq.prevT / 10 - e.lastAt / 10 else s.acq.prevDt
    q := if q.usable then some (if e.missed then all else (q.value : Rat)) else none, usable := q.usable
    tier := if q.usable then .shunt else .absent, iSnap := s.streamKnown 31 1000, count := s.acq.storeSnap.2, bad612 := false
    cells := s.cls.store.cells.map fun c => s.cellIn c.id }

/-! ### Basting triggers (Table 8-3) -/

/-- The cells a predicate selects are basted, `fresh` as having no sealed state. Fault 0x624 ends for those that carried LOADED. -/
def State.bastePack (s : State) (sel : CellId → Bool) (fresh : Bool) : State :=
  let u : State := { s with cls := { s.cls with pack := s.cls.pack.baste s.img.f.est sel fresh } }
  (s.cls.pack.loadedIn sel).foldl (fun u id => u.clear 0x624 id) u
@[inherit_doc State.bastePack] def State.basteStore (s : State) (sel : CellId → Bool) : State :=
  let u : State := { s with cls := { s.cls with store := s.cls.store.baste s.img.f.estStore sel true } }
  (s.cls.store.loadedIn sel).foldl (fun u id => u.clear 0x624 id) u

/-! ### Store change (R334) -/

/-- The store has been changed: fault 0x706, every store cell basted and freshly started, the store tack age zero. -/
def State.storeChange (s : State) : State :=
  let u := s.basteStore fun _ => true
  let s1 := ({ u with
    cls := { u.cls with store := { u.cls.store with tackFrom := s.now, overdue := false }, storeCheck := [] }
    res := { u.res with changing := true } } : State).raise 0x706 0
  s1.freshStart fun id => decide (4096 < id)

/-- Rule 2: a cell reads outside the range of its restored bracket. -/
def State.storeOutside (s : State) : Bool :=
  let f := s.img.f.estStore
  s.cls.storeCheck.any fun c =>
    match s.cellVolt c.1 with
    | none => false
    | some v =>
      let curve := ocvCurve f (s.ocvTemp c.1)
      decide (v * 1000 < ocvAt curve c.2.1 - s.img.f.store.changeV) || decide (ocvAt curve c.2.2 + s.img.f.store.changeV < v * 1000)

/-- Rules 2 and 3, at the update of a snap: `rest` is whether it was a rest round of the store. -/
def State.storeRules (s : State) (rest : Bool) : State :=
  let st := streamAt s.acq.prevStreams 30
  let quiet := match s.streamVal 31 1000 with | some i => decide (|i| ≤ s.img.f.estStore.restIMax) | none => false
  let jump := match s.res.stackPrev with
    | some (v, q) => q && quiet && st.usable && decide (s.img.f.store.changeStep * 100 < ((|st.value - v| : Int) : Rat))
    | none => false
  let rule3 := s.sup.dev == DevState.run && jump
  let rule2 := rest && s.storeOutside
  let s1 : State := { s with
    res := { s.res with stackPrev := if st.usable then some (st.value, quiet) else none }
    cls := { s.cls with storeCheck := if rest then [] else s.cls.storeCheck } }
  if rule2 || rule3 then s1.storeChange else s1

/-! ### Decisions of a snap -/

/-- TACK_OVERDUE and fault 0x623 of an estimator pair: they clear at a qualifying rest or charge (R213). -/
def State.overdueEnds (s : State) : State :=
  let p := s.cls.pack.overdue && s.cls.pack.isOverdue s.img.f.est s.acq.prevT
  let q := s.cls.store.overdue && s.cls.store.isOverdue s.img.f.estStore s.acq.prevT
  let s1 : State := { s with cls := { s.cls with pack := { s.cls.pack with overdue := p }, store := { s.cls.store with overdue := q } } }
  if p || q then s1 else s1.clear 0x623 0

/-- The balancing bitmap of a node from the decisions over its groups. -/
def bitmapOf (l : List Bool) : BitVec 16 :=
  BitVec.ofNat 16 ((List.range l.length).map fun i => if l.getD i false then 2 ^ i else 0).sum

/-- R215: the decision over the pack, and each node's bitmap; a change is due to be sent (R124). -/
def State.balancePack (s : State) : State :=
  let cells := balanceCells s.img.f.est (s.cls.pack.cells.map fun c => (c, (s.cellVolt c.id).isSome))
  let s1 : State := { s with cls := { s.cls with pack := { s.cls.pack with cells := cells } } }
  match s.img.variant with
  | none => s1
  | some v =>
    s1.thr.nodes.foldl (fun t n =>
      let m := bitmapOf ((v.nodeCells n.id).map fun id => cells.any fun c => c.id == id && c.bleeding)
      if m = n.balMap then t else t.updNode n.id fun n => { n with balMap := m, balDue := true }) s1

/-- R335: the store balancing switches. -/
def State.balanceStore (s : State) : State :=
  let cells := balanceCells s.img.f.estStore (s.cls.store.cells.map fun c => (c, (s.cellVolt c.id).isSome))
  let run := s.sup.dev == DevState.run && !s.sup.parkCheck && s.res.path == PathState.vehicle && !s.res.changing
  let high (c : Cell) : Bool := match s.cellVolt c.id with
    | some v => decide (s.img.f.store.floorV + 100 < v * 1000)
    | none => false
  { s with
      cls := { s.cls with store := { s.cls.store with cells := cells } }
      acq := { s.acq with sb := cells.map fun c => run && c.bleeding && high c } }

/-- R217, R218: the hem values, with fault 0x750. -/
def State.hemUpdate (s : State) : State :=
  if s.storeCells = 0 then s
  else
    let ok := s.cls.store.cells.all fun c => (s.cellVolt c.id).isSome
    let h := hemCompute s.img.f.hem s.img.f.estStore s.img.f.store.vMin (s.ocvTemp 4097) s.cls.store.cells ok s.cls.hem
    ({ s with cls := { s.cls with hem := h } } : State).judge2 0x750 0 (!h.valid) (decide (100 ≤ h.good))

/-- CLASSICAL_UPDATE (R17, R21, R191): once per snap in stitches 8–60, on the records of the snap just closed. -/
def classicalUpdate (s : State) : State :=
  if !s.rounds || !s.tc0Up || decide (s.pace.stitch < 8) || decide (60 < s.pace.stitch) || s.cls.updated == some s.pace.round then s
  else
    let (p, n1) := s.cls.pack.round s.img.f.est s.packIn
    let (q, n2) := s.cls.store.round s.img.f.estStore s.storeIn
    let s1 : State := { s with
      cls := { s.cls with pack := p, store := q, updated := some s.pace.round }
      trn := { s.trn with targets := [] } }
    let s2 := (s1.notes n1).notes n2
    let s3 := if s2.storeCells = 0 then s2 else s2.storeRules q.restFrom.isSome
    s3.overdueEnds.balancePack.balanceStore.hemUpdate

/-! ### Basting, tack age, pair records -/

/-- The age of an estimator's rest at its last update, s. -/
def Estimator.restAge (e : Estimator) : Option Rat := e.restFrom.map fun r => ((e.lastAt - r : Nat) : Rat) / 1000000000

/-- One cell's basting value in its estimator; the display is set to its input when the last one is formed with
every cell basted, and not otherwise (R216). -/
def Estimator.form (f : EstFields) (temp : Rat) (id : CellId) (e : Estimator) : Estimator × List CellNote :=
  match e.cells.find? fun c => c.id == id with
  | none => (e, [])
  | some c =>
    match c.formBasting f e.restAge temp with
    | none => (e, [])
    | some (c1, l) =>
      let e1 := { e with cells := updWhere (fun c => c.id == id) (fun _ => c1) e.cells }
      let pending := e1.cells.any fun c => c.basting.isSome
      ({ e1 with display := { e1.display with snapTo := e1.display.snapTo || (!pending && e1.allBasted) } }, l)

/-- BASTING_FORMED (R204). -/
def bastingFormed (id : CellId) (s : State) : State :=
  if 4096 < id then
    let (e, l) := s.cls.store.form s.img.f.estStore (s.ocvTemp id) id
    let s1 := (({ s with cls := { s.cls with store := e } } : State).notes l).clear 0x533 id
    if s1.res.changing && !(e.cells.any fun c => c.basting.isSome) then
      ({ s1 with res := { s1.res with changing := false } } : State).clear 0x706 0
    else s1
  else
    let (e, l) := s.cls.pack.form s.img.f.est (s.ocvTemp id) id
    (({ s with cls := { s.cls with pack := e } } : State).notes l).clear 0x533 id

/-- TACK_OVERDUE (R213). -/
def tackOverdue (s : State) : State :=
  let p := s.cls.pack.overdue || (!s.cls.pack.cells.isEmpty && s.cls.pack.isOverdue s.img.f.est s.now)
  let q := s.cls.store.overdue || (!s.cls.store.cells.isEmpty && s.cls.store.isOverdue s.img.f.estStore s.now)
  let s1 : State := { s with cls := { s.cls with pack := { s.cls.pack with overdue := p }, store := { s.cls.store with overdue := q } } }
  if p || q then s1.raise 0x623 0 else s1

/-- PAIR_RECORD_WRITE (R190): written at once in TC1's window, and in its next window otherwise (R415). -/
def pairRecordWrite (s : State) : State :=
  if s.journalWindow then (s.inWindow State.writePairs).judgeCopies
  else { s with cls := { s.cls with pack := { s.cls.pack with pairsDue := true } } }

/-! ### Gaps (R205–R207) -/

/-- R207: after rounds missed by a warm resume in place or an aborted shut-down, the next update takes the charge and
the time since the last one. -/
def State.missedRounds (s : State) : State :=
  { s with cls := { s.cls with pack := { s.cls.pack with missed := true }, store := { s.cls.store with missed := true } } }

end Sys2Proof.Machine
end

