-- ==== Sys2Proof/Machine/Training.lean ====
section
/-!
DEFINITION. The commands of in-vehicle training (chapter 11): cycles, shadow steps and updates,
promotion, shedding and checkpoints.
-/
namespace Sys2Proof
open Machine

/-- A graph has something to train (R290). -/
def Graph.trainable (g : Graph) : Bool := !g.plan.cohort.isEmpty || g.plan.adapter.any Option.isSome

end Sys2Proof

namespace Sys2Proof.Machine

/-! ### Cycles (R271–R273) -/

/-- The eligible cells of a cohort in series order (R271 step 2). -/
def State.eligible (s : State) (c : Nat) : List CellId :=
  if ((s.graph c).map Graph.trainable).getD false then
    (s.lrn.cells.filter fun x => x.cohort == c && !x.warmup && (s.cellVolt x.id).isSome).map fun x => x.id
  else []

/-- The active set: the next cells after the last of the cohort's previous set, wrapping; every eligible store cell. -/
def State.activeSet (s : State) (c : Nat) : List CellId :=
  let l := s.eligible c
  if c = 16 then l
  else
    let p := s.trn.lastPos.getD c 0
    ((l.filter fun i => decide (p < i)) ++ l.filter fun i => decide (i ≤ p)).take s.img.f.train.activeCells

/-- The next cohort after the last one that has an eligible cell. -/
def State.nextCohort (s : State) : Option Nat :=
  ((List.range 17).map fun k => (s.nv.rotation + 1 + k) % 17).find? fun c => !(s.eligible c).isEmpty

/-- An active cell at the beginning of a cycle. -/
def State.newACell (s : State) (id : CellId) : ACell :=
  let ad := ((s.lcell id).map fun c => c.adapter).getD []
  let z := ad.map fun _ => (0 : Rat)
  let z0 := ad.map fun _ => some (0 : Rat)
  { id := id, active := true, scored := false, seeded := false, state := [], tangents := [], pending := none, grad := z0, master := ad
    mom1 := z, mom2 := z, liveResid := 0, shadowResid := 0 }

/-- CYCLE_START (R15, R271, R272). -/
def cycleStart (s : State) : State :=
  if !s.tc1Up || !s.learnedOn || s.cycleOn || !(s.trn.shed == 0) || !s.img.f.train.enable then s
  else
    let pick : Option (Nat × List CellId) :=
      if s.trn.again && !s.trn.cells.isEmpty then some (s.trn.cohort, s.trn.cells.map fun a => a.id)
      else s.nextCohort.map fun c => (c, s.activeSet c)
    match pick with
    | none => s
    | some (c, ids) =>
      let live := (s.lrn.weights.getD c ⟨[], [], false⟩).live
      let vals := ((s.graph c).map fun g => g.plan.cohort).getD []
      let z := vals.map fun _ => (0 : Rat)
      let s1 : State := { s with trn := { s.trn with phase := .warm } }.settleShadow
      let s2 := s1.restoreShadow c
      { s2 with trn := { s2.trn with
          cohort := c, snaps := 0, again := false, first := s.pace.round - 1
          cells := ids.map s2.newACell, grad := vals.map fun _ => some 0, master := vals.map fun x => live.getD x.place 0
          mom1 := z, mom2 := z, update := 0, lLive := 0, lShadow := 0, samples := 0,
           xLive := 0, xShadow := 0, nonfinite := 0, promote := false, copied := false } }

/-- WARM_PHASE_END (R272): the moments and gradients of the epoch start at zero (R278). -/
def warmPhaseEnd (s : State) : State :=
  if s.tc1Up ∧ s.trn.phase = .warm ∧ s.img.f.train.warm ≤ s.trn.snaps then
    let z := s.trn.master.map fun _ => (0 : Rat)
    let z0 := s.trn.master.map fun _ => some (0 : Rat)
    let cz (a : ACell) : ACell := { a with grad := a.grad.map fun _ => some 0, mom1 := a.mom1.map fun _ => 0, mom2 := a.mom2.map fun _ => 0 }
    { s with trn := { s.trn with phase := .epoch, snaps := 0, update := 0, grad := z0, mom1 := z, mom2 := z, cells := s.trn.cells.map cz } }
  else s

/-- EPOCH_END (R272): the shadow is frozen and the fitting window begins. -/
def epochEnd (s : State) : State :=
  if s.tc1Up ∧ s.trn.phase = .epoch ∧ s.img.f.train.epoch ≤ s.trn.snaps then
    { s with trn := { s.trn with phase := .fit, snaps := 0, lLive := 0, lShadow := 0, samples := 0, xLive := 0, xShadow := 0, nonfinite := 0 } }
  else s

/-! ### Shadow steps (R274–R276) -/

/-- The zero tangents of a layer, one list of blocks per channel. -/
def zeroTangents (g : Graph) : List (List Block) := g.plan.channels.map fun _ => (g.layers.getLastD []).map Block.zero

/-- The outputs of a result record in the order of Table 9-2. -/
def Result.outputs (r : Result) : List (Option Rat) := [r.vPred, r.soc, r.cap, r.res, r.ocv, r.anomaly]

/-- A shadow step is in order (R19, R274): after the cell's live step of the snap, once no step and no replay is queued, and for a snap
not yet done. -/
def State.shadowReady (s : State) (a : ACell) (snap : Round) : Bool :=
  let done := match a.pending with | some p => decide (snap ≤ p.snap) | none => decide (snap < s.trn.first)
  s.learnedOn && s.cycleOn && a.active && !done && !s.stepsQueued && !s.replayQueued

/-- SHADOW_STEP (R274–R276): after the cell's live step of the snap. -/
def shadowStep (id : CellId) (t : Ns) (s : State) : State :=
  match s.trn.cells.find? fun a => a.id == id, s.lcell id with
  | some a, some c =>
    match s.graph c.cohort, c.stepped with
    | some g, some snap =>
      if !s.shadowReady a snap then s
      else
        let l := g.layers.length - 1
        let renorm := (snap + id) % s.img.f.numeric.renormInterval == 0
        let w := (s.lrn.weights.getD c.cohort ⟨[], [], false⟩).shadow
        let fs := c.input.features.map fun p => p.1
        let hs := if a.seeded then a.state else c.other.getD l []
        let ts := if a.seeded then a.tangents else zeroTangents g
        let gs := shadowGates g w fs c.shadow c.state
        let hs1 := stepLayer renorm id l snap 3 hs gs
        let ts1 := (g.plan.channels.zip ts).map fun p => tangentLayer renorm p.1 id l snap hs p.2 gs
        let s0 := s.at t
        if (hs1 :: ts1).any fun bs => bs.any Block.poisoned then s0.leaveActive fun j => j == id
        else
          let flagged := c.input.flagged
          let v := c.input.volt
          let degraded := (c.last.map fun r => r.degraded).getD false
          let app := !flagged
          let lim := s.img.f.seam.residV
          let (pl, ps) := match a.pending with
            | some p => if p.snap + 1 = snap then (p.live.getD 0 none, p.shadow.getD 0 none) else (none, none)
            | none => (none, none)
          let lr := residCount lim app v pl a.liveResid
          let sr := residCount lim app v ps a.shadowResid
          let out := shadowOutputs g w fs c.shadow c.state hs1 none none
          let p : Pending :=
            { snap := snap, phase := s.trn.phase, shadow := out.map fun o => o.bind fun x => x.v.rat
              live := (c.last.map Result.outputs).getD [], flagged := flagged, degraded := degraded
              sens := sensitivities g w fs c.shadow c.state hs1 ts1, liveExcess := decide (s.img.f.seam.residRounds ≤ lr)
              shadowExcess := decide (s.img.f.seam.residRounds ≤ sr), bracket := none }
          let s1 := match a.pending with
            | some q =>
              if q.snap + 1 = snap then
                s0.scorePending g a q (if q.flagged || flagged || q.degraded || degraded then none else v)
              else s0
            | none => s0
          s1.updA id fun a =>
            { a with seeded := true, state := hs1, tangents := ts1, pending := some p, liveResid := lr, shadowResid := sr }
    | _, _ => s
  | _, _ => s

/-! ### Updates (R278, R279) -/

/-- One trainable value with its moments: none where one is not finite. -/
def adamStep (lr : Rat) (j : Nat) (alog : Bool) (g m v th : Rat) : Option (Rat × Rat × Rat) :=
  match fl32 (9 / 10 * m + g / 10), fl32 (999 / 1000 * v + g ^ 2 / 1000) with
  | some m1, some v1 =>
    let step := lr * (m1 / (1 - (9 / 10 : Rat) ^ j)) / (sqrt (v1 / (1 - (999 / 1000 : Rat) ^ j)) + 1 / 100000000)
    match fl32 (th - clampR (-lr) lr step) with
    | some t => some (m1, v1, if alog then clampR (-16) 12 t else t)
    | none => none
  | _, _ => none

/-- A list of values updated; none where one is not finite. -/
def adamAll (lr : Rat) (j : Nat) (alog : List Bool) (g : List (Option Rat)) (m v th : List Rat) : Option (List (Rat × Rat × Rat)) :=
  (List.range th.length).mapM fun i =>
    (g.getD i (some 0)).bind fun d => adamStep lr j (alog.getD i false) d (m.getD i 0) (v.getD i 0) (th.getD i 0)

/-- An active cell's adapter values updated: only the trainable ones move. -/
def ACell.update (g : Graph) (lr : Rat) (j : Nat) (a : ACell) : Option ACell :=
  (adamAll lr j [] a.grad a.mom1 a.mom2 a.master).map fun r =>
    let pick (f : Rat × Rat × Rat → Rat) (old : List Rat) : List Rat :=
      (List.range old.length).map fun i =>
        if (g.plan.adapter.getD i none).isSome then f (r.getD i (0, 0, 0)) else old.getD i 0
    { a with mom1 := pick (fun p => p.1) a.mom1, mom2 := pick (fun p => p.2.1) a.mom2, master := pick (fun p => p.2.2) a.master
             grad := a.grad.map fun _ => some 0 }

/-- SHADOW_UPDATE (R278): every update interval in the epoch; a value that is not finite unpicks the cycle. -/
def shadowUpdate (s : State) : State :=
  let f := s.img.f.train
  if !(s.trn.phase = .epoch ∧ (s.trn.update + 1) * f.updateInterval ≤ s.trn.snaps) then s
  else
    match s.graph s.trn.cohort with
    | none => s
    | some g =>
      let j := s.trn.update + 1
      match adamAll f.lr j (g.plan.cohort.map fun x => x.alog) s.trn.grad s.trn.mom1 s.trn.mom2 s.trn.master,
          s.trn.cells.mapM fun a => a.update g f.lr j with
      | some r, some cells =>
        let master := r.map fun p => p.2.2
        let put (w : List Rat) : List Rat :=
          (g.plan.cohort.zip master).foldl (fun l p => l.set p.1.place ((storeRound p.1.fmt p.2).getD 0)) w
        let shadow (c : LCell) : LCell := match cells.find? fun a => a.id == c.id && a.active with
          | some a => { c with shadow := a.master }
          | none => c
        { s with
            trn := { s.trn with
              update := j, master := master, mom1 := r.map (fun p => p.1), mom2 := r.map (fun p => p.2.1)
              grad := master.map (fun _ => some 0), cells := cells }
            lrn := { s.lrn with
              cells := s.lrn.cells.map shadow
              weights := (List.range s.lrn.weights.length).filterMap fun i =>
                (s.lrn.weights[i]?).map fun w => if i = s.trn.cohort then { w with shadow := put w.shadow } else w } }
      | _, _ => s.unpick 6

/-! ### Decision and promotion (R281–R284) -/

/-- The lowest code of Table 11-6 that fails, 0 when the shadow is promoted (R282). -/
def State.fitReason (s : State) : Nat :=
  let t := s.trn
  let f := s.img.f.train
  let scored := t.cells.countP fun a => a.scored
  let enough := if t.cohort = 16 then s.storeCells else f.minCells
  if (1 - f.margin / 100) * t.lLive < t.lShadow ∨ 0 < t.nonfinite then 1
  else if t.xLive < t.xShadow then 2
  else if t.samples < f.minSamples ∨ scored < enough then 3
  else 0

/-- FIT_DECISION (R282, R283 step 1): at stitch 61 of the second round after the window's last snap. -/
def fitDecision (s : State) : State :=
  if !s.tc1Up || !(s.trn.phase = .fit ∧ s.img.f.train.fit ≤ s.trn.snaps ∧ 61 ≤ s.pace.stitch) then s
  else if s.fitReason = 0 then
    let s1 := (s.recordCycle 0).clear 0x640 0
    { s1 with trn := { s1.trn with phase := .decision, promote := true, copied := false } }
  else s.unpick s.fitReason

/-- ADAPTER_COPY (R283 step 2): the live adapters of the cohort's cells that were not scored go over their shadow adapters. -/
def adapterCopy (s : State) : State :=
  if !s.trn.promote || s.trn.copied then s
  else
    let scored (id : CellId) : Bool := s.trn.cells.any fun a => a.id == id && a.scored
    { s with
        trn := { s.trn with copied := true }
        lrn := { s.lrn with
          cells := updWhere (fun c => c.cohort == s.trn.cohort && !scored c.id) (fun c => { c with shadow := c.adapter }) s.lrn.cells } }

/-- PROMOTION (R283 step 3): at a round boundary, once the copy is complete, the halves exchange roles; a late step goes on reading
those it is bound to. -/
def promotion (s : State) : State :=
  if !s.trn.promote || !s.trn.copied || !(s.pace.stitch == 0) then s
  else
    { s with
        trn := { s.trn with phase := .idle, promote := false, copied := false, promoted := some s.pace.round, copyDue := some s.trn.cohort }
        lrn := { s.lrn with
          staging := none
          weights := (List.range s.lrn.weights.length).filterMap fun i =>
            (s.lrn.weights[i]?).map fun w => if i = s.trn.cohort then { w with live := w.shadow, shadow := w.live } else w
          cells := updWhere (fun c => c.cohort == s.trn.cohort) (fun c =>
            { c with adapter := c.shadow, shadow := c.adapter, bound := c.bound || c.isLate s.pace.round }) s.lrn.cells } }

/-! ### At a boundary, and at stitch 8 -/

/-- At a boundary a snap more has been stepped with the cycle in force; the classical results of that snap become the
brackets of what is pending (R308); a cycle left with too few active cells ends (R273). -/
def State.trainRound (s : State) : State :=
  let fields (id : CellId) : EstFields := s.estOf id
  let bracket (id : CellId) : Option Bracket :=
    ((s.cls.pack.cells ++ s.cls.store.cells).find? fun c => c.id == id).map fun c => c.bracket (fields id)
  let run := s.trn.phase == Phase.warm || s.trn.phase == Phase.epoch || s.trn.phase == Phase.fit
  let mark (a : ACell) : ACell := { a with pending := a.pending.map fun p => if p.bracket.isNone then { p with bracket := bracket a.id } else p }
  let s1 : State := { s with trn := { s.trn with
    targetsPrev := s.trn.targets, targets := []
    snaps := if run && s.learnedOn then s.trn.snaps + 1 else s.trn.snaps
    cells := if run then s.trn.cells.map mark else s.trn.cells } }
  let n := s1.trn.cells.countP fun a => a.active
  let need := if s1.trn.cohort = 16 then s1.trn.cells.length else s1.img.f.train.minCells
  if run && decide (n < need) && decide (s1.trn.cells.length ≠ n) then s1.unpick 3 else s1

/-- At stitch 8 an active cell whose training step of the snap two rounds ago is not complete leaves (R273). -/
def State.trainLate (s : State) : State :=
  let due := s.pace.round - 2
  if !s.cycleOn || decide (due < s.trn.first) then s
  else
    s.leaveActive fun id => match s.trn.cells.find? fun a => a.id == id with
      | some a => match a.pending with | some p => decide (p.snap < due) | none => true
      | none => false

/-! ### Shedding (R288) -/

/-- T_die in 0.01 °C: the largest usable value of streams 43–46; none when none is usable. -/
def State.dieTemp (s : State) : Option Int :=
  let l := ((List.range 4).map fun i => streamAt s.acq.prevStreams (43 + i)).filter Rec.usable
  if l.isEmpty then none else some (maxOf (l.map fun r => r.value))

/-- T_die is at or above a threshold in °C. -/
def hot (t : Option Int) (lim : Rat) : Bool := match t with | some v => decide (lim * 100 ≤ (v : Rat)) | none => false

/-- The triggers of a level other than its temperature (Table 11-7). -/
def State.shedOther (s : State) (level : Nat) : Bool :=
  match level with
  | 1 => s.flt.bit 0x104 || s.flt.bit 0x632 || !s.img.f.train.enable
  | 2 => s.dieTemp.isNone
  | _ => false

/-- The temperature threshold of a level. -/
def State.shedLimit (s : State) (level : Nat) : Rat :=
  match level with
  | 1 => s.img.f.train.shed1
  | 2 => s.img.f.train.shed2
  | _ => s.img.f.train.shed3

/-- The highest level whose trigger holds. -/
def State.shedWanted (s : State) : Nat :=
  let on (l : Nat) : Bool := hot s.dieTemp (s.shedLimit l) || s.shedOther l
  if on 3 then 3 else if on 2 then 2 else if on 1 then 1 else 0

/-- The faults of the present level. Level 1 by `TRAIN.enable` alone raises none. -/
def State.shedFaults (s : State) : State :=
  let l := s.trn.shed
  let only := decide (l = 1) && !s.img.f.train.enable && !(hot s.dieTemp s.img.f.train.shed1 || s.flt.bit 0x104 || s.flt.bit 0x632)
  let s1 := if 1 ≤ l then (if only then s else s.raise 0x643 0) else s.clear 0x643 0
  let s2 := if l < 2 then s1.clear 0xA20 0 else if hot s.dieTemp s.img.f.train.shed2 then s1.raise 0xA20 0 else s1
  let s3 := if l < 3 then s2.clear 0xA21 0 else s2.raise 0xA21 0
  s3.judge2 0xA22 0 s.dieTemp.isNone (decide (100 ≤ s.trn.dieRuns.good))

/-- The effects of entering a level from below. -/
def State.shedTo (s : State) (l : Nat) : State :=
  let s1 := ({ s with trn := { s.trn with shed := l, coolFrom := none } } : State).unpick 4
  let s2 : State := if 2 ≤ l then { s1 with lrn := { s1.lrn with replay := { s1.lrn.replay with suspended := true } } } else s1
  if 3 ≤ l then
    let off : State := { s2 with sup := { s2.sup with domains := s2.sup.domains.filter fun d => decide (d < 7) } }
    off.loseMemory
  else s2

/-- The conditions of a step down hold (R288). -/
def State.shedCool (s : State) : Bool :=
  let l := s.trn.shed
  match s.dieTemp with
  | none => false
  | some v => decide ((v : Rat) ≤ (s.shedLimit l - 5) * 100) && !s.shedOther l

/-- SHED_RAISE at a boundary, in the round after the trigger was seen; and how long the conditions of a step down have
held. -/
def State.shedRound (s : State) : State :=
  let s0 : State := { s with trn := { s.trn with dieRuns := s.trn.dieRuns.step s.dieTemp.isNone } }
  let w := s0.shedWanted
  let s1 := if s0.trn.shed < w then s0.shedTo w else s0
  let cool := decide (0 < s1.trn.shed) && s1.shedCool
  let from_ := if cool then some (s1.trn.coolFrom.getD s1.pace.start) else none
  ({ s1 with trn := { s1.trn with coolFrom := from_ } } : State).shedFaults

/-- SHED_LOWER (R288): the conditions have held for 60 s. -/
def shedLower (t : Ns) (s : State) : State :=
  match s.trn.coolFrom with
  | none => s
  | some t0 =>
    if s.trn.shed = 0 ∨ t < t0 + 60000000000 then s
    else
      let l := s.trn.shed - 1
      let s1 : State := { s with
        trn := { s.trn with shed := l, coolFrom := none }
        lrn := { s.lrn with
          lost := s.lrn.lost || decide (l = 2)
          replay := if l < 2 && s.lrn.replay.suspended then
              { s.lrn.replay with suspended := false, seeded := false, ref := [], done := 0, stepped := none, compared := none }
            else s.lrn.replay } }
      (s1.at t).shedFaults

/-! ### Checkpoints (R285, R286, R416–R419) -/

/-- CHECKPOINT_TRIGGER (R286): staging begins with the next snap to be stepped, or, after a promotion, with the first
promoted one. At the erase limit only a park checkpoint is staged (R419). -/
def checkpointTrigger (cause : CkptCause) (s : State) : State :=
  let park := match s.sup.shut with | some h => (h.kind == ShutKind.park || h.kind == ShutKind.ship) && !h.frozen | none => false
  let due := match cause with
    | .promotion => s.trn.promoted == some s.pace.round
    | .interval => decide (s.img.f.train.ckptInterval * 6000000000 ≤ s.lrn.ckptTicks) && s.sup.dev == DevState.run
    | .park => park
  let busy := s.lrn.staging.isSome && !(cause == CkptCause.promotion)
  if !s.tc1Up || !s.learnedOn || !due || busy || (s.flt.bit 0x933 && !(cause == CkptCause.park)) then s
  else
    let snap := if cause == CkptCause.promotion then s.pace.round - 1 else s.pace.round
    { s with lrn := { s.lrn with staging := some ⟨cause, snap, s.now, [], none⟩ } }

/-- The length of a checkpoint in bytes (R416). -/
def State.ckptLength (s : State) : Nat :=
  let p := s.modelPlan
  256 + (p.map fun x => x.2.1.weightBytes).sum + (p.map fun x => x.2.2.length * (4 * x.2.1.adapterSize + 16 + x.2.1.stateBytes)).sum + 64

/-- CHECKPOINT_STAGED (R285): once every cell's state of the snap is in CKPT_STAGE, the weights and adapters are copied
and the checkpoint is handed to TC1. -/
def checkpointStaged (s : State) : State :=
  match s.lrn.staging with
  | none => s
  | some st =>
    let all := s.lrn.cells.all fun c => st.cells.any fun e => e.id == c.id
    if !all || st.staged.isSome then s
    else
      let adapter (e : CkptCell) : CkptCell := { e with adapter := ((s.lcell e.id).map fun c => c.adapter).getD [] }
      let seq := match s.nv.newestCkpt with | some (_, k) => k.seq + 1 | none => 1
      let k : Ckpt :=
        { seq := seq, model := s.img.modelDigest, image := s.img.digest, snap := st.snap, t := st.t, rotation := s.nv.rotation
          weights := s.lrn.weights.map fun w => w.live, cells := st.cells.map adapter, length := s.ckptLength }
      { s with lrn := { s.lrn with staging := some { st with staged := some k } } }

/-- The erase counts after a checkpoint of a length, in 64 KiB sectors. -/
def eraseSectors (len : Nat) (l : List Nat) : List Nat :=
  let n := ceilDiv len 65536
  (List.range (max n l.length)).map fun i => l.getD i 0 + (if i < n then 1 else 0)

/-- A staged checkpoint's area is erased; the other area holds the newest valid one (R417): true is C1. -/
def State.eraseArea (s : State) (len : Nat) : Bool × State :=
  let c1 := match s.nv.newestCkpt with | some (true, _) => false | some (false, _) => true | none => false
  let s1 : State := if c1 then { s with nv := { s.nv with ckpt1 := none, erase1 := eraseSectors len s.nv.erase1 } }
    else { s with nv := { s.nv with ckpt0 := none, erase0 := eraseSectors len s.nv.erase0 } }
  let worst := (s1.nv.erase0 ++ s1.nv.erase1).foldl max 0
  (c1, if s1.img.f.image.eraseLimit ≤ worst then s1.raise 0x933 0 else s1)

/-- The write of the staged checkpoint is given up: its area is left without a valid one (R286). -/
def State.failCkpt (s : State) (k : Ckpt) : State :=
  let s1 := (s.eraseArea k.length).2
  ({ s1 with lrn := { s1.lrn with staging := none } } : State).raise 0x642 0

/-- P8–P17 off and P7 to self-refresh (R71). -/
def State.shedDomains (s : State) : State :=
  { s with sup := { s.sup with
      domains := s.sup.domains.filter fun d => decide (d < 8)
      p7SelfRefresh := s.sup.p7SelfRefresh || s.domainOn 7 } }

/-- The checkpoint being staged is not the park shut-down's. -/
def State.otherCkpt (s : State) : Bool := match s.lrn.staging with | some st => !(st.cause == CkptCause.park) | none => false

/-- The checkpoint of the grace of a park or ship shut-down (R76, R286): staged where the learned path runs, unless the one just
ended was it; otherwise P8–P17 go off and P7 goes to self-refresh, as Table 3-3 has them in GRACE. DESIGN CHOICE: they stay as in
RUN while the checkpoint is staged and written. -/
def State.graceCkpt (s : State) (wanted : Bool) : State :=
  let grace := s.sup.dev == DevState.grace &&
    (match s.sup.shut with | some h => h.kind == ShutKind.park || h.kind == ShutKind.ship | none => false)
  if !grace then s
  else
    let s1 := if wanted then checkpointTrigger .park s else s
    if s1.lrn.staging.isSome then s1 else s1.shedDomains

/-- CHECKPOINT_WRITE (R417): the write of a staged checkpoint ends; `ok` is whether it completed with its trailer. -/
def checkpointWrite (ok : Bool) (s : State) : State :=
  match s.lrn.staging.bind fun st => st.staged with
  | none => s
  | some k =>
    let next := s.otherCkpt
    if s.fenced .ckptPort then s else if !s.tc1Up || !ok then (s.failCkpt k).graceCkpt next
    else
      let (c1, s1) := s.eraseArea k.length
      let s2 : State := { s1 with
        nv := if c1 then { s1.nv with ckpt1 := some k } else { s1.nv with ckpt0 := some k }
        lrn := { s1.lrn with staging := none, ckptTicks := 0 } }
      let s3 := ((s2.clear 0x642 0).clear 0x931 0).clear 0x523 0
      let s4 := if s3.nv.ckpt0.isSome && s3.nv.ckpt1.isSome then s3.clear 0x930 0 else s3
      let s5 := s4.log 7 (beBytes 1 c1.toNat ++ beBytes 4 (k.seq % 2 ^ 32) ++ beBytes 6 (k.snap % 2 ^ 48) ++ beBytes 4 (k.length % 2 ^ 32))
      s5.graceCkpt next

/-- NOR_BUS_REVOKE (R26, R417): a transaction has held the bus for 4 stitches. -/
def norBusRevoke (s : State) : State :=
  if s.lrn.norHeld < 4 then s
  else match s.lrn.staging.bind fun st => st.staged with
  | none => s
  | some k => (s.failCkpt k).graceCkpt s.otherCkpt

end Sys2Proof.Machine
end

