-- ==== Sys2Proof/Machine/Seam.lean ====
section
/-!
DEFINITION. The seam arbiter (chapter 12): verdicts and seam states, cohort hold, seam history, and the
published set of a snap with its display values and manoeuvre budget.
-/
namespace Sys2Proof.Machine

def State.seamCell (s : State) (id : CellId) : Option SeamCell := s.seam.cells.find? fun c => c.id == id

def State.updS (s : State) (id : CellId) (f : SeamCell → SeamCell) : State :=
  { s with seam := { s.seam with cells := updWhere (fun c => c.id == id) f s.seam.cells } }

/-- The classical state of a cell. -/
def State.clsCell (s : State) (id : CellId) : Option Cell :=
  (if 4096 < id then s.cls.store.cells else s.cls.pack.cells).find? fun c => c.id == id

/-! ### One cell (R292–R296) -/

/-- A state's move on a verdict: the new state and rejoin count (Table 12-3). -/
def SeamState.move (rejoinAt : Nat) (st : SeamState) (v : Verdict) (n : Nat) : SeamState × Nat :=
  match st, v with
  | .split, .in_ => if rejoinAt ≤ n + 1 then (.closed, 0) else (.split, n + 1)
  | .split, _ => (.split, 0)
  | _, .out => (.split, 0)
  | _, .none_ => (.open_, 0)
  | _, .in_ => (.closed, 0)

/-- The learned record of the present snap in the result buffer; none is absent (R292). -/
def State.seamRecord (s : State) (id : CellId) : Option Result :=
  if !s.learnedOn then none
  else match (s.lcell id).bind fun c => c.result with
    | some r => if r.snap + 1 = s.pace.round then some r else none
    | none => none

/-- Counts of a cohort's window changed by one cell-snap (R307). -/
def SeamCounts.add (c : SeamCounts) (old new : SeamState) (excess : Bool) : SeamCounts :=
  { c with
    closed := c.closed + (new == SeamState.closed).toNat
    open_ := c.open_ + (new == SeamState.open_).toNat
    split := c.split + (new == SeamState.split).toNat
    entries := c.entries + (new == SeamState.split && !(old == SeamState.split)).toNat
    resid := c.resid + excess.toNat }

def State.updCohort (s : State) (c : Nat) (f : SeamCohort → SeamCohort) : State :=
  let get (i : Nat) : SeamCohort := s.seam.cohorts.getD i SeamCohort.zero
  let l := (List.range 17).map fun i => if i = c then f (get i) else get i
  { s with seam := { s.seam with cohorts := l } }

/-- The decision on one cell, once per snap: `r` is the learned record, none where it is absent. -/
def State.decideCell (s : State) (id : CellId) (r : Option Result) : State :=
  match s.seamCell id, s.clsCell id with
  | some q, some c =>
    let f := s.img.f.seam
    let rec_ := s.cellRec id
    let app := rec_.usable && !rec_.flags.getLsbD 3 && !rec_.flags.getLsbD 4
    let n := residCount f.residV app (s.cellVolt id) q.vPrev q.resid
    let excess := decide (f.residRounds ≤ n)
    let v := match r with
      | some r => verdictOf (c.bracket (s.estOf id)) r.soc r.cap r.res excess
      | none => verdictOf (c.bracket (s.estOf id)) none none none excess
    let (st, rejoin) := q.state.move f.rejoin v q.rejoin
    let run := if st = .split then q.splitRun + 1 else 0
    let s1 := s.updS id fun q =>
      { q with state := st, rejoin := rejoin, resid := n, vPrev := r.bind (fun r => r.vPred), splitRun := run
               srcL := st == SeamState.closed && (r.bind fun r => r.soc).isSome, decided := some s.pace.round, record := r }
    let s2 := match s1.cohortOf id with
      | some k => s1.updCohort k fun x => { x with counts := x.counts.add q.state st excess }
      | none => s1
    (s2.judge2 0x650 id (decide (f.splitReport ≤ run)) (!(st == SeamState.split))).judge2 0x651 id excess (decide (n = 0))
  | _, _ => s

/-- SEAM_DECISION (R292, R295): both results of a cell are in hand. -/
def seamDecision (id : CellId) (s : State) : State :=
  let open_ := !(s.seam.closedFor == some s.pace.round) && s.cls.updated == some s.pace.round && s.tc0Up
  match s.seamCell id, s.seamRecord id with
  | some q, some r =>
    if open_ && decide (s.pace.stitch ≤ 61) && !(q.decided == some s.pace.round) then s.decideCell id (some r) else s
  | _, _ => s

/-! ### The deadline (R20, R292, R301) -/

/-- The split fraction of a cohort (R301): its cells that are split, and its cells that have a model and are not in warm-up. -/
def State.splitFraction (s : State) (c : Nat) : Nat × Nat :=
  let l := s.seam.cells.filter fun q => s.cohortOf q.id == some c
  (l.countP fun q => q.state == SeamState.split, l.countP fun q => !((s.lcell q.id).map fun x => x.warmup).getD false)

/-- COHORT_HOLD (R301): the consecutive-snap counters and the hold of a cohort. -/
def State.cohortHold (s : State) (c : Nat) : State :=
  let f := s.img.f.seam
  let (k, n) := s.splitFraction c
  if n = 0 then s
  else
    let x := s.seam.cohorts.getD c SeamCohort.zero
    let above := if f.holdEnter * n < 100 * (k : Rat) then x.above + 1 else 0
    let below := if 100 * (k : Rat) ≤ f.holdExit * n then x.below + 1 else 0
    let enter := !x.hold && decide (f.holdRounds ≤ above)
    let leave := x.hold && decide (f.holdRounds ≤ below)
    let s1 := s.updCohort c fun x =>
      { x with hold := (x.hold || enter) && !leave, above := above, below := below
               counts := { x.counts with holds := x.counts.holds + enter.toNat } }
    s1.judge2 0x652 (cohortDetail c) ((x.hold || enter) && !leave) leave

/-- 0x653: too many of the pack's cells are split. -/
def State.packSplitCheck (s : State) : State :=
  let l := s.seam.cells.filter fun q => decide (q.id ≤ 4096)
  let k := l.countP fun q => q.state == SeamState.split
  let r := s.seam.packSplit.step (decide (s.img.f.seam.packSplitMax * (l.length : Rat) < 100 * (k : Rat)))
  ({ s with seam := { s.seam with packSplit := r } } : State).judge2 0x653 0 (decide (0 < r.bad)) (decide (100 ≤ r.good))

/-- 0x654: the learned record of a cell outside warm-up is absent although the learned path steps the cell. DEDUCED: a step that was
due and has not completed counts as the cell having been stepped, or no late step could ever be reported. -/
def State.absentCheck (s : State) : State :=
  s.lrn.cells.foldl (fun t c =>
    let none_ := match t.seamCell c.id with | some q => q.record.isNone | none => false
    let gone := s.learnedOn && none_ && !c.warmup && !c.restoring && !c.reloading
    let r := c.absent.step gone
    (t.updL c.id fun c => { c with absent := r }).judge2 0x654 c.id (decide (10 ≤ r.bad)) (decide (1000 ≤ r.good))) s

/-- SEAM_DEADLINE (R20): records not in the buffer at stitch 61 are absent; overruns are counted. -/
def seamDeadline (s : State) : State :=
  if !s.rounds || !s.tc0Up || !(s.pace.stitch == 61) || !(s.cls.updated == some s.pace.round) || s.seam.closedFor == some s.pace.round
  then s
  else
    let ids := (s.seam.cells.filter fun q => !(q.decided == some s.pace.round)).map fun q => q.id
    let s1 := ids.foldl (fun t id => t.decideCell id (t.seamRecord id)) s
    let s2 := (List.range 17).foldl State.cohortHold s1
    let s3 := s2.packSplitCheck.absentCheck.countOverruns
    { s3 with seam := { s3.seam with closedFor := some s.pace.round } }

/-! ### Seam history (R307) -/

/-- The payload of a seam window entry (Table 16-13, kind 0x05). -/
def windowPayload (c : Nat) (x : SeamCounts) (partial_ : Bool) : List Byte :=
  beBytes 1 c ++ beBytes 4 x.closed ++ beBytes 4 x.open_ ++ beBytes 4 x.split ++ beBytes 4 x.entries ++ beBytes 2 x.holds ++
    beBytes 4 x.resid ++ beBytes 1 partial_.toNat

/-- Every cohort with a model has its counts written, and counting begins afresh. -/
def State.closeWindow (s : State) (partial_ : Bool) : State :=
  let cs := s.modelPlan.map fun p => p.1
  let s1 := cs.foldl (fun t c => t.log 5 (windowPayload c ((t.seam.cohorts.getD c SeamCohort.zero).counts) partial_)) s
  { s1 with seam := { s1.seam with cohorts := s1.seam.cohorts.map fun x => { x with counts := SeamCohort.zero.counts } } }

/-- SEAM_WINDOW_END (R307): TC1 writes the counts of the window of 1,000 rounds that is over. DESIGN CHOICE: a cell-snap belongs to the
window of the round in which it is decided. -/
def seamWindowEnd (s : State) : State :=
  if !s.rounds || !s.tc1Up || s.seam.window == s.pace.round / 1000 then s
  else
    let s1 := s.closeWindow false
    { s1 with seam := { s1.seam with window := s.pace.round / 1000 } }

/-! ### The published set (R297–R300, R304–R306) -/

/-- What is published for one cell. -/
def State.pubCell (s : State) (q : SeamCell) : Option PubCell :=
  (s.clsCell q.id).map fun c =>
    let e := if 4096 < q.id then s.cls.store else s.cls.pack
    let k := s.cohortOf q.id
    let hold := match k with | some k => (s.seam.cohorts.getD k SeamCohort.zero).hold | none => false
    let use := q.state == SeamState.closed && !hold
    let r := q.record
    let pick (x : Option Rat) (d : Rat) : Rat := if use then x.getD d else d
    let soc := r.bind fun r => r.soc.map fun x => x * 100
    let v := s.cellRec q.id
    { id := q.id, soc := pick soc c.s, lo := c.lo, hi := c.hi
      cap := pick (r.bind fun r => r.cap) c.cap, res := pick (r.bind fun r => r.res) c.r
      anomaly := if use then r.bind fun r => r.anomaly else none, ocv := if use then r.bind fun r => r.ocv else none
      state := q.state, srcL := use && soc.isSome, resid := decide (s.img.f.seam.residRounds ≤ q.resid), hold := hold
      absentL := r.isNone, warmup := (r.map fun r => r.warmup).getD false, degraded := (r.map fun r => r.degraded).getD false
      openLoop := (r.map fun r => r.openLoop).getD false, nonfinite := (r.map fun r => r.nonfinite).getD false
      basted := c.basted, loaded := c.loaded, overdue := e.overdue, tier := e.tier, gap := c.gap
      clsCap := c.cap, uC := c.uC, clsRes := c.r, capL := use && (r.bind fun r => r.cap).isSome
      resL := use && (r.bind fun r => r.res).isSome, volt := if v.usable then some (roundDiv v.value 10) else none, flags := v.flags
      temp := match (if 4096 < q.id then meanUsable [streamAt s.acq.prevStreams 33, streamAt s.acq.prevStreams 34] 100 else s.nodeTemp q.id) with
        | some t => codeOf 253 (nearest ((t + 40) * 2))
        | none => 255
      cohort := k.getD 31, balancing := c.bleeding }

/-- The charge quantities of a list of cells at a SoC of each in %: Q_dis and Q_chg. -/
def chargeOf (soc : PubCell → Rat) (l : List PubCell) : Rat × Rat :=
  let d := l.map fun c => clampR 0 100 (soc c) / 100 * c.cap
  let u := l.map fun c => (1 - clampR 0 100 (soc c) / 100) * c.cap
  (d.foldl min (d.headD 0), u.foldl min (u.headD 0))

/-- The first cell that reaches the least value of a quantity. -/
def argMin (f : PubCell → Rat) (l : List PubCell) : CellId × Rat :=
  match l with
  | [] => (0, 0)
  | c :: rest => rest.foldl (fun a x => if f x < a.2 then (x.id, f x) else a) (c.id, f c)

/-- A SoC in % from Q_dis and Q_chg; 0 where there is no capacity. -/
def socOf (q : Rat × Rat) : Rat := if q.1 + q.2 = 0 then 0 else 100 * q.1 / (q.1 + q.2)

/-- PACK_AGGREGATION (R304, R305). -/
def aggregate (l : List PubCell) (holds : Nat) : PackVals :=
  let q := chargeOf (fun c => c.soc) l
  let cl (c : PubCell) : Rat := clampR 0 100 c.soc / 100
  let mn := argMin (fun c => c.soc) l
  let mx := argMin (fun c => -c.soc) l
  { invalid := decide (q.1 + q.2 = 0), qDis := q.1, qChg := q.2, cap := q.1 + q.2, soc := socOf q
    lo := socOf (chargeOf (fun c => c.lo) l), hi := socOf (chargeOf (fun c => c.hi) l)
    posDis := (argMin (fun c => cl c * c.cap) l).1, posChg := (argMin (fun c => (1 - cl c) * c.cap) l).1
    minSoc := mn.2, posMin := mn.1, maxSoc := -mx.2, posMax := mx.1, res := (l.map fun c => c.res).sum
    closed := l.countP fun c => c.state == SeamState.closed, open_ := l.countP fun c => c.state == SeamState.open_
    split := l.countP fun c => c.state == SeamState.split, holds := holds }

/-- A display channel's input: the SoC with its counted change in %, none with the invalid flag (R216). -/
def displayIn (v : PackVals) (q : Option Rat) : Option (Rat × Rat) :=
  if v.invalid then none else some (v.soc, -(q.getD 0 / 3600000000) / v.cap * 100)

/-- The committed energy of the granted bursts, W·h. -/
def Reserve.committed (r : Reserve) : Rat := (r.ledger.map fun e => e.rb).sum

/-- The published set of the snap before (R306), the displays moved on, and the manoeuvre budget (R359). -/
def State.formPublished (s : State) : State :=
  let all := s.seam.cells.filterMap s.pubCell
  let pk := all.filter fun c => decide (c.id ≤ 4096)
  let st := all.filter fun c => decide (4096 < c.id)
  let holds := (s.seam.cohorts.take 16).countP fun x => x.hold
  let holdS := (s.seam.cohorts.getD 16 SeamCohort.zero).hold.toNat
  let pv := aggregate pk holds
  let sv := aggregate st holdS
  let dt : Rat := (s.acq.prevDt : Rat) / 100000000
  let p := s.cls.pack
  let q := s.cls.store
  let dp := p.display.step s.img.f.est.displayRate (displayIn pv s.packIn.q) dt
  let ds := q.display.step s.img.f.estStore.displayRate (displayIn sv s.storeIn.q) dt
  let h := s.cls.hem
  let eMan := max 0 (h.energy - s.res.committed)
  let down := s.res.path == PathState.down || s.res.path == PathState.cool || s.res.path == PathState.latched
  let set : PubSet :=
    { snap := s.pace.round - 1, t := s.acq.prevT, cells := pk, store := st, pack := pv, storeVals := sv, display := dp.shown
      displayStore := ds.shown, hem := h, eMan := eMan, tMan := Config.quot (eMan * 3600) s.img.f.hem.pLoad, committed := s.res.committed
      invalidMan := !h.valid || s.res.absent || decide (s.storeCells = 0) || down
      provisional := q.cells.any fun c => c.basted, damped := s.res.damping }
  { s with
      seam := { s.seam with pub := some set }
      cls := { s.cls with pack := { p with display := dp }, store := { q with display := ds } } }

/-! ### The seal buffer (R64, R189, R302) -/

/-- Bits [7:4] of a cell record; under hold no learned SoC is published. -/
def SeamCell.bits (residAt : Nat) (hold : Bool) (q : SeamCell) : BitVec 4 :=
  let st : Nat := match q.state with | .closed => 0 | .open_ => 1 | .split => 2
  BitVec.ofNat 4 (4 * st + 2 * (q.srcL && !hold).toNat + (decide (residAt ≤ q.resid)).toNat)

/-- The seal buffer of the present classical and seam state. -/
def State.sealBuf (s : State) : SealBuf :=
  let held (id : CellId) : Bool := match s.cohortOf id with | some k => (s.seam.cohorts.getD k SeamCohort.zero).hold | none => false
  let bits (id : CellId) : BitVec 4 := match s.seamCell id with | some q => q.bits s.img.f.seam.residRounds (held id) | none => 4
  let p := s.cls.pack
  let q := s.cls.store
  { round := s.pace.round, t := s.now
    cells := p.cells.map fun c => c.seal s.img.f.est (bits c.id), store := q.cells.map fun c => c.seal s.img.f.estStore (bits c.id)
    display := p.display.value, displayStore := q.display.value, restFrom := p.restFrom, restFromStore := q.restFrom
    tackFrom := p.tackFrom, tackFromStore := q.tackFrom
    tacked := ((p.cells ++ q.cells).filter fun c => c.tacked).map fun c => c.id
    anchored := ((p.cells ++ q.cells).filter fun c => c.anchored).map fun c => c.id
    packCount := s.acq.packCount, storeCount := s.acq.store.count
    tier := if s.flt.bit 0x612 then .sensor else s.acq.prevTier, cohorts := s.seam.cohorts, packSplit := s.seam.packSplit }

/-- SEAL_BUFFER_WRITE (R64): into the buffer not written last, which is then the complete one. -/
def State.writeSealBuf (s : State) : State :=
  let b := some s.sealBuf
  { s with bufs := if s.bufs.latest then { s.bufs with first := b, latest := false } else { s.bufs with second := b, latest := true } }

/-- The most recently completed buffer. -/
def SealBufs.newest (b : SealBufs) : Option SealBuf := if b.latest then b.second else b.first

end Sys2Proof.Machine
end

