-- ==== Sys2Proof/Machine/Path.lean ====
section
/-!
DEFINITION. The reserve store, the path controller, the charger reference and bursts (chapter 14).
-/
namespace Sys2Proof.Machine

/-! ### Bursts (R353–R358) -/

/-- The remaining commitment of a burst at an instant, W·h (R357). -/
def LedgerEntry.left (e : LedgerEntry) (t : Ns) : Rat :=
  e.power * max 0 ((e.duration : Rat) - ((t - e.t : Nat) : Rat) / 1000000) / 3600000

/-- BURST_LEDGER_UPDATE (R357). -/
def State.ledgerAt (s : State) (t : Ns) : State :=
  { s with res := { s.res with ledger := s.res.ledger.map fun e => { e with rb := e.left t } } }

/-- How a burst closed, as Table 17-8 and Table 16-13 code it. -/
def BurstEnd.code : BurstEnd → Nat
  | .released => 2
  | .duration => 3
  | .cut => 4

/-- The payload of a burst entry of the event log (Table 16-13, kind 0x03). -/
def LedgerEntry.payload (e : LedgerEntry) (k : BurstEnd) (elapsed : Nat) : List Byte :=
  beBytes 1 e.line ++ beBytes 1 k.code ++ beBytes 6 (e.round % 2 ^ 48) ++ beBytes 8 (e.t / 10) ++ beBytes 2 (codeOf 65535 (nearest e.power))
    ++ beBytes 2 (min 65535 e.duration) ++ beBytes 2 (min 65535 elapsed) ++ beBytes 4 (codeOf 4294967295 (nearest (e.ed * 10000)))

/-- An answer is due on BGNT_N (Table 14-4): only the owner answers (R354). -/
def State.answer (s : State) (us : Nat) (t : Ns) : State :=
  if s.answersBreq then { s with res := { s.res with answers := s.res.answers ++ [(us, t)] } } else s

/-- A granted burst's entry closes and goes to the journal (R357). -/
def State.closeBurst (s : State) (e : LedgerEntry) (k : BurstEnd) (t : Ns) : State :=
  let ms := (t - e.t) / 1000000
  let s1 : State := { s with res := { s.res with
    ledger := s.res.ledger.filter fun x => !(x.line == e.line)
    closed := s.res.closed ++ [({ e with rb := 0 }, k, ms)] } }
  s1.log 3 (e.payload k ms)

def State.burst (s : State) (line : Nat) : Option LedgerEntry := s.res.ledger.find? fun e => e.line == line

/-- BURST_CUT (R358): every granted burst is cut, with fault 0x710. -/
def State.cutBursts (s : State) (t : Ns) : State :=
  s.res.ledger.foldl (fun u e => ((u.closeBurst e .cut t).answer (70 + 10 * e.line) t).raise 0x710 0) s

/-- BURST_ADMISSION (R356): the test, with the burst's energy in W·h. -/
def State.admits (s : State) (line : Nat) : Option Rat :=
  match s.img.f.burst.power.getD line none, s.seam.pub with
  | some p, some set =>
    let eb := p * s.img.f.burst.maxDuration / 3600000
    let a := max 0 set.hem.avail - s.img.f.burst.keep - s.res.committed
    let dev := s.sup.dev == DevState.run ||
      (s.sup.dev == DevState.grace && !((s.sup.shut.map fun h => h.frozen).getD false))
    let path := s.res.path == PathState.vehicle || s.res.path == PathState.handover || s.res.path == PathState.reserve ||
      s.res.path == PathState.handback
    if dev && path && !s.res.absent && !s.res.changing && set.hem.valid && decide (eb ≤ a) then some p else none
  | _, _ => none

/-- Request edges are acted on (R353): the line is in use, the store function is enabled, P1's pins are powered, and TC1 runs
(R456). -/
def State.breqOn (s : State) (line : Nat) : Bool :=
  decide (line < s.code.breqLines) && s.img.burstsOn && s.sup.storeFn && s.sup.p1 && !s.sup.parkCheck &&
  (s.sup.dev == DevState.run || s.sup.dev == DevState.grace || s.sup.dev == DevState.seal) && s.answersBreq &&
  s.tc1Up

/-- BREQ_EDGE (R355). -/
def breqEdge (line : Nat) (t : Ns) (s : State) : State :=
  if !s.breqOn line then s
  else
    let s0 := (s.at t).ledgerAt t
    match s0.burst line with
    | some _ => s0.answer (10 + 10 * line) t
    | none =>
      match s0.admits line with
      | some p =>
        let d := s0.img.f.burst.maxDuration
        let e : LedgerEntry := ⟨line, s0.pace.round, t, p, d, p * d / 3600000, 0⟩
        ({ s0 with res := { s0.res with ledger := s0.res.ledger ++ [e] } } : State).answer (10 + 10 * line) t
      | none =>
        let l := (List.range 2).map fun i => s0.res.refusals.getD i 0 + (if i = line then 1 else 0)
        ({ s0 with res := { s0.res with refusals := l } } : State).answer (30 + 10 * line) t

/-- BURST_RELEASE (R353): the line has been low for `BURST.release`. -/
def burstRelease (line : Nat) (t : Ns) (s : State) : State :=
  match s.burst line with
  | none => s
  | some e => ((s.at t).closeBurst e .released t).clear 0x710 0

/-- BURST_DURATION_END (R358). -/
def burstDurationEnd (line : Nat) (t : Ns) (s : State) : State :=
  match s.burst line with
  | none => s
  | some e =>
    if t < e.t + 1000000 * e.duration then s
    else (((s.at t).closeBurst e .duration t).answer (50 + 10 * line) t).clear 0x710 0

/-- BGNT_ANSWER (R354): at a stitch start, at least 20 µs after the last pulse, the oldest answer decided before it; with TC1
down BGNT_N stays high (R456). -/
def bgntAnswer (t : Ns) (s : State) : State :=
  match s.res.answers with
  | [] => s
  | (us, d) :: rest =>
    let free := match s.res.pulseEnd with | some e => decide (e + 20000 ≤ t) | none => true
    if !s.drivesPath || !free || t ≤ d || !s.tc1Up then s
    else
      let line := (us / 10 + 1) % 2
      ({ s with
          res := { s.res with answers := rest, pulseEnd := some (t + 1000 * us) }
          out := { s.out with answers := (List.range 2).map fun k => if k = line then us / 10 else s.out.answers.getD k 0 } } : State).at t

/-! ### The path controller (R336–R348) -/

/-- STORE_OK (Table 14-2); in PARK by the stack comparator alone. -/
def State.storeOk (s : State) : Bool :=
  if s.sup.dev == DevState.park then !s.res.stackLow else !s.res.absent && !s.res.cellLow && !s.res.stackLow

/-- The gates a state begins with (Table 14-3): a pair waits for its pre-charge in HANDOVER and HANDBACK. -/
def PathState.gates : PathState → GateDrive × GateDrive
  | .rampM => (.ramping, .off)
  | .vehicle => (.full, .off)
  | .handover => (.off, .waiting)
  | .reserve => (.off, .full)
  | .handback => (.waiting, .off)
  | _ => (.off, .off)

/-- The controller enters a state; granted bursts are cut in DOWN, COOL and LATCHED (R358). -/
def State.enterPath (s : State) (p : PathState) (t : Ns) : State :=
  let s1 : State := { s with res := { s.res with
    path := p, since := t, dwellMet := false, gateMain := p.gates.1, gateRes := p.gates.2 } }
  if p == PathState.down || p == PathState.cool || p == PathState.latched then s1.cutBursts t else s1

/-- R340 from step 2: HANDOVER, or DOWN with fault 0x711. -/
def State.loseMain (s : State) (t : Ns) : State :=
  if s.storeOk then s.enterPath .handover t else (s.enterPath .down t).raise 0x711 0

/-- The stability time in ns (Table 14-2). -/
def Reserve.stability (r : Reserve) : Ns := if r.damping then 1000000000 else 50000000

/-- STABLE at an instant. -/
def Reserve.isStable (r : Reserve) (t : Ns) : Bool := r.good && decide (r.goodFrom + r.stability ≤ t)

/-- What the path hardware senses is taken. -/
def State.sense (s : State) (x : PathSense) : State := ({ s with res := { s.res with stackLow := x.stackLow } } : State).at x.t

/-- A pair is ramping or fully on. -/
def Reserve.pairOn (r : Reserve) : Bool :=
  r.gateMain == GateDrive.ramping || r.gateMain == GateDrive.full || r.gateRes == GateDrive.ramping || r.gateRes == GateDrive.full

/-- A short (R345, R346): the fourth of a count latches the path off. It shows only with a pair ramping or fully on. -/
def State.takeShort (s : State) (t : Ns) : State :=
  if !s.res.pairOn then s
  else
    let n := s.res.shorts + 1
    let s1 := (({ s with res := { s.res with shorts := n } } : State).at t).raise 0x701 0
    if 4 ≤ n then (s1.enterPath .latched t).raise 0x702 0 else s1.enterPath .cool t

/-- FLOOR (R337, R338, R358): every granted burst is cut, whichever way the bus is fed. -/
def State.takeFloor (s : State) (t : Ns) : State :=
  match s.res.path with
  | .handover => ((s.at t).enterPath .down t).raise 0x704 0
  | .reserve => ((s.at t).enterPath .down t).raise 0x704 0
  | _ => (s.at t).cutBursts t

/-- FAIL (R340, R342): in HANDBACK it is an aborted hand-back. -/
def State.takeFail (s : State) (t : Ns) : State :=
  match s.res.path with
  | .vehicle => s.loseMain t
  | .rampM => s.loseMain t
  | .handback =>
    let l := t :: s.res.aborts.filter fun a => decide (t < a + 10000000000)
    let s2 : State := { s with res := { s.res with aborts := l } }
    let s3 := if 3 ≤ l.length then ({ s2 with res := { s2.res with damping := true } } : State).raise 0x703 0 else s2
    s3.loseMain t
  | _ => s

/-- One transition per cycle, of the conditions that arise in it the first in order: short, FLOOR, FAIL, and then the given one (R339). -/
def State.cycle (s : State) (x : PathSense) (act : State → State) : State :=
  let s1 := s.sense x
  let feeds := s1.res.path == PathState.handover || s1.res.path == PathState.reserve
  let main := s1.res.path == PathState.vehicle || s1.res.path == PathState.rampM || s1.res.path == PathState.handback
  if x.short && s1.res.pairOn then s1.takeShort x.t
  else if x.floor && feeds then s1.takeFloor x.t
  else if x.fail && main then s1.takeFail x.t
  else act s1

/-- The main pair begins to ramp, from DOWN or COOL; it waits while the other pair's gate is above 2.0 V (R343). -/
def State.rampMain (s : State) (otherHigh : Bool) (t : Ns) : State :=
  let u := s.enterPath .rampM t
  if otherHigh then { u with res := { u.res with gateMain := .waiting } } else u

/-- VMAIN_FAIL (R340, R342). -/
def vmainFail (x : PathSense) (s : State) : State :=
  if !s.sup.p1 then s else s.cycle x fun u => u.takeFail x.t

/-- RESERVE_PRECHARGE (R340, R343): 3.0 µs after FAIL; it waits while the other pair's gate is above 2.0 V. -/
def reservePrecharge (otherHigh : Bool) (t : Ns) (s : State) : State :=
  if s.res.path = .handover ∧ s.res.gateRes = .waiting ∧ s.res.since + 3000 ≤ t ∧ otherHigh = false then
    ({ s with res := { s.res with gateRes := .ramping } } : State).at t
  else s

/-- MAIN_PRECHARGE (R341, R343): in HANDBACK 3.0 µs after the decision. -/
def mainPrecharge (otherHigh : Bool) (t : Ns) (s : State) : State :=
  if s.res.gateMain = .waiting ∧ s.res.since + (if s.res.path = .handback then 3000 else 0) ≤ t ∧ otherHigh = false then
    ({ s with res := { s.res with gateMain := .ramping } } : State).at t
  else s

/-- RAMP_COMPLETE (R344). -/
def rampComplete (x : PathSense) (s : State) : State :=
  let ramping := s.res.gateMain == GateDrive.ramping || s.res.gateRes == GateDrive.ramping
  if !s.sup.p1 || !ramping then s
  else s.cycle x fun u => u.enterPath (if u.res.gateMain == GateDrive.ramping then .vehicle else .reserve) x.t

/-- GOOD_CHANGE (R341): the stability timer restarts. -/
def goodChange (good : Bool) (t : Ns) (s : State) : State :=
  if !s.sup.p1 then s else ({ s with res := { s.res with good := good, goodFrom := t, stable := false } } : State).at t

/-- STABLE_REACHED (R337, R338, R341). -/
def stableReached (x : PathSense) (s : State) : State :=
  if !s.res.isStable x.t || !s.sup.p1 then s
  else
    ({ s with res := { s.res with stable := true } } : State).cycle x fun u =>
      match u.res.path with
      | .down => if u.sup.storeFn then u.rampMain x.otherHigh x.t else u
      | .reserve => if u.res.dwellMet then u.enterPath .handback x.t else u
      | _ => u

/-- PATH_DWELL_END (R341). -/
def pathDwellEnd (x : PathSense) (s : State) : State :=
  if s.res.path = .reserve ∧ ((s.res.since : Nat) : Rat) + s.img.f.path.dwellMin * 1000000 ≤ (x.t : Rat) then
    ({ s with res := { s.res with dwellMet := true } } : State).cycle x fun u =>
      if u.res.isStable x.t then u.enterPath .handback x.t else u
  else s

/-- SHORT_DETECTED (R345, R346): the first of the controller's order (R339). -/
def shortDetected (t : Ns) (s : State) : State := s.takeShort t

/-- COOL_END (R346). -/
def coolEnd (x : PathSense) (s : State) : State :=
  if s.res.path = .cool ∧ ((s.res.since : Nat) : Rat) + s.img.f.path.shortCool * 1000000 ≤ (x.t : Rat) then
    let s1 := s.sense x
    if s1.res.good then s1.rampMain x.otherHigh x.t else s1.enterPath (if s1.storeOk then .handover else .down) x.t
  else s

/-- SHORT_COUNT_RESET (R346): a pair has been fully on for 10 s. -/
def shortCountReset (t : Ns) (s : State) : State :=
  if (s.res.path = .vehicle ∨ s.res.path = .reserve) ∧ s.res.since + 10000000000 ≤ t then
    (({ s with res := { s.res with shorts := 0 } } : State).at t).clear 0x701 0
  else s

/-- LATCHED_EXIT (R346): VMAIN has been below 3.0 V for 100 ms, and STABLE holds again. -/
def latchedExit (t : Ns) (s : State) : State :=
  if s.res.path = .latched ∧ s.res.since ≤ s.res.goodFrom ∧ s.res.isStable t = true then
    (((({ s with res := { s.res with shorts := 0, stable := true } } : State).at t).enterPath .down t).clear 0x702 0).clear 0x701 0
  else s

/-- FLOOR (Table 14-2): by the stack comparator, or by a store cell's reading at the last snap; in PARK by the comparator alone. -/
def floor_ (src : FloorSource) (x : PathSense) (s : State) : State :=
  if !s.sup.p1 then s
  else match src with
    | .cell => if s.res.cellLow = true ∧ s.sup.dev ≠ .park then s.cycle { x with floor := false, fail := false } fun u => u.takeFloor x.t else s
    | .stack => s.cycle { x with stackLow := true, floor := false, fail := false } fun u => u.takeFloor x.t

/-- DAMPING_END (R342): 60 s in VEHICLE without interruption. -/
def dampingEnd (t : Ns) (s : State) : State :=
  if s.res.damping = true ∧ s.res.path = .vehicle ∧ s.res.since + 60000000000 ≤ t then
    (({ s with res := { s.res with damping := false } } : State).at t).clear 0x703 0
  else s

/-- GATE_INTERLOCK_TIMEOUT (R343): a pair has waited 10 µs for the other's gate to fall. -/
def gateInterlockTimeout (t : Ns) (s : State) : State :=
  if (s.res.gateMain = .waiting ∨ s.res.gateRes = .waiting) ∧ s.res.since + (if s.res.path = .rampM then 10000 else 13000) ≤ t then
    ((s.at t).raiseFor 0x70A 0 100).enterPath .cool t
  else s

/-- GATE_MONITOR_FAULT (R343): a commanded gate-source voltage is out of range: a pair on below 7.0 V for 100 µs after its
ramp, or a pair off above 2.0 V for 10 µs. -/
def gateMonitorFault (pair : Pair) (t : Ns) (s : State) : State :=
  let g := match pair with | .main => s.res.gateMain | .reserve => s.res.gateRes
  if s.sup.p1 = true ∧ (g = .full ∨ g = .off) then (s.at t).raiseFor 0x70A 0 100 else s

/-- PATH_TAKEOVER (R348): the new owner's controller goes on from the pulled-off gates. -/
def State.pathTakeover (s : State) (t : Ns) : State :=
  match s.res.path with
  | .vehicle => s.enterPath .rampM t
  | .rampM => s.enterPath .rampM t
  | .handback => s.enterPath .rampM t
  | .reserve => s.enterPath (if s.storeOk then .handover else .down) t
  | .handover => s.enterPath (if s.storeOk then .handover else .down) t
  | _ => s

/-! ### Store presence (R333) -/

/-- STORE_ABSENT: 10 consecutive rounds below the level; in PARK the stack comparator shows it. -/
def storeAbsent (s : State) : State :=
  if s.storeCells = 0 ∨ s.res.absent = true then s
  else if s.sup.dev = .park ∨ 10 ≤ s.res.presRuns.bad then
    ({ s with res := { s.res with absent := true } } : State).raise 0x705 0
  else s

/-- STORE_PRESENT (R333, R334 rule 1): the store is taken as changed, in PARK at the next RUN. -/
def storePresent (s : State) : State :=
  if s.res.absent = false then s
  else if s.sup.dev = .park then
    ({ s with res := { s.res with absent := false, swapped := true } } : State).clear 0x705 0
  else if 10 ≤ s.res.presRuns.good then
    (({ s with res := { s.res with absent := false } } : State).clear 0x705 0).storeChange
  else s

/-! ### Charger reference (R349–R352) -/

/-- The target of REF_RES for a code, V; none is off (R350). -/
def State.refTarget (s : State) (code : Nat) : Option Rat :=
  if code = 0 then none
  else (s.img.f.store.vset.getD (code - 1) none).map fun v =>
    Config.quot (s.img.f.store.cells * (v / 1000)) s.img.f.store.dcdcGain

/-- A store cell read at or above its upper limit at the last snap; the store temperature is outside the charging window (R351). -/
def State.cellsFull (s : State) : Bool :=
  match s.acq.latch with
  | some x => (List.range s.storeCells).any fun k => decide (s.img.f.store.vMax * 100 ≤ (x.sc.getD k 0 : Rat))
  | none => false

@[inherit_doc State.cellsFull] def State.chargeTempBad (s : State) : Bool :=
  let l := ([streamAt s.acq.prevStreams 33, streamAt s.acq.prevStreams 34].filter Rec.usable).map fun r => (r.value : Rat) / 100
  l.isEmpty || l.any fun t => decide (t < s.img.f.store.chgTMin) || decide (s.img.f.store.chgTMax < t)

/-- REF_RES is held at 0 V (R347, R351). -/
def State.refHeld (s : State) : Bool :=
  !(s.res.path == PathState.vehicle) || s.cellsFull || s.chargeTempBad || s.res.absent || s.res.changing ||
  !(s.sup.dev == DevState.run) || s.sup.parkCheck || decide (s.storeCells = 0)

/-- VSET_ACCEPT (R349): a code differing from the accepted one, three times in a row, is accepted. -/
def State.vsetSample (s : State) (code : Nat) : State :=
  let n := if code = s.res.vsetLast then s.res.vsetRun + 1 else 1
  let s1 : State := { s with res := { s.res with vsetLast := code, vsetRun := n } }
  if !(code = s.res.vset) ∧ 3 ≤ n ∧ 0 < s.storeCells then
    let s2 : State := { s1 with res := { s1.res with vset := code } }
    if code = 0 then s2
    else if (s2.refTarget code).isSome then s2.clear 0x70B 0 else s2.raise 0x70B 0
  else s1

/-- REF_RES_UPDATE (R350, R351) at a stitch. -/
def State.refUpdate (s : State) (t : Ns) : State :=
  let target := if s.refHeld then none else s.refTarget s.res.vset
  match target with
  | none => { s with res := { s.res with ref := 0, refOff := true, refAt := t } }
  | some v =>
    let g := s.img.f.store.dcdcGain
    let rate := Config.quot (s.img.f.store.cells * s.img.f.store.refSlew / 1000) g
    let stack : Rat := ((streamAt s.acq.prevStreams 30).value : Rat) / 100000
    let from_ := if s.res.refOff then max (1 / 10) (Config.quot stack g) else s.res.ref
    let step := if s.res.refOff then 0 else rate * ((t - s.res.refAt : Nat) : Rat) / 1000000000
    let r := from_ + clampR (-step) step (v - from_)
    { s with res := { s.res with ref := r, refOff := false, refAt := t } }

/-- What a stitch does for the store: VSET is sampled in RUN and park checks, REF_RES moves, commitments shrink. -/
def State.storeStitch (s : State) (vset : Nat) (t : Ns) : State :=
  let s1 := if s.sup.dev == DevState.run && s.sup.storeFn then s.vsetSample vset else s
  if s1.sup.p1 then (s1.refUpdate t).ledgerAt t else s1

/-! ### At a snap -/

/-- The energy drawn by the granted bursts up to the snap (R357), from its store streams; a burst granted since has none. -/
def State.ledgerEnergy (s : State) : State :=
  let v := streamAt s.acq.streams 30
  let q := streamAt s.acq.streams 32
  let e : Rat := if v.usable && q.usable then max 0 ((v.value : Rat) / 100000 * ((q.value : Rat) / 1000000)) / 3600 else 0
  { s with res := { s.res with ledger := s.res.ledger.map fun x =>
      if x.round < s.pace.round then { x with ed := x.ed + e } else x } }

/-- At a boundary the snap's store readings are judged (Tables 14-2 and 14-7, R351, R352). -/
def State.storeRound (s : State) (x : SnapLatch) : State :=
  let n := s.storeCells
  if n = 0 then s
  else
    let f := s.img.f.store
    let low := decide ((x.stack : Rat) < f.presentV * n * 100)
    let cellLow := (List.range n).any fun k => decide ((x.sc.getD k 0 : Rat) ≤ f.floorV * 100)
    let stackLow := decide ((x.stack : Rat) < f.floorV * n * 100)
    let s1 : State := { s with res := { s.res with presRuns := s.res.presRuns.step low, cellLow := cellLow, stackLow := stackLow } }
    let ok := if s1.storeOk then s1.res.okRounds + 1 else 0
    let under := (List.range n).all fun k => decide ((x.sc.getD k 0 : Rat) ≤ (f.vMax - 20) * 100)
    let cf := if under then s1.res.chgCell + 1 else 0
    let ct := if s1.chargeTempBad then 0 else s1.res.chgTemp + 1
    let far := s1.drivesPath && decide (20 < |x.refRes - s1.res.ref * 1000|)
    let rr := s1.res.refRuns.step far
    let s2 : State := { s1 with res := { s1.res with okRounds := ok, chgCell := cf, chgTemp := ct, refRuns := rr } }
    let s3 := if 100 ≤ ok then (s2.clear 0x704 0).clear 0x711 0 else s2
    let s4 := (s3.judge2 0x707 0 s3.cellsFull (decide (10 ≤ cf))).judge2 0x708 0 s3.chargeTempBad (decide (100 ≤ ct))
    (s4.judge2 0x709 0 (decide (10 ≤ rr.bad)) (decide (100 ≤ rr.good)))

end Sys2Proof.Machine
end

