-- ==== Sys2Proof/Machine/PowerLimits.lean ====
section
/-!
DEFINITION. State of power, caps and their coding (chapter 13), and the pack checks of stitch 41.
-/
namespace Sys2Proof.Machine

/-! ### State of power (R311–R313) -/

/-- Linear interpolation in a table of pairs, its end factors held outside. -/
def derate (tab : List (Rat × Rat)) (t : Rat) : Rat :=
  match tab with
  | [] => 100
  | p :: rest =>
    if t ≤ p.1 then p.2
    else
      match rest with
      | [] => p.2
      | q :: _ => if t ≤ q.1 then lerp p.1 q.1 p.2 q.2 t else derate rest t

/-- The derating factor of a group, in %: its node's temperature, else the smallest over the usable ones (R313). -/
def State.factor (s : State) (tab : List (Rat × Rat)) (id : CellId) : Rat :=
  match s.nodeTemp id with
  | some t => derate tab t
  | none =>
    let l := (((s.acq.prevTemps.map fun p => p.2).flatten).filter Rec.usable).map fun r => derate tab ((r.value : Rat) / 100)
    if l.isEmpty then s.img.f.power.derateAbsent else l.foldl min (l.headD 0)

/-- One group for a horizon: OCV in V, R_h in Ω, and the limits in A (Table 13-1). -/
structure GroupLimit where
  ocv : Rat
  r : Rat
  d : Rat
  c : Rat

/-- A group's limits over h seconds. -/
def State.groupLimit (s : State) (h scale : Rat) (x : PubCell) : GroupLimit :=
  let f := s.img.f.power
  let ocv := ocvAt (ocvCurve s.img.f.est (s.ocvTemp x.id)) x.soc / 1000
  let r := x.res / 1000000 * scale
  let q (d : Rat) : Rat := d / 100 * x.cap * 3600 / h
  let least (a b c : Rat) : Rat := max 0 (min a (min b c))
  { ocv := ocv, r := r
    d := least (Config.quot (ocv - f.vMin / 1000) r) (q (x.soc - f.socMin)) (f.iDis * s.factor f.derateD x.id / 100)
    c := least (Config.quot (f.vMax / 1000 - ocv) r) (q (f.socMax - x.soc)) (f.iChg * s.factor f.derateC x.id / 100) }

/-- The pack powers of a horizon in kW (R312). -/
def State.packPower (s : State) (set : PubSet) (h scale : Rat) : Rat × Rat :=
  let l := set.cells.map (s.groupLimit h scale)
  let least (v : List Rat) : Rat := v.foldl min (v.headD 0)
  let id_ := least (l.map fun g => g.d)
  let ic := least (l.map fun g => g.c)
  (id_ * (l.map fun g => max 0 (g.ocv - id_ * g.r)).sum / 1000, ic * (l.map fun g => g.ocv + ic * g.r).sum / 1000)

/-- The horizons in s. -/
def horizons : List Nat := [2, 10, 30]

/-- Every P_d,h and P_c,h: zero before the first published set and while the pack values are invalid. -/
def State.allPowers (s : State) : List Rat × List Rat :=
  match s.seam.pub with
  | none => ([0, 0, 0], [0, 0, 0])
  | some set =>
    if set.pack.invalid then ([0, 0, 0], [0, 0, 0])
    else
      let l := (List.range 3).map fun i => s.packPower set (horizons.getD i 2) (s.img.f.power.rScale.getD i 1)
      (l.map fun p => p.1, l.map fun p => p.2)

/-! ### Totals and apportioning (R314–R316) -/

/-- A group record beyond the upper, or the lower, limit (R314): RANGE counts as the upper, ABSENT as neither. -/
def State.recOver (s : State) (r : Rec) : Bool :=
  !r.absent && (r.hasRange || decide ((100 * s.img.f.thread.ov : Nat) ≤ r.value))
@[inherit_doc State.recOver] def State.recUnder (s : State) (r : Rec) : Bool :=
  !r.absent && !r.hasRange && decide (r.value ≤ (100 * s.img.f.thread.uv : Nat))

/-- The floors of R315, taken in order from a budget: what is left, and what each consumer has. -/
def takeFloors (budget : Rat) : List Share → Rat × List Rat
  | [] => (budget, [])
  | x :: rest =>
    let a := min (min x.floor x.ceiling) budget
    let (b, l) := takeFloors (budget - a) rest
    (b, a :: l)

/-- One pass of sharing by weight: the budget left, the allocations, and those still active. -/
def sharePass (x : List Share) (budget : Rat) (a : List Rat) (act : List Bool) : Rat × List Rat × List Bool :=
  let n := List.range x.length
  let on (k : Nat) : Bool := act.getD k false
  let sh (k : Nat) : Share := x.getD k ⟨0, 0, 0⟩
  let w : Rat := (n.map fun k => if on k then ((sh k).weight : Rat) else 0).sum
  let part (k : Nat) : Rat := a.getD k 0 + budget * ((sh k).weight : Rat) / w
  let full (k : Nat) : Bool := on k && decide ((sh k).ceiling ≤ part k)
  if n.any full then
    (budget - (n.map fun k => if full k then (sh k).ceiling - a.getD k 0 else 0).sum,
     n.map fun k => if full k then (sh k).ceiling else a.getD k 0,
     n.map fun k => on k && !full k)
  else (0, n.map fun k => if on k then part k else a.getD k 0, act)

/-- The passes: each one that goes on fills a consumer. -/
def sharePasses : Nat → List Share → Rat → List Rat → List Bool → List Rat
  | 0, _, _, a, _ => a
  | n + 1, x, budget, a, act =>
    if 0 < budget ∧ act.any (fun b => b) = true then
      let (b, a1, act1) := sharePass x budget a act
      sharePasses n x b a1 act1
    else a

/-- CAP_APPORTION (R315): one direction; whether the floors together exceed the total. -/
def apportion (x : List Share) (total : Rat) : List Rat × Bool :=
  let (b, a) := takeFloors total x
  let act := (List.range x.length).map fun k =>
    let s := x.getD k ⟨0, 0, 0⟩
    decide (0 < s.weight) && decide (a.getD k 0 < s.ceiling)
  (sharePasses 7 x b a act, decide (total < (x.map fun s => min s.floor s.ceiling).sum))

/-- The rise limit and the truncation to the pin's resolution, or to 1 W (R316). Δt in s. -/
def Consumer.limit (c : Consumer) (steps : Nat) (sh : Share) (a prev dt : Rat) : Rat :=
  let fs := c.fullScale.getD sh.ceiling
  let v := min a (prev + c.rise / 100 * fs * dt)
  match c.fullScale with
  | some f => let q := f / steps; if q = 0 then v else ((v / q).floor : Rat) * q
  | none => ((v * 1000).floor : Rat) / 1000

/-- Steps of a pin's scale: 50,000 at 4 kHz and 12,500 at 16 kHz (R318). -/
def State.capSteps (s : State) : Nat := if s.code.capFast then 12500 else 50000

/-- The code of a cap value on its pin (R318). -/
def capCode (steps : Nat) (fullScale p : Rat) : Nat :=
  if p < 0 then 0 else if fullScale ≤ p then steps else (Config.quot p fullScale * steps).floor.toNat

/-- Runs of a group beyond a limit (R317): a record within the limit breaks the run, one without a value leaves it. -/
def groupRuns (recs : List Rec) (beyond : Rec → Bool) (old : List (CellId × Nat)) : List (CellId × Nat) :=
  ((List.range recs.length).filterMap fun i =>
    let r := streamAt recs i
    let n := (lookupKey (i + 1) old).getD 0
    if r.absent then (if n = 0 then none else some (i + 1, n))
    else if beyond r then some (i + 1, n + 1) else none)


/-- The limits, totals and caps of the present snap. -/
def State.computePower (s : State) : State :=
  let f := s.img.f.power
  let (pd, pc) := s.allPowers
  let i := horizons.idxOf f.horizon
  let recs := s.groupRecs
  let td := if recs.any s.recUnder then 0 else min (pd.getD i 0) f.pDis
  let tc := if recs.any s.recOver then 0 else min (pc.getD i 0) f.pChg
  let (ad, ed) := apportion (s.img.f.consumers.map fun c => c.d) td
  let (ac, ec) := apportion (s.img.f.consumers.map fun c => c.c) tc
  let dt : Rat := (s.pace.dt : Rat) / 100000000
  let caps := (List.range s.img.f.consumers.length).map fun k =>
    match s.img.f.consumers[k]? with
    | none => (0, 0)
    | some c =>
      let p := s.pow.latched.getD k (0, 0)
      (c.limit s.capSteps c.d (ad.getD k 0) (if s.pow.zeroD then 0 else p.1) dt,
       c.limit s.capSteps c.c (ac.getD k 0) (if s.pow.zeroC then 0 else p.2) dt)
  let invalid := match s.seam.pub with | some set => set.pack.invalid | none => false
  let iv := s.pow.invalidRuns.step invalid
  let fl := s.pow.floorRuns.step (ed || ec)
  let noTemp := (((s.acq.prevTemps.map fun p => p.2).flatten).filter Rec.usable).isEmpty
  let s1 : State := { s with pow := { s.pow with
    pd := pd, pc := pc, lastPd := s.pow.pd, lastPc := s.pow.pc,
    totalD := td, totalC := tc, caps := caps, capRound := some s.pace.round, invalidRuns := iv, floorRuns := fl
    above := groupRuns recs s.recOver s.pow.above, below := groupRuns recs s.recUnder s.pow.below } }
  let s2 := s1.judge2 0x660 0 invalid (decide (100 ≤ iv.good))
  (s2.judge 0x661 0 (noTemp && s.seam.pub.isSome)).judge2 0x662 0 (ed || ec) (decide (100 ≤ fl.good))

/-- First and last time a cause was found clear, with one more finding at t. -/
def clearSpan (x : Option (Ns × Ns)) (t : Ns) : Ns × Ns := match x with | some p => (p.1, max p.2 t) | none => (t, t)

/-- TRIP_REQUEST (R317), and how long every group has been found within its limits (R325). -/
def State.tripRequest (s : State) : State :=
  let n := s.img.f.fast.tripReads
  let far (l : List (CellId × Nat)) : Bool := l.any fun p => decide (n ≤ p.2)
  let recs := s.groupRecs
  let fine := recs.all fun r => !r.absent && !s.recOver r && !s.recUnder r
  let stands := s.fast.causes.any fun c => c.event == FastEvent.request
  let s1 := if 0 < n ∧ (far s.pow.above || far s.pow.below) = true ∧ stands = false then
      ({ s with fast := { s.fast with
          request := true
          causes := FastCause.mk .request 2 none :: s.fast.causes } } : State).raise 0x685 0
    else s
  let upd (c : FastCause) : FastCause := { c with clear := if fine then some (clearSpan c.clear s.now) else none }
  { s1 with fast := { s1.fast with causes := updWhere (fun c => c.event == FastEvent.request) upd s1.fast.causes } }

/-- PACK_CHECKS (R17, R175, R176, R179, R311–R317): in stitches 41–61 the streams of the snap are formed from the records held, and
the acquisition, limits, caps and trip request are judged, once a round. -/
def packChecks (t : Ns) (s : State) : State :=
  if !s.rounds || !s.tc1Up || s.pow.capRound == some s.pace.round || s.pace.stitch < 41 || 61 < s.pace.stitch then s
  else ((s.at t).settleReads.formStreams.voltageCheck.channelCheck.groupCheck.computePower.tripRequest.ledgerEnergy)

/-! ### Pins (R318, R319, R323) -/

/-- What a CAP pin shows (Table 13-2): nothing of this device's (high impedance, pulled low), a continuous low driven by it (R49), forced
zero, or a code. -/
inductive CapCoding
  | undriven
  | static
  | forced
  | plain (code : Nat)
  deriving DecidableEq, Repr

/-- The level of TRIP_N as this device drives it; none where it does not drive it. -/
def State.tripN (s : State) : Option Bool :=
  if s.drives && s.domainOn 2 then some (!s.fast.trip && !s.fast.request) else none

/-- TRIP_N is asserted by this device's own state (R323). -/
def State.tripped (s : State) : Bool := s.fast.trip || s.fast.request

/-- A zero is forced in a direction (R321, R323). -/
def State.forced (s : State) (d : Dir) : Bool :=
  s.tripped || (match d with | .discharge => s.fast.forcedD | .charge => s.fast.forcedC)

/-- What pin k codes: a pin that RSEL_CAPS leaves inactive is driven low by the owner (R49). -/
def State.capPin (s : State) (k : Nat) : CapCoding :=
  if !s.drivesCaps || !s.domainOn 2 then .undriven
  else if !decide (k < s.code.capPins) then .static
  else
    match s.img.f.consumers[k]? with
    | none => .static
    | some c =>
      let z := match c.pinDir with | .discharge => s.pow.zeroD | .charge => s.pow.zeroC
      if s.forced c.pinDir then .forced
      else if s.pow.frozen || s.pow.latchMissing || z then .plain 0
      else
        let p := s.pow.latched.getD k (0, 0)
        .plain (capCode s.capSteps (c.fullScale.getD 0) (match c.pinDir with | .discharge => p.1 | .charge => p.2))

/-- The period T in fast cycles of 4 ns, the high time of zero power, and that of forced zero (R318). -/
def State.capTimes (s : State) : Nat × Nat × Nat := if s.code.capFast then (15625, 1562, 781) else (62500, 6250, 3125)

/-- The high time of a coded period in fast cycles; 0 where the pin is not driven high. -/
def State.capHigh (s : State) : CapCoding → Nat
  | .undriven => 0
  | .static => 0
  | .forced => s.capTimes.2.2
  | .plain c => s.capTimes.2.1 + c

/-- The level of CAP pin k at x fast cycles after its coding last began anew, at a latch (R319) or at a forced zero (R324); none where
this device does not drive it. -/
def State.capLevel (s : State) (k x : Nat) : Option Bool :=
  match s.capPin k with
  | .undriven => none
  | c => some (decide (x % s.capTimes.1 < s.capHigh c))

/-- The caps of the snap as they are latched: a zero coded since they were formed limits their rise from zero (R316, R325). -/
def State.capsInForce (s : State) : List (Rat × Rat) :=
  let dt : Rat := (s.pace.dt : Rat) / 100000000
  (List.range s.pow.caps.length).map fun k =>
    let p := s.pow.caps.getD k (0, 0)
    match s.img.f.consumers[k]? with
    | none => p
    | some c =>
      (if s.pow.zeroD then c.limit s.capSteps c.d p.1 0 dt else p.1, if s.pow.zeroC then c.limit s.capSteps c.c p.2 0 dt else p.2)

/-- The cap latch of stitch 63 (R319): each coder takes the cap of the snap; a forced zero prevails (R24). Where TC1 has formed no cap for
the snap the coders receive no latch, and keep what they code. -/
def State.latchCaps (s : State) : State :=
  if s.pow.capRound == some s.pace.round then
    { s with pow := { s.pow with
        latched := s.capsInForce, zeroD := s.forced .discharge || s.pow.frozen, zeroC := s.forced .charge || s.pow.frozen
        latchMissing := false, latchAt := some s.pace.round } }
  else s

/-- The round ends: a coder that drives its pin has expected a latch at its stitch 63 (R458). -/
def State.latchWatch (s : State) : State :=
  let missed := s.drivesCaps && s.domainOn 2 && !(s.pow.latchAt == some s.pace.round)
  { s with pow := { s.pow with latchMisses := if missed then s.pow.latchMisses + 1 else 0 } }

end Sys2Proof.Machine
end

