-- ==== Sys2Proof/Machine/Fast.lean ====
section
/-!
DEFINITION. The fast path (R321–R328): its events, what they force, and their release.
-/
namespace Sys2Proof.Machine

/-- The fault of an event (Table 13-3). -/
def fastFault : FastEvent → Nat
  | .disOver => 0x680
  | .chgOver => 0x681
  | .cellOv => 0x682
  | .cellUv => 0x683
  | .persist => 0x684
  | .request => 0x685

/-- Fast cycles of 4 ns from an event's origin to the edge at TRIP_N, or at a CAP pin that begins its forced zero (R324, Table 13-4);
`filter` is `FAST.ish.filter`. -/
def fastCycles (filter : Nat) (capPin : Bool) : FastEvent → Nat
  | .disOver => 9 + filter + capPin.toNat
  | .chgOver => 9 + filter + capPin.toNat
  | .request => 6 + capPin.toNat
  | _ => 10 + capPin.toNat

/-- The direction an event's zero forces. -/
def fastDir : FastEvent → Dir
  | .chgOver => .charge
  | .cellOv => .charge
  | _ => .discharge

/-- The action the image gives an event: 0 none, 1 zero of its direction, 2 trip. -/
def FastFields.action (f : FastFields) : FastEvent → Nat
  | .disOver => f.disAction
  | .chgOver => f.chgAction
  | .cellOv => f.ovAction
  | .cellUv => f.uvAction
  | _ => 2

/-- Forced zeros follow the causes that stand; a direction released codes plain zero until the next latch (R325). -/
def State.refreshForced (s : State) : State :=
  let on (d : Dir) : Bool := s.fast.causes.any fun c => c.action == 1 && fastDir c.event == d
  let d := on .discharge
  let c := on .charge
  let t := s.tripped
  { s with
      fast := { s.fast with forcedD := d, forcedC := c }
      pow := { s.pow with zeroD := s.pow.zeroD || d || s.fast.forcedD || t, zeroC := s.pow.zeroC || c || s.fast.forcedC || t } }

/-- FORCED_ZERO (R321, R323): an event takes the action the image configures, and raises its fault. A comparator's current can have
stayed below its threshold since the instant of the event at the earliest (R325). -/
def State.fastEvent (s : State) (e : FastEvent) : State :=
  let a := s.img.f.fast.action e
  let since := match e with | .disOver => some (s.now, s.now) | .chgOver => some (s.now, s.now) | _ => none
  let causes := FastCause.mk e a since :: s.fast.causes.filter fun c => !(c.event == e)
  let s1 : State := { s with
    fast := { s.fast with
      causes := causes, trip := s.fast.trip || decide (a = 2), tripAt := if s.fast.trip then s.fast.tripAt else s.now }
    out := { s.out with capsEvents := s.out.capsEvents ++ [e] } }
  s1.refreshForced.raise (fastFault e) 0

/-- The direction a comparator sees (R171, R321): positive raw polarity is discharge, or charge where the shunt is inverted; so of the
open Kelvin input of R174, which is positive. -/
def State.compDir (s : State) (x : CompEvent) : Dir :=
  let invert := match x.shunt with | .a => s.img.f.acq.invertA | .b => s.img.f.acq.invertB | .store => false
  if x.positive == invert then .charge else .discharge

/-- COMPARATOR_EVENT (R321): qualified by the hardware filter; a shunt not fitted has no comparator. -/
def comparatorEvent (x : CompEvent) (s : State) : State :=
  let fitted := match x.shunt with
    | .a => !(s.img.f.acq.rA == 0)
    | .b => !(s.img.f.acq.rB == 0)
    | .store => false
  if !s.domainOn 2 || !fitted then s
  else (s.at x.t).fastEvent (match s.compDir x with | .discharge => .disOver | .charge => .chgOver)

/-- The limit flags of a READ (Table 5-3) and its group voltages, when R322 lets the ports decode it: the node, whether its
flags are armed, the flags and the raw voltages in 100 µV. -/
def State.limitRead (s : State) (x : ThreadRx) : Option (NodeId × BitVec 16 × List Nat) :=
  match s.portEnd x.port with
  | none => none
  | some (port, _) =>
    if !frameValid sofN x 43 then none
    else
      let l := readBody (rxBytes x)
      let pos := byteAt l 0 % 32
      let id := nodeId port pos
      match s.node id with
      | none => none
      | some n =>
        if byteAt l 0 / 64 = 0 ∧ byteAt l 1 = s.pace.round % 256 ∧ pos < s.ringLen port ∧ n.configured = true ∧
            n.lastEpoch = some (byteAt l 2 / 16) then
          some (id, BitVec.ofNat 16 (byteAt l 5 * 256 + byteAt l 6), readVolts l)
        else none

/-- One group's flag in an armed READ; `first`: of the node's in this round, which alone counts toward persistence. -/
def State.groupFlag (s : State) (id : CellId) (flag first : Bool) (volt : Nat) (t : Ns) : State :=
  let clear (g : FlaggedGroup) : FlaggedGroup := { g with clear := if flag then none else some (clearSpan g.clear t) }
  let s0 : State := { s with fast := { s.fast with flagged := updWhere (fun g => g.id == id) clear s.fast.flagged } }
  if !flag then (if first then { s0 with fast := { s0.fast with runs := eraseKey id s0.fast.runs } } else s0)
  else
    let run := match lookupKey id s0.fast.runs with
      | some (r, n) => if r + 1 = s.pace.round then n + 1 else 1
      | none => 1
    let e : FastEvent := if s.img.f.fast.split * 10 < (volt : Rat) then .cellOv else .cellUv
    let mark (u : State) (e : FastEvent) : State :=
      { u with fast := { u.fast with
          flagged := FlaggedGroup.mk e id none :: u.fast.flagged.filter fun g => !(g.event == e && g.id == id) } }
    let s1 : State := if first then { s0 with fast := { s0.fast with runs := insertKey id (s.pace.round, run) s0.fast.runs } } else s0
    let s2 := (mark s1 e).fastEvent e
    let n := s.img.f.fast.tripReads
    if first && decide (0 < n) && decide (n ≤ run) then (mark s2 .persist).fastEvent .persist else s2

/-- CELL_LIMIT_FLAG (R322): the armed flags of a READ, group by group. -/
def cellLimitFlag (x : ThreadRx) (s : State) : State :=
  match s.limitRead x, s.img.variant with
  | some (id, flags, volts), some v =>
    let cells := v.nodeCells id
    let first := !(lookupKey id s.fast.seen == some s.pace.round)
    let s0 := s.at x.t
    let s1 : State := { s0 with fast := { s0.fast with seen := insertKey id s.pace.round s0.fast.seen } }
    (List.range cells.length).foldl (fun u g => u.groupFlag (cells.getD g 0) (flags.getLsbD g) first (volts.getD g 65535) x.t) s1
  | _, _ => s

/-- The hold time of a cause in ns (R325). -/
def State.fastHold (s : State) (c : FastCause) : Ns :=
  1000000 * (if c.action = 2 then s.img.f.fast.tripHold else s.img.f.fast.zeroHold)

/-- A cause has been clear for its hold time. The 90 % threshold of a comparator is the hardware's own (R23), whose word the command is;
the hold time has passed since the last event. A cell event's clearing is that of every flagged group,
shown by READs that span it; a trip request's is TC1's finding, snap by snap. -/
def State.causeClear (s : State) (c : FastCause) (t : Ns) : Bool :=
  let held (x : Option (Ns × Ns)) : Bool :=
    match x with | some a => decide (a.1 + s.fastHold c ≤ a.2) && decide (a.2 ≤ t) | none => false
  match c.event with
  | .disOver => match c.clear with | some a => decide (a.1 + s.fastHold c ≤ t) | none => true
  | .chgOver => match c.clear with | some a => decide (a.1 + s.fastHold c ≤ t) | none => true
  | .request => held c.clear
  | e => (s.fast.flagged.filter fun g => g.event == e).all fun g => held g.clear

/-- A trip is released once every trip cause has cleared and the lock state is IDLE, where the image allows it (R325). -/
def State.releaseTrip (s : State) : State :=
  if s.img.f.fast.release && s.tripped && !(s.fast.causes.any fun c => c.action == 2) && s.pace.lock == Lock.idle then
    let s1 : State := { s with
      fast := { s.fast with trip := false, request := false }
      pow := { s.pow with zeroD := true, zeroC := true } }
    (s1.clear 0x684 0).clear 0x685 0
  else s

/-- FAST_PATH_RELEASE (R325). -/
def fastPathRelease (e : FastEvent) (t : Ns) (s : State) : State :=
  match s.fast.causes.find? fun c => c.event == e with
  | none => s
  | some c =>
    if !s.causeClear c t then s
    else
      let s1 : State := { s with fast := { s.fast with
        causes := s.fast.causes.filter fun c => !(c.event == e), flagged := s.fast.flagged.filter fun g => !(g.event == e) } }
      let s2 := (s1.at t).refreshForced
      let s3 := match e with
        | .persist => s2
        | .request => s2
        | _ => s2.clear (fastFault e) 0
      s3.releaseTrip

/-- PIN_READBACK_MISMATCH (R328): at a pin that this device drives; an inactive CAP pin is driven low (R49). -/
def pinReadbackMismatch (p : FastPin) (s : State) : State :=
  let driven := match p with
    | .tripN => s.tripN.isSome
    | .cap k => decide (k < 6) && !(s.capPin k == .undriven)
  if driven = true then s.raiseFor 0x686 0 100 else s

end Sys2Proof.Machine
end

