-- ==== Sys2Proof/Machine/Codec.lean ====
section
/-!
DEFINITION. Field coding of published frames (R426) and the parts of a received frame.
-/
namespace Sys2Proof.Machine

/-- An unsigned field of n bytes (R426): all ones is not available, all ones less one saturated. -/
def fieldU (n : Nat) (v : Option Int) : List Byte :=
  let top : Int := 256 ^ n
  match v with
  | none => beBytes n (256 ^ n - 1)
  | some x => if top - 3 < x then beBytes n (256 ^ n - 2) else beBytes n x.toNat

/-- A signed field of n bytes (R426). -/
def fieldS (n : Nat) (v : Option Int) : List Byte :=
  let half : Int := (256 ^ n / 2 : Nat)
  let wrap (x : Int) : Nat := if x < 0 then (x + 256 ^ n).toNat else x.toNat
  match v with
  | none => beBytes n (256 ^ n / 2)
  | some x =>
    if half - 2 < x then beBytes n (256 ^ n / 2 - 1)
    else if x < 2 - half then beBytes n (256 ^ n / 2 + 1)
    else beBytes n (wrap x)

/-- The exact SoC code of Table 8-1, before rounding. -/
def socExact (s : Rat) : Rat := (s + 2) * 500

/-- A SoC field: a point value to the nearest code, a bracket edge outward (R426). -/
def fieldSoc (s : Option Rat) : List Byte := fieldU 2 (s.map fun x => nearest (socExact x))
@[inherit_doc fieldSoc] def fieldLo (s : Option Rat) : List Byte := fieldU 2 (s.map fun x => (socExact x).floor)
@[inherit_doc fieldSoc] def fieldHi (s : Option Rat) : List Byte := fieldU 2 (s.map fun x => (socExact x).ceil)

/-- A quantity in units of u, to the nearest code. -/
def fieldR (n : Nat) (u : Rat) (v : Option Rat) : List Byte := fieldU n (v.map fun x => nearest (x / u))

/-- The number in bytes i to i + n − 1. -/
def natAt (l : List Byte) (i n : Nat) : Nat := beNat ((l.drop i).take n)

/-- One bit of byte i. -/
def bitAt (l : List Byte) (i k : Nat) : Bool := (l.getD i 0).getLsbD k

/-- The code of a path state (Table 14-3). -/
def pathCode : PathState → Nat
  | .down => 0
  | .rampM => 1
  | .vehicle => 2
  | .handover => 3
  | .reserve => 4
  | .handback => 5
  | .cool => 6
  | .latched => 7

/-- The code of a lock state (Table 4-2). -/
def lockCode : Lock → Nat
  | .lock => 0
  | .track => 1
  | .hold => 2
  | .idle => 3
  | .transition => 4

/-- The code of a role (Table 17-2). -/
def roleCode : Role → Nat
  | .owner => 0
  | .provisional => 1
  | .listener => 2
  | .witness => 3

/-- The role of a code. -/
def roleOf : Nat → Role
  | 0 => .owner
  | 1 => .provisional
  | 2 => .listener
  | _ => .witness

/-- A ledger entry in BURST entry form (Table 17-8), with its state and elapsed time in ms. -/
def burstEntry (state : Nat) (e : LedgerEntry) (elapsed : Nat) : List Byte :=
  beBytes 1 state ++ beBytes 1 0 ++ beBytes 4 (e.round % 2 ^ 32) ++ fieldU 2 (some elapsed) ++ fieldR 2 1 (some e.power) ++
    fieldU 2 (some e.duration) ++ fieldR 2 (1 / 10000) (some e.rb) ++ fieldR 2 (1 / 10000) (some e.ed)

/-- An entry of state none. -/
def noEntry : List Byte := List.replicate 16 0

end Sys2Proof.Machine
end

