-- ==== Sys2Proof/Machine/PeerOps.lean ====
section
/-!
DEFINITION. PEER frames (R440–R445): building, authenticating and reading them, and the questions
chapter 15 asks about the seats.
-/
namespace Sys2Proof.Machine

/-! ### The seats (R362, R363) -/

/-- The fitted seats, in ascending order. -/
def State.fitted (s : State) : List Nat := (List.range 4).filter fun k => s.img.f.own.seats.testBit k

/-- The attached seats (R362): fixed by the variant; S0 and S1 while none is in use. -/
def State.attachedSeats (s : State) : List Nat :=
  match s.img.variant with
  | some v => if v.twoSeats then [0, 1] else [0]
  | none => [0, 1]

/-- The next fitted seat upward in the ring, and downward (R363). -/
def State.upSeat (s : State) : Nat := ((s.fitted.find? fun k => decide (s.seat < k)).orElse fun _ => s.fitted.head?).getD 0
@[inherit_doc State.upSeat] def State.downSeat (s : State) : Nat :=
  ((s.fitted.reverse.find? fun k => decide (k < s.seat)).orElse fun _ => s.fitted.getLast?).getD 0

/-- The neighbour on a side. -/
def State.neighbour (s : State) : CutSide → Nat
  | .up => s.upSeat
  | .down => s.downSeat

def State.view (s : State) (k : Nat) : Option SeatView := s.own.views.find? fun v => v.seat == k

def State.updView (s : State) (k : Nat) (f : SeatView → SeatView) : State :=
  let known := s.own.views.any fun v => v.seat == k
  let l := if known then updWhere (fun v => v.seat == k) f s.own.views else s.own.views ++ [f (SeatView.fresh k)]
  { s with own := { s.own with views := l } }

/-- A seat whose BEATs are being received. -/
def State.live (s : State) (v : SeatView) : Bool := v.beat.isSome && decide (v.missed < s.img.f.own.beatMiss)

/-- The links operate: P6 is powered, more than one seat is fitted, and the domain key is provisioned (R364, R441). -/
def State.peerOn (s : State) : Bool :=
  s.domainOn 6 && s.tc1Up && decide (1 < s.fitted.length) && s.fitted.contains s.seat && s.nv.fuses.domainKey.isSome

/-! ### Eligibility (Table 15-2) -/

/-- The Image and the Self-test condition of the device itself. -/
def State.imageOk (s : State) : Bool := !s.img.rom && s.img.digest.length == 32
@[inherit_doc State.imageOk] def State.selfOk (s : State) : Bool := s.tst.passed

/-- A BEAT shows the Image and Self-test conditions met. -/
def Beat.basic (b : Beat) : Bool := b.elig.getLsbD 0 && b.elig.getLsbD 2

/-- The reference seat, where it is another seat: its BEAT (Table 15-2, Digest). -/
def State.reference (s : State) : Option Beat :=
  let others := s.own.views.filter fun v => s.live v && (match v.beat with | some b => b.basic | none => false)
  let lowest := others.foldl (fun (a : Option SeatView) v => match a with
    | some w => if v.seat < w.seat then some v else a
    | none => some v) none
  match lowest with
  | some v => if s.imageOk && s.selfOk && decide (s.seat < v.seat) then none else v.beat
  | none => none

/-- The digest equals the reference seat's, and the code word does. -/
def State.digestMatch (s : State) : Bool := match s.reference with | some b => b.digest == s.img.digest | none => true
@[inherit_doc State.digestMatch] def State.wordMatch (s : State) : Bool :=
  match s.reference with | some b => b.codeWord == s.code.word.toNat | none => true

/-- The nine conditions of Table 15-2 in row order. -/
def State.conditions (s : State) : List Bool :=
  [s.imageOk, s.digestMatch && s.wordMatch, s.selfOk, s.pat.passed, s.fitted.contains s.seat && !s.own.seatBad,
   !s.own.unaligned && s.own.parkedOwner.isNone,
   !s.own.cut, s.flt.safeN && !(s.own.abandoned == some 2 || s.own.abandoned == some 3), !s.own.outvoted]

/-- Eligibility bits as BEAT carries them (Table 17-14). -/
def State.eligBits (s : State) : BitVec 9 :=
  BitVec.ofNat 9 ((List.range 9).foldl (fun a i => a + (if s.conditions.getD i false then 2 ^ i else 0)) 0)

/-- This seat is eligible (R371). -/
def State.ownEligible (s : State) : Bool := s.conditions.all fun b => b

/-- A seat is eligible, by its own conditions or by its latest BEAT. -/
def State.seatEligible (s : State) (k : Nat) : Bool :=
  if k = s.seat then s.ownEligible
  else match s.view k with
    | some v => s.live v && (match v.beat with | some b => b.elig == 511 | none => false)
    | none => false

/-- A seat meets the Image and Self-test conditions. -/
def State.seatBasic (s : State) (k : Nat) : Bool :=
  if k = s.seat then s.imageOk && s.selfOk
  else match s.view k with
    | some v => s.live v && (match v.beat with | some b => b.basic | none => false)
    | none => false

/-- INSTALL is honoured (R35). -/
def State.installHonoured (s : State) : Bool :=
  s.strap.latched.install && (s.strap.maintAtLatch || !(s.nv.fuses.lifecycle == Lifecycle.field))

/-- The turns of the pattern check are over (R372, R373): every attached seat has had its own or does not meet the conditions
for one, and one turn has run or no seat has come forward for one within `OWN.listen_max` rounds. -/
def State.turnsOver (s : State) : Bool :=
  (!s.pat.turnsDone.isEmpty || decide (s.own.since + s.img.f.own.listenMax ≤ s.pace.round)) &&
  s.attachedSeats.all fun k => s.pat.turnsDone.contains k || !s.seatBasic k

/-- The installation test of this boot is still to run (R155). -/
def State.installAwaited (s : State) : Bool :=
  s.installHonoured && s.attached && s.sup.bootKind == BootKind.cold && !s.pat.installDone

/-- The lowest-numbered eligible attached seat that a test admits. -/
def State.lowestEligible (s : State) (p : Nat → Bool) : Option Nat :=
  s.attachedSeats.find? fun k => p k && s.seatEligible k

/-- The seat in a role, another seat or this one. -/
def State.seatIn (s : State) (r : Role) : Option Nat :=
  if s.own.role == r then some s.seat else (s.own.views.find? fun v => v.role == r && s.fitted.contains v.seat).map fun v => v.seat

/-- The owner or provisional owner as this seat knows it. -/
def State.ownerSeat (s : State) : Option Nat := (s.seatIn .owner).orElse fun _ => s.seatIn .provisional

/-- The grid seat (R367). -/
def State.gridSeat (s : State) : Nat :=
  match s.ownerSeat with
  | some k => k
  | none => (s.own.views.filter fun v => v.beat.isSome).foldl (fun a v => min a v.seat) s.seat

/-! ### Building frames -/

/-- The tag of a frame (R441): over byte 0, bytes 5–17 and the payload, under the round key. -/
def peerTag (key : Nat) (round : Round) (head payload : List Byte) : List Byte :=
  let kr := Config.aesCmac key ([0x50, 0x45, 0x45, 0x52] ++ beBytes 6 round)
  (beBytes 16 (Config.aesCmac kr (head.take 1 ++ (head.drop 5).take 13 ++ payload))).take 8

/-- The header of a frame this seat originates (Table 17-13). -/
def State.peerHead (s : State) (type len : Nat) : List Byte :=
  beBytes 1 (type + 16 * s.seat) ++ [0] ++ beBytes 3 0 ++ beBytes 4 s.own.nonce ++ beBytes 6 (s.pace.round % 2 ^ 48) ++
    beBytes 1 s.own.seq ++ beBytes 2 len

/-- Send a frame on both links (R365). -/
def State.peerSend (s : State) (type : Nat) (payload : List Byte) : State :=
  if !s.peerOn || s.flt.peerStopped then s
  else
    let h := s.peerHead type payload.length
    let f := h ++ payload ++ peerTag (s.nv.fuses.domainKey.getD 0) (s.pace.round % 2 ^ 48) h payload
    { s with own := { s.own with seq := s.own.seq + 1, sent := s.own.sent ++ [(.up, f), (.down, f)] } }

/-- CLAIM (R444): 0 provisional, 1 elected, 2 accept, 3 forced, with the round of effect. -/
def State.sendClaim (s : State) (kind : Nat) (round : Round) : State := s.peerSend 2 (beBytes 1 kind ++ beBytes 6 round)

/-- YIELD (R444). -/
def State.sendYield (s : State) (succ reason : Nat) (h : Round) : State :=
  s.peerSend 3 (beBytes 1 succ ++ beBytes 1 reason ++ beBytes 6 h)

/-- A MIRROR item (R445). -/
def mirrorItem (type : Nat) (content : List Byte) : List Byte := beBytes 1 type ++ beBytes 2 content.length ++ content

/-- Send items, as many to a frame as its payload of 1,024 bytes takes; an item never spans two frames. -/
def State.sendItems (s : State) (items : List (List Byte)) : State :=
  let r := items.foldl (fun (a : State × List Byte) i =>
    if a.2.isEmpty then (a.1, i)
    else if 1024 < a.2.length + i.length then (a.1.peerSend 4 a.2, i) else (a.1, a.2 ++ i)) (s, [])
  if r.2.isEmpty then r.1 else r.1.peerSend 4 r.2

/-! ### BEAT (Table 17-14) -/

/-- The intent of a shut-down in progress. -/
def State.intent (s : State) : Intent :=
  match s.sup.shut with
  | some h => (match h.kind with | .park => .park | .ship => .ship | _ => .none_)
  | none => .none_

def intentCode : Intent → Nat
  | .none_ => 0
  | .park => 1
  | .ship => 2

/-- The state summary of the latest published set (R385). -/
def State.summary (s : State) : Summary :=
  match s.seam.pub with
  | none => ⟨0, 65535, 65535, 65535, 16777215, 16777215, 65535, false, false, s.sup.dev == DevState.run⟩
  | some p =>
    let ok := !p.pack.invalid
    let v (x : Rat) : Option Rat := if ok then some x else none
    ⟨p.snap % 2 ^ 48, beNat (fieldSoc (v p.pack.soc)), beNat (fieldLo (v p.pack.lo)), beNat (fieldHi (v p.pack.hi)),
     beNat (fieldR 3 1 ((v s.pow.totalD).map fun x => x * 1000)), beNat (fieldR 3 1 ((v s.pow.totalC).map fun x => x * 1000)),
     beNat (fieldR 2 (1 / 100) (if p.hem.valid then some p.hem.energy else none)), ok, p.hem.valid, s.sup.dev == DevState.run⟩

/-- The time of an entry for a round, 0 where there is none. -/
def timeFor (r : Round) (l : List (Round × Ns)) : Ns := ((l.find? fun x => x.1 == r).map fun x => x.2).getD 0

/-- The BEAT this seat sends now (R443). -/
def State.makeBeat (s : State) : Beat :=
  let r := s.pace.round
  { round := r, die := s.nv.fuses.dieId.getD 0, role := s.own.role, lock := lockCode s.pace.lock, cut := s.own.cut, trip := s.fast.trip
    safeN := s.flt.safeN, path := pathCode s.res.path, intent := s.intent, pending := !s.res.answers.isEmpty
    refRes := (nearest (s.res.ref * 1000)).toNat, codeWord := s.code.word.toNat
    digest := if s.img.rom then List.replicate 32 0 else s.img.digest
    elig := s.eligBits, sof := s.now - s.pace.start
    uDep := timeFor (r - 1) s.own.linkU.dep, uArr := timeFor (r - 1) s.own.linkU.arr
    dDep := timeFor (r - 1) s.own.linkD.dep, dArr := timeFor (r - 1) s.own.linkD.arr, sum := s.summary }

/-- The payload of a BEAT. -/
def Beat.bytes (b : Beat) : List Byte :=
  beBytes 8 b.die ++
  beBytes 1 (roleCode b.role + 4 * b.lock + 32 * b.cut.toNat + 64 * b.trip.toNat + 128 * b.safeN.toNat) ++
  beBytes 1 (b.path + 8 * intentCode b.intent + 32 * b.pending.toNat) ++ beBytes 2 b.refRes ++ beBytes 4 (b.codeWord % 2 ^ 32) ++
  b.digest ++ beBytes 2 b.elig.toNat ++ beBytes 4 b.sof ++ beBytes 8 b.uDep ++ beBytes 8 b.uArr ++ beBytes 8 b.dDep ++ beBytes 8 b.dArr ++
  beBytes 6 b.sum.snap ++ beBytes 2 b.sum.soc ++ beBytes 2 b.sum.lo ++ beBytes 2 b.sum.hi ++ beBytes 3 b.sum.pD ++ beBytes 3 b.sum.pC ++
  beBytes 2 b.sum.eHem ++ beBytes 1 (b.sum.packOk.toNat + 2 * b.sum.hemOk.toNat + 4 * b.sum.inRun.toNat) ++
  beBytes 1 (b.codeWord / 2 ^ 32)

/-- The BEAT a payload carries. -/
def readBeat (round : Round) (p : List Byte) : Beat :=
  let b8 := byteAt p 8
  let b9 := byteAt p 9
  { round := round, die := natAt p 0 8, role := roleOf (b8 % 4), lock := b8 / 4 % 8, cut := bitAt p 8 5, trip := bitAt p 8 6
    safeN := bitAt p 8 7, path := b9 % 8, intent := (match b9 / 8 % 4 with | 1 => .park | 2 => .ship | _ => .none_), pending := bitAt p 9 5
    refRes := natAt p 10 2, codeWord := natAt p 12 4 + 2 ^ 32 * byteAt p 107, digest := (p.drop 16).take 32
    elig := BitVec.ofNat 9 (natAt p 48 2), sof := natAt p 50 4, uDep := natAt p 54 8, uArr := natAt p 62 8, dDep := natAt p 70 8
    dArr := natAt p 78 8
    sum := ⟨natAt p 86 6, natAt p 92 2, natAt p 94 2, natAt p 96 2, natAt p 98 3, natAt p 101 3, natAt p 104 2, bitAt p 106 0, bitAt p 106 1,
            bitAt p 106 2⟩ }

/-! ### Receiving (R365, R366, R442) -/

/-- What a receiver makes of a frame: not accepted, or accepted with its origin, round and payload. -/
structure PeerFrame where
  origin : Nat
  hops : Nat
  residence : Nat
  round : Round
  payload : List Byte
  deriving DecidableEq, Repr

/-- An authentication failure is counted for its link (R366). -/
def State.peerFail (s : State) (side : CutSide) : State :=
  match side with
  | .up => { s with own := { s.own with linkU := { s.own.linkU with fails := s.own.linkU.fails + 1 } } }
  | .down => { s with own := { s.own with linkD := { s.own.linkD with fails := s.own.linkD.fails + 1 } } }

/-- The frame goes on in its direction within 2 µs, unless the next seat is its origin (R365); hops and residence grow (R440). -/
def State.forward (s : State) (x : PeerRx) (origin : Nat) : State :=
  let out : CutSide := match x.side with | .up => .down | .down => .up
  if decide (s.neighbour out = origin) || s.flt.peerStopped then s
  else
    let f := x.bytes.take 1 ++ beBytes 1 (byteAt x.bytes 1 % 4 + 1) ++ beBytes 3 (natAt x.bytes 2 3 + min 2000 (x.out - x.t)) ++ x.bytes.drop 5
    { s with own := { s.own with sent := s.own.sent ++ [(out, f)] } }

/-- The payload lengths of Table 17-14 and R444; a MIRROR holds whole items. -/
def itemsWhole : Nat → List Byte → Bool
  | 0, l => l.isEmpty
  | n + 1, l =>
    if l.isEmpty then true
    else if l.length < 3 then false
    else
      let k := natAt l 1 2
      if l.length < 3 + k then false else itemsWhole n (l.drop (3 + k))

@[inherit_doc itemsWhole] def lengthOk (type : Nat) (p : List Byte) : Bool :=
  match type with
  | 1 => p.length == 108
  | 2 => p.length == 7
  | 3 => p.length == 8
  | 4 => decide (p.length ≤ 1024) && itemsWhole 400 p
  | _ => false

/-- The freshness test (R442, test 4): fresh with the view moved on, duplicate, or stale. -/
inductive Fresh
  | fresh (v : SeatView)
  | duplicate
  | stale
  deriving DecidableEq, Repr

@[inherit_doc Fresh] def SeatView.freshness (v : SeatView) (isBeat : Bool) (nonce : Nat) (round : Round) (seq : Nat) : Fresh :=
  if v.nonce == some nonce then
    if v.kept.contains (round, seq) then .duplicate
    else
      let top := v.kept.foldl (fun a p => max a p.1) 0
      if top ≤ round + 1 then
        let top' := max top round
        .fresh { v with kept := (v.kept.filter fun p => decide (top' ≤ p.1 + 1)) ++ [(round, seq)] }
      else .stale
  else if isBeat && !v.nonces.contains nonce then
    .fresh { v with nonce := some nonce, nonces := (nonce :: v.nonces).take 4, kept := [(round, seq)] }
  else .stale

/-- R442: the tests in order. A frame of another type is another command's; one whose type is none of the four fails the first
test at whichever command brings it. -/
def State.peerAccept (s : State) (type : Nat) (x : PeerRx) : State × Option PeerFrame :=
  let l := x.bytes
  let p := (l.take (l.length - 8)).drop 18
  let origin := byteAt l 0 / 16 % 4
  let named := byteAt l 0 % 16
  if !s.peerOn || (!decide (named = type) && decide (1 ≤ named) && decide (named ≤ 4)) then (s, none)
  else if !decide (named = type) then (s.peerFail x.side, none)
  else if !x.framed || decide (l.length < 26) || !decide (natAt l 16 2 = p.length) || !lengthOk type p then (s.peerFail x.side, none)
  else if !decide (origin = s.seat) && !s.fitted.contains origin then (s.peerFail x.side, none)
  else
    let round := natAt l 9 6
    let tagOk := l.drop (l.length - 8) == peerTag (s.nv.fuses.domainKey.getD 0) round (l.take 18) p
    if origin = s.seat then
      if tagOk && type == 1 && !decide (natAt p 0 8 = s.nv.fuses.dieId.getD 0) then
        (({ s with own := { s.own with seatBad := true } } : State).raise 0x804 (0x2200 + s.seat), none)
      else (s, none)
    else if !tagOk then (s.peerFail x.side, none)
    else
      match ((s.view origin).getD (SeatView.fresh origin)).freshness (type == 1) (natAt l 5 4) round (byteAt l 15) with
      | .duplicate => (s.forward x origin, none)
      | .stale => (s.peerFail x.side, none)
      | .fresh v =>
        if type != 1 && (decide (round + 2 < s.pace.round) || decide (s.pace.round + 2 < round)) then (s.peerFail x.side, none)
        else
          (((s.updView origin fun _ => v).forward x origin).at x.t,
           some ⟨origin, byteAt l 1 % 4, natAt l 2 3, round, p⟩)

end Sys2Proof.Machine
end

