-- ==== Sys2Proof/Machine/Owner.lean ====
section
/-!
DEFINITION. Seats and ownership (chapter 15): the grid, election, planned yield, cut and forced
takeover, relays between seats, and disagreement.
-/
namespace Sys2Proof.Machine

/-- The detail value of a seat (Table 17-5). -/
def seatDetail (k : Nat) : Nat := 0x2200 + k

/-! ### Grids and round numbers (R367–R370) -/

/-- A difference of instants, in ns, as a difference of 1 ms grids: −500,000 to 499,999. -/
def idleError (e : Int) : Int := (e + 500000) % 1000000 - 500000

/-- The link a frame came by, and its measured delay (R368): from the times of the round before, on both sides of the link. -/
def PeerLink.measure (l : PeerLink) (b : Beat) (senderUp : Bool) (t : Ns) : PeerLink :=
  let t3 := if senderUp then b.uDep else b.dDep
  let t2 := if senderUp then b.uArr else b.dArr
  let t1 := timeFor (b.round - 1) l.dep
  let t4 := timeFor (b.round - 1) l.arr
  let d : Int := if t1 = 0 ∨ t2 = 0 ∨ t3 = 0 ∨ t4 = 0 then l.delay else (((t4 : Int) - t1) - ((t3 : Int) - t2)) / 2
  { l with arr := (b.round, t) :: l.arr.take 1, delay := d }

/-- The sender's stitch 0 on this device's time base (R368). -/
def State.senderZero (s : State) (x : PeerRx) (f : PeerFrame) (b : Beat) : Int :=
  let l := match x.side with | .up => s.own.linkU.delay | .down => s.own.linkD.delay
  let far : Nat := ((List.range f.hops).map Config.farLinkDelay).sum
  (x.t : Int) - f.residence - l - far - b.sof

/-- ALIGNED (R370), judged on each BEAT of the grid seat; four aligned rounds end an unaligned condition. -/
def State.align (s : State) (zero : Int) (round : Round) : State :=
  if !s.pace.running then s
  else
    let ok := decide (|(s.pace.start : Int) - zero| ≤ 1000) && decide (round = s.pace.round)
    let r := s.own.alignRuns.step (!ok)
    let s1 : State := { s with own := { s.own with alignRuns := r } }
    if s1.own.unaligned && decide (4 ≤ r.good) then
      ({ s1 with own := { s1.own with unaligned := false } } : State).clear 0x812 0
    else s1

/-- GRID_STEER and JOIN (R368): both in IDLE, a seat within 1.0 µs of the grid seat steers its next boundary by at most 20
ticks; one further off joins by its next round. -/
def State.steer (s : State) (zero : Int) (lock : Nat) : State :=
  if s.pace.lock == Lock.idle && lock == 3 then
    if !s.pace.running then { s with own := { s.own with joinZero := some zero } }
    else
      let e := idleError ((s.pace.start : Int) - zero)
      if |e| ≤ 1000 then
        { s with own := { s.own with joinZero := none }, pace := { s.pace with idleAdjust := max (-20) (min 20 (-(e / 10))) } }
      else { s with own := { s.own with joinZero := some zero } }
  else { s with own := { s.own with joinZero := none } }

/-- At an idle boundary: the round that begins now runs to the first grid-seat boundary at least `PACE.round_min` later,
where one is to be joined (R368). -/
def State.joinRound (s : State) : State :=
  match s.own.joinZero with
  | none => s
  | some z =>
    if s.pace.lock == Lock.idle then
      let b : Int := s.pace.start
      if |idleError (b - z)| ≤ 1000 then { s with own := { s.own with joinZero := none } }
      else
        let m : Int := b + s.img.f.pace.roundMin * 1000
        let target := z + ((m - z + 999999) / 1000000) * 1000000
        { s with own := { s.own with joinZero := none }, pace := { s.pace with idleAdjust := (target - b - 1000000) / 10 } }
    else { s with own := { s.own with joinZero := none } }

/-- ROUND_ADOPT (R369): the number a stitch 0 at an instant takes: the greatest of its own and those projected from the
round's BEATs of the grid seat and of eligible seats. -/
def State.adopted (s : State) (t : Ns) (own : Round) : Round :=
  let len : Int := if s.pace.lock == Lock.idle || !s.pace.running then 1000000 else s.pace.dt * 10
  let proj (v : SeatView) : Round :=
    match v.beat with
    | some b => if v.heard && (v.seat == s.gridSeat || s.seatEligible v.seat) then b.round + (((t : Int) - v.zero + 1000) / len).toNat else 0
    | none => 0
  s.own.views.foldl (fun a v => max a (proj v)) own

/-- UNALIGNED (R370). -/
def unaligned (s : State) : State :=
  if decide (4 ≤ s.own.alignRuns.bad) && !decide (s.gridSeat = s.seat) && !s.own.unaligned then
    ({ s with own := { s.own with unaligned := true } } : State).raise 0x812 0
  else s

/-! ### Roles -/

/-- The device takes every pin of the commanding group. -/
def State.takeGroup (s : State) : State := { s with own := { s.own with caps := true, pins := true } }

/-- Every pin of the commanding group is released; an answer still due can no longer be given. -/
def State.releaseGroup (s : State) : State :=
  { s with own := { s.own with caps := false, pins := false, releaseNow := false, releaseAt := none }, res := { s.res with answers := [] } }

/-- Another seat is known in a role: the owner's and the provisional owner's role are held by one seat at a time. -/
def State.seatTakes (s : State) (k : Nat) (r : Role) : State :=
  let l := s.own.views.map fun v => if v.role == Role.owner || v.role == Role.provisional then { v with role := .listener } else v
  ({ s with own := { s.own with views := l } } : State).updView k fun v => { v with role := r }

/-- TWO_OWNERS (R381): a lower-numbered seat in the owner's role makes this one release at the next stitch boundary. -/
def State.twoOwners (s : State) (other : Nat) (r : Role) : State :=
  if (r == Role.owner || r == Role.provisional) && s.acts && decide (other < s.seat) then
    ({ s with own := { s.own with role := .listener, releaseNow := true, yielding := none } } : State).raiseFor 0x824 0 1000
  else if (r == Role.owner || r == Role.provisional) && s.acts && s.own.cut then { s with own := { s.own with role := .listener } }
  else s

/-- PROVISIONAL_CLAIM (R372): S0, at stitch 5 of its round 0. -/
def provisionalClaim (s : State) : State :=
  if s.rounds && s.tc1Up && s.seat == 0 && s.own.role == Role.listener && decide (s.pace.round = s.own.since) && decide (s.pace.stitch = 5) &&
     s.imageOk && s.selfOk && !s.pat.ownTurnDone then
    (({ s with own := { s.own with role := .provisional } } : State).takeGroup.beginTurn).sendClaim 0 s.pace.round
  else s

/-- LISTEN_TIMEOUT (R372): S1 takes provisional ownership alone, with its CLAIM at stitch 5. -/
def listenTimeout (s : State) : State :=
  let silent := match s.view 0 with | some v => v.beat.isNone | none => true
  let failing := !silent && !s.seatBasic 0
  let due := (silent && decide (s.own.since + s.img.f.own.listenMax ≤ s.pace.round)) || failing
  if s.rounds && s.tc1Up && s.seat == 1 && s.attachedSeats.contains 1 && s.own.role == Role.listener && s.ownerSeat.isNone && due &&
     s.imageOk && s.selfOk && !s.pat.ownTurnDone && decide (s.pace.stitch = 5) then
    ((({ s with own := { s.own with role := .provisional } } : State).takeGroup.beginTurn).raise 0x840 0).sendClaim 0 s.pace.round
  else s

/-- ELECTION (R373): after the last turn, or the installation test, every seat computes the owner from the round's BEATs, at
stitch 3. -/
def election (s : State) : State :=
  if !s.rounds || !s.tc1Up || s.own.elected || s.pat.turn.isSome || s.pat.testing.isSome || !s.turnsOver || s.installAwaited ||
     !decide (s.pace.stitch = 3) then s
  else
    let s1 : State := { s with own := { s.own with elected := true } }
    match s.lowestEligible fun _ => true with
    | none =>
      let s2 := s1.raise 0x833 0
      if s.own.role == Role.provisional then { s2 with own := { s2.own with releaseAt := some (s.pace.round + 2) } } else s2
    | some k =>
      if s.own.role == Role.provisional then { s1 with own := { s1.own with electedSeat := some k } } else s1

/-- The elected CLAIM at stitch 5: the provisional owner is the seat elected (R373). -/
def State.electedClaim (s : State) : State :=
  if s.own.role == Role.provisional && s.own.electedSeat == some s.seat then
    (({ s with own := { s.own with role := .owner, electedSeat := none } } : State).clear 0x833 0).sendClaim 1 s.pace.round
  else s

/-! ### Planned yield (R374–R376) -/

/-- What this seat must yield for now: the successor and the reason of R444. An owner yields in the round after it ceased to be eligible,
for any reason but a cut (R374). -/
def State.yieldDue (s : State) : Option (Nat × Nat) :=
  if s.own.abandoned.isSome then none
  else if s.own.role == Role.provisional then
    match s.own.electedSeat with
    | some k => if k = s.seat then none else some (k, 1)
    | none =>
      if s.seat == 0 && s.pat.ownTurnDone && !s.own.elected && s.attachedSeats.contains 1 && !s.pat.turnsDone.contains 1 && s.seatBasic 1
      then some (1, 0) else none
  else if s.own.role == Role.owner && !s.own.cut && !s.ownEligible && (s.own.unfit.any fun r => decide (r < s.pace.round)) then
    (s.lowestEligible fun k => !decide (k = s.seat)).map fun k => (k, if s.own.outvoted then 3 else 2)
  else none

/-- YIELD_SEND (R375): at stitch 5, with H at stitch 0 of round Y + 2. -/
def yieldSend (s : State) : State :=
  match s.own.yielding, s.yieldDue with
  | none, some (k, r) =>
    if s.rounds && s.tc1Up && decide (s.pace.stitch = 5) then
      let h := s.pace.round + 2
      ({ s with own := { s.own with yielding := some ⟨s.seat, k, h, r, 0, false, false⟩, electedSeat := none } } : State).sendYield k r h
    else s
  | _, _ => s

/-- The BEAT of a seat in the present round. -/
def State.beatOf (s : State) (k : Nat) : Option Beat :=
  let b := if k = s.seat then s.own.beat else (s.view k).bind fun v => if v.heard then v.beat else none
  b.bind fun b => if b.round = s.pace.round then some b else none

/-- The equality test of R376 on the BEATs of the round before H. -/
def State.yieldEqual (s : State) (y : Yield) : Bool :=
  match s.beatOf y.from_, s.beatOf y.succ with
  | some a, some b =>
    a.trip == b.trip && a.path == b.path && decide (a.refRes ≤ b.refRes + 20) && decide (b.refRes ≤ a.refRes + 20) && !a.pending
  | _, _ => false

/-- The test in the round before H (R376): passed, H deferred by a round, or the yield abandoned. -/
def State.yieldTest (s : State) : State :=
  match s.own.yielding with
  | none => s
  | some y =>
    if y.h ≠ s.pace.round + 1 ∨ y.go = true then s
    else if s.yieldEqual y then { s with own := { s.own with yielding := some { y with go := true } } }
    else if y.deferrals < s.img.f.own.deferMax then
      { s with own := { s.own with yielding := some { y with h := y.h + 1, deferrals := y.deferrals + 1 } } }
    else
      let s1 : State := { s with own := { s.own with yielding := none } }
      if y.from_ = s.seat then ({ s1 with own := { s1.own with abandoned := some y.reason } } : State).raise 0x820 0 else s1

/-- ACCEPT_CLAIM (R375): the successor, at stitch 5 of round Y + 1. -/
def acceptClaim (s : State) : State :=
  match s.own.yielding with
  | none => s
  | some y =>
    if y.succ = s.seat ∧ !y.accepted ∧ s.pace.round + 1 = y.h ∧ s.pace.stitch = 5 ∧ s.rounds ∧ s.tc1Up then
      ({ s with own := { s.own with yielding := some { y with accepted := true } } } : State).sendClaim 2 y.h
    else s

/-- The path controller's configuration of the successor stays its own (R375, R348): at stitch 63 of the round before H the
successor drives and the owner releases the caps. -/
def State.yieldStitch63 (s : State) : State :=
  match s.own.yielding with
  | none => s
  | some y =>
    if y.go = true ∧ y.h = s.pace.round + 1 then
      if y.from_ = s.seat then { s with own := { s.own with caps := false } }
      else if y.succ = s.seat then s.takeGroup else s
    else s

/-- YIELD_RELEASE (Table 15-3): at H. -/
def State.yieldRelease (s : State) : State :=
  match s.own.yielding with
  | none => s
  | some y =>
    if y.go = true ∧ y.h = s.pace.round then
      let role : Role := if y.reason = 0 then .provisional else .owner
      let s1 := ({ s with own := { s.own with yielding := none } } : State).clear 0x820 0
      if y.from_ = s.seat then
        let s2 := ({ s1 with own := { s1.own with role := .listener } } : State).releaseGroup.seatTakes y.succ role
        if y.reason = 0 then s2.otherTurn y.succ else s2
      else if y.succ = s.seat then
        let s2 := s1.seatTakes y.from_ .listener
        let s3 := ({ s2 with own := { s2.own with role := role } } : State).takeGroup
        if y.reason = 0 then s3.beginTurn else s3.clear 0x833 0
      else s1.seatTakes y.succ role
    else s

/-! ### Cut and forced takeover (R377–R380) -/

/-- The CUT_OUT pins that face a seat go low, beside those that are low already (R378). -/
def State.assertCut (s : State) (k : Nat) (t : Ns) : State :=
  let low (p : CutPlan → Bool) : Bool := s.own.cutting.any p
  if s.own.cutting.any fun c => c.seat == k && (c.up || c.down) then s
  else
    ({ s with own := { s.own with
        cutting := some ⟨k, s.upSeat == k || low CutPlan.up, s.downSeat == k || low CutPlan.down, t, none, false, false⟩ } }
      : State).raise 0x821 (seatDetail k)

/-- The CUT_OUT pins are released (R378). -/
def State.releaseCut (s : State) : State := ({ s with own := { s.own with cutting := none } } : State).clearAll 0x821

/-- The owner's BEAT shows it cut by another seat: the takeover of R380 is the successor's, whichever seat cut it. -/
def State.seenCut (s : State) (k : Nat) (b : Beat) (t : Ns) : State :=
  if b.cut && s.seatIn .owner == some k && !(s.own.cutting.any fun c => c.seat == k) && !s.own.cut then
    { s with own := { s.own with
        cutting := some ⟨k, s.own.cutting.any CutPlan.up, s.own.cutting.any CutPlan.down, t, none, false, false⟩ } }
  else s

/-- This seat may judge the owner (R377): eligible, not cut, not the owner, and its neighbour. -/
def State.judges (s : State) (k : Nat) : Bool :=
  !decide (k = s.seat) && s.ownEligible && !s.own.cut && (s.upSeat == k || s.downSeat == k)

/-- Whether a seat is outvoted (R386): three or more eligible seats, and more of them stand in disagreement with it than do
not, itself among the latter. -/
def State.isOutvoted (s : State) (k : Nat) : Bool :=
  let el := s.fitted.filter s.seatEligible
  let dis := el.countP fun j => s.own.pairs.any fun p => p.standing && ((p.a == k && p.b == j) || (p.a == j && p.b == k))
  decide (3 ≤ el.length) && el.contains k && decide (el.length < 2 * dis)

/-- OWNER_JUDGE (R377): C1–C3, at stitch 3. C3 follows an outvoted owner that has had the round in which it yields (R374, R386). -/
def ownerJudge (s : State) : State :=
  match s.seatIn .owner with
  | none => s
  | some k =>
    match s.view k with
    | none => s
    | some v =>
      let c1 := decide (s.img.f.own.beatMiss ≤ v.missed)
      let c2 := decide (s.img.f.own.healthGrace ≤ v.unmet) && s.own.yielding.isNone
      let c3 := s.isOutvoted k && s.own.yielding.isNone && decide (2 ≤ v.unmet) && (match v.beat with | some b => !b.elig.getLsbD 8 | none => false)
      let succ := (s.lowestEligible fun j => !decide (j = k)).isSome
      if s.rounds && s.tc1Up && decide (s.pace.stitch = 3) && s.judges k && succ && (c1 || c2 || c3) then s.assertCut k s.pace.stitchAt else s

/-- TRIP_DISAGREE (R377, C4): the own trip latch has been set for `OWN.trip_disagree` while TRIP_N read high. -/
def tripDisagree (t : Ns) (s : State) : State :=
  match s.seatIn .owner with
  | none => s
  | some k =>
    let held := decide (((s.fast.tripAt : Nat) : Rat) + s.img.f.own.tripDisagree * 1000 ≤ (t : Rat))
    if s.judges k && s.fast.trip && held && s.domainOn 2 then (s.at t).assertCut k t else s

/-- CUT_IN (R30): the cut latch of P0 AON, in every state in which P0 is powered; SAFE_N is low at once. The device drives no
CUT_OUT pin while it is cut (R378). -/
def cutIn (t : Ns) (s : State) : State :=
  if s.sup.dev == DevState.off then s
  else
    let s1 := (({ s.releaseCut with own := { s.releaseCut.own with cut := true, yielding := none } } : State).raise 0x822 0).at t
    { s1 with flt := { s1.flt with safeN := false } }

/-- FORCED_CLAIM (R380): the successor, at stitch 5 of the first round in which two stitches have passed since the cut. -/
def forcedClaim (s : State) : State :=
  match s.own.cutting with
  | none => s
  | some c =>
    let passed := decide (c.at_ * 1000 + 2 * (s.pace.lengthPs / 64) ≤ s.pace.stitchAt * 1000 + 1000)
    if s.rounds && s.tc1Up && decide (s.pace.stitch = 5) && c.claimed.isNone && !c.barred && passed && s.attached &&
       s.lowestEligible (fun k => !decide (k = c.seat)) == some s.seat then
      ({ s with own := { s.own with cutting := some { c with claimed := some s.pace.round } } } : State).sendClaim 3 (s.pace.round + 1)
    else s

/-- FORCED_TAKEOVER_DRIVE (R380): at stitch 6 the successor drives TRIP_N from its own latches, BGNT_N high, REF_RES, and
the gates as R348 states. -/
def forcedTakeoverDrive (t : Ns) (s : State) : State :=
  match s.own.cutting with
  | none => s
  | some c =>
    if c.claimed = some s.pace.round ∧ s.pace.stitch = 6 ∧ !c.barred ∧ !c.driven ∧ !s.own.cut then
      ((({ s with own := { s.own with pins := true, cutting := some { c with driven := true } }
                  res := { s.res with answers := [] } } : State).pathTakeover t).at t).raiseFor 0x823 0 1000
    else s

/-- At stitch 63 of the takeover's round the successor drives the caps. -/
def State.forcedStitch63 (s : State) : State :=
  match s.own.cutting with
  | some c => if c.driven && c.claimed == some s.pace.round then { s with own := { s.own with caps := true } } else s
  | none => s

/-- At stitch 0 of the round after, it is owner (Table 15-5). -/
def State.forcedRound (s : State) : State :=
  match s.own.cutting with
  | some c =>
    if c.driven && decide (c.claimed.map (fun r => r + 1) = some s.pace.round) && !s.acts then
      (({ s.seatTakes c.seat .listener with
          own := { (s.seatTakes c.seat .listener).own with role := .owner, yielding := none } } : State).takeGroup).clear 0x833 0
    else s
  | none => s

/-! ### State summaries (R385–R387) -/

/-- Two summaries disagree (R385). -/
def summariesDisagree (f : OwnFields) (a b : Summary) : Bool :=
  let far (x y : Nat) (lim : Rat) : Bool := decide (lim < |((x : Rat) - y)|)
  let power (x y : Nat) : Bool := far x y (f.agreePower / 100 * (max x y : Nat))
  a.inRun && b.inRun && a.packOk && b.packOk && a.snap == b.snap &&
  (far a.soc b.soc (f.agreeSoc * 500) || decide (a.hi < b.lo) || decide (b.hi < a.lo) || power a.pD b.pD || power a.pC b.pC ||
   (a.hemOk && b.hemOk && far a.eHem b.eHem (f.agreeHem * 100)))

/-- One pair in a round. -/
def State.judgePair (s : State) (a b : Nat) : State :=
  match s.beatOf a, s.beatOf b with
  | some x, some y =>
    if s.seatEligible a && s.seatEligible b then
      let f := s.img.f.own
      let old := (s.own.pairs.find? fun p => p.a == a && p.b == b).getD ⟨a, b, ⟨0, 0⟩, false⟩
      let runs := old.runs.step (summariesDisagree f x.sum y.sum)
      let st := if f.agreeRounds ≤ runs.bad then true else if f.agreeRounds ≤ runs.good then false else old.standing
      let l := s.own.pairs.filter fun p => !(p.a == a && p.b == b)
      let s1 : State := { s with own := { s.own with pairs := l ++ [⟨a, b, runs, st⟩] } }
      let other := if a = s.seat then b else a
      if a = s.seat ∨ b = s.seat then
        (if st == old.standing then s1 else s1.judge 0x830 (seatDetail other) st)
      else s1
    else s
  | _, _ => s

/-- The owner's self-check is called for while exactly two eligible seats stand in disagreement (R387). -/
def State.selfCheckDue (s : State) : Bool :=
  s.own.role == Role.owner && decide ((s.fitted.filter s.seatEligible).length = 2) &&
  s.own.pairs.any fun p => p.standing && (p.a == s.seat || p.b == s.seat) && s.seatEligible p.a && s.seatEligible p.b

/-- OWNER_SELF_CHECK (R387): the run-time tests have ended. A check that fails takes the Self-test condition away, and with it the
eligibility. -/
def ownerSelfCheck (passed : Bool) (s : State) : State :=
  if (s.own.checkFrom.any fun r => decide (r + 8 ≤ s.pace.round)) && s.own.role == Role.owner then
    let ok := passed && !s.flt.bit 0x612 && !s.flt.bit 0x615 && !s.flt.bit 0x616
    let s1 : State := { s with own := { s.own with checkFrom := none }, tst := { s.tst with passed := s.tst.passed && ok } }
    if ok then s1 else s1.raise 0x832 0
  else s

/-- The judgement of seats at stitch 3 of every round: BEATs missed and conditions unmet are counted, digests and summaries
compared, votes taken (R366, R371, R374, R385, R386, Table 15-7). -/
def State.peerRound (s : State) : State :=
  let others := s.fitted.filter fun k => !decide (k = s.seat)
  let s1 := if !s.peerOn then s else others.foldl (fun u k =>
    let u1 := u.updView k fun v =>
      { v with missed := if v.heard then 0 else v.missed + 1
               unmet := (match v.beat with | some b => if b.elig == 511 || !v.heard then 0 else v.unmet + 1 | none => 0) }
    match u1.view k with
    | some v => if u.img.f.own.beatMiss ≤ v.missed then u1.raise 0x803 (seatDetail k) else u1
    | none => u1) s
  let s2 := if !s1.digestMatch then s1.raise 0x810 0 else if !s1.wordMatch then s1.raise 0x811 0 else s1
  let pairs := (s.fitted.map fun a => (s.fitted.filter fun b => decide (a < b)).map fun b => (a, b)).flatten
  let s3 := pairs.foldl (fun u p => u.judgePair p.1 p.2) s2
  let s4 := if s3.isOutvoted s.seat && !s3.own.outvoted then
      ({ s3 with own := { s3.own with outvoted := true } } : State).raise 0x831 0 else s3
  let s5 := if s4.selfCheckDue && !s2.selfCheckDue && s4.own.checkFrom.isNone then
      { s4 with own := { s4.own with checkFrom := some s4.pace.round } } else s4
  let owns := match s5.seatIn .owner with | some k => s5.seatEligible k | none => false
  let s6 := if owns then s5.clear 0x833 0 else s5
  if s6.own.role == Role.owner && !s6.own.cut && !s6.ownEligible && (s6.lowestEligible fun k => !decide (k = s6.seat)).isNone then
    s6.raise 0x833 0
  else s6

/-! ### MIRROR items (R382–R384, Table 15-1) -/

/-- The class code of a MIRROR item: the row order of Table 6-3, 4 for a node not yet classified. -/
def classCode : NodeClass → Nat
  | .match_ => 0
  | .misfit => 1
  | .foreign => 2
  | .missing => 3
  | .unknown => 4

@[inherit_doc classCode] def classOf : Nat → NodeClass
  | 0 => .match_
  | 1 => .misfit
  | 2 => .foreign
  | 3 => .missing
  | _ => .unknown

/-- Split a list into pieces of at most n. -/
def chunks {α : Type} (n : Nat) : Nat → List α → List (List α)
  | 0, _ => []
  | k + 1, l => if l.isEmpty then [] else l.take n :: chunks n k (l.drop n)

/-- Item 0x05: the nodes' classification, identity and compensation. -/
def State.nodeItems (s : State) : List (List Byte) :=
  let one (n : Node) : List Byte :=
    beBytes 1 (nodePort n.id) ++ beBytes 1 (nodePos n.id) ++ beBytes 1 (classCode n.cls) ++ beBytes 8 (n.identity.getD 0) ++
      beBytes 2 (n.checkA.getD 65535) ++ beBytes 2 (n.checkB.getD 65535)
  (chunks 60 10 s.thr.nodes).map fun l => mirrorItem 5 (l.map one).flatten

/-- Item 0x04: the map-outs of every port. -/
def State.mapItem (s : State) : List Byte :=
  mirrorItem 4 (((List.range 8).map fun p =>
    beBytes 5 ((List.range 40).foldl (fun a j => a + (if s.mappedOut p j then 2 ^ j else 0)) 0)).flatten)

/-- Item 0x03: the ledger. -/
def State.ledgerItem (s : State) : List Byte :=
  mirrorItem 3 (((List.range 2).map fun i => match s.burst i with
    | some e => burstEntry 1 e ((s.now - e.t) / 1000000)
    | none => noEntry).flatten)

/-- A pair record in the form of Table 16-10. -/
def PairRec.bytes (rests : List TackRest) (p : PairRec) : List Byte :=
  let kind : Nat := match p.kind with | some .tack => 0 | some .full => 1 | some .empty => 2 | none => 3
  let idx := match p.entry with | some e => (rests.findIdx? fun r => r.entry == e).getD 255 | none => 255
  beBytes 2 p.s ++ beBytes 1 p.u ++ beBytes 1 idx ++ beBytes 4 (kind * 2 ^ 30) ++ beBytes 4 ((p.bal % 2 ^ 32).toNat) ++ beBytes 4 0

/-- Items 0x06: the newest tack-rest entry with the pair records of the cells that took a tack in it. -/
def State.parkResults (s : State) : List (List Byte) :=
  match s.cls.pack.rests with
  | [] => []
  | r :: _ =>
    let head := beBytes 8 r.entry ++ beBytes 8 ((r.count % 2 ^ 64).toNat) ++ beBytes 8 r.t ++ beBytes 8 r.gap ++ beBytes 1 r.spoilt.toNat
    let took := s.cls.pack.cells.filter fun c => match c.start with | some p => p.entry == r.entry && p.kind == PointKind.tack | none => false
    (chunks 50 90 took).map fun l =>
      head ++ (l.map fun c => beBytes 2 c.id ++ (c.pair s.cls.pack).bytes s.cls.pack.rests).flatten

/-- The MIRROR frames a stitch brings (R148, R160, R382–R384, Table 17-15): streams 12–15 at stitch 42, the tail's commands at stitch
60, the owner state at stitch 62, what an attached seat found once at the end of each turn, and once the map-outs of a seat that is not
the owner when it has mapped a link out. -/
def State.mirrorStitch (s : State) : State :=
  let sa := if s.attached && !s.own.turnSent && s.tc1Up then
      ({ s with own := { s.own with turnSent := true } } : State).sendItems s.nodeItems else s
  let s0 := if sa.attached && sa.pat.mapNews && sa.tc1Up then
      (if sa.acts then { sa with pat := { sa.pat with mapNews := false } }
       else ({ sa with pat := { sa.pat with mapNews := false } } : State).sendItems [sa.mapItem])
    else sa
  if !s0.acts || !s0.tc1Up then s0
  else if s0.pace.stitch = 42 then
    s0.sendItems [mirrorItem 7 (((List.range 4).map fun i =>
      let r := streamAt s0.acq.streams (12 + i)
      beBytes 4 ((r.value % 2 ^ 32).toNat) ++ beBytes 1 r.flags.toNat).flatten)]
  else if s0.pace.stitch = 60 then
    s0.sendItems (s0.thr.rings.map fun r => r.viaTail.map fun c => mirrorItem 2 (beBytes 1 r.port ++ c)).flatten
  else if s0.pace.stitch = 62 then
    s0.sendItems ([s0.ledgerItem, s0.mapItem] ++ (if s0.pat.turn.isSome then [] else s0.nodeItems) ++ s0.own.parkItems.map (mirrorItem 6))
  else s0

/-- RELAY_SEND (R382): an accepted READ goes to the other seats; the owner's own go to witnesses alone. -/
def State.relayRead (s : State) (x : ThreadRx) : State :=
  let witnessed := s.fitted.any fun k => !s.attachedSeats.contains k
  if s.attached && !s.own.unaligned && (!s.acts || witnessed) then
    s.sendItems [mirrorItem 1 (beBytes 1 x.port ++ beBytes 1 (byteAt (rxBytes x) 0 / 32 % 2) ++ (rxBytes x).take 43)]
  else s

/-- Item 0x01 received (R382): by the end of stitch 42 of the READ's round it enters R119 beside the own copies. -/
def State.takeRelay (s : State) (origin : Nat) (c : List Byte) : State :=
  let l := c.drop 2
  match s.portEndAt origin (byteAt c 0) with
  | none => s
  | some (port, e) =>
    if (s.acts || !s.attached) && s.rounds && decide (s.pace.stitch ≤ 42) && decide (l.length = 43) && decide (byteAt l 1 = s.pace.round % 256)
    then (s.acceptRead (nodeId port (byteAt l 0 % 32)) e (l.take 40)).markEnd port (byteAt l 0)
    else s

/-- Item 0x03 received: a seat that does not act as owner holds the owner's ledger, each entry from its grant time. -/
def State.takeLedger (s : State) (c : List Byte) : State :=
  if s.acts then s
  else
    let one (i : Nat) : List LedgerEntry :=
      let l := (c.drop (16 * i)).take 16
      if byteAt l 0 = 1 then
        let round := natAt l 2 4
        match s.res.ledger.find? fun e => e.line == i && e.round % 2 ^ 32 == round with
        | some e => [{ e with rb := (natAt l 12 2 : Rat) / 10000, ed := (natAt l 14 2 : Rat) / 10000 }]
        | none => [⟨i, round, s.now - 1000000 * natAt l 6 2, (natAt l 8 2 : Nat), natAt l 10 2, (natAt l 12 2 : Rat) / 10000,
                    (natAt l 14 2 : Rat) / 10000⟩]
      else []
    { s with res := { s.res with ledger := one 0 ++ one 1 } }

/-- Item 0x04 received: the union of map-outs (R160). The item does not carry the fault that another seat raised, and this device
raises none for a link that it did not find itself. DESIGN CHOICE: while this device's own re-test runs, which decides every link anew
(R161), the item is not taken. -/
def State.takeMaps (s : State) (c : List Byte) : State :=
  if s.pat.testing == some .maintenance then s
  else (List.range 8).foldl (fun u p =>
    let m := natAt c (5 * p) 5
    (List.range 40).foldl (fun w j => if m.testBit j then w.holdOut p j 0 else w) u) s

/-- The witness's own judgement of the mirrored turns (R147, Table 15-2, Pattern), until the election: in RUN the count is judged at
the next check alone (R163). -/
def State.witnessPattern (s : State) : State :=
  match s.img.variant with
  | none => s
  | some v =>
    if s.attached || s.own.elected then s
    else
      let s1 := v.rings.foldl (fun t r => t.judge 0x403 (portDetail r.port) (t.crossed v r)) s
      let ok := !s1.patternFails && decide (s1.badNodes ≤ s1.img.f.pattern.foreignLimit) && s1.turnsOver
      { s1 with pat := { s1.pat with passed := ok } }

/-- What another seat holds of a node: its class joins the union, and the delay measured at the other end is taken. A witness, which
sees no node itself, takes class and identity, and keeps FOREIGN or MISFIT while another seat finds it so (R148). -/
def Node.mirrored (n : Node) (witness : Bool) (origin : Nat) (l : List Byte) : Node :=
  let cls := classOf (byteAt l 2)
  let bad := cls == NodeClass.foreign || cls == NodeClass.misfit
  let others := n.badBy.filter fun k => !decide (k = origin)
  let ident := natAt l 3 8
  let a := natAt l 11 2
  let b := natAt l 13 2
  { n with badBy := if bad then others ++ [origin] else others
           cls := if witness && (bad || others.isEmpty) then cls else n.cls
           identity := if witness && ident != 0 then some ident else n.identity
           compA := if n.compA.isNone && a != 65535 then some a else n.compA
           compB := if n.compB.isNone && b != 65535 then some b else n.compB
           checkA := if n.checkA.isNone && a != 65535 then some a else n.checkA
           checkB := if n.checkB.isNone && b != 65535 then some b else n.checkB }

/-- Item 0x05 received: a node is FOREIGN or MISFIT for every seat if any seat finds it so; the delay table of the other end
is taken, and the check recorded (R148); the count is judged in RUN (R163). An attached seat sends the item when its own turn has ended,
and as the tail when the other's has: the first one in a seat's turn ends that turn. -/
def State.takeNodes (s : State) (origin : Nat) (c : List Byte) : State :=
  let s1 := (chunks 15 70 c).foldl (fun u l =>
    u.updNode (nodeId (byteAt l 0) (byteAt l 1)) fun n => n.mirrored (!u.attached) origin l) s
  let provisional := match s1.view origin with | some v => v.role == Role.provisional | none => false
  let s2 := if s1.pat.turn == some origin || (!s1.attached && provisional) then s1.turnOver origin else s1
  (if s2.attached then s2.recordCheck else s2).foreignCount.witnessPattern

/-- Item 0x06 received (R78, R384): the owner's park-check tack rest and points become this seat's, on its own count. -/
def State.takePark (s : State) (c : List Byte) : State :=
  if s.acts || s.own.parkItems.contains c then s
  else
    let e := s.cls.pack
    let t := natAt c 16 8
    let known := e.rests.any fun r => r.t == t
    let num := if known then ((e.rests.find? fun r => r.t == t).map fun r => r.entry).getD 0 else e.nextEntry
    let rest : TackRest := ⟨num, e.countAt, t, e.gapTotal, bitAt c 32 0⟩
    let points := chunks 18 60 (c.drop 33)
    let cells := e.cells.map fun x =>
      match points.find? fun p => natAt p 0 2 == x.id with
      | some p =>
        { x with start := some ⟨.tack, (natAt p 2 2 : Rat) / 500 - 2, (byteAt p 4 : Rat) / 20, e.countAt, e.gapTotal, num⟩
                 bal := (natAt p 10 4 : Rat) / 3600000, tacked := true }
      | none => x
    { s with
      own := { s.own with parkItems := s.own.parkItems ++ [c] }
      cls := { s.cls with pack := { e with
        cells := cells, rests := if known then e.rests else (rest :: e.rests).take 16, nextEntry := if known then e.nextEntry else num + 1 } } }

/-- Item 0x07 received: a witness without a shunt takes the owner's streams (R382). -/
def State.takeStreams (s : State) (c : List Byte) : State :=
  let signed (n : Nat) : Int := if n < 2 ^ 31 then n else (n : Int) - 2 ^ 32
  let l := (List.range 4).map fun i => (signed (natAt c (5 * i) 4), byteAt c (5 * i + 4))
  let s1 : State := { s with own := { s.own with streams := some (s.pace.round, l) } }
  match s1.ownerStreams with
  | some (recs, tier) =>
    if s1.acq.formed == some s1.pace.round then
      { s1 with acq := { s1.acq with streams := s1.acq.streams.take 12 ++ recs ++ s1.acq.streams.drop 16, packTier := tier } }
    else s1
  | none => s1

/-- One item of a MIRROR. -/
def State.takeItem (s : State) (origin type : Nat) (c : List Byte) : State :=
  match type with
  | 1 => s.takeRelay origin c
  | 2 => if s.attached && !s.acts then s.updRing (byteAt c 0) fun r => { r with relay := r.relay ++ [c.drop 1] } else s
  | 3 => s.takeLedger c
  | 4 => s.takeMaps c
  | 5 => s.takeNodes origin c
  | 6 => s.takePark c
  | 7 => s.takeStreams c
  | _ => s

/-- The items of a MIRROR in order. -/
def State.takeItems (origin : Nat) : Nat → List Byte → State → State
  | 0, _, s => s
  | n + 1, l, s =>
    if l.length < 3 then s
    else
      let k := natAt l 1 2
      State.takeItems origin n (l.drop (3 + k)) (s.takeItem origin (byteAt l 0) ((l.drop 3).take k))

/-! ### Frames sent and received -/

/-- BEAT_SEND (R365): at stitch 2. -/
def beatSend (t : Ns) (s : State) : State :=
  if s.rounds && decide (s.pace.stitch = 2) && s.tc1Up then
    let s0 := s.at t
    let b := s0.makeBeat
    let s1 := ({ s0 with own := { s0.own with beat := some b } } : State).peerSend 1 b.bytes
    let put (l : PeerLink) : PeerLink := { l with dep := (s0.pace.round, t) :: l.dep.take 1 }
    { s1 with own := { s1.own with linkU := put s1.own.linkU, linkD := put s1.own.linkD } }
  else s

/-- What a BEAT's role says of the turns of the pattern check: a provisional owner is in its turn, and once a seat is owner no other
seat's turn runs. -/
def State.turnsBy (s : State) (k : Nat) (r : Role) : State :=
  match r, s.pat.turn with
  | .provisional, _ => s.otherTurn k
  | .owner, some j => if j = s.seat then s else s.turnOver j
  | _, _ => s

/-- BEAT_RECEIVED (R365–R370, R381, R443). -/
def State.takeBeat (s : State) (x : PeerRx) (f : PeerFrame) : State :=
  let b := readBeat f.round f.payload
  let s0 : State := if f.hops = 0 then
      (match x.side with
       | .up => { s with own := { s.own with linkU := s.own.linkU.measure b false x.t } }
       | .down => { s with own := { s.own with linkD := s.own.linkD.measure b true x.t } })
    else s
  let zero := s0.senderZero x f b
  let s1 := (s0.updView f.origin fun v =>
    { v with beat := some b, beatRound := s.pace.round, zero := zero, role := b.role, missed := 0, heard := true }).clear
    0x803 (seatDetail f.origin)
  let s1 := s1.seenCut f.origin b x.t
  let s1 : State := if s1.own.parkedOwner == some f.origin then { s1 with own := { s1.own with parkedOwner := none } } else s1
  let s2 := (s1.twoOwners f.origin b.role).turnsBy f.origin b.role
  if s2.gridSeat = f.origin then (s2.align zero b.round).steer zero b.lock else s2

/-- CLAIM_RECEIVED (R372, R373, R380, R381, R444). -/
def claimReceived (x : PeerRx) (s : State) : State :=
  match s.peerAccept 2 x with
  | (s1, none) => s1
  | (s1, some f) =>
    match byteAt f.payload 0 with
    | 0 => ((s1.twoOwners f.origin .provisional).seatTakes f.origin .provisional).otherTurn f.origin
    | 1 => ((s1.twoOwners f.origin .owner).seatTakes f.origin .owner).clear 0x833 0
    | 2 =>
      match s1.own.yielding with
      | some y => if y.succ = f.origin then { s1 with own := { s1.own with yielding := some { y with accepted := true } } } else s1
      | none => s1
    | _ =>
      let bars := decide (f.origin < s1.seat) && s1.attachedSeats.contains f.origin && s1.seatEligible f.origin
      let s2 := match s1.own.cutting with
        | some c => if bars && c.claimed.isNone then { s1 with own := { s1.own with cutting := some { c with barred := true } } } else s1
        | none => s1
      ((s2.twoOwners f.origin .owner).seatTakes f.origin .owner).clear 0x833 0

/-- YIELD_RECEIVED (R375, R444). -/
def yieldReceived (x : PeerRx) (s : State) : State :=
  match s.peerAccept 3 x with
  | (s1, none) => s1
  | (s1, some f) =>
    let succ := byteAt f.payload 0
    let s2 := if byteAt f.payload 1 = 0 then s1.turnOver f.origin else s1
    { s2 with own := { s2.own with yielding := some ⟨f.origin, succ, natAt f.payload 2 6, byteAt f.payload 1, 0, false, false⟩ } }

/-- MIRROR_RECEIVED (R382–R384, R445). -/
def mirrorReceived (x : PeerRx) (s : State) : State :=
  match s.peerAccept 4 x with
  | (s1, none) => s1
  | (s1, some f) => State.takeItems f.origin 400 f.payload s1

/-- PEER_WINDOW_END (R366): the window of 1,000 rounds that began at a round number divisible by 1,000 is over. Fault 0x802 clears after
a window within the limit on links that carry code groups. -/
def peerWindowEnd (s : State) : State :=
  if !s.rounds || s.own.window == s.pace.round / 1000 then s
  else
    let lim := s.img.f.own.authLimit
    let beyond := decide (lim < s.own.linkU.fails) || decide (lim < s.own.linkD.fails)
    let zero (l : PeerLink) : PeerLink := { l with fails := 0 }
    ({ s with own := { s.own with
        window := s.pace.round / 1000, linkU := zero s.own.linkU, linkD := zero s.own.linkD } } : State).judge2
      0x802 0 beyond (!beyond && !s.flt.bit 0x801)

/-! ### Stitches and rounds -/

/-- When an owner ceases to be eligible is noted (R374). -/
def State.markUnfit (s : State) : State :=
  let bad := s.own.role == Role.owner && !s.ownEligible
  { s with own := { s.own with unfit := if bad then some (s.own.unfit.getD s.pace.round) else none } }

/-- Ownership work at the start of a stitch: TC1's (R15), and done no more once TC1 is held in reset (R456). -/
def State.ownerStitch (s : State) : State :=
  if !s.tc1Up then s else
  let s1 := if s.own.releaseNow then s.releaseGroup else s
  let s2 := s1.mirrorStitch.markUnfit
  if s2.pace.stitch = 3 then s2.peerRound
  else if s2.pace.stitch = 5 then s2.electedClaim.yieldTest
  else if s2.pace.stitch = 63 then s2.yieldStitch63.forcedStitch63
  else s2

/-- Ownership at stitch 0 (R366, R370, Tables 15-3 and 15-5); `silent` names the links without a valid code group for the whole
round just ended (0x801). -/
def State.ownerRound (s : State) (silent : List CutSide) : State :=
  if !s.tc1Up then { s with own := { s.own with sent := [] } } else
  let l := s.own.views.map fun v => { v with heard := false }
  let s1 : State := { s with own := { s.own with views := l, seq := 0, sent := [] } }
  let s2 := if s1.own.releaseNow || s1.own.releaseAt == some s1.pace.round then
      ({ s1 with own := { s1.own with role := if s1.own.releaseNow then s1.own.role else .listener } } : State).releaseGroup
    else s1
  let s3 := s2.yieldRelease.forcedRound
  let s4 := if s3.gridSeat = s3.seat then
      (let u : State := { s3 with own := { s3.own with alignRuns := ⟨0, 0⟩, unaligned := false } }
       if s3.own.unaligned then u.clear 0x812 0 else u)
    else s3
  if s4.peerOn then s4.judge 0x801 0 (!silent.isEmpty) else s4

end Sys2Proof.Machine
end

