-- ==== Sys2Proof/Machine/FieldTable.lean ====
section
/-!
DEFINITION. The fields of the image records (R395, Table 16-3): for each field its ID, the number of its
elements, whether each element is a field of its own (an index in its name), its range and its default. A
bound or a default that other fields or a resistor code give is set where fields are resolved.
-/
namespace Sys2Proof.Machine

/-- A field of a governing table; an empty default is none, a single one stands for every element. -/
structure FieldSpec where
  id : Nat
  n : Nat
  each : Bool
  lo : Rat
  hi : Rat
  dflt : List Rat
  deriving DecidableEq, Repr

/-- Record SUPPLY. -/
def supplySpecs : List FieldSpec :=
  [⟨0x0101, 1, false, 0, 20, [10]⟩,  -- SUPPLY.shutdown.grace
   ⟨0x0102, 1, false, 0.2, 5.0, [1.0]⟩,  -- SUPPLY.park.i_max
   ⟨0x0103, 1, false, 60, 3600, [600]⟩,  -- SUPPLY.park.dwell
   ⟨0x0104, 1, false, 1, 24, [4]⟩,  -- SUPPLY.park.check_interval
   ⟨0x0105, 1, false, 500, 10000, [2000]⟩]  -- SUPPLY.park.check_rounds

/-- Record PACE. -/
def paceSpecs : List FieldSpec :=
  [⟨0x0201, 1, false, 0, 255, [0]⟩,  -- PACE.snap_phase.inverter
   ⟨0x0202, 1, false, 0, 255, [0]⟩,  -- PACE.snap_phase.mains
   ⟨0x0203, 1, false, 0, 255, [0]⟩,  -- PACE.snap_phase.dc
   ⟨0x0204, 1, false, 500, 630, [500]⟩]  -- PACE.round_min

/-- Record THREAD. -/
def threadSpecs : List FieldSpec :=
  [⟨0x0301, 1, false, 1, 7, [3]⟩,  -- THREAD.cmd_retries
   ⟨0x0302, 1, false, 16, 255, [100]⟩,  -- THREAD.bal_hold
   ⟨0x0303, 1, false, 4, 127, [25]⟩,  -- THREAD.bal_refresh
   ⟨0x0304, 1, false, 10, 1000, [100]⟩,  -- THREAD.ident_interval
   ⟨0x0305, 1, false, 5, 200, [20]⟩,  -- THREAD.quarantine_count
   ⟨0x0306, 1, false, 1, 100, [10]⟩,  -- THREAD.crc_limit
   ⟨0x0307, 1, false, 1000, 5000, [4250]⟩,  -- THREAD.limit.ov
   ⟨0x0308, 1, false, 500, 4000, [2500]⟩,  -- THREAD.limit.uv
   ⟨0x0309, 1, false, 1, 4, [2]⟩,  -- THREAD.limit.persist
   ⟨0x030A, 1, false, 40, 80, [60]⟩]  -- THREAD.bal_t_max

/-- Record PATTERN. -/
def patternSpecs : List FieldSpec :=
  [⟨0x0409, 1, false, 0, 16, [2]⟩,  -- PATTERN.foreign_limit
   ⟨0x040A, 1, false, 20, 200, [50]⟩,  -- PATTERN.delay.drift_limit
   ⟨0x040B, 1, false, 10, 60, [60]⟩,  -- PATTERN.bert.install_time
   ⟨0x040C, 1, false, 0, 10, [0]⟩,  -- PATTERN.bert.install_max_errors
   ⟨0x040D, 1, false, 1, 10, [5]⟩,  -- PATTERN.bert.periodic_time
   ⟨0x040E, 1, false, 0, 10, [1]⟩,  -- PATTERN.bert.periodic_max_errors
   ⟨0x040F, 1, false, 8, 168, [24]⟩]  -- PATTERN.bert.periodic_interval

/-- Record ACQ. -/
def acqSpecs : List FieldSpec :=
  [⟨0x0501, 1, false, 0, 1000, [0]⟩,  -- ACQ.ish_a.r_shunt
   ⟨0x0502, 1, false, 0, 1000, [0]⟩,  -- ACQ.ish_b.r_shunt
   ⟨0x0503, 1, false, 0, 1, [0]⟩,  -- ACQ.ish_a.invert
   ⟨0x0504, 1, false, 0, 1, [0]⟩,  -- ACQ.ish_b.invert
   ⟨0x0505, 1, false, 0.5, 20, [2]⟩,  -- ACQ.ish.agree_abs
   ⟨0x0506, 1, false, 0.2, 5, [1]⟩,  -- ACQ.ish.agree_rel
   ⟨0x0507, 1, false, 1, 100, [10]⟩,  -- ACQ.ish.agree_rounds
   ⟨0x0508, 1, false, 0, 2, [0]⟩,  -- ACQ.sent.role
   ⟨0x0509, 1, false, 3, 90, [3]⟩,  -- ACQ.sent.tick
   ⟨0x050A, 1, false, 3, 6, [6]⟩,  -- ACQ.sent.nibbles
   ⟨0x050B, 1, false, 0, 1, [1]⟩,  -- ACQ.sent.crc
   ⟨0x050C, 1, false, 0, 16777215, [8388608]⟩,  -- ACQ.sent.zero
   ⟨0x050D, 1, false, 1, 1000, [100]⟩,  -- ACQ.sent.lsb
   ⟨0x050E, 1, false, 0, 5000, [0]⟩,  -- ACQ.sent.latency
   ⟨0x050F, 1, false, 0, 255, [3]⟩,  -- ACQ.sent.id_msg
   ⟨0x0510, 1, false, 0, 65535, [0]⟩,  -- ACQ.sent.id_value
   ⟨0x0511, 1, false, 100, 2000, [500]⟩,  -- ACQ.vpk_a.ratio
   ⟨0x0512, 1, false, 100, 2000, [500]⟩,  -- ACQ.vpk_b.ratio
   ⟨0x0513, 1, false, 1000, 50000, [5000]⟩,  -- ACQ.vpk.agree
   ⟨0x0514, 1, false, 10, 40, [20]⟩,  -- ACQ.vmain.ratio
   ⟨0x0515, 1, false, 1000, 100000, [10000]⟩,  -- ACQ.tcl.r25
   ⟨0x0516, 1, false, 1000, 100000, [10000]⟩,  -- ACQ.st.r25
   ⟨0x0517, 1, false, 3000, 4500, [3435]⟩,  -- ACQ.tcl.beta
   ⟨0x0518, 1, false, 3000, 4500, [3435]⟩,  -- ACQ.st.beta
   ⟨0x0519, 1, false, 100, 10000, [1000]⟩]  -- ACQ.si.r_shunt

/-- Record CLASSICAL. -/
def classicalSpecs : List FieldSpec :=
  [⟨0x0601, 63, false, 0, 5000, []⟩,  -- CLASSICAL.ocv.v
   ⟨0x0602, 3, false, (-30), 60, [0, 25, 45]⟩,  -- CLASSICAL.ocv.t
   ⟨0x0603, 1, false, 1, 20, [3]⟩,  -- CLASSICAL.ocv.u_v
   ⟨0x0604, 1, false, 1, 1000, []⟩,  -- CLASSICAL.cap.nominal
   ⟨0x0605, 1, false, 1, 15, [5]⟩,  -- CLASSICAL.cap.u0
   ⟨0x0606, 1, false, 0.5, 5, [1]⟩,  -- CLASSICAL.cap.u_min
   ⟨0x0607, 1, false, 0, 5, [0.5]⟩,  -- CLASSICAL.cap.u_age
   ⟨0x0608, 1, false, 1, 10, [5]⟩,  -- CLASSICAL.cap.step_max
   ⟨0x0609, 1, false, 10, 100000, []⟩,  -- CLASSICAL.r.nominal
   ⟨0x060A, 1, false, 5, 500, [50]⟩,  -- CLASSICAL.r.step_min
   ⟨0x060B, 1, false, 0.001, 0.1, [0.01]⟩,  -- CLASSICAL.r.gain
   ⟨0x060C, 1, false, 5, 50, [20]⟩,  -- CLASSICAL.r.u_rel
   ⟨0x060D, 1, false, 0.1, 5, [1]⟩,  -- CLASSICAL.rest.i_max
   ⟨0x060E, 1, false, 60, 1800, [600]⟩,  -- CLASSICAL.rest.t1
   ⟨0x060F, 1, false, 60, 7200, [900]⟩,  -- CLASSICAL.rest.tau
   ⟨0x0610, 1, false, 1800, 36000, [7200]⟩,  -- CLASSICAL.rest.t_long
   ⟨0x0611, 1, false, 1, 30, [10]⟩,  -- CLASSICAL.rest.max_corr
   ⟨0x0612, 1, false, 20, 80, [40]⟩,  -- CLASSICAL.tack.min_delta_soc
   ⟨0x0613, 1, false, 0.2, 3, [0.5]⟩,  -- CLASSICAL.tack.u_min
   ⟨0x0614, 1, false, 1, 10, [5]⟩,  -- CLASSICAL.tack.u_max
   ⟨0x0615, 1, false, 24, 168, [72]⟩,  -- CLASSICAL.tack.overdue
   ⟨0x0616, 1, false, 0.01, 0.5, [0.05]⟩,  -- CLASSICAL.tack.overdue_rate
   ⟨0x0617, 1, false, 1500, 4500, []⟩,  -- CLASSICAL.full.v
   ⟨0x0618, 1, false, 0.5, 50, [5]⟩,  -- CLASSICAL.full.i_taper
   ⟨0x0619, 1, false, 10, 600, [60]⟩,  -- CLASSICAL.full.dwell
   ⟨0x061A, 1, false, 0.2, 3, [1]⟩,  -- CLASSICAL.full.u
   ⟨0x061B, 1, false, 1000, 3500, []⟩,  -- CLASSICAL.empty.v
   ⟨0x061C, 1, false, 1, 60, [5]⟩,  -- CLASSICAL.empty.dwell
   ⟨0x061D, 1, false, 0.2, 5, [2]⟩,  -- CLASSICAL.empty.u
   ⟨0x061E, 1, false, 2, 20, [5]⟩,  -- CLASSICAL.basting.u_unrelaxed
   ⟨0x061F, 1, false, 5, 50, [15]⟩,  -- CLASSICAL.basting.u_loaded
   ⟨0x0620, 1, false, 0.1, 10, [0.5]⟩,  -- CLASSICAL.bracket.gain_shunt
   ⟨0x0621, 1, false, 0.1, 10, [3]⟩,  -- CLASSICAL.bracket.gain_sensor
   ⟨0x0622, 1, false, 0.1, 10, [2]⟩,  -- CLASSICAL.bracket.gain_sent
   ⟨0x0623, 1, false, 0.01, 5, [0.1]⟩,  -- CLASSICAL.bracket.offset_shunt
   ⟨0x0624, 1, false, 0.01, 5, [0.5]⟩,  -- CLASSICAL.bracket.offset_sensor
   ⟨0x0625, 1, false, 0.01, 5, [1]⟩,  -- CLASSICAL.bracket.offset_sent
   ⟨0x0626, 1, false, 10, 2000, [500]⟩,  -- CLASSICAL.bracket.i_absent
   ⟨0x0627, 1, false, 0, 1, [0.05]⟩,  -- CLASSICAL.park.i_allow
   ⟨0x0628, 1, false, 0, 0.5, [0.03]⟩,  -- CLASSICAL.self_discharge
   ⟨0x0629, 1, false, 10, 1000, [75]⟩,  -- CLASSICAL.bal.r_bleed
   ⟨0x062A, 1, false, 0.5, 10, [2]⟩,  -- CLASSICAL.bal.start
   ⟨0x062B, 1, false, 0.1, 5, [0.5]⟩,  -- CLASSICAL.bal.stop
   ⟨0x062C, 1, false, 1, 10, [3]⟩,  -- CLASSICAL.bal.max_width
   ⟨0x062D, 1, false, 0.1, 10, [1]⟩]  -- CLASSICAL.display.rate

/-- Record STORE. -/
def storeSpecs : List FieldSpec :=
  [⟨0x072A, 1, false, 0, 0, []⟩,  -- STORE.cells
   ⟨0x072B, 1, false, 0, 0, []⟩,  -- STORE.cell_v_min
   ⟨0x072C, 1, false, 0, 0, []⟩,  -- STORE.cell_v_max
   ⟨0x0736, 1, false, 5, 50, [20]⟩,  -- STORE.dcdc.gain
   ⟨0x0701, 63, false, 0, 5000, []⟩,  -- STORE.est.ocv.v
   ⟨0x0702, 3, false, (-30), 60, [0, 25, 45]⟩,  -- STORE.est.ocv.t
   ⟨0x0703, 1, false, 1, 20, [3]⟩,  -- STORE.est.ocv.u_v
   ⟨0x0704, 1, false, 1, 1000, []⟩,  -- STORE.est.cap.nominal
   ⟨0x0705, 1, false, 1, 15, [5]⟩,  -- STORE.est.cap.u0
   ⟨0x0706, 1, false, 0.5, 5, [1]⟩,  -- STORE.est.cap.u_min
   ⟨0x0707, 1, false, 0, 5, [0.5]⟩,  -- STORE.est.cap.u_age
   ⟨0x0708, 1, false, 1, 10, [5]⟩,  -- STORE.est.cap.step_max
   ⟨0x0709, 1, false, 10, 100000, []⟩,  -- STORE.est.r.nominal
   ⟨0x070A, 1, false, 5, 500, [50]⟩,  -- STORE.est.r.step_min
   ⟨0x070B, 1, false, 0.001, 0.1, [0.01]⟩,  -- STORE.est.r.gain
   ⟨0x070C, 1, false, 5, 50, [20]⟩,  -- STORE.est.r.u_rel
   ⟨0x070D, 1, false, 0.1, 5, [1]⟩,  -- STORE.est.rest.i_max
   ⟨0x070E, 1, false, 60, 1800, [600]⟩,  -- STORE.est.rest.t1
   ⟨0x070F, 1, false, 60, 7200, [900]⟩,  -- STORE.est.rest.tau
   ⟨0x0710, 1, false, 1800, 36000, [7200]⟩,  -- STORE.est.rest.t_long
   ⟨0x0711, 1, false, 1, 30, [10]⟩,  -- STORE.est.rest.max_corr
   ⟨0x0712, 1, false, 20, 80, [40]⟩,  -- STORE.est.tack.min_delta_soc
   ⟨0x0713, 1, false, 0.2, 3, [0.5]⟩,  -- STORE.est.tack.u_min
   ⟨0x0714, 1, false, 1, 10, [5]⟩,  -- STORE.est.tack.u_max
   ⟨0x0715, 1, false, 24, 168, [72]⟩,  -- STORE.est.tack.overdue
   ⟨0x0716, 1, false, 0.01, 0.5, [0.05]⟩,  -- STORE.est.tack.overdue_rate
   ⟨0x0717, 1, false, 0.5, 50, [5]⟩,  -- STORE.est.full.i_taper
   ⟨0x0718, 1, false, 10, 600, [60]⟩,  -- STORE.est.full.dwell
   ⟨0x0719, 1, false, 0.2, 3, [1]⟩,  -- STORE.est.full.u
   ⟨0x071A, 1, false, 1, 60, [5]⟩,  -- STORE.est.empty.dwell
   ⟨0x071B, 1, false, 0.2, 5, [2]⟩,  -- STORE.est.empty.u
   ⟨0x071C, 1, false, 2, 20, [5]⟩,  -- STORE.est.basting.u_unrelaxed
   ⟨0x071D, 1, false, 5, 50, [15]⟩,  -- STORE.est.basting.u_loaded
   ⟨0x071E, 1, false, 0.1, 10, [0.5]⟩,  -- STORE.est.bracket.gain_shunt
   ⟨0x071F, 1, false, 0.1, 10, [3]⟩,  -- STORE.est.bracket.gain_sensor
   ⟨0x0720, 1, false, 0.1, 10, [2]⟩,  -- STORE.est.bracket.gain_sent
   ⟨0x0721, 1, false, 0.01, 5, [0.1]⟩,  -- STORE.est.bracket.offset_shunt
   ⟨0x0722, 1, false, 0.01, 5, [0.5]⟩,  -- STORE.est.bracket.offset_sensor
   ⟨0x0723, 1, false, 0.01, 5, [1]⟩,  -- STORE.est.bracket.offset_sent
   ⟨0x0724, 1, false, 10, 2000, [500]⟩,  -- STORE.est.bracket.i_absent
   ⟨0x0725, 1, false, 0, 0.5, [0.03]⟩,  -- STORE.est.self_discharge
   ⟨0x0726, 1, false, 0.1, 10, [1]⟩,  -- STORE.est.display.rate
   ⟨0x0727, 1, false, 10, 2000, []⟩,  -- STORE.hem.p_load
   ⟨0x0728, 1, false, 0, 0, []⟩,  -- STORE.hem.v_shutdown
   ⟨0x0729, 1, false, 0, 100, [5]⟩,  -- STORE.selvage
   ⟨0x072D, 1, false, 0, 0, []⟩,  -- STORE.floor.cell_v
   ⟨0x072E, 1, false, 50, 1000, [200]⟩,  -- STORE.present_v
   ⟨0x072F, 1, false, 20, 500, [100]⟩,  -- STORE.change.v
   ⟨0x0730, 1, false, 200, 5000, [1000]⟩,  -- STORE.change.step
   ⟨0x0731, 1, false, 10, 1000, [33]⟩,  -- STORE.bal.r_bleed
   ⟨0x0732, 1, false, 0.5, 10, [2]⟩,  -- STORE.bal.start
   ⟨0x0733, 1, false, 0.1, 5, [0.5]⟩,  -- STORE.bal.stop
   ⟨0x0734, 1, false, 1, 10, [3]⟩,  -- STORE.bal.max_width
   ⟨0x0735, 15, true, 0, 0, []⟩,  -- STORE.vset
   ⟨0x0737, 1, false, 1, 1000, [10]⟩,  -- STORE.ref.slew
   ⟨0x0738, 1, false, (-40), 60, [0]⟩,  -- STORE.chg.t_min
   ⟨0x0739, 1, false, 0, 85, [45]⟩]  -- STORE.chg.t_max

/-- Record MODEL. -/
def modelSpecs : List FieldSpec :=
  [⟨0x080C, 1, false, 1, 3600, [60]⟩,  -- MODEL.lined.tau_min
   ⟨0x080D, 1, false, 1, 1000, [10]⟩,  -- MODEL.open_loop_max
   ⟨0x080E, 1, false, 0, 100000, [600]⟩,  -- MODEL.warmup_rounds
   ⟨0x080F, 1, false, 30, 80, [60]⟩,  -- MODEL.budget.step_share
   ⟨0x0810, 1, false, 20, 70, [50]⟩]  -- MODEL.budget.mem_share

/-- Record NUMERIC. -/
def numericSpecs : List FieldSpec :=
  [⟨0x0901, 1, false, 4, 256, [32]⟩,  -- NUMERIC.renorm_interval
   ⟨0x0902, 1, false, 256, 65536, [4096]⟩,  -- NUMERIC.replay.period
   ⟨0x0903, 1, false, (-8), (-2), [(-4)]⟩,  -- NUMERIC.fray.beta_ord
   ⟨0x0904, 1, false, (-20), (-10), [(-15)]⟩,  -- NUMERIC.fray.beta_lined
   ⟨0x0905, 1, false, 0.5, 50, [2]⟩,  -- NUMERIC.fray.v_max
   ⟨0x0906, 1, false, 1, 64, [4]⟩,  -- NUMERIC.fray.cohort_limit
   ⟨0x0907, 1, false, 1, 1000, [16]⟩,  -- NUMERIC.ecc.ce_limit
   ⟨0x0908, 1, false, 1, 24, [4]⟩]  -- NUMERIC.scrub.period

/-- Record TRAIN. -/
def trainSpecs : List FieldSpec :=
  [⟨0x0A01, 1, false, 0, 1, [1]⟩,  -- TRAIN.enable
   ⟨0x0A02, 1, false, 1, 1024, [64]⟩,  -- TRAIN.active_cells
   ⟨0x0A03, 1, false, 1000, 1000000, [60000]⟩,  -- TRAIN.warm
   ⟨0x0A04, 1, false, 10000, 10000000, [600000]⟩,  -- TRAIN.epoch
   ⟨0x0A05, 1, false, 10000, 10000000, [300000]⟩,  -- TRAIN.fit
   ⟨0x0A06, 1, false, 1, 1000, [100]⟩,  -- TRAIN.update_interval
   ⟨0x0A07, 1, false, 0.000001, 0.01, [0.0001]⟩,  -- TRAIN.lr
   ⟨0x0A08, 1, false, 0.5, 50, [2]⟩,  -- TRAIN.sigma_v
   ⟨0x0A09, 1, false, 0, 10, [1]⟩,  -- TRAIN.weight_soc
   ⟨0x0A0A, 1, false, 0, 10, [1]⟩,  -- TRAIN.weight_cap
   ⟨0x0A0B, 1, false, 0, 20, [2]⟩,  -- TRAIN.fit.margin
   ⟨0x0A0C, 1, false, 10000, 100000000, [1000000]⟩,  -- TRAIN.fit.min_samples
   ⟨0x0A0D, 1, false, 1, 1024, [16]⟩,  -- TRAIN.fit.min_cells
   ⟨0x0A0E, 1, false, 5, 240, [30]⟩,  -- TRAIN.ckpt.interval
   ⟨0x0A0F, 1, false, 80, 125, [105]⟩,  -- TRAIN.shed.t1
   ⟨0x0A10, 1, false, 80, 125, [115]⟩,  -- TRAIN.shed.t2
   ⟨0x0A11, 1, false, 80, 125, [120]⟩]  -- TRAIN.shed.t3

/-- Record SEAM. -/
def seamSpecs : List FieldSpec :=
  [⟨0x0B01, 1, false, 1, 100, [20]⟩,  -- SEAM.resid.v
   ⟨0x0B02, 1, false, 1, 100, [5]⟩,  -- SEAM.resid.rounds
   ⟨0x0B03, 1, false, 1, 10000, [100]⟩,  -- SEAM.rejoin
   ⟨0x0B04, 1, false, 100, 100000, [1000]⟩,  -- SEAM.split_report
   ⟨0x0B05, 1, false, 1, 50, [10]⟩,  -- SEAM.hold.enter
   ⟨0x0B06, 1, false, 0.5, 25, [5]⟩,  -- SEAM.hold.exit
   ⟨0x0B07, 1, false, 10, 10000, [100]⟩,  -- SEAM.hold.rounds
   ⟨0x0B08, 1, false, 1, 100, [25]⟩]  -- SEAM.pack_split_max

/-- Record POWER. -/
def powerSpecs : List FieldSpec :=
  [⟨0x0C01, 1, false, 1000, 4500, []⟩,  -- POWER.v_min
   ⟨0x0C02, 1, false, 1000, 4500, []⟩,  -- POWER.v_max
   ⟨0x0C03, 1, false, 0, 20, [5]⟩,  -- POWER.soc_min
   ⟨0x0C04, 1, false, 80, 100, [98]⟩,  -- POWER.soc_max
   ⟨0x0C05, 3, true, 1, 3, [1, 1.4, 1.8]⟩,  -- POWER.r_scale
   ⟨0x0C06, 1, false, 1, 2000, []⟩,  -- POWER.i_dis_max
   ⟨0x0C07, 1, false, 1, 2000, []⟩,  -- POWER.i_chg_max
   ⟨0x0C08, 12, false, (-40), 100, [(-40), 100, (-14), 100, 12, 100, 38, 100, 64, 100, 90, 100]⟩,  -- POWER.derate_d
   ⟨0x0C09, 12, false, (-40), 100, [(-40), 100, (-14), 100, 12, 100, 38, 100, 64, 100, 90, 100]⟩,  -- POWER.derate_c
   ⟨0x0C0A, 1, false, 0, 100, [50]⟩,  -- POWER.derate_absent
   ⟨0x0C0B, 1, false, 2, 30, [2]⟩,  -- POWER.cap_horizon
   ⟨0x0C0C, 1, false, 1, 1000, []⟩,  -- POWER.p_dis_max
   ⟨0x0C0D, 1, false, 1, 1000, []⟩]  -- POWER.p_chg_max

/-- Record CAPS. -/
def capsSpecs : List FieldSpec :=
  [⟨0x0D01, 6, true, 0, 1, [0, 0, 1, 0, 0, 0]⟩,  -- CAPS.consumer.pin_dir
   ⟨0x0D02, 6, true, 0.1, 1000, []⟩,  -- CAPS.consumer.full_scale
   ⟨0x0D03, 6, true, 0, 1000, [0]⟩,  -- CAPS.consumer.d.floor
   ⟨0x0D04, 6, true, 0, 1000, [0]⟩,  -- CAPS.consumer.c.floor
   ⟨0x0D05, 6, true, 0, 255, [0]⟩,  -- CAPS.consumer.d.weight
   ⟨0x0D06, 6, true, 0, 255, [0]⟩,  -- CAPS.consumer.c.weight
   ⟨0x0D07, 6, true, 0, 1000, []⟩,  -- CAPS.consumer.d.ceiling
   ⟨0x0D08, 6, true, 0, 1000, []⟩,  -- CAPS.consumer.c.ceiling
   ⟨0x0D09, 6, true, 1, 10000, [100]⟩]  -- CAPS.consumer.rise

/-- Record FAST. -/
def fastSpecs : List FieldSpec :=
  [⟨0x0E01, 1, false, 0, 0, []⟩,  -- FAST.ish.dis
   ⟨0x0E02, 1, false, 0, 0, []⟩,  -- FAST.ish.chg
   ⟨0x0E03, 1, false, 0, 15, [0]⟩,  -- FAST.ish.filter
   ⟨0x0E04, 1, false, 0, 2, [2]⟩,  -- FAST.ish.dis_action
   ⟨0x0E05, 1, false, 0, 2, [2]⟩,  -- FAST.ish.chg_action
   ⟨0x0E06, 1, false, 0, 2, [1]⟩,  -- FAST.cell.ov_action
   ⟨0x0E07, 1, false, 0, 2, [1]⟩,  -- FAST.cell.uv_action
   ⟨0x0E08, 1, false, 0, 0, []⟩,  -- FAST.cell.split
   ⟨0x0E09, 1, false, 0, 16, [3]⟩,  -- FAST.cell.trip_reads
   ⟨0x0E0A, 1, false, 10, 10000, [100]⟩,  -- FAST.zero.hold
   ⟨0x0E0B, 1, false, 100, 60000, [1000]⟩,  -- FAST.trip.hold
   ⟨0x0E0C, 1, false, 0, 1, [0]⟩]  -- FAST.trip.release

/-- Record PATH. -/
def pathSpecs : List FieldSpec :=
  [⟨0x0F01, 1, false, 0, 0, []⟩,  -- PATH.vmain.fail
   ⟨0x0F02, 1, false, 0, 0, []⟩,  -- PATH.vmain.good
   ⟨0x0F03, 1, false, 0, 0, []⟩,  -- PATH.vmain.ov
   ⟨0x0F04, 1, false, 0.5, 50, [5]⟩,  -- PATH.ramp.main
   ⟨0x0F05, 1, false, 5, 500, [100]⟩,  -- PATH.ramp.res
   ⟨0x0F06, 1, false, 0.5, 5, [2]⟩,  -- PATH.short.lag
   ⟨0x0F07, 1, false, 0.2, 2, [0.5]⟩,  -- PATH.short.vds_on
   ⟨0x0F08, 1, false, 10, 5000, [100]⟩,  -- PATH.short.cool
   ⟨0x0F09, 1, false, 50, 10000, [200]⟩]  -- PATH.dwell_min

/-- Record BURST. -/
def burstSpecs : List FieldSpec :=
  [⟨0x1001, 2, true, 10, 5000, []⟩,  -- BURST.line.power
   ⟨0x1002, 1, false, 0, 0, []⟩,  -- BURST.max_duration
   ⟨0x1003, 1, false, 1, 100, [2]⟩,  -- BURST.release
   ⟨0x1004, 1, false, 0, 100, [0]⟩]  -- BURST.keep

/-- Record OWN. -/
def ownSpecs : List FieldSpec :=
  [⟨0x1101, 1, false, 1, 15, []⟩,  -- OWN.seats
   ⟨0x1102, 1, false, 16, 1000, [64]⟩,  -- OWN.listen_max
   ⟨0x1103, 1, false, 2, 16, [4]⟩,  -- OWN.beat_miss
   ⟨0x1104, 1, false, 1, 16, [4]⟩,  -- OWN.health_grace
   ⟨0x1105, 1, false, 1, 16, [8]⟩,  -- OWN.yield.defer_max
   ⟨0x1106, 1, false, 20, 1000, [100]⟩,  -- OWN.trip_disagree
   ⟨0x1107, 1, false, 1, 100, [4]⟩,  -- OWN.peer.auth_limit
   ⟨0x1108, 1, false, 0.2, 10, [1]⟩,  -- OWN.agree.soc
   ⟨0x1109, 1, false, 1, 50, [10]⟩,  -- OWN.agree.power
   ⟨0x110A, 1, false, 0.5, 20, [2]⟩,  -- OWN.agree.hem
   ⟨0x110B, 1, false, 10, 10000, [100]⟩]  -- OWN.agree.rounds

/-- Record OUT. -/
def outSpecs : List FieldSpec :=
  [⟨0x1201, 1, false, 0, 2032, [928]⟩,  -- OUT.cana.base_id
   ⟨0x1202, 1, false, 0, 2032, [288]⟩,  -- OUT.canb.base_id
   ⟨0x1203, 1, false, 70, 87.5, [80]⟩,  -- OUT.can.sp_arb
   ⟨0x1204, 1, false, 60, 87.5, [75]⟩,  -- OUT.can.sp_data
   ⟨0x1205, 1, false, 0, 1, [1]⟩,  -- OUT.can.tdc
   ⟨0x1206, 1, false, 50, 1000, [100]⟩,  -- OUT.fault.period
   ⟨0x1207, 1, false, 0, 15, []⟩,  -- OUT.eth.seats
   ⟨0x1208, 1, false, 0, 281474976710655, [2660044374016]⟩,  -- OUT.eth.mac_base
   ⟨0x1209, 1, false, 16777216, 3758096380, [3232245776]⟩,  -- OUT.eth.ip_base
   ⟨0x120A, 1, false, 4009754624, 4026531839, [4012376065]⟩,  -- OUT.eth.group
   ⟨0x120B, 1, false, 1024, 65535, [49200]⟩,  -- OUT.eth.port
   ⟨0x120C, 1, false, 1, 4094, [2]⟩,  -- OUT.eth.vlan
   ⟨0x120D, 1, false, 0, 7, [5]⟩,  -- OUT.eth.pcp
   ⟨0x120E, 1, false, 0, 63, [46]⟩,  -- OUT.eth.dscp
   ⟨0x120F, 1, false, 1, 255, [1]⟩,  -- OUT.eth.ttl
   ⟨0x1210, 1, false, 70, 90, [80]⟩]  -- OUT.round.share

/-- Record IMAGE. -/
def imageSpecs : List FieldSpec :=
  [⟨0x1301, 1, false, 1, 1000, [10]⟩,  -- IMAGE.rollback.commit_hours
   ⟨0x1302, 1, false, 0, 15, [0]⟩,  -- IMAGE.revoke_keys
   ⟨0x1303, 1, false, 10000, 1000000, [100000]⟩,  -- IMAGE.ckpt.erase_limit
   ⟨0x1304, 1, false, 0, 1, [1]⟩]  -- IMAGE.fallback.enable

/-- Every field that is judged, in an order in which each comes after those its range or default rests on. -/
def allSpecs : List FieldSpec :=
  supplySpecs ++ paceSpecs ++ threadSpecs ++ patternSpecs ++ acqSpecs ++ classicalSpecs ++ storeSpecs ++ modelSpecs ++
  numericSpecs ++ trainSpecs ++ seamSpecs ++ powerSpecs ++ capsSpecs ++ fastSpecs ++
  pathSpecs ++ burstSpecs ++ ownSpecs ++ outSpecs ++ imageSpecs

end Sys2Proof.Machine
end

