-- ==== Sys2Proof/Machine/Fields.lean ====
section
/-!
DEFINITION. Resolving image fields (R403–R405, Table 16-6): ranges and defaults that codes and other fields give, the
replacement by defaults, cross-field conditions, and the fields in force.
-/
namespace Sys2Proof.Machine

/-- Field values by field ID, an element without a value being none. -/
abbrev Env := List (Nat × List (Option Rat))

/-- Element k of a field. -/
def Env.at_ (e : Env) (id k : Nat) : Option Rat := ((lookupKey id e).getD []).getD k none

/-- The value of a field; 0 where it has none. -/
def Env.num (e : Env) (id : Nat) : Rat := (e.at_ id 0).getD 0
@[inherit_doc Env.num] def Env.nat (e : Env) (id : Nat) : Nat := (e.num id).floor.toNat
@[inherit_doc Env.num] def Env.flag (e : Env) (id : Nat) : Bool := decide (1 ≤ e.num id)

/-- The elements of a field; 0 where one has no value. -/
def Env.vec (e : Env) (id : Nat) : List Rat := ((lookupKey id e).getD []).map fun v => v.getD 0

/-- The elements of a field in rows of n. -/
def Env.rows (e : Env) (id n : Nat) : List (List Rat) :=
  let v := e.vec id
  (List.range (v.length / n)).map fun r => (v.drop (n * r)).take n

/-- The elements of a field in pairs. -/
def Env.pairs (e : Env) (id : Nat) : List (Rat × Rat) := (e.rows id 2).map fun l => (l.getD 0 0, l.getD 1 0)

/-- Set element k, or every element, of a field. -/
def Env.put (e : Env) (id : Nat) (k : Option Nat) (v : List (Option Rat)) : Env :=
  match k with
  | none => insertKey id v e
  | some i =>
    let old := (lookupKey id e).getD []
    insertKey id ((List.range old.length).map fun j => if j = i then v.getD i none else old.getD j none) e

/-- What fields are resolved against: the latched codes, the attached seats as a bitmap, and the elements the image gives
by field ID. -/
structure Given where
  code : Codes
  attached : Nat
  vals : Env
  deriving DecidableEq, Repr

/-- The values so far, the defaults by field ID, the fields replaced by a default, the elements without a value, and the
records in which a cross-field condition still fails. -/
structure Resolved where
  env : Env
  dflts : Env
  replaced : List Nat
  missing : List (Nat × Nat)
  failed : List Nat
  deriving DecidableEq, Repr

/-- The record of a field. -/
def fieldRecord (id : Nat) : Nat := id / 256

/-! ### ROM store tables (Table 8-11) -/

/-- The ROM curve of a chemistry, in mV at the 21 points of R197; the supercapacitor's is linear (R502). -/
def romCurve (c : Chemistry) (vMin vMax : Rat) : List Rat :=
  match c with
  | .none_ => []
  | .lto => [1700, 1950, 2050, 2120, 2170, 2210, 2240, 2255, 2268, 2280, 2290, 2300, 2310, 2321, 2333, 2347, 2364, 2386, 2418, 2480, 2650]
  | .lfp => [2500, 3000, 3150, 3200, 3225, 3245, 3260, 3270, 3280, 3288, 3295, 3300, 3305, 3312, 3320, 3328, 3335, 3342, 3350, 3380, 3500]
  | .nmc => [3000, 3350, 3450, 3520, 3570, 3600, 3630, 3655, 3680, 3710, 3745, 3785, 3830, 3875, 3920, 3965, 4010, 4050, 4090, 4130, 4180]
  | .supercap => (List.range 21).map fun k => vMin + (k : Rat) / 20 * (vMax - vMin)

/-! ### Ranges and defaults that depend on codes and fields -/

/-- A number to the nearest 0.5 mV. -/
def halfMv (x : Rat) : Rat := ((2 * x + 1 / 2).floor : Rat) / 2

/-- A list of numbers ascends strictly. -/
def ascends : List Rat → Bool
  | a :: b :: rest => decide (a < b) && ascends (b :: rest)
  | _ => true

/-- The smallest and the greatest comparator current for the fitted shunts (R321): 5 and 48 mV. -/
def comparatorRange (e : Env) : Rat × Rat :=
  let rs := [e.num 0x0501, e.num 0x0502].filter fun r => decide (0 < r)
  (rs.foldl (fun a r => max a (5000 / r)) 0, rs.foldl (fun a r => min a (48000 / r)) 1000000000)

/-- The specification of a field with the range and the default that codes and earlier fields give it. -/
def FieldSpec.resolve (x : FieldSpec) (g : Given) (e : Env) : FieldSpec :=
  let n := e.num 0x072A
  let lo := e.num 0x072B
  let hi := e.num 0x072C
  let lim := storeCellLimits g.code.chem
  let r24 := g.code.nominal24
  match x.id with
  | 0x050C =>
    let nib := e.nat 0x050A
    { x with hi := (2 ^ (4 * nib) : Nat) - 1, dflt := [((2 ^ (4 * nib - 1) : Nat) : Rat)] }
  | 0x0701 =>
    let c := romCurve (chemistry g.code.chem) lo hi
    { x with dflt := if ascends c then c ++ c ++ c else [] }
  | 0x0728 => { x with lo := n * lo / 1000, hi := n * hi / 1000, dflt := [n * lo / 1000] }
  | 0x072A => { x with lo := (storeCellRange g.code.chem).1, hi := (storeCellRange g.code.chem).2 }
  | 0x072B => { x with lo := lim.1, hi := lim.2, dflt := [(lim.1 : Rat)] }
  | 0x072C => { x with lo := lim.1, hi := lim.2, dflt := [(lim.2 : Rat)] }
  | 0x072D => { x with lo := lo, hi := lo + 500, dflt := [lo] }
  | 0x0735 => { x with lo := lo, hi := hi }
  | 0x0C01 => { x with dflt := [e.num 0x061B] }
  | 0x0C02 => { x with dflt := [e.num 0x0617] }
  | 0x0D07 => { x with dflt := (List.range 6).map fun k => (e.at_ 0x0D02 k).getD 1000 }
  | 0x0D08 => { x with dflt := (List.range 6).map fun k => (e.at_ 0x0D02 k).getD 1000 }
  | 0x0E01 => { x with lo := (comparatorRange e).1, hi := (comparatorRange e).2 }
  | 0x0E02 => { x with lo := (comparatorRange e).1, hi := (comparatorRange e).2 }
  | 0x0E08 =>
    let mean := halfMv ((e.num 0x0307 + e.num 0x0308) / 2)
    { x with lo := e.num 0x0308, hi := e.num 0x0307, dflt := [mean] }
  | 0x0F01 => if r24 then { x with lo := 16, hi := 26, dflt := [21] } else { x with lo := 8, hi := 13, dflt := [10.5] }
  | 0x0F02 => if r24 then { x with lo := 17, hi := 27, dflt := [23] } else { x with lo := 9, hi := 14, dflt := [11.5] }
  | 0x0F03 => if r24 then { x with lo := 26, hi := 29, dflt := [28] } else { x with lo := 15, hi := 18, dflt := [16] }
  | 0x1002 => { x with lo := 10, hi := g.code.burstCeiling, dflt := [(g.code.burstCeiling : Rat)] }
  | 0x1101 => { x with dflt := [(g.attached : Rat)] }
  | 0x1207 => { x with dflt := [e.num 0x1101] }
  | _ => x

/-- Conditions on single values beyond a range: a gap in it, a multiple, a subset, an address. -/
def elementOk (g : Given) (e : Env) (id : Nat) (v : Rat) : Bool :=
  let n := v.floor.toNat
  if id = 0x0501 || id = 0x0502 then decide (v = 0) || decide (25 ≤ v)
  else if id = 0x0735 then
    let vt := Config.quot (e.num 0x072A * v / 1000) (e.num 0x0736)
    decide (1 / 10 ≤ vt) && decide (vt ≤ 12 / 10)
  else if id = 0x0C0B then decide (v = 2) || decide (v = 10) || decide (v = 30)
  else if id = 0x0E08 then decide (e.num 0x0308 < v) && decide (v < e.num 0x0307)
  else if id = 0x1101 then decide (Nat.land n g.attached = g.attached)
  else if id = 0x1201 || id = 0x1202 then decide (n % 16 = 0)
  else if id = 0x1208 then decide (n % 4 = 0) && decide (n / 2 ^ 40 % 4 = 2)
  else if id = 0x1209 then decide (n % 4 = 0) && !decide (n / 2 ^ 24 = 127)
  else true

/-- Conditions on a whole field: OCV rows strictly increasing (R197), their temperatures ascending, derating temperatures
strictly ascending within −40 to 90 °C with factors of 0–100 % (R327). -/
def wholeOk (id : Nat) (l : List Rat) : Bool :=
  if id = 0x0601 || id = 0x0701 then (List.range 3).all fun r => ascends ((l.drop (21 * r)).take 21)
  else if id = 0x0602 || id = 0x0702 then ascends l
  else if id = 0x0C08 || id = 0x0C09 then
    let at_ (k : Nat) : Rat := l.getD k 0
    ascends ((List.range 6).map fun k => at_ (2 * k)) &&
    (List.range 6).all fun k => decide (at_ (2 * k) ≤ 90) && decide (0 ≤ at_ (2 * k + 1))
  else true

/-! ### Resolution (R403) -/

/-- The defaults of a field, element by element. -/
def FieldSpec.defaults (x : FieldSpec) : List (Option Rat) :=
  match x.dflt with
  | [] => List.replicate x.n none
  | [v] => List.replicate x.n (some v)
  | l => l.map some

/-- An element is finite and in range. -/
def FieldSpec.elementOk (x : FieldSpec) (g : Given) (e : Env) (v : Option Rat) : Bool :=
  match v with
  | some v => decide (x.lo ≤ v) && decide (v ≤ x.hi) && Machine.elementOk g e x.id v
  | none => false

/-- Whether a field is judged: STORE, PATH and BURST fields only while RSEL_CHEM selects a store (R405), and the burst
duration only while RSEL_BURST gives its range a ceiling (R50). -/
def Given.judges (g : Given) (id : Nat) : Bool :=
  let r := fieldRecord id
  !(g.code.chem == 0 && (r == 7 || r == 15 || r == 16)) && !(g.code.burst == 0 && id == 0x1002)

/-- One field is resolved. -/
def Resolved.field (r : Resolved) (g : Given) (x0 : FieldSpec) : Resolved :=
  let x := x0.resolve g r.env
  let d := x.defaults
  let given := if g.judges x.id then lookupKey x.id g.vals else none
  let (v, rep) : List (Option Rat) × Bool := match given with
    | none => (d, false)
    | some l =>
      if x.each then
        let ok (k : Nat) : Bool := x.elementOk g r.env (l.getD k none)
        ((List.range x.n).map fun k => if ok k then l.getD k none else d.getD k none,
         (List.range x.n).any fun k => !ok k && (d.getD k none).isSome)
      else if l.all (x.elementOk g r.env) && wholeOk x.id (l.filterMap fun y => y) then (l, false)
      else (d, d.any Option.isSome)
  let miss := ((List.range x.n).filter fun k => (v.getD k none).isNone).map fun k => (x.id, k)
  { r with
    env := insertKey x.id v r.env
    dflts := insertKey x.id d r.dflts
    replaced := if rep then r.replaced ++ [x.id] else r.replaced
    missing := r.missing ++ miss }

def Resolved.fields (r : Resolved) (g : Given) (l : List FieldSpec) : Resolved := l.foldl (fun r x => r.field g x) r

/-- A cross-field condition: where it fails, the fields it names take their defaults; where it then still fails, the
record of the first of them has failed (R403). -/
def Resolved.cross (r : Resolved) (g : Given) (names : List (Nat × Option Nat)) (ok : Env → Bool) : Resolved :=
  if !(names.all fun x => g.judges x.1) || ok r.env then r
  else
    let env := names.foldl (fun e x => e.put x.1 x.2 ((lookupKey x.1 r.dflts).getD [])) r.env
    let rep := (names.map fun x => x.1).filter fun i => (lookupKey i g.vals).isSome && !r.replaced.contains i
    { r with
      env := env
      replaced := r.replaced ++ rep.eraseDups
      failed := if ok env then r.failed else r.failed ++ [fieldRecord ((names.headD (0, none)).1)] }

/-- A condition that one field lies below another. -/
def Resolved.below (r : Resolved) (g : Given) (a b : Nat) : Resolved :=
  r.cross g [(a, none), (b, none)] fun e => decide (e.num a < e.num b)

/-- A condition that rest.t_long is at least twice rest.t1 (R219). -/
def Resolved.rests (r : Resolved) (g : Given) (t1 tLong : Nat) : Resolved :=
  r.cross g [(t1, none), (tLong, none)] fun e => decide (2 * e.num t1 ≤ e.num tLong)

/-- Floors do not exceed ceilings, by consumer and direction (R327). -/
def Resolved.shares (r : Resolved) (g : Given) (fl ce : Nat) : Resolved :=
  (List.range 6).foldl (fun r k =>
    r.cross g [(fl, some k), (ce, some k)] fun e => decide ((e.at_ fl k).getD 0 ≤ (e.at_ ce k).getD 0)) r

/-- Every field resolved, record by record, each record's conditions after its fields. -/
def resolveAll (g : Given) : Resolved :=
  let r0 : Resolved := ⟨[], [], [], [], []⟩
  let r1 := (((r0.fields g supplySpecs).fields g paceSpecs).fields g threadSpecs).below g 0x0308 0x0307
  let r2 := r1.cross g [(0x0303, none), (0x0302, none)] fun e => decide (2 * e.num 0x0303 ≤ e.num 0x0302)
  let r3 := ((r2.fields g patternSpecs).fields g acqSpecs).fields g classicalSpecs
  let r4 := (r3.below g 0x062B 0x062A).rests g 0x060E 0x0610
  let r5 := ((r4.fields g storeSpecs).below g 0x0733 0x0732).rests g 0x070E 0x0710
  let r6 := ((r5.fields g modelSpecs).fields g numericSpecs).fields g trainSpecs
  let r7 := r6.cross g [(0x0A0F, none), (0x0A10, none), (0x0A11, none)]
    fun e => decide (e.num 0x0A0F < e.num 0x0A10) && decide (e.num 0x0A10 < e.num 0x0A11)
  let r8 := (((r7.fields g seamSpecs).below g 0x0B06 0x0B05).fields g powerSpecs).fields g capsSpecs
  let r9 := ((((r8.shares g 0x0D03 0x0D07).shares g 0x0D04 0x0D08).fields g fastSpecs).fields g pathSpecs)
  let r10 := r9.cross g [(0x0F02, none), (0x0F01, none)] fun e => decide (e.num 0x0F01 + 3 / 10 ≤ e.num 0x0F02)
  let r11 := r10.cross g [(0x0F01, none), (0x0728, none)] fun e => decide (e.num 0x0728 + 2 / 10 < e.num 0x0F01)
  ((((r11.fields g burstSpecs).fields g ownSpecs).fields g outSpecs).fields g imageSpecs)

/-! ### What a missing field does (Table 16-6) -/

/-- An element has no value. -/
def Resolved.lacks (r : Resolved) (id : Nat) : Bool := r.missing.any fun m => m.1 == id

/-- The slot is rejected with reason 8. -/
def Resolved.rejects (r : Resolved) (g : Given) : Bool :=
  ([0x0601, 0x0604, 0x0609, 0x0617, 0x061B, 0x0C06, 0x0C07, 0x0C0C, 0x0C0D].any r.lacks) ||
  (r.missing.any fun m => m.1 == 0x0D02 && decide (m.2 < g.code.capPins)) ||
  ((r.lacks 0x0E01 || r.lacks 0x0E02) && (decide (0 < r.env.num 0x0501) || decide (0 < r.env.num 0x0502))) ||
  (r.failed.any fun k => !(k == 7 || k == 15 || k == 16))

/-- The store is not served (fault 0x911). -/
def Resolved.noStore (r : Resolved) (g : Given) : Bool :=
  !(g.code.chem == 0) &&
  ((([0x072A, 0x0727, 0x0704, 0x0709, 0x0701].any r.lacks)) || r.failed.any fun k => k == 7 || k == 15)

/-- Bursts are disabled (fault 0x912). -/
def Resolved.noBursts (r : Resolved) (g : Given) : Bool :=
  !(g.code.chem == 0) && !(g.code.burst == 0) &&
  ((r.missing.any fun m => m.1 == 0x1001 && decide (m.2 < g.code.breqLines)) || r.failed.any fun k => k == 16)

/-! ### The fields in force -/

/-- The fields in force, record by record, from their resolved values. -/
def supplyFields (e : Env) : SupplyFields :=
  { grace := e.nat 0x0101, parkIMax := e.num 0x0102, parkDwell := e.nat 0x0103
    checkInterval := e.nat 0x0104, checkRounds := e.nat 0x0105 }

@[inherit_doc supplyFields] def paceFields (e : Env) : PaceFields :=
  { phiInverter := e.nat 0x0201, phiMains := e.nat 0x0202, phiDc := e.nat 0x0203
    roundMin := e.nat 0x0204 }

@[inherit_doc supplyFields] def threadFields (e : Env) : ThreadFields :=
  { cmdRetries := e.nat 0x0301, balHold := e.nat 0x0302, balRefresh := e.nat 0x0303
    identInterval := e.nat 0x0304, quarantineCount := e.nat 0x0305, crcLimit := e.nat 0x0306
    ov := e.nat 0x0307, uv := e.nat 0x0308, persist := e.nat 0x0309
    balTMax := ((e.num 0x030A + 40) * 2).floor.toNat }

@[inherit_doc supplyFields] def patternFields (e : Env) : PatternFields :=
  { foreignLimit := e.nat 0x0409, driftLimit := e.nat 0x040A, installTime := e.nat 0x040B
    installMaxErrors := e.nat 0x040C, periodicTime := e.nat 0x040D, periodicMaxErrors := e.nat 0x040E
    periodicInterval := e.nat 0x040F }

@[inherit_doc supplyFields] def acqFields (e : Env) : AcqFields :=
  { rA := e.nat 0x0501, rB := e.nat 0x0502, invertA := e.flag 0x0503
    invertB := e.flag 0x0504, agreeAbs := e.num 0x0505, agreeRel := e.num 0x0506
    agreeRounds := e.nat 0x0507, sentRole := e.nat 0x0508, sentTick := e.nat 0x0509
    sentNibbles := e.nat 0x050A, sentCrcRecommended := e.flag 0x050B, sentZero := e.nat 0x050C
    sentLsb := e.nat 0x050D, sentLatency := e.nat 0x050E, sentIdMsg := e.nat 0x050F
    sentIdValue := e.nat 0x0510, ratioVpkA := e.nat 0x0511, ratioVpkB := e.nat 0x0512
    vpkAgree := e.nat 0x0513, ratioVmain := e.nat 0x0514, tclR25 := e.nat 0x0515
    tclBeta := e.nat 0x0517, stR25 := e.nat 0x0516, stBeta := e.nat 0x0518
    siShunt := e.nat 0x0519 }

/-- The CLASSICAL fields, and those that replace them for the store (R219). -/
def estFields (e : Env) : EstFields :=
  { ocvV := e.rows 0x0601 21, ocvT := e.vec 0x0602, ocvUv := e.num 0x0603
    capNominal := e.num 0x0604, capU0 := e.num 0x0605, capUMin := e.num 0x0606
    capUAge := e.num 0x0607, capStepMax := e.num 0x0608, rNominal := e.num 0x0609
    rStepMin := e.num 0x060A, rGain := e.num 0x060B, rURel := e.num 0x060C
    restIMax := e.num 0x060D, restT1 := e.num 0x060E, restTau := e.num 0x060F
    restTLong := e.num 0x0610, maxCorr := e.num 0x0611, minDelta := e.num 0x0612
    tackUMin := e.num 0x0613, tackUMax := e.num 0x0614, overdue := e.num 0x0615
    overdueRate := e.num 0x0616, fullV := e.num 0x0617, fullITaper := e.num 0x0618
    fullDwell := e.num 0x0619, fullU := e.num 0x061A, emptyV := e.num 0x061B
    emptyDwell := e.num 0x061C, emptyU := e.num 0x061D, uUnrelaxed := e.num 0x061E
    uLoaded := e.num 0x061F, gainShunt := e.num 0x0620, gainSensor := e.num 0x0621
    gainSent := e.num 0x0622, offShunt := e.num 0x0623, offSensor := e.num 0x0624
    offSent := e.num 0x0625, iAbsent := e.num 0x0626, parkIAllow := e.num 0x0627
    selfDischarge := e.num 0x0628, rBleed := e.num 0x0629, balStart := e.num 0x062A
    balStop := e.num 0x062B, balMaxWidth := e.num 0x062C, displayRate := e.num 0x062D }

@[inherit_doc estFields] def estStoreFields (e : Env) : EstFields :=
  { ocvV := e.rows 0x0701 21, ocvT := e.vec 0x0702, ocvUv := e.num 0x0703
    capNominal := e.num 0x0704, capU0 := e.num 0x0705, capUMin := e.num 0x0706
    capUAge := e.num 0x0707, capStepMax := e.num 0x0708, rNominal := e.num 0x0709
    rStepMin := e.num 0x070A, rGain := e.num 0x070B, rURel := e.num 0x070C
    restIMax := e.num 0x070D, restT1 := e.num 0x070E, restTau := e.num 0x070F
    restTLong := e.num 0x0710, maxCorr := e.num 0x0711, minDelta := e.num 0x0712
    tackUMin := e.num 0x0713, tackUMax := e.num 0x0714, overdue := e.num 0x0715
    overdueRate := e.num 0x0716, fullV := e.num 0x072C, fullITaper := e.num 0x0717
    fullDwell := e.num 0x0718, fullU := e.num 0x0719, emptyV := e.num 0x072B
    emptyDwell := e.num 0x071A, emptyU := e.num 0x071B, uUnrelaxed := e.num 0x071C
    uLoaded := e.num 0x071D, gainShunt := e.num 0x071E, gainSensor := e.num 0x071F
    gainSent := e.num 0x0720, offShunt := e.num 0x0721, offSensor := e.num 0x0722
    offSent := e.num 0x0723, iAbsent := e.num 0x0724, parkIAllow := e.num 0x0627
    selfDischarge := e.num 0x0725, rBleed := e.num 0x0731, balStart := e.num 0x0732
    balStop := e.num 0x0733, balMaxWidth := e.num 0x0734, displayRate := e.num 0x0726 }

@[inherit_doc supplyFields] def hemFields (e : Env) : HemFields :=
  { pLoad := e.num 0x0727, vShutdown := e.num 0x0728, selvage := e.num 0x0729 }

@[inherit_doc supplyFields] def storeFields (e : Env) : StoreFields :=
  { cells := e.nat 0x072A, vMin := e.num 0x072B, vMax := e.num 0x072C
    floorV := e.num 0x072D, presentV := e.num 0x072E, changeV := e.num 0x072F
    changeStep := e.num 0x0730, vset := (List.range 15).map (e.at_ 0x0735)
    dcdcGain := e.num 0x0736
    refSlew := e.num 0x0737, chgTMin := e.num 0x0738, chgTMax := e.num 0x0739 }

@[inherit_doc supplyFields] def pathFields (e : Env) : PathFields :=
  { fail := e.num 0x0F01 * 1000, good := e.num 0x0F02 * 1000, ov := e.num 0x0F03 * 1000
    rampMain := e.num 0x0F04, rampRes := e.num 0x0F05, shortLag := e.num 0x0F06 * 1000
    shortVds := e.num 0x0F07 * 1000, shortCool := e.num 0x0F08, dwellMin := e.num 0x0F09 }

@[inherit_doc supplyFields] def burstFields (e : Env) : BurstFields :=
  { power := (List.range 2).map (e.at_ 0x1001)
    maxDuration := e.nat 0x1002, release := e.nat 0x1003
    keep := e.num 0x1004 }

@[inherit_doc supplyFields] def numericFields (e : Env) : NumericFields :=
  { renormInterval := e.nat 0x0901, replayPeriod := e.nat 0x0902, betaOrd := (e.num 0x0903).floor
    betaLined := (e.num 0x0904).floor, vMax := e.num 0x0905, cohortLimit := e.nat 0x0906
    ceLimit := e.nat 0x0907, scrubPeriod := e.nat 0x0908 }

@[inherit_doc supplyFields] def trainFields (e : Env) : TrainFields :=
  { enable := e.flag 0x0A01, activeCells := e.nat 0x0A02, warm := e.nat 0x0A03
    epoch := e.nat 0x0A04, fit := e.nat 0x0A05, updateInterval := e.nat 0x0A06
    lr := e.num 0x0A07, sigmaV := e.num 0x0A08, weightSoc := e.num 0x0A09
    weightCap := e.num 0x0A0A, margin := e.num 0x0A0B, minSamples := e.nat 0x0A0C
    minCells := e.nat 0x0A0D, ckptInterval := e.nat 0x0A0E, shed1 := e.num 0x0A0F
    shed2 := e.num 0x0A10, shed3 := e.num 0x0A11 }

@[inherit_doc supplyFields] def seamFields (e : Env) : SeamFields :=
  { residV := e.num 0x0B01, residRounds := e.nat 0x0B02, rejoin := e.nat 0x0B03
    splitReport := e.nat 0x0B04, holdEnter := e.num 0x0B05, holdExit := e.num 0x0B06
    holdRounds := e.nat 0x0B07, packSplitMax := e.num 0x0B08 }

@[inherit_doc supplyFields] def powerFields (e : Env) : PowerFields :=
  { vMin := e.num 0x0C01, vMax := e.num 0x0C02, socMin := e.num 0x0C03
    socMax := e.num 0x0C04, rScale := e.vec 0x0C05, iDis := e.num 0x0C06
    iChg := e.num 0x0C07, derateD := e.pairs 0x0C08, derateC := e.pairs 0x0C09
    derateAbsent := e.num 0x0C0A, horizon := e.nat 0x0C0B, pDis := e.num 0x0C0C
    pChg := e.num 0x0C0D }

@[inherit_doc supplyFields] def consumerFields (e : Env) (k : Nat) : Consumer :=
  { pinDir := if 1 ≤ (e.at_ 0x0D01 k).getD 0 then .charge else .discharge, fullScale := e.at_ 0x0D02 k
    d := ⟨(e.at_ 0x0D03 k).getD 0, ((e.at_ 0x0D05 k).getD 0).floor.toNat, (e.at_ 0x0D07 k).getD 0⟩
    c := ⟨(e.at_ 0x0D04 k).getD 0, ((e.at_ 0x0D06 k).getD 0).floor.toNat, (e.at_ 0x0D08 k).getD 0⟩
    rise := (e.at_ 0x0D09 k).getD 0 }

@[inherit_doc supplyFields] def fastFields (e : Env) : FastFields :=
  { dis := e.num 0x0E01, chg := e.num 0x0E02, filter := e.nat 0x0E03
    disAction := e.nat 0x0E04, chgAction := e.nat 0x0E05, ovAction := e.nat 0x0E06
    uvAction := e.nat 0x0E07, split := e.num 0x0E08, tripReads := e.nat 0x0E09
    zeroHold := e.nat 0x0E0A, tripHold := e.nat 0x0E0B, release := e.flag 0x0E0C }

@[inherit_doc supplyFields] def ownFields (e : Env) : OwnFields :=
  { seats := e.nat 0x1101, listenMax := e.nat 0x1102, beatMiss := e.nat 0x1103
    healthGrace := e.nat 0x1104, deferMax := e.nat 0x1105, tripDisagree := e.nat 0x1106
    authLimit := e.nat 0x1107, agreeSoc := e.num 0x1108, agreePower := e.num 0x1109
    agreeHem := e.num 0x110A, agreeRounds := e.nat 0x110B }

@[inherit_doc supplyFields] def outFields (e : Env) : OutFields :=
  { canaBase := e.nat 0x1201, canbBase := e.nat 0x1202, spArb := e.num 0x1203
    spData := e.num 0x1204, tdc := e.nat 0x1205, faultPeriod := e.nat 0x1206
    ethSeats := e.nat 0x1207, macBase := e.nat 0x1208, ipBase := e.nat 0x1209
    group := e.nat 0x120A, port := e.nat 0x120B, vlan := e.nat 0x120C
    pcp := e.nat 0x120D, dscp := e.nat 0x120E, ttl := e.nat 0x120F
    roundShare := e.num 0x1210 }

@[inherit_doc supplyFields] def rollFields (e : Env) : RollFields :=
  { commitHours := e.nat 0x1301, revokeKeys := e.nat 0x1302, eraseLimit := e.nat 0x1303
    fallback := e.flag 0x1304 }

@[inherit_doc supplyFields] def modelFields (e : Env) (cohorts : List (Option Graph)) (store : Option Graph) (map : List Nat) (budget : List Rat) :
    ModelFields :=
  { cohorts := cohorts, store := store, cohortMap := map, linedTauMin := e.num 0x080C, openLoopMax := e.nat 0x080D, warmupRounds := e.nat 0x080E
    stepShare := e.num 0x080F, memShare := e.num 0x0810, budget := budget }

/-- Every field in force; a field without a value stands at 0. -/
def imageFields (e : Env) (model : ModelFields) : ImageFields :=
  { image := rollFields e, supply := supplyFields e, pace := paceFields e, thread := threadFields e, pattern := patternFields e
    acq := acqFields e, est := estFields e, estStore := estStoreFields e, hem := hemFields e, store := storeFields e
    path := pathFields e, burst := burstFields e, model := model, numeric := numericFields e, train := trainFields e
    seam := seamFields e, power := powerFields e, consumers := (List.range 6).map (consumerFields e), fast := fastFields e
    own := ownFields e, out := outFields e }

end Sys2Proof.Machine
end

