-- ==== Sys2Proof/Machine/Frames.lean ====
section
/-!
DEFINITION. The published frames (chapter 17): the common header and end-to-end protection, the payloads of SUMMARY, FAULT,
CAPS, BURST and ROUND, and the Ethernet framing of a ROUND datagram.
-/
namespace Sys2Proof.Machine

/-! ### Header and protection (R424, R425) -/

/-- Bits as a number, the first the least significant. -/
def bitsNat (l : List Bool) : Nat := l.foldr (fun b a => 2 * a + b.toNat) 0

/-- The common header (Table 17-2). -/
def State.header (s : State) (kind role alive : Nat) (reduced : Bool) (word : BitVec 24) (round : Round) : List Byte :=
  beBytes 1 (16 * kind + 1) ++
  beBytes 1 (64 * s.seat + 16 * role +
    bitsNat [reduced, s.flt.safeN, s.img.rom, s.sup.dev == DevState.grace]) ++
  beBytes 1 alive ++ beBytes 3 word.toNat ++ beBytes 6 (round % 2 ^ 48)

/-- The frame with its CRC over the data ID and every byte before it. -/
def protect (dataId : Nat) (l : List Byte) : List Byte := l ++ beBytes 4 (crc32 (beBytes 2 dataId ++ l))

/-- The identifier of a CAN frame (Table 17-1): the base of its channel, the seat, and the second of its channel. -/
def State.canId (s : State) (b second : Bool) : Nat :=
  (if b then s.img.f.out.canbBase else s.img.f.out.canaBase) + 4 * s.seat + second.toNat

/-! ### SUMMARY (Table 17-4) -/

/-- Under the ROM defaults with no fallback variant every value field is not available (Table 17-12). -/
def State.noValues (s : State) : Bool := s.img.rom && s.img.variant.isNone

/-- The payload of SUMMARY: it reports the snap before, so once the limits of the present snap are formed it takes those before
them (R421). -/
def State.summaryPayload (s : State) : List Byte :=
  let set := if s.noValues then none else s.seam.pub
  let pk := set.bind fun p => if p.pack.invalid then none else some p.pack
  let st := set.bind fun p => if p.storeVals.invalid then none else some p.storeVals
  let hem := set.bind fun p => if p.hem.valid then some p.hem else none
  let man := set.bind fun p => if p.invalidMan then none else some p
  let some_ (b : Bool) (x : Rat) : Option Rat := if b then some x else none
  let power (now before : List Rat) (k : Nat) : List Byte :=
    fieldR 2 (1 / 20) (some_ set.isSome ((if s.pow.capRound = some s.pace.round then before else now).getD k 0))
  let dis := power s.pow.pd s.pow.lastPd
  let chg := power s.pow.pc s.pow.lastPc
  let flag (f : PubSet → Bool) : Bool := (set.map f).getD true
  fieldSoc (pk.map fun v => v.soc) ++ fieldLo (pk.map fun v => v.lo) ++ fieldHi (pk.map fun v => v.hi) ++
  fieldSoc (set.bind fun p => p.display) ++
  fieldR 3 (1 / 1000) (pk.map fun v => v.cap) ++ fieldR 3 (1 / 1000) (pk.map fun v => v.qDis) ++
  dis 0 ++ dis 1 ++ dis 2 ++ chg 0 ++ chg 1 ++ chg 2 ++
  fieldSoc (st.map fun v => v.soc) ++ fieldSoc (set.bind fun p => p.displayStore) ++
  fieldR 2 (1 / 100) (man.map fun p => p.eMan) ++ fieldR 2 (1 / 10) (man.map fun p => p.tMan) ++
  fieldR 2 (1 / 100) (hem.map fun h => h.energy) ++ fieldR 2 (1 / 100) (hem.map fun h => h.selvage) ++
  fieldR 2 (1 / 100) (set.map fun p => p.committed) ++
  beBytes 1 (pathCode s.res.path + 8 * bitsNat [flag fun p => p.invalidMan, (set.map fun p => p.provisional).getD false, s.res.damping] +
    64 * s.trn.shed) ++
  beBytes 1 (bitsNat [flag fun p => p.pack.invalid, flag fun p => !p.hem.valid, s.cls.pack.overdue || s.cls.store.overdue,
    s.seam.cohorts.any fun c => c.hold, s.lrn.disabled || s.lrn.disabledCold, s.res.absent]) ++
  fieldU 2 (set.map fun p => (p.pack.split : Int)) ++ fieldU 2 (set.map fun p => (p.pack.open_ : Int)) ++
  beBytes 1 (min 255 s.flt.all.length) ++ beBytes 1 0

/-! ### FAULT (R432, R433) -/

/-- A fault entry (Table 17-5). -/
def faultEntry (i : FaultInst) (event : Nat) : List Byte := beBytes 4 (i.code * 2 ^ 20 + event * 2 ^ 18 + i.detail % 65536)

/-- The event field of an entry. -/
def FaultEventKind.code : FaultEventKind → Nat
  | .raised => 1
  | .cleared => 2
  | .raisedAndCleared => 3

/-- Instances in ascending code, and detail within a code. -/
def FaultInst.before (i j : FaultInst) : Bool := decide (i.code < j.code) || (i.code == j.code && decide (i.detail < j.detail))

/-- An instance put in its place. -/
def insertInst (i : FaultInst) : List FaultInst → List FaultInst
  | [] => [i]
  | j :: rest => if i.before j then i :: j :: rest else j :: insertInst i rest

/-- Standing instances in the order of the rotation: after the last one sent, wrapping (R432). -/
def Faults.rotation (f : Faults) : List FaultInst :=
  let l := f.all.foldl (fun a i => insertInst i a) []
  match f.lastSent with
  | none => l
  | some last => (l.filter fun i => last.before i) ++ l.filter fun i => !last.before i

/-- The entries of a FAULT frame: up to 8 events, then standing faults not carried as events; and the last of these. -/
def Faults.entries (f : Faults) : List (List Byte) × Option FaultInst :=
  let ev := f.events.take 8
  let st := (f.rotation.filter fun i => !ev.any fun e => e.inst.same i).take (8 - ev.length)
  ((ev.map fun e => faultEntry e.inst e.kind.code) ++ st.map fun i => faultEntry i 0, st.getLast?)

/-- The cohort after the one shown last on page 2, among those with a graph. -/
def State.nextPageCohort (s : State) : Nat :=
  let l := (List.range 17).filter fun c => (s.graph c).isSome
  ((l.find? fun c => decide (s.out.pageCohort < c)).orElse fun _ => l.head?).getD 0

/-- Twelve bytes, filled with zeros. -/
def twelve (l : List Byte) : List Byte := (l ++ List.replicate 12 0).take 12

/-- A service page (Table 17-6); page 2 shows the cohort given. -/
def State.servicePage (s : State) (page cohort : Nat) : List Byte :=
  let codes := s.code.word.toNat
  let lv := s.strap.latched
  twelve (match page with
    | 0 => beBytes 1 s.img.slot ++ beBytes 4 s.img.version ++ (if s.img.rom then [] else s.img.digest.take 7)
    | 1 =>
      beBytes 4 ((s.img.variant.map fun v => v.digest.toNat).getD 0) ++ beBytes 4 codes ++ beBytes 1 s.nv.fuses.counter ++
      beBytes 1 (match s.nv.fuses.lifecycle with | .factory => 0 | .production => 1 | .field => 2 | .return_ => 3) ++
      beBytes 2 Config.stepping
    | 2 =>
      let y := s.lrn.fray.getD cohort ⟨0, 0, 0, 0, 0⟩
      beBytes 1 cohort ++ fieldU 4 (some (y.total : Int)) ++ fieldU 2 (some (y.tour : Int)) ++ fieldR 2 (1 / 4096) (some y.phi) ++
      fieldU 2 (some (y.aborts : Int))
    | 3 =>
      match s.nv.trained with
      | none => List.replicate 12 255
      | some r =>
        beBytes 1 r.cohort ++ beBytes 1 r.reason ++ beBytes 2 (r.cycle % 65536) ++
        fieldR 2 (1 / 32768) (some (Config.quot r.lShadow r.lLive)) ++ fieldU 2 (some ((r.samples / 10000 : Nat) : Int)) ++
        fieldU 2 (some (r.xLive : Int)) ++ fieldU 2 (some (r.xShadow : Int))
    | 4 =>
      let k := s.nv.newestCkpt
      fieldU 3 (some ((s.nv.runTicks / hourTicks : Nat) : Int)) ++ fieldU 3 (some (s.nv.parks : Int)) ++
      fieldU 4 (k.map fun x => (x.2.seq : Int)) ++ beBytes 1 ((k.map fun x => x.1.toNat).getD 255)
    | _ =>
      beBytes 1 (codes / 2 ^ 32) ++ beBytes 1 (bitsNat [false, false, lv.test0, lv.test1, lv.install, lv.slotPref, lv.seat0, lv.seat1]) ++
      beBytes 1 ((s.code.level 0).getD 255) ++ beBytes 2 Config.epochFirst ++ beBytes 2 Config.epochLast)

/-- The payload of FAULT with the next service page, and the last standing fault it carries. -/
def State.faultPayloadOut (s : State) : List Byte × Option FaultInst :=
  let (es, last) := s.flt.entries
  let cohort := if s.out.page = 2 then s.nextPageCohort else s.out.pageCohort
  (fieldU 2 (some (s.flt.all.length : Int)) ++ beBytes 1 s.out.page ++ beBytes 1 es.length ++
    (es.flatten ++ List.replicate (32 - 4 * es.length) 0) ++ s.servicePage s.out.page cohort, last)

/-! ### CAPS and BURST (R434, R435) -/

/-- The bit of a fast-path event in byte 57 of CAPS. -/
def fastBit : FastEvent → Option Nat
  | .disOver => some 0
  | .chgOver => some 1
  | .cellOv => some 2
  | .cellUv => some 3
  | .persist => some 4
  | .request => none

/-- The payload of CAPS. -/
def State.capsPayload (s : State) : List Byte :=
  let watt (x : Rat) : List Byte := fieldR 3 (1 / 1000) (some x)
  watt s.pow.totalD ++ watt s.pow.totalC ++
  ((List.range 6).map fun k => let p := s.pow.latched.getD k (0, 0); watt p.1 ++ watt p.2).flatten ++
  beBytes 1 (bitsNat (List.replicate 6 (s.forced .discharge) ++ [s.tripN == some false, s.fast.trip])) ++
  beBytes 1 (bitsNat (List.replicate 6 (s.forced .charge) ++ [s.fast.request, s.pow.frozen])) ++
  beBytes 1 (bitsNat ((List.range 6).map fun k => decide (k < s.code.capPins))) ++
  beBytes 1 (bitsNat ((List.range 5).map fun k => s.out.capsEvents.any fun e => fastBit e == some k)) ++ [0, 0]

/-- The entry of a line: one that closed in the round with its closing state, else the granted one, else none. -/
def State.lineEntry (s : State) (line : Nat) : List Byte :=
  match s.res.closed.find? fun x => x.1.line == line with
  | some (e, k, ms) => burstEntry k.code e ms
  | none =>
    match s.burst line with
    | some e => burstEntry 1 e ((s.now - e.t) / 1000000)
    | none => noEntry

/-- The payload of BURST. -/
def State.burstPayload (s : State) : List Byte :=
  let a := s.seam.pub.bind fun p =>
    if p.hem.valid then some (nearest ((max 0 p.hem.avail - s.img.f.burst.keep - s.res.committed) * 10000)) else none
  let mv (v : Option Rat) : List Byte := fieldR 2 (1 / 1000) v
  s.lineEntry 0 ++ s.lineEntry 1 ++ fieldS 3 a ++ beBytes 1 (s.out.answers.getD 0 0) ++ beBytes 1 (s.out.answers.getD 1 0) ++
  beBytes 1 (min 255 (s.res.refusals.getD 0 0)) ++ beBytes 1 (min 255 (s.res.refusals.getD 1 0)) ++
  beBytes 1 (s.res.vset % 16 + 16 * pathCode s.res.path) ++
  mv (some (if s.drivesPath then s.res.ref else 0)) ++ mv (some (if s.refHeld then 0 else (s.refTarget s.res.vset).getD 0)) ++
  [0, 0, 0, 0]

/-! ### ROUND (R437, R438) -/

/-- The bits of byte 26 of a full record and byte 6 of a compact one. -/
def PubCell.seamByte (c : PubCell) : Nat :=
  (match c.state with | .closed => 0 | .open_ => 1 | .split => 2) +
    4 * bitsNat [c.srcL, c.resid, c.hold, c.absentL, c.warmup, c.degraded]

/-- The coding of a tier (Table 17-10). -/
def Tier.code : Tier → Nat
  | .shunt => 0
  | .sensor => 1
  | .sent => 2
  | .absent => 3

/-- A voltage field in 100 µV. -/
def voltField (v : Option Int) : List Byte := fieldU 2 v

/-- A full record (Table 17-10). -/
def State.fullRecord (s : State) (c : PubCell) : List Byte :=
  let f := s.estOf c.id
  let cap (x : Rat) : List Byte := fieldU 2 (some (nearest (Config.quot (x * 10000) f.capNominal)))
  let res (x : Rat) : List Byte := fieldU 2 (some (nearest (Config.quot (x * 1024) f.rNominal)))
  beBytes 2 c.id ++ fieldSoc (some c.soc) ++ fieldLo (some c.lo) ++ fieldHi (some c.hi) ++ cap c.cap ++ cap c.clsCap ++
  fieldR 1 (1 / 4) (some c.uC) ++ beBytes 1 (bitsNat [c.capL, c.resL, c.anomaly.isSome, c.ocv.isSome]) ++ res c.res ++ res c.clsRes ++
  voltField c.volt ++ beBytes 1 c.temp ++ beBytes 1 c.flags.toNat ++
  beBytes 2 (match c.anomaly with | some a => f32Bits ((flB16 a).getD a) / 65536 | none => 0xFFFF) ++
  fieldU 2 (c.ocv.map fun v => nearest (v * 10000)) ++ beBytes 1 c.seamByte ++
  beBytes 1 (bitsNat [c.openLoop, c.nonfinite, c.basted, c.loaded, c.overdue] + 32 * c.tier.code + 128 * c.gap.toNat) ++
  beBytes 1 (c.balancing.toNat + 2 * c.cohort) ++ [0, 0, 0]

/-- A bracket arm in 0.1 %, rounded up; 0xFF for 25.5 % or more. -/
def armByte (x : Rat) : Nat := min 255 (x * 10).ceil.toNat

/-- A compact record (Table 17-11). -/
def compactRecord (c : PubCell) : List Byte :=
  fieldSoc (some c.soc) ++ beBytes 1 (armByte (c.soc - c.lo)) ++ beBytes 1 (armByte (c.hi - c.soc)) ++ voltField c.volt ++
  beBytes 1 c.seamByte ++ beBytes 1 (bitsNat [c.basted, c.volt.isSome, c.overdue, c.balancing])

/-- A page before its header: compact or full, its cells. -/
structure Page where
  compact : Bool
  cells : List PubCell
  deriving DecidableEq, Repr

/-- A list cut in pieces of n. -/
def pieces {α : Type} (n : Nat) (l : List α) : List (List α) := chunks n (l.length + 1) l

/-- How many full pages fit a round (R438). -/
def State.pageBudget (s : State) : Nat :=
  (s.img.f.out.roundShare / 100 * s.img.f.pace.roundMin * 100 / 1224).floor.toNat

/-- The pages of a round, whether in reduced mode, and where the full pages go on next (R438). -/
def State.roundPages (s : State) (l : List PubCell) : List Page × Bool × Nat :=
  let n := l.length
  let b := s.pageBudget
  if ceilDiv n 44 ≤ b then ((pieces 44 l).map fun c => ⟨false, c⟩, false, 0)
  else
    let m := 44 * (b - ceilDiv n 176)
    let k := s.out.fullNext % n
    let full := ((l ++ l).drop k).take (min m n)
    (((pieces 176 l).map fun c => ⟨true, c⟩) ++ (pieces 44 full).map fun c => ⟨false, c⟩, true, (k + min m n) % n)

/-- A ROUND datagram's UDP payload (R424, R437). -/
def State.datagram (s : State) (set : PubSet) (reduced : Bool) (alive index count : Nat) (p : Page) : List Byte :=
  let v := set.pack
  let pos (c : CellId) : List Byte := beBytes 2 c
  let inv (x : Rat) : Option Rat := if v.invalid then none else some x
  protect (0x1000 + s.seat)
    (s.header 5 (roleCode s.own.role) (alive % 256) reduced s.pace.wordPrev set.snap ++
     beBytes 1 index ++ beBytes 1 count ++ beBytes 1 p.cells.length ++ beBytes 1 p.compact.toNat ++
     pos ((p.cells.head?.map fun c => c.id).getD 0) ++ beBytes 4 ((s.img.variant.map fun v => v.digest.toNat).getD 0) ++
     beBytes 8 (set.t / 10) ++ pos v.posDis ++ pos v.posChg ++ fieldSoc (inv v.minSoc) ++ pos v.posMin ++ fieldSoc (inv v.maxSoc) ++
     pos v.posMax ++ fieldR 3 1 (inv v.res) ++ beBytes 1 v.holds ++ [0, 0] ++
     (p.cells.map fun c => if p.compact then compactRecord c else s.fullRecord c).flatten)

/-! ### Ethernet framing (R436) -/

/-- The Internet checksum of bytes. -/
def inetSum (l : List Byte) : Nat :=
  let words := (List.range ((l.length + 1) / 2)).map fun k => (l.getD (2 * k) 0).toNat * 256 + (l.getD (2 * k + 1) 0).toNat
  let a := words.sum
  let b := a % 65536 + a / 65536
  65535 - (b % 65536 + b / 65536)

/-- The Ethernet frame of a datagram, from the destination address to the end of the UDP payload. -/
def State.ethernetFrame (s : State) (ident : Nat) (udp : List Byte) : List Byte :=
  let f := s.img.f.out
  let src := beBytes 4 (f.ipBase + s.seat)
  let dst := beBytes 4 f.group
  let ulen := 8 + udp.length
  let head (sum : Nat) : List Byte :=
    beBytes 1 0x45 ++ beBytes 1 (4 * f.dscp) ++ beBytes 2 (20 + ulen) ++ beBytes 2 (ident % 65536) ++ beBytes 2 0x4000 ++ beBytes 1 f.ttl ++
    beBytes 1 17 ++ beBytes 2 sum ++ src ++ dst
  let u (sum : Nat) : List Byte := beBytes 2 f.port ++ beBytes 2 f.port ++ beBytes 2 ulen ++ beBytes 2 sum
  let pseudo := src ++ dst ++ beBytes 1 0 ++ beBytes 1 17 ++ beBytes 2 ulen
  let us := inetSum (pseudo ++ u 0 ++ udp)
  [0x01, 0x00, 0x5E] ++ beBytes 3 (f.group % 2 ^ 23) ++ beBytes 6 (f.macBase + s.seat) ++
  beBytes 2 0x8100 ++ beBytes 2 (8192 * f.pcp + f.vlan) ++ beBytes 2 0x0800 ++ head (inetSum (head 0)) ++
  u (if us = 0 then 65535 else us) ++ udp

end Sys2Proof.Machine
end

