-- ==== Sys2Proof/Machine/Output.lean ====
section
/-!
DEFINITION. The output links (chapter 17): what is queued at stitches 62 and 63, the transmit buffers, the ROUND pages, and the
error and link states of CANA, CANB and SGMII.
-/
namespace Sys2Proof.Machine

/-! ### Who publishes (Table 17-12) -/

/-- A shut-down has reached its freeze (R71). -/
def State.isFrozen (s : State) : Bool := (s.sup.shut.map fun x => x.frozen).getD false

/-- Frames are queued: RUN, or GRACE before the freeze, outside a park check and the boot's first round, with P6 on. -/
def State.publishes (s : State) : Bool :=
  s.rounds && !s.sup.parkCheck && !s.isFrozen && s.domainOn 6 && !(s.own.since == s.pace.round)

/-- CANA and CANB are served. -/
def State.canServed (s : State) : Bool := s.publishes && s.code.canOn

/-- ROUND is sent by this seat. -/
def State.roundServed (s : State) : Bool :=
  s.publishes && s.code.ethernet && s.tc0Up && !s.noValues && s.img.f.out.ethSeats.testBit s.seat

/-- The level at which CANA_STB and CANB_STB are driven (R428); true is high, which puts the transceivers in standby. -/
def State.canStandby (s : State) : Bool := !(s.pace.running && s.domainOn 6 && s.code.canOn)

/-! ### Transmit buffers (R425, R429) -/

/-- The transmission of the frame queued has begun: it goes on whatever is queued next. -/
def CanBuf.begin_ (b : CanBuf) (began : Bool) : CanBuf :=
  if began && b.queued.isSome && b.sending.isNone then { b with sending := b.queued, queued := none } else b

/-- A frame is queued. A frame not begun is replaced, and the round counts under 0x675. -/
def CanBuf.put (b : CanBuf) (round : Round) (frame : List Byte) : CanBuf :=
  { b with
      queued := some frame
      alive := (b.alive + 1) % 256
      replaced := if b.queued.isSome && !(b.lastReplaced == some round) then b.replaced + 1 else b.replaced
      lastReplaced := if b.queued.isSome then some round else b.lastReplaced }

/-- Transmission breaks off at bus-off: a frame under way waits again, unless a newer one has replaced it. -/
def CanBuf.break_ (b : CanBuf) : CanBuf := { b with sending := none, queued := b.queued.orElse fun _ => b.sending }

/-- The transmission of a frame completes. -/
def CanBuf.done (b : CanBuf) : CanBuf := if b.sending.isSome then { b with sending := none } else { b with queued := none }

/-- Nothing waits in the buffer and nothing is under way from it. -/
def CanBuf.idle (b : CanBuf) : Bool := b.queued.isNone && b.sending.isNone

/-- The buffer of an identifier: channel CANB or CANA, and the second or the first of its channel. -/
def Output.buf (o : Output) (b second : Bool) : CanBuf :=
  let c := if b then o.canB else o.canA
  if second then c.second else c.first

/-- A change of one buffer. -/
def State.updBuf (s : State) (b second : Bool) (f : CanBuf → CanBuf) : State :=
  let g (c : CanChan) : CanChan := if second then { c with second := f c.second } else { c with first := f c.first }
  { s with out := if b then { s.out with canB := g s.out.canB } else { s.out with canA := g s.out.canA } }

/-- A change of one channel. -/
def State.updChan (s : State) (b : Bool) (f : CanChan → CanChan) : State :=
  { s with out := if b then { s.out with canB := f s.out.canB } else { s.out with canA := f s.out.canA } }

/-- A frame of a kind is queued: the header with the alive counter, the payload and the CRC (R424, R425). -/
def State.queueFrame (s : State) (b second : Bool) (kind role : Nat) (word : BitVec 24) (round : Round)
    (payload : List Byte) : State :=
  let x := s.out.buf b second
  let frame := protect (s.canId b second) (s.header kind role x.alive false word round ++ payload)
  let y := x.put s.pace.round frame
  let s1 := s.updBuf b second fun _ => y
  if 10 < y.replaced then s1.raise 0x675 0 else s1

/-! ### SUMMARY and FAULT (R423, R432, R433) -/

/-- A frame with a due time is to be sent now; L/2 is given in ns. -/
def isDue (d : Option Ns) (now half : Ns) : Bool := match d with | none => true | some x => decide (x ≤ now + half)

/-- The due time after a sending that the rule called for. -/
def nextDue (d : Option Ns) (now period : Ns) : Ns :=
  match d with
  | none => now + period
  | some x => if x + period < now then now + period else x + period

/-- Which of a channel's two frames have begun transmission; on a channel that is bus-off none has. -/
def State.beginSending (s : State) (b : Bool) (began : Bool × Bool) : State :=
  s.updChan b fun c => if c.busOff then c else { c with first := c.first.begin_ began.1, second := c.second.begin_ began.2 }

/-- SUMMARY is queued. -/
def State.sendSummary (s : State) : State :=
  s.queueFrame false false 1 (roleCode s.own.role) s.pace.wordPrev (s.pace.round - 1) s.summaryPayload

/-- FAULT is queued; its events are sent, and the rotation and the page move on. -/
def State.sendFault (s : State) : State :=
  let (payload, last) := s.faultPayloadOut
  let s1 := s.queueFrame false true 2 (roleCode s.own.role) s.pace.wordPrev (s.pace.round - 1) payload
  { s1 with
      flt := { s1.flt with events := s1.flt.events.drop 8, lastSent := last.orElse fun _ => s1.flt.lastSent }
      out := { s1.out with
        page := (s1.out.page + 1) % 6
        pageCohort := if s1.out.page = 2 then s.nextPageCohort else s1.out.pageCohort } }

/-- The frames of stitch 62 on CANA. `began` tells, for SUMMARY's and FAULT's buffer, whether the frame before has begun. -/
def State.sendCanA (s0 : State) (began : Bool × Bool) : State :=
  let s := s0.beginSending false began
  if !s.canServed then s
  else
    let half := s.pace.lengthPs / 2000
    let grace := s.sup.dev == DevState.grace
    let first := grace && !s.out.graceSent
    let dueS := isDue s.out.summaryDue s.now half
    let dueF := isDue s.out.faultDue s.now half
    let ev := !s.flt.events.isEmpty
    let period := s.img.f.out.faultPeriod * 1000000
    let s1 := if s.tc0Up && (dueS || first) then s.sendSummary else s
    let s2 := if (s.tc0Up || s.tc1Up) && (ev || dueF || first) then s1.sendFault else s1
    { s2 with out := { s2.out with
        summaryDue := if dueS then some (nextDue s.out.summaryDue s.now 10000000) else s.out.summaryDue
        faultDue := if dueF then some (nextDue s.out.faultDue s.now period) else s.out.faultDue
        graceSent := grace } }

/-! ### ROUND (R436–R438) -/

/-- The pages of the published set fall due; while the link is down they are discarded. -/
def State.queueRound (s : State) : State :=
  match s.seam.pub with
  | none => s
  | some set =>
    if !(s.roundServed && s.out.linkUp) then s
    else
      let (pages, reduced, next) := s.roundPages (set.cells ++ set.store)
      let n := pages.length
      let out := (List.range n).filterMap fun k =>
        pages[k]?.map fun p => (s.pace.round, s.datagram set reduced (s.out.roundAlive + k) k n p)
      { s with out := { s.out with
          fullNext := next
          roundAlive := (s.out.roundAlive + n) % 256
          pages := s.out.pages ++ out } }

/-- A page can leave no more: stitch 62 of the round after its own has come (R22, R438). -/
def State.pageLate (s : State) (p : Round × List Byte) : Bool :=
  decide (p.1 + 1 < s.pace.round) || (decide (p.1 + 1 = s.pace.round) && decide (62 ≤ s.pace.stitch))

/-- ROUND (R438): the first page waiting that is not late leaves as an Ethernet frame. -/
def roundSend (t : Ns) (s : State) : State :=
  match s.out.pages.filter fun p => !s.pageLate p with
  | [] => s
  | (_, p) :: rest =>
    if !(s.out.linkUp && s.out.phyOn && s.domainOn 6) then s
    else
      let s1 := s.at t
      { s1 with out := { s1.out with
          pages := (s.out.pages.filter s.pageLate) ++ rest
          lastPage := some (s1.ethernetFrame s1.out.ident p)
          ident := (s1.out.ident + 1) % 65536 } }

/-- ROUND_PAGE_DROP (R438): at stitch 62, the pages of earlier rounds are dropped. -/
def roundPageDrop (s : State) : State :=
  if !(s.rounds && s.out.pages.any s.pageLate) then s
  else ({ s with out := { s.out with pages := s.out.pages.filter fun p => !s.pageLate p } } : State).raiseFor 0x674 0 1000

/-! ### CAPS and BURST (R422, R434, R435) -/

/-- The frames of stitch 63 on CANB, from the seat that drives the CAP pins; the events and the closed entries they show are
then shown. -/
def State.sendCanB (s0 : State) (began : Bool × Bool) : State :=
  let s := s0.beginSending true began
  if !(s.canServed && s.drivesCaps && s.tc1Up && !s.img.rom) then s
  else
    let role := if s.own.role == Role.provisional then 1 else 0
    let s1 := s.queueFrame true false 3 role s.pace.word s.pace.round s.capsPayload
    let s2 := s1.queueFrame true true 4 role s.pace.word s.pace.round s1.burstPayload
    let shown (l : Nat) : Option LedgerEntry := (s2.res.closed.find? fun x => x.1.line == l).map fun x => x.1
    { s2 with
        out := { s2.out with capsEvents := [] }
        res := { s2.res with closed := s2.res.closed.filter fun x => !(some x.1 == shown 0) && !(some x.1 == shown 1) } }

/-- The published sets have stopped: TC0 is down and 16 rounds have passed without a new one (R456). -/
def State.stalePub (s : State) : Bool :=
  !s.tc0Up && (match s.seam.pub with | none => true | some p => decide (p.snap + 17 ≤ s.pace.round))

/-- CAP_LATCH (R319, R375, R422, R458): the coders latch the caps of the snap, and CAPS and BURST are queued. -/
def capLatch (began : Bool × Bool) (t : Ns) (s : State) : State :=
  if !(s.rounds && s.tc1Up && decide (s.pace.stitch = 63)) then s
  else
    let s0 := s.at t
    let s1 : State := if s0.stalePub then { s0 with pow := { s0.pow with caps := s0.pow.caps.map fun _ => (0, 0) } } else s0
    s1.latchCaps.sendCanB began

/-! ### Channel and link events -/

/-- CAN_TX_COMPLETE (R429): the frame of a buffer is sent; the lower identifier wins arbitration, so the second buffer's frame
completes only with nothing waiting in the first, or when it had begun. `active`: the channel is error-active after it. -/
def canTxComplete (b second active : Bool) (t : Ns) (s : State) : State :=
  let c := if b then s.out.canB else s.out.canA
  let ok := !c.busOff && s.domainOn 6 &&
    (if second then !c.second.idle && (c.second.sending.isSome || c.first.idle) else !c.first.idle)
  if !ok then s
  else
    let s1 := (s.at t).updBuf b second CanBuf.done
    if active then s1.updChan b fun c => { c with passive := false } else s1

/-- CAN_ERROR_PASSIVE (R429). -/
def canErrorPassive (b : Bool) (s : State) : State :=
  if !s.domainOn 6 then s else (s.updChan b fun c => { c with passive := true, activeRounds := 0 }).raise 0x672 0

/-- CAN_BUS_OFF (R429). -/
def canBusOff (b : Bool) (s : State) : State :=
  if !s.domainOn 6 then s
  else
    (s.updChan b fun c =>
      { c with busOff := true, activeRounds := 0, first := c.first.break_, second := c.second.break_ }).raise (if b then 0x671 else 0x670) 0

/-- CAN_BUS_OFF_RECOVERY (R429): after 128 occurrences of 11 recessive bits the controller is error-active again. -/
def canBusOffRecovery (b : Bool) (s : State) : State := s.updChan b fun c => { c with busOff := false, passive := false }

/-- CAN_FRAME_RECEIVED (R6): acknowledged as the bus requires; its content is discarded. -/
def canFrameReceived (_ : Bool) (_ : List Byte) (s : State) : State := s

/-- SGMII_RX_DISCARD (R6): whatever is received is discarded. -/
def sgmiiRxDiscard (_ : List Byte) (s : State) : State := s

/-- SGMII_LINK_CHANGE (R436): pages waiting when the link goes down are discarded. -/
def sgmiiLinkChange (up : Bool) (s : State) : State :=
  { s with out := { s.out with linkUp := up, pages := if up then s.out.pages else [] } }

/-- PHY_RESET_RELEASE (R436): with P6 powered and PG1 good. -/
def phyResetRelease (s : State) : State :=
  if s.domainOn 6 && s.sup.pg1 && s.code.ethernet then { s with out := { s.out with phyOn := true } } else s

/-! ### Stitch 0 -/

/-- A channel's run of error-active rounds; whether it has reached 1,000. -/
def CanChan.round (c : CanChan) : CanChan := { c with activeRounds := if c.passive || c.busOff then 0 else c.activeRounds + 1 }

/-- The replacement window of a buffer ends. -/
def CanBuf.window (b : CanBuf) : CanBuf := { b with replaced := 0 }

/-- The output faults judged once a round (Table 17-17), and the windows of 0x675 and of the refusals BURST shows (R435). -/
def State.outputRound (s : State) : State :=
  let a := s.out.canA.round
  let b := s.out.canB.round
  let up := s.out.linkUp
  let runs := s.out.linkRuns.step (!up)
  let s1 : State := { s with out := { s.out with canA := a, canB := b, linkRuns := runs, answers := [0, 0] } }
  let long (c : CanChan) : Bool := decide (1000 ≤ c.activeRounds)
  let s2 := if long a then s1.clear 0x670 0 else s1
  let s3 := if long b then s2.clear 0x671 0 else s2
  let s4 := if long a && long b then s3.clear 0x672 0 else s3
  let s5 := s4.judge2 0x673 0 (s.code.ethernet && s.domainOn 6 && decide (100 ≤ runs.bad)) (decide (100 ≤ runs.good))
  if s.pace.round % 1000 = 0 then
    let many := [a.first, a.second, b.first, b.second].any fun x => decide (10 < x.replaced)
    let s6 := if many then s5 else s5.clear 0x675 0
    { s6 with
      res := { s6.res with refusals := [0, 0] }
      out := { s6.out with
        canA := { s6.out.canA with first := s6.out.canA.first.window, second := s6.out.canA.second.window }
        canB := { s6.out.canB with first := s6.out.canB.first.window, second := s6.out.canB.second.window } } }
  else s5

end Sys2Proof.Machine
end

