-- ==== Sys2Proof/Machine/Restore.lean ====
section
/-!
DEFINITION. Seals and the journal across a loss of power (chapters 03, 08, 12 and 16): making a seal, and what a boot or a warm
resume in place takes from the seal and the journal.
-/
namespace Sys2Proof.Machine

/-! ### The two seal areas (R410, R411) -/

/-- The newest valid seal, whose area is given: true is SEAL1 (R411). -/
def NonVol.newestSeal (n : NonVol) : Option (Bool × Seal) :=
  match n.seal0, n.seal1 with
  | some a, some b => if a.seq < b.seq then some (true, b) else some (false, a)
  | some a, none => some (false, a)
  | none, some b => some (true, b)
  | none, none => none

/-- The area a new seal goes to: the one that does not hold the newest valid seal; true is SEAL1. -/
def NonVol.sealTarget (n : NonVol) : Bool := match n.newestSeal with | some (second, _) => !second | none => false

/-- What the target area holds: nothing valid while the seal is being written, then the new seal. -/
def NonVol.putSeal (n : NonVol) (x : Option Seal) : NonVol := if n.sealTarget then { n with seal1 := x } else { n with seal0 := x }

/-- The seal of the most recently completed buffer (R64, Table 16-9); none while no buffer has been completed. -/
def State.makeSeal (s : State) (kind : SealKind) (t : Ns) : Option Seal :=
  s.bufs.newest.map fun b =>
    { kind := kind, path := s.res.path, seq := (match s.nv.newestSeal with | some (_, x) => x.seq + 1 | none => 1), t := t
      packCount := s.acq.packCount, storeCount := s.acq.store.count, pattern := (s.img.variant.map fun v => v.digest).getD 0
      image := if s.img.digest.isEmpty then List.replicate 32 0 else s.img.digest, ledger := s.res.ledger, pinKeeper := s.flt.pinKeeper
      buf := b }

/-- The seal write starts: the point of no return (R71); the MRAM bus is the seal controller's (R26, R415). -/
def State.startSeal (s0 : State) (kind : SealKind) (t : Ns) : State :=
  let s := s0.cutWrites
  { s with
      now := max s.now t
      bufs := { s.bufs with writing := s.makeSeal kind t }
      nv := if s.bufs.newest.isSome then s.nv.putSeal none else s.nv }

/-- The seal write is complete (R411). -/
def State.endSeal (s : State) : State :=
  { s with
      bufs := { s.bufs with writing := none }
      nv := match s.bufs.writing with | some x => s.nv.putSeal (some x) | none => s.nv }

/-! ### The journal at a boot (R413) -/

/-- The content of PATTERN and of STATUS that an empty region gives. -/
def PatternRegion.empty : PatternRegion := ⟨[], [], [], []⟩
@[inherit_doc PatternRegion.empty] def StatusRegion.empty : StatusRegion :=
  ⟨[], List.replicate 17 ⟨0, 0, 0, 0, 0⟩, 16, List.replicate 17 0, none, 0, 0, 0, [], [], 0⟩

/-- A part in RETURN has no keys left, and a JHDR of another die comes with another key: no seal, region or checkpoint passes its test
(R413, R468). -/
def NonVol.dieCheck (n : NonVol) : NonVol :=
  let foreign := match n.headerR.content with | some m => !(m == n.fuses.mark) | none => false
  if n.fuses.lifecycle == Lifecycle.return_ || foreign then
    { n with
        seal0 := none, seal1 := none, headerR := Copies.none_, pairsR := Copies.none_, patternR := Copies.none_, statusR := Copies.none_
        fallbackR := Copies.none_, ckpt0 := none, ckpt1 := none, events := [], logSeq := 0 }
  else n

/-- TC1's working copy as the regions give it. -/
def NonVol.load (n : NonVol) : NonVol :=
  let p := n.patternR.content.getD PatternRegion.empty
  let q := n.statusR.content.getD StatusRegion.empty
  { n with
      accepted := p.accepted, delays := p.delays, mapOuts := p.mapOuts, tests := p.tests, rests := q.rests, rotation := q.rotation
      lastPos := q.lastPos, trained := q.trained, runTicks := q.runTicks, parks := q.parks, rollback := q.rollback, erase0 := q.erase0
      erase1 := q.erase1 }

/-- The fray counters of STATUS. -/
def NonVol.fray (n : NonVol) : List Fray := (n.statusR.content.getD StatusRegion.empty).fray

/-! ### Classical state from a seal (R205, R206, R412) -/

/-- The fitted pack groups, and the fitted store cells. -/
def State.packIds (s : State) : List CellId := s.fittedCells.filter fun id => decide (id ≤ 4096)
@[inherit_doc State.packIds] def State.storeIds (s : State) : List CellId := s.fittedCells.filter fun id => decide (4096 < id)

/-- Cells as their records and pair records give them; a cell without a record is as never seen. `gap` says for which a gap lies since
the last tack rest. -/
def restoreCells (f : EstFields) (b : SealBuf) (recs : List SealCell) (pairs : List PairRec) (rests : List TackRest) (secs : Rat)
    (gap : CellId → Bool) (ids : List CellId) : List Cell :=
  ids.map fun id =>
    match recs.find? fun q => q.id == id with
    | none => Cell.new f id
    | some q =>
      let c := q.load f (b.tacked.contains id) (b.anchored.contains id) (gap id)
      match pairs.find? fun p => p.id == id with
      | some p => p.load f rests secs c
      | none => c

/-- The number of the next entry of a tack-rest list. -/
def nextRest (l : List TackRest) : Nat := l.foldl (fun a r => max a (r.entry + 1)) 0

/-- What a gap does to a rest (R194): unknown ends it; PARK and SHIP continue one that had lasted the park dwell, another known gap
any. -/
def gapOf (cold : Bool) (dwell : Nat) (x : Seal) (rest : Option Ns) : RestGap :=
  match rest with
  | none => .ends
  | some r =>
    if cold then .ends
    else match x.kind with
      | .park | .ship | .parkCheck => if r + dwell * 1000000000 ≤ x.t then .continues else .ends
      | .supply | .emergency => .continues

/-- Seconds between two crystal times. -/
def secsFrom (a b : Ns) : Rat := ((b - a : Nat) : Rat) / 1000000000

/-- The seal was made on another pattern than the one in use (R412). -/
def State.patternDiffers (s : State) (x : Seal) : Bool := !(x.pattern == (s.img.variant.map fun v => v.digest).getD 0)

/-- The pack's estimator at a boot: `cold` is an unknown gap. -/
def State.restorePack (s : State) (held : Option Seal) (cold : Bool) (t : Ns) : Estimator :=
  let f := s.img.f.est
  let e0 : Estimator := { Estimator.empty with rests := s.nv.rests, nextEntry := nextRest s.nv.rests, gapTotal := s.nv.gapTotal }
  match held with
  | none =>
    { e0 with cells := s.packIds.map (Cell.new f), tackFrom := t, lastAt := t, spoilt := true, display := ⟨none, none, false⟩ }
  | some x =>
    let b := x.buf
    let differs := s.patternDiffers x
    let pairs := if differs then [] else s.nv.pairsR.content.getD []
    let cells := restoreCells f b (if differs then [] else b.cells) pairs s.nv.rests (secsFrom s.nv.pairsAt t) (fun _ => true) s.packIds
    let pts := cells.countP fun c => c.tacked
    -- the bleed term of that round is of the cells that were balancing when their pair records were written
    let bleeding (id : CellId) : Bool := pairs.any fun p => p.id == id && p.balancing
    let e1 : Estimator :=
      { e0 with
          cells := cells, restFrom := b.restFrom, restGap := gapOf cold s.img.f.supply.parkDwell x b.restFrom, restPts := pts
          entryRest := decide (0 < pts), tackFrom := b.tackFrom, spoilt := cold, tier := b.tier, countAt := x.packCount, lastAt := x.t
          display := ⟨b.display, none, false⟩ }
    if cold then e1.baste f (fun _ => true) false
    else (e1.catchUp f b.tier (x.packCount - b.packCount) (secsFrom b.t x.t) bleeding).knownGap f (secsFrom x.t t)

/-- The store's estimator at a boot: over a known gap only self-discharge counts, and the store charge count takes the rest in the
first round (R206). -/
def State.restoreStore (s : State) (held : Option Seal) (cold : Bool) (t : Ns) : Estimator :=
  let f := s.img.f.estStore
  match held with
  | none => { Estimator.empty with cells := s.storeIds.map (Cell.new f), tackFrom := t, lastAt := t, display := ⟨none, none, false⟩ }
  | some x =>
    let b := x.buf
    let cells := restoreCells f b b.store (s.nv.pairsR.content.getD []) [] (secsFrom s.nv.pairsAt t) (fun _ => true) s.storeIds
    let pts := cells.countP fun c => c.tacked
    let e1 : Estimator :=
      { Estimator.empty with
          cells := cells, restFrom := b.restFromStore, restGap := gapOf cold s.img.f.supply.parkDwell x b.restFromStore, restPts := pts
          entryRest := false, tackFrom := b.tackFromStore, gapTotal := s.nv.gapTotal, tier := .shunt, countAt := b.storeCount
          lastAt := t, missed := !cold, display := ⟨b.displayStore, none, false⟩ }
    if cold then e1.baste f (fun _ => true) false else e1.knownGap { f with parkIAllow := 0 } (secsFrom x.t t)

/-- The brackets of the store cells as the seal gives them (R334). -/
def State.sealedStore (s : State) (held : Option Seal) : List (CellId × Rat × Rat) :=
  match held with
  | none => []
  | some x => (x.buf.store.filter fun q => s.storeIds.contains q.id).map fun q =>
      let c := q.load s.img.f.estStore false false true
      (c.id, c.lo, c.hi)

/-- A seam cell from bits [7:4] of its record (R302); a cell without a record is open. -/
def seamRestored (q : Option SealCell) (id : CellId) : SeamCell :=
  let n := match q with | some q => q.seam.toNat | none => 4
  { id := id, state := (if n / 4 = 0 then .closed else if n / 4 = 1 then .open_ else .split), rejoin := 0, resid := 0, vPrev := none
    splitRun := 0, srcL := decide (n / 2 % 2 = 1), decided := none, record := none }

/-- The seam at a boot (R302). -/
def State.restoreSeam (s : State) (held : Option Seal) : Seam :=
  match held with
  | none => { Seam.empty with cells := s.fittedCells.map (seamRestored none), window := s.pace.round / 1000 }
  | some x =>
    let recs := (if s.patternDiffers x then [] else x.buf.cells) ++ x.buf.store
    { Seam.empty with
        cells := s.fittedCells.map fun id => seamRestored (recs.find? fun q => q.id == id) id
        cohorts := x.buf.cohorts, packSplit := x.buf.packSplit
        window := if s.sup.bootKind == BootKind.cold then 0 else x.buf.round / 1000 }

/-- The cells whose restored record carries LOADED and BASTED (R204, R450). -/
def State.loadedCells (s : State) : List CellId :=
  ((s.cls.pack.cells ++ s.cls.store.cells).filter fun c => c.basted && c.loaded && c.basting.isNone).map fun c => c.id

/-- The cells restored with a capacity below 80 % of nominal (R210, Table 8-10: reported each boot). -/
def State.lowCells (s : State) : List CellId :=
  let low (f : EstFields) (l : List Cell) : List CellId := (l.filter fun c => decide (c.cap * 5 < f.capNominal * 4)).map fun c => c.id
  low s.img.f.est s.cls.pack.cells ++ low s.img.f.estStore s.cls.store.cells

/-- Everything the seal and the journal give a boot, at round 0. The counts of P2, and of P1 where it has been off, go on from the
sealed ones. -/
def State.restoreBoot (s : State) (cold : Bool) (t : Ns) : State :=
  let held := s.nv.newestSeal.map fun x => x.2
  let keepLost := cold || s.sup.bootKind == BootKind.ship
  let gap : Ns := match held with | some x => if cold then 0 else t - x.t | none => 0
  let s1 : State := { s with nv := { s.nv with gapTotal := s.nv.gapTotal + gap } }
  let s2 : State := { s1 with
    cls := { Classical.empty with pack := s1.restorePack held cold t, store := s1.restoreStore held cold t, storeCheck := s1.sealedStore held }
    seam := s1.restoreSeam held
    acq := { s1.acq with
      packCount := s1.acq.packCount + ((held.map fun x => x.packCount).getD 0)
      store := { s1.acq.store with count := s1.acq.store.count + (if keepLost then (held.map fun x => x.storeCount).getD 0 else 0) } }
    res := { s1.res with ledger := (held.map fun x => x.ledger).getD [] } }
  -- cells without sealed state take a fresh start (R228)
  let recs := match held with
    | some x => (if s2.patternDiffers x then [] else x.buf.cells.map fun (q : SealCell) => q.id) ++ x.buf.store.map fun (q : SealCell) => q.id
    | none => []
  let s2 := ({ s2 with lrn := { s2.lrn with cells := s2.learnCells } } : State).freshStart fun id => !recs.contains id
  let s3 := match held with
    | some x => if s2.patternDiffers x then s2.raise 0x937 0 else s2
    | none => s2
  let s4 := s3.lowCells.foldl (fun u id => u.raise 0x622 id) (s3.loadedCells.foldl (fun u id => u.raise 0x624 id) s3)
  let down := s4.res.path == PathState.down || s4.res.path == PathState.cool || s4.res.path == PathState.latched
  let s5 := if down then s4.cutBursts t else s4
  if cold && held.isSome then s5.closeWindow true else s5

/-- The cells of the classical path after a warm resume in place (R69, R207): from the seal, with everything else as it stands. A cell
that waited for its basting value takes a fresh window. -/
def State.restoreInPlace (s : State) (t : Ns) : State :=
  match s.nv.newestSeal with
  | none => s.missedRounds
  | some (_, x) =>
    let b := x.buf
    let pairs := s.nv.pairsR.content.getD []
    let secs := secsFrom s.nv.pairsAt t
    let old (id : CellId) : Bool := (s.cls.pack.cells ++ s.cls.store.cells).any fun c => c.id == id && c.gap
    let wait (id : CellId) : Bool := (s.cls.pack.cells ++ s.cls.store.cells).any fun c => c.id == id && c.basting.isSome
    let again (l : List Cell) : List Cell := l.map fun c => if wait c.id then { c with basting := some ⟨[]⟩ } else c
    let p := again (restoreCells s.img.f.est b b.cells pairs s.nv.rests secs old s.packIds)
    let q := again (restoreCells s.img.f.estStore b b.store pairs s.cls.store.rests secs old s.storeIds)
    let s1 : State := { s with cls := { s.cls with
      pack := { s.cls.pack with cells := p, display := { s.cls.pack.display with value := b.display } }
      store := { s.cls.store with cells := q, display := { s.cls.store.display with value := b.displayStore } } } }
    s1.missedRounds

end Sys2Proof.Machine
end

