-- ==== Sys2Proof/Machine/Supply.lean ====
section
/-!
DEFINITION. Supply taps, rails, power domains, boots and shut-downs (chapter 03).
-/
namespace Sys2Proof.Machine

/-! ### Taps (R53–R57) -/

def Supply.tap (x : Supply) : TapId → Tap
  | .a => x.tapA
  | .b => x.tapB
  | .c => x.tapC

def Supply.setTap (x : Supply) (k : TapId) (t : Tap) : Supply :=
  match k with
  | .a => { x with tapA := t }
  | .b => { x with tapB := t }
  | .c => { x with tapC := t }

def allTaps : List TapId := [.a, .b, .c]

/-- A tap's place in Table 18-4's codes and in its detail value. -/
def tapIndex : TapId → Nat
  | .a => 0
  | .b => 1
  | .c => 2

/-- The resistor codes are latched. -/
def State.codesLatched (s : State) : Bool :=
  !(s.sup.dev == DevState.off) &&
  !(s.sup.dev == DevState.boot && (s.sup.bootStep == BootStep.aonUp || s.sup.bootStep == BootStep.strapsLatched))

/-- Taps are classified from the latch of RSEL_TAPS on (R53), but not in SHIP (R79). -/
def State.tapsWatched (s : State) : Bool := s.codesLatched && !(s.sup.dev == DevState.ship)

/-- Fitted taps classed present. -/
def State.tapsPresent (s : State) : Nat := allTaps.countP fun k => s.code.tapFitted k && (s.sup.tap k).cls == TapClass.present

/-- The tap faults as the classes stand (R54, R57); in a boot they are raised in round 0. -/
def State.judgeTaps (s : State) : State :=
  if !s.pace.running then s
  else
    let one (u : State) (k : TapId) : State :=
      let x := u.sup.tap k
      (u.judge (0x101 + tapIndex k) 0 (!(x.cls == TapClass.present))).judge 0x105 (0x2500 + tapIndex k) x.overvoltage
    let s1 := (allTaps.filter s.code.tapFitted).foldl one s
    s1.judge2 0x104 0 (decide (s.tapsPresent = 1)) (decide (2 ≤ s.tapsPresent))

/-- A classification of a fitted tap; the FET of a tap classed overvoltage is held off. -/
def State.tapEvent (s : State) (k : TapId) (f : Tap → Tap) : State :=
  if !s.tapsWatched || !s.code.tapFitted k then s
  else
    let x := f (s.sup.tap k)
    let y : Tap := { x with dgate := if x.overvoltage then .heldOff else .regulating }
    ({ s with sup := s.sup.setTap k y } : State).judgeTaps

/-- TAP_PRESENT (R53, R57). -/
def tapPresent (k : TapId) (s : State) : State := s.tapEvent k fun x => { x with cls := .present }

/-- TAP_ABSENT (R53, R57). -/
def tapAbsent (k : TapId) (s : State) : State := s.tapEvent k fun x => { x with cls := .absent }

/-- TAP_OVERVOLTAGE (R54). -/
def tapOvervoltage (k : TapId) (s : State) : State := s.tapEvent k fun x => { x with overvoltage := true }

/-- TAP_OVERVOLTAGE_END (R54). -/
def tapOvervoltageEnd (k : TapId) (s : State) : State := s.tapEvent k fun x => { x with overvoltage := false }

/-- TAP_REVERSE_CURRENT (R54): the FET is turned fully off; `dgateSnap` turns it on again. -/
def tapReverseCurrent (k : TapId) (s : State) : State :=
  if !s.tapsWatched || !s.code.tapFitted k then s
  else { s with sup := s.sup.setTap k { s.sup.tap k with dgate := .low } }

/-- Tap currents of the latch of the present snap, in mA, of the present taps (R55). -/
def State.tapCurrents (s : State) (x : SnapLatch) : List (TapId × Int) :=
  (allTaps.filter fun k => s.code.tapFitted k && (s.sup.tap k).cls == TapClass.present).map fun k => (k, x.itap.getD (tapIndex k) 0)

/-- Sharing is enforced: it is selected, and the total is at least 1.0 A (R55). -/
def State.sharingOn (s : State) (l : List (TapId × Int)) : Bool :=
  s.code.sharing && !l.isEmpty && decide (1000 ≤ (l.map fun p => p.2).sum)

/-- A present tap's current lies beyond a percentage of the mean, either way. -/
def beyondMean (l : List (TapId × Int)) (percent : Int) (i : Int) : Bool :=
  decide (percent * |(l.map fun p => p.2).sum| < 100 * |i * l.length - (l.map fun p => p.2).sum|)

/-- DGATE of one fitted tap at a snap (R54, R55): held off under overvoltage; off while VCOMB exceeds the tap by more than 10 mV;
its drive reduced while sharing is enforced and its current is above 1.15 times the mean; else regulating 20 mV. -/
def State.dgateSnap (s : State) (x : SnapLatch) (k : TapId) : Dgate :=
  let l := s.tapCurrents x
  let own := (l.find? fun p => p.1 == k).map fun p => p.2
  if (s.sup.tap k).overvoltage then .heldOff
  else if x.vtap.getD (tapIndex k) 0 + 10 < x.vcomb then .low
  else match own with
    | some i => if s.sharingOn l && decide (115 * (l.map fun p => p.2).sum < 100 * i * l.length) then .limiting else .regulating
    | none => .regulating

/-- The taps at a snap (R54, R55): each DGATE, and the runs of 1 s, which pause below 1.0 A. -/
def State.shareRound (s : State) (x : SnapLatch) : State :=
  if !s.tapsWatched then s
  else
    let l := s.tapCurrents x
    let s1 := (allTaps.filter s.code.tapFitted).foldl
      (fun u k => { u with sup := u.sup.setTap k { u.sup.tap k with dgate := s.dgateSnap x k } }) s
    if !s.sharingOn l then s1
    else
      let dt := s.pace.start - s.pace.prevStart
      let run (k : TapId) (old : Ns) : Ns := if l.any fun p => p.1 == k && beyondMean l 25 p.2 then old + dt else 0
      let within := l.all fun p => !beyondMean l 15 p.2
      { s1 with sup := { s1.sup with
          shareA := run .a s1.sup.shareA, shareB := run .b s1.sup.shareB, shareC := run .c s1.sup.shareC
          shareOk := if within then s1.sup.shareOk + dt else 0 } }

/-- SHARING_RUN_COMPLETE (R55): a run of 1 s of one tap deviating raises fault 0x106, one of every tap within the bound clears it; it
has no effect before the run is complete. -/
def sharingRun (deviates : Bool) (s : State) : State :=
  let full (n : Ns) : Bool := decide (1000000000 ≤ n)
  if !(s.tapsWatched && s.code.sharing) then s
  else if deviates then
    if full s.sup.shareA || full s.sup.shareB || full s.sup.shareC then s.raise 0x106 0 else s
  else if full s.sup.shareOk then s.clear 0x106 0 else s

/-! ### Domains (R60, R61, R63, R73) -/

/-- P7–P17. -/
def memoryDomains : List Nat := [7, 8, 9, 10, 11, 12, 13, 14, 15, 16, 17]

/-- The switched domains that the present state has on, in switching order (Table 3-3): P6 not in a park check; P7–P17 neither
there nor with PG2 lost nor at shed level 3; P8–P17 not in GRACE and SEAL nor under R73. -/
def State.wantedDomains (s : State) : List Nat :=
  let check := s.sup.parkCheck || (s.sup.dev == DevState.boot && s.sup.bootKind == BootKind.parkCheck)
  let mem := if check || s.sup.pg2Lost || decide (3 ≤ s.trn.shed) then []
    else if s.sup.damping || s.sup.dev == DevState.grace || s.sup.dev == DevState.seal then [7] else memoryDomains
  ([2, 3, 4, 5] ++ (if check then [] else [6]) ++ mem).filter fun d => !s.sup.failedDomains.contains d

/-- The domain to be switched on next. -/
def State.nextDomain (s : State) : Option Nat :=
  if s.sup.pmicEn && s.sup.handshake then s.wantedDomains.find? fun d => !s.sup.domains.contains d else none

/-- Every domain wanted is on: a boot goes on, and the faults that wait for P7–P17 clear: 0x111 once PG2 is back (R63), 0x121
once the damping has ended (R73). -/
def State.domainsDone (s : State) : State :=
  if s.nextDomain.isSome then s
  else
    let s1 : State := if s.sup.dev == DevState.boot && s.sup.bootStep == BootStep.pmicUp then
        { s with sup := { s.sup with bootStep := .domainsOn } } else s
    let s2 := if s1.sup.pg2Lost then s1 else s1.clear 0x111 0
    if !s2.sup.damping && s2.domainOn 17 then s2.clear 0x121 0 else s2

/-- DOMAIN_SWITCH_ON (R61): only the next domain of the order. -/
def domainSwitchOn (d : Nat) (s : State) : State :=
  if s.nextDomain == some d then ({ s with sup := { s.sup with domains := s.sup.domains ++ [d] } } : State).domainsDone else s

/-- DOMAIN_SWITCH_TIMEOUT (R61): the domain stays off; P2–P6 end the Self-test condition, P7–P17
disable the learned path until the next cold boot. -/
def domainSwitchTimeout (d : Nat) (s : State) : State :=
  if s.nextDomain == some d then
    let s1 : State := { s with
      sup := { s.sup with failedDomains := s.sup.failedDomains ++ [d] }
      lrn := { s.lrn with disabledCold := s.lrn.disabledCold || decide (7 ≤ d) }
      tst := { s.tst with passed := s.tst.passed && decide (7 ≤ d) } }
    (if d ≤ 6 then s1.raiseHigh 0x124 (0x2400 + d) else s1.raise 0x124 (0x2400 + d)).domainsDone
  else s

/-! ### Rails and the handshake (R58, R59, R62, R63) -/

def Supply.setPg (x : Supply) (l : PgLine) (good : Bool) : Supply :=
  match l with
  | .pg0 => { x with pg0 := good }
  | .pg1 => { x with pg1 := good }
  | .pg2 => { x with pg2 := good }
  | .pg3 => { x with pg3 := good }

/-- Every PG line is good. -/
def Supply.allPg (x : Supply) : Bool := x.pg0 && x.pg1 && x.pg2 && x.pg3

/-- The rails other than LPDDR5's are good. -/
def Supply.corePg (x : Supply) : Bool := x.pg0 && x.pg1 && x.pg3

/-- PMIC_EN low: every rail and every switched domain goes. -/
def Supply.railsOff (x : Supply) : Supply :=
  { x with pmicEn := false, handshake := false, pg0 := false, pg1 := false, pg2 := false, pg3 := false, domains := [], p7SelfRefresh := false
           pg2Lost := false }

/-- The rails of a boot stand ready for the handshake. -/
def State.awaitsRails (s : State) : Bool :=
  s.sup.dev == DevState.boot && s.sup.bootStep == BootStep.codesRead && s.sup.pmicEn && !s.sup.handshake

/-- PG_GOOD (R58, R59): fault 0x110 clears at the first later attempt that succeeds, and the pins are those of BOOT again. -/
def pgGood (l : PgLine) (s : State) : State :=
  if !s.sup.pmicEn then s
  else
    let s1 : State := { s with sup := s.sup.setPg l true }
    if s1.awaitsRails && s1.sup.allPg then
      let s2 : State := { s1 with sup := { s1.sup with handshake := true, bootStep := .pmicUp } }
      if s2.flt.stands 0x110 0 then (s2.clear 0x110 0).setPins false 0 else s2
    else s1

/-- Every rail goes: P2–P17 off, with P6 the output links and with P7 what LPDDR5 holds. -/
def State.dropRails (s : State) : State := ({ s with sup := s.sup.railsOff, out := Output.cold } : State).loseMemory

/-- A failed attempt (R59): P2–P17 go off, and with P7 what LPDDR5 holds; after the third, fault 0x110 and the pins of Table 18-2. -/
def State.failAttempt (s : State) : State :=
  let n := s.sup.attempts + 1
  let s0 := s.dropRails
  let s1 : State := { s0 with
    sup := { s0.sup with attempts := n, bootStep := .codesRead }
    pace := { s0.pace with running := false } }
  if 3 ≤ n then (s1.raise 0x110 0).setPins false 7 else s1

/-- PMIC_HANDSHAKE_TIMEOUT (R59). -/
def pmicTimeout (s : State) : State := if s.awaitsRails then s.failAttempt else s

/-- PMIC_RETRY (R59). -/
def pmicRetry (s : State) : State :=
  if s.sup.dev == DevState.boot && s.sup.bootStep == BootStep.codesRead && !s.sup.pmicEn && !s.sup.held112 && !s.sup.bootLoss then
    { s with sup := { s.sup with pmicEn := true } }
  else s

/-- A staged checkpoint is abandoned: one already being written leaves its area invalid (R286, R417). -/
def State.abandonCkpt (s : State) : State :=
  match s.lrn.staging with
  | none => s
  | some x => match x.staged with
    | some k => s.failCkpt k
    | none => { s with lrn := { s.lrn with staging := none } }

/-- The emergency seal (R62): no grace, SAFE_N low. -/
def State.emergency (s : State) (t : Ns) : State :=
  let s1 := s.abandonCkpt
  let s2 : State := { s1 with
    sup := { s1.sup with
      dev := .seal
      shut := some ⟨.rail, t, true, true, false, none, false, s1.sup.parkCheck⟩
      railLosses := t :: s1.sup.railLosses.filter fun u => decide (t < u + 600000000000) }
    flt := { s1.flt with safeN := false } }
  s2.startSeal .emergency t

/-- RAIL_LOSS (R59, R62): PG0, PG1 or PG3; PG2 has its own command. -/
def railLoss (l : PgLine) (t : Ns) (s : State) : State :=
  if l == PgLine.pg2 then s
  else
    let s1 : State := { s with sup := s.sup.setPg l false }
    match s.sup.dev with
    | .run | .grace => (s1.at t).emergency t
    | .boot => if s.sup.handshake then (s1.at t).failAttempt else s1
    | _ => s1

/-- PG2_LOSS (R63): P7–P17 go off, and what LPDDR5 holds is lost; a boot waits for them no longer. -/
def pg2Loss (s : State) : State :=
  if !s.sup.handshake then { s with sup := s.sup.setPg .pg2 false }
  else
    let s1 := s.abandonCkpt
    ((({ s1 with sup := { s1.sup with
        pg2 := false, pg2Lost := true, p7SelfRefresh := false
        domains := s1.sup.domains.filter fun d => decide (d < 7) } } : State).loseMemory.unpick 4).raise 0x111 0).domainsDone

/-- PG2_RETURN (R63): good again for 100 ms; those of P7–P17 that the state has on are switched on in the order of R61, and then
fault 0x111 clears. -/
def pg2Return (s : State) : State :=
  if !s.sup.pg2Lost then s
  else
    ({ s with
        sup := { s.sup with pg2 := true, pg2Lost := false }
        lrn := { s.lrn with lost := s.lrn.lost || s.pace.running } } : State).domainsDone

/-! ### GRACE (R70–R76) -/

/-- GRACE begins: training is abandoned. -/
def State.enterGrace (s : State) (kind : ShutKind) (t : Ns) : State :=
  let s1 := s.at t
  ({ s1 with
      sup := { s1.sup with dev := .grace, shut := some ⟨kind, t, false, false, false, none, false, s1.sup.parkCheck⟩ }
      out := { s1.out with graceSent := false } } : State).unpick 4

/-- The shut-down in progress is changed. -/
def State.updShut (s : State) (f : Shutdown → Shutdown) : State :=
  { s with sup := { s.sup with shut := s.sup.shut.map f } }

/-- A shut-down is aborted from the live state (R72), a park check among it: fault 0x120 for one round; the learned
path goes on when P8–P17 are on. A supply return counts toward the damping of R73. -/
def State.abortGrace (s : State) (counts : Bool) (t : Ns) : State :=
  let s1 := (s.at t).abandonCkpt
  let l := if counts then t :: s1.sup.aborts.filter fun u => decide (t < u + 60000000000) else s1.sup.aborts
  let damp := counts && decide (3 ≤ l.length)
  let s2 : State := { s1 with
    sup := { s1.sup with
      dev := .run, shut := none, p7SelfRefresh := false, aborts := l, damping := s1.sup.damping || damp
      abortRound := some s1.pace.round }
    pow := { s1.pow with frozen := false } }
  let s3 := s2.raise 0x120 0
  if damp then s3.raise 0x121 0 else s3

/-- SUPPLY_LOSS_TRIGGER (R70, R71, R417, R501). -/
def supplyLoss (t : Ns) (s : State) : State :=
  match s.sup.dev, s.sup.shut with
  | .run, _ => (s.enterGrace .supply t).shedDomains
  | .grace, some h =>
    if h.kind == ShutKind.supply then (if h.frozen then s.updShut fun h => { h with returned := false } else s)
    else if h.frozen then s.updShut fun h => { h with lateLoss := true, returned := false }
    else (s.abandonCkpt.abortTests.enterGrace .supply t).shedDomains
  | .seal, some h =>
    if h.kind == ShutKind.supply || h.kind == ShutKind.rail then s.updShut fun h => { h with returned := false }
    else s.updShut fun h => { h with lateLoss := true, returned := false }
  | _, _ => s

/-- GRACE_END (R71, R76): the grace of a park or ship shut-down waits for the checkpoint and for link tests; the freeze step
begins. -/
def graceEnd (t : Ns) (s : State) : State :=
  match s.sup.dev, s.sup.shut with
  | .grace, some h =>
    let waits := !(h.kind == ShutKind.supply) && (s.lrn.staging.isSome || s.pat.testing.isSome)
    if h.graceOver || waits || decide (t < h.since + s.img.f.supply.grace * 1000000) then s
    else ((s.at t).updShut fun h => { h with graceOver := true, frozen := true }).shedDomains
  | _, _ => s

/-- The kind of seal a shut-down writes (Table 16-9). -/
def sealKindOf : ShutKind → SealKind
  | .supply => .supply
  | .park => .park
  | .ship => .ship
  | .rail => .emergency
  | .parkCheckEnd => .parkCheck

/-- FREEZE (R71, R72): TC0's final seal buffer, zero power on every active CAP pin, and the start of the seal write; a supply
return qualified in the freeze step aborts instead. -/
def freeze (t : Ns) (s : State) : State :=
  match s.sup.dev, s.sup.shut with
  | .grace, some h =>
    if !h.graceOver then s
    else
      let s0 := s.at t
      let s1 := if s0.tc0Up then s0.writeSealBuf else s0
      let s2 : State := { s1 with pow := { s1.pow with frozen := true, zeroD := true, zeroC := true } }
      if h.returned && h.kind == ShutKind.supply then s2.abortGrace true t
      else ({ s2 with sup := { s2.sup with dev := .seal } } : State).startSeal (sealKindOf h.kind) t
  | _, _ => s

/-! ### After the seal -/

/-- P2–P17 off and PMIC_EN low (R71): P0 AON and P1 hold, the commanding group and P6's pins at their unpowered levels. The
manual names no device state for what follows a supply-loss shut-down while P0 AON is powered: DESIGN CHOICE, it stays SEAL with
no shut-down in progress. -/
def State.powerDown (s : State) : State :=
  let s1 := s.dropRails
  ({ s1 with
    sup := { s1.sup with dev := .seal, shut := none, parkCheck := false, resumeInPlace := false, storeFn := false }
    pace := { s1.pace with running := false, enabled := false }
    own := { s1.own with caps := false, pins := false } } : State).setPins false 0

/-- PARK (R60, R76, R78): the park timer starts, the CUT_OUT pins are released, the charger reference and the store balancing are off; a
latched wake cause ends it at once (R76). A seat that is not the owner keeps in mind whose waking it awaits (R389). -/
def State.enterPark (s : State) (wake : Option WakeCause) (t : Ns) : State :=
  let waits := match s.ownerSeat with | some k => if k = s.seat then none else some k | none => s.own.parkedOwner
  ({ s.releaseCut with
      own := { s.releaseCut.own with parkedOwner := waits }
      sup := { s.sup with dev := .park, parkTimerFrom := t, resume := if wake.isSome then some .parkWake else none }
      res := { s.res with ref := 0, refOff := true }
      acq := { s.acq with sb := s.acq.sb.map fun _ => false } } : State).parkPins

/-- SHIP (R79, R80): P1 off; only the VCHG_DET comparator, the crystal and the cut latch stay. -/
def State.enterShip (s : State) (wake : Option WakeCause) : State :=
  { s.releaseCut with
      sup := { s.sup with
        dev := .ship, p1 := false, shipSeenHigh := false
        resume := if wake == some WakeCause.vchg then some .ship else none }
      res := Reserve.cold
      acq := { s.acq with store := Shunt.zero, sb := [] } }

/-- After an emergency seal (R62): PARK again from a park check, else a warm resume; the third loss within 600 s holds the device in
BOOT. -/
def State.afterRail (s : State) (fromCheck : Bool) (wake : Option WakeCause) (t : Ns) : State :=
  if 3 ≤ s.sup.railLosses.length then
    (({ s with sup := { s.sup with dev := .boot, bootStep := .codesRead, held112 := true, resume := none } } : State).raise 0x112 0).setPins
      false 7
  else if fromCheck then s.enterPark wake t
  else { s with sup := { s.sup with resume := some .otherWarm } }

/-- A warm resume in place (R69): the tailor cores restart from the seal; round work begins at the first boundary of the grid. -/
def State.resumeHere (s : State) (t : Ns) : State :=
  ({ s with
      sup := { s.sup with dev := .run, shut := none, p7SelfRefresh := false, resumeInPlace := true, parkCheck := false }
      pow := { s.pow with frozen := false } } : State).restoreInPlace t

/-- SEAL_COMPLETE (R69, R71, R76, R411, R501). -/
def sealComplete (t : Ns) (s : State) : State :=
  match s.sup.dev, s.sup.shut with
  | .seal, some h =>
    let s0 := (s.at t).endSeal
    if h.kind == ShutKind.supply && h.returned && s0.sup.corePg then s0.resumeHere t
    else
      let s1 := s0.powerDown
      let plain : State := { s1 with sup := { s1.sup with resume := if h.returned then some .otherWarm else none } }
      if h.lateLoss then plain
      else match h.kind with
        | .supply => plain
        | .park =>
          ({ s1 with nv := { s1.nv with parks := s1.nv.parks + 1 } } : State).enterPark h.wake t
        | .parkCheckEnd => s1.enterPark h.wake t
        | .ship => s1.enterShip h.wake
        | .rail => s1.afterRail h.fromParkCheck h.wake t
  | _, _ => s

/-- BOOT_SUPPLY_LOSS (R500): before round 0 no shut-down begins, and no seal is written. -/
def bootSupplyLoss (s : State) : State :=
  if s.sup.dev == DevState.boot && s.codesLatched && !s.sup.held112 then
    let s1 := s.dropRails
    { s1 with sup := { s1.sup with bootLoss := true, bootStep := .codesRead } }
  else s

/-- SUPPLY_RETURN (Table 3-7, R500, R501): qualified only with at least one fitted tap present (R72). -/
def supplyReturn (t : Ns) (s : State) : State :=
  if s.tapsPresent = 0 then s
  else match s.sup.dev, s.sup.shut with
  | .grace, some h =>
    if !(h.kind == ShutKind.supply) && !h.lateLoss then s
    else if h.frozen then (s.at t).updShut fun h => { h with returned := true }
    else s.abortGrace true t
  | .seal, some h => if h.kind == ShutKind.supply || h.lateLoss then (s.at t).updShut fun h => { h with returned := true } else s
  | .seal, none => { (s.at t) with sup := { s.sup with resume := some .otherWarm } }
  | .boot, _ =>
    if s.sup.bootLoss then { (s.at t) with sup := { s.sup with bootLoss := false, pmicEn := true, attempts := 0 } } else s
  | _, _ => s

/-- ABORT_DAMPING_END (R73): 10 s above V_RET without a new trigger; P8–P17 are switched on again. -/
def abortDampingEnd (s : State) : State :=
  if s.sup.damping && !(s.sup.dev == DevState.off) then ({ s with sup := { s.sup with damping := false } } : State).domainsDone else s

/-- What a loss of P0 AON leaves: what is kept without power (R67). -/
def State.dead (s : State) : State :=
  { State.reset with pending := s.pending, nv := s.nv, freeCtr := s.freeCtr }

/-- AON_LOST (R67). -/
def aonLost (s : State) : State := s.cutWrites.dead

/-! ### PARK, park checks and SHIP (R75–R80) -/

/-- This device decides for the domain: a single seat, or the owner (R75, R79). -/
def State.decides (s : State) : Bool := decide (s.fitted.length ≤ 1) || s.own.role == Role.owner

/-- LIFECYCLE_SELF_ADVANCE (R467): after 50 h of RUN a provisioned part in PRODUCTION moves to FIELD, which has no
boundary scan: an instruction that controls the pins gives way to BYPASS (R8, R469). -/
def State.selfAdvance (s : State) : State :=
  let f := s.nv.fuses
  if f.lifecycle == Lifecycle.production && (f.slots.any fun k => k.isSome) && decide (50 * hourTicks ≤ s.nv.runTicks) then
    { s with
        nv := { s.nv with fuses := { f with lifecycle := .field } }
        tst := if s.tst.pinsBy == PinControl.device then s.tst else { s.tst with instr := .bypass, data := 0, pinsBy := .device } }
  else s

/-- The revocation fuses after a commit: the slots of `IMAGE.revoke_keys` but the running image's own. -/
def State.revokedAfter (s : State) : List Bool :=
  (List.range 4).map fun k =>
    s.nv.fuses.revoked.getD k false || (s.img.f.image.revokeKeys.testBit k && !(k == s.img.keyIndex))

/-- ROLLBACK_COMMIT (R399): in FIELD, an index beyond the counter after enough RUN time; `ok` is whether the fuses read back as
blown. -/
def State.rollbackCommit (s : State) (ok : Bool) : State :=
  let due := s.nv.fuses.lifecycle == Lifecycle.field && !s.img.rom && decide (s.nv.fuses.counter < s.img.rollback) &&
    decide (s.img.f.image.commitHours * hourTicks ≤ s.nv.rollback)
  if !due then s
  else if !ok then s.raise 0x938 0
  else
    let rv := s.revokedAfter
    let mask := (List.range 4).foldl (fun a k => a + (if rv.getD k false then 2 ^ k else 0)) 0
    let s1 := ({ s with nv := { s.nv with fuses := { s.nv.fuses with counter := min 64 s.img.rollback, revoked := rv } } } : State).clear 0x938 0
    s1.log 8 (beBytes 1 (min 64 s.img.rollback) ++ beBytes 1 mask)

/-- FALLBACK_WRITE (R408): at once in TC1's window, and in its next window otherwise (R415). -/
def State.fallbackWrite (s : State) : State :=
  let same := match s.nv.fallbackR.content with | some b => b.digest == s.img.digest | none => false
  if s.img.f.image.fallback && !s.img.rom && decide (hourTicks ≤ s.img.eligTicks) && !same then
    let u : State := { s with img := { s.img with fallbackDue := true } }
    if u.journalWindow then (u.inWindow State.writeFallback).judgeCopies else u
  else s

/-- A due periodic test begins in the grace of a park shut-down (R156). -/
def State.parkTest (s : State) : State := if s.pat.periodicDue && s.attached then s.startTests .periodic else s

/-- The grace of a park shut-down (R76, R399, R408, R467): it begins with the park checkpoint. -/
def State.parkGrace (s : State) (fusesOk owner : Bool) (t : Ns) : State :=
  let s1 := s.enterGrace .park t
  let s2 : State := { s1 with sup := { s1.sup with parkOwner := owner } }
  let rolled := if s2.nv.fuses.lifecycle == Lifecycle.field then s2.rollbackCommit fusesOk else s2.selfAdvance
  let s3 := pairRecordWrite rolled.fallbackWrite
  (s3.parkTest).graceCkpt true

/-- The conditions of the park criterion (R75). -/
def State.parkReady (s : State) : Bool :=
  s.sup.dev == DevState.run && s.rounds && !s.sup.parkCheck && s.decides && s.pace.lock == Lock.idle &&
  s.shuntsBelow s.img.f.supply.parkIMax && s.res.ledger.isEmpty && !s.strap.maint && !s.sup.vchg && s.res.path == PathState.vehicle

/-- The conditions of R75 at a stitch: since when they have held without a break. -/
def State.parkStitch (s : State) : State :=
  { s with sup := { s.sup with parkFrom := if s.parkReady then some (s.sup.parkFrom.getD s.pace.stitchAt) else none } }

/-- The conditions have held for `SUPPLY.park.dwell` (R75). -/
def State.parkDwelt (s : State) (t : Ns) : Bool :=
  match s.sup.parkFrom with
  | some f => s.parkReady && decide (f + s.img.f.supply.parkDwell * 1000000000 ≤ t)
  | none => false

/-- PARK_CRITERION (R75). A seat that holds a cut on another releases it in PARK (R378). -/
def parkCriterion (fusesOk : Bool) (t : Ns) (s : State) : State := if s.parkDwelt t then s.parkGrace fusesOk true t else s

/-- The grace of a ship shut-down (R79). -/
def State.shipGrace (s : State) (t : Ns) : State :=
  let s1 := s.enterGrace .ship t
  (s1.parkTest).graceCkpt true

/-- PARK_FOLLOW (R389): a non-owner follows the intent of the owner's BEAT; its fuse read-back is a free value. -/
def State.followPark (s : State) (origin : Nat) (i : Intent) : State :=
  if !(s.sup.dev == DevState.run) || s.acts || !(s.ownerSeat == some origin) then s
  else match i with
    | .none_ => s
    | .park =>
      let ok := decide (Config.freeValue s.freeCtr % 2 = 1)
      ({ s with freeCtr := s.freeCtr + 1 } : State).parkGrace ok false s.now
    | .ship => s.shipGrace s.now

/-- WAKE_CAUSE (R76, R77, R78). -/
def wakeCause (c : WakeCause) (t : Ns) (s : State) : State :=
  let latch (h : Shutdown) : State :=
    match h.kind with
    | .park | .parkCheckEnd => (s.at t).updShut fun h => { h with wake := some c }
    | .ship => if c == WakeCause.vchg then (s.at t).updShut fun h => { h with wake := some c } else s
    | .rail => if h.fromParkCheck then (s.at t).updShut fun h => { h with wake := some c } else s
    | .supply => s
  match s.sup.dev, s.sup.shut with
  | .grace, some h =>
    if h.kind == ShutKind.supply then s
    else if h.frozen then latch h
    else
      let u := (s.abortGrace false t).abortTests
      { u with sup := { u.sup with checkWake := u.sup.checkWake || u.sup.parkCheck } }
  | .seal, some h => latch h
  | .park, _ => { (s.at t) with sup := { s.sup with resume := some .parkWake } }
  | .run, _ =>
    if s.sup.parkCheck then
      let u := (s.at t).abortTests
      { u with sup := { u.sup with checkWake := true } }
    else s
  | _, _ => s

/-- PARK_TIMER (R78): a park check, by the seat that was owner at park entry. -/
def parkTimer (t : Ns) (s : State) : State :=
  if s.sup.dev == DevState.park && s.sup.parkOwner && s.sup.resume.isNone &&
     decide (s.sup.parkTimerFrom + s.img.f.supply.checkInterval * 3600000000000 ≤ t) then
    { (s.at t) with sup := { s.sup with resume := some .parkCheck } }
  else s

/-- PARK_CHECK_END (R78): its rounds are done; its results stand by for MIRROR. -/
def parkCheckEnd (t : Ns) (s : State) : State :=
  if s.sup.dev == DevState.run && s.sup.parkCheck && decide (s.sup.checkRounds = 0) && !s.sup.checkWake then
    ({ s with own := { s.own with parkItems := s.parkResults } } : State).enterGrace .parkCheckEnd t
  else s

/-- SHIP_N_HIGH (R79). -/
def shipNHigh (s : State) : State :=
  if s.sup.dev == DevState.off || s.sup.dev == DevState.ship then s else { s with sup := { s.sup with shipSeenHigh := true } }

/-- SHIP_CRITERION (R79): in RUN on the idle pace a ship shut-down, in PARK a seal of the parked state. -/
def shipCriterion (t : Ns) (s : State) : State :=
  if !s.sup.shipSeenHigh then s
  else match s.sup.dev with
    | .run =>
      if s.rounds && (s.decides || s.sup.parkCheck) && s.pace.lock == Lock.idle && s.res.ledger.isEmpty then s.shipGrace t else s
    | .park =>
      let s1 : State := { s with sup := { s.sup with
        dev := .seal, shut := some ⟨.ship, t, true, true, false, none, false, false⟩ } }
      s1.startSeal .ship t
    | _ => s

/-- SHIP_EXIT (R80). -/
def shipExit (t : Ns) (s : State) : State :=
  if s.sup.dev == DevState.ship then { (s.at t) with sup := { s.sup with resume := some .ship } } else s

/-! ### Boots (R65–R68) -/

/-- COLD_BOOT (R65, R67, R379): the time base goes on from the newest valid seal. -/
def coldBoot (cutsHigh : Bool) (s : State) : State :=
  if !(s.sup.dev == DevState.off) then s
  else
    let d := s.dead
    let nv := d.nv.dieCheck.load
    let held := nv.newestSeal.map fun x => x.2
    let s1 : State := { d with
      now := (held.map fun x => x.t).getD 0
      nv := nv
      sup := { Supply.cold with dev := .boot }
      lrn := { Learned.empty with fray := nv.fray }
      pat := { Pattern.cold with runTicks := s.pat.runTicks, periodicDue := s.pat.periodicDue }
      own := { Ownership.cold with cut := s.own.cut && !cutsHigh } }
    (s1.raise (if held.isSome then 0x123 else 0x122) 0).judgeCopies

/-- STRAP_LATCH (R33, R468). -/
def strapLatch (x : StrapSamples) (s : State) : State :=
  if !(s.sup.dev == DevState.boot && s.sup.bootStep == BootStep.aonUp && s.sup.bootKind == BootKind.cold) then s
  else
    let split := allStraps.filter fun k => !unanimous (x.get k)
    let s1 : State := { s with
      sup := { s.sup with bootStep := .strapsLatched }
      strap := { Straps.cold with latched := latchLevels x, split := split, maintAtLatch := x.maint }
      tst := { s.tst with hold := s.nv.fuses.lifecycle == Lifecycle.field && x.returnHold } }
    split.foldl (fun u k =>
      if k == Strap.seat1 || k == Strap.seat0 then u.raiseHigh 0x960 (strapDetail k) else u.raise 0x960 (strapDetail k)) s1

/-- The faults of latched codes and of restricted straps (R35, R41, R499), raised at the latch and in round 0 of every boot. -/
def State.raiseCodes (s : State) : State :=
  let fld := s.nv.fuses.lifecycle == Lifecycle.field
  let test := s.strap.latched.test
  let s1 := (List.range 8).foldl (fun u i => if (u.code.level i).isNone then u.raise (0x940 + i) 0 else u) s
  let s2 := if test = 3 ∨ (fld ∧ test ≠ 0) then s1.raise 0x962 0 else s1
  if fld && s.strap.latched.install && !s.strap.maintAtLatch then s2.raise 0x963 0 else s2

/-- RESISTOR_CODE_READ (R41, R48, R59, R474, R477): the codes are latched, the lifecycle is read, P1 goes on and PMIC_EN high. -/
def resistorCodeRead (x : CodeReads) (s : State) : State :=
  if !(s.sup.dev == DevState.boot && s.sup.bootStep == BootStep.strapsLatched && !s.tst.hold) then s
  else
    let fld := s.nv.fuses.lifecycle == Lifecycle.field
    let lv (i : Nat) : Option Nat :=
      match latchCode i (x.pass1.getD i 0) (x.pass2.getD i 0) with
      | some n => if i = 3 ∧ fld ∧ 4 ≤ n ∧ n ≤ 6 then none else some n
      | none => none
    let code : Codes := { Codes.cold with levels := (List.range 8).map lv }
    let test := s.strap.latched.test
    let tap (k : TapId) : Tap := if code.tapFitted k then ⟨.absent, false, .regulating⟩ else Tap.off
    let s1 : State := { s with
      code := code
      sup := { s.sup with bootStep := .codesRead, tapA := tap .a, tapB := tap .b, tapC := tap .c, p1 := true, pmicEn := true }
      tst := { s.tst with mode := if fld then .none_ else if test = 1 then .loopback else if test = 2 then .bist else .none_ } }
    s1.raiseCodes

/-- STARTUP_SELF_TEST (R478, R479): tests 1–8 are judged at once, tests 9–12 at round 0. -/
def startupSelfTest (x : SelfTestIn) (s : State) : State :=
  if !(s.sup.dev == DevState.boot && s.sup.bootStep == BootStep.domainsOn) then s
  else
    let s1 : State := { s with
      sup := { s.sup with bootStep := .selfTested }
      tst := { s.tst with waiting := x.failed.filter fun n => decide (9 ≤ n) && decide (n ≤ 12), failedPorts := x.ports } }
    (x.failed.filter fun n => decide (1 ≤ n) && decide (n ≤ 8)).foldl (fun u n => u.raise 0x540 n) s1

/-- What a warm resume keeps (R68): P0 AON and P1, with what is kept without power; every other part starts afresh. The class bitmap
and the fault table are cleared without an event, and what only a cold boot clears is held for round 0 (R450). -/
def State.warmParts (s : State) (k : BootKind) (cutsHigh : Bool) : State :=
  let nv := s.nv.dieCheck.load
  let keeps := k == BootKind.parkWake || k == BootKind.parkCheck
  { State.reset with
      pending := s.pending, freeCtr := s.freeCtr, now := s.now, nv := nv, bufs := s.bufs, strap := { s.strap with maintNext := none }
      code := s.code, res := s.res
      sup := { s.sup with
        dev := .boot, bootStep := .codesRead, bootKind := k, pmicEn := true, p1 := true, attempts := 0, resume := none, shut := none
        parkCheck := decide (k = .parkCheck), failedDomains := [], storeFn := false, checkWake := false, abortRound := none }
      pace := { Pace.cold with round := s.pace.round }
      pat := { Pattern.cold with runTicks := s.pat.runTicks, periodicDue := s.pat.periodicDue, installDone := true }
      acq := { Acq.zero with store := s.acq.store, storeSnap := s.acq.storeSnap, siHeld := s.acq.siHeld
                             sent := { Acq.zero.sent with idBad := s.acq.sent.idBad } }
      lrn := { Learned.empty with
        disabledCold := s.lrn.disabledCold, fray := nv.fray, cells := s.lrn.cells, lastTIn := s.lrn.lastTIn, lastTOut := s.lrn.lastTOut }
      own := { Ownership.cold with
        cut := s.own.cut && !cutsHigh, parkItems := if keeps then s.own.parkItems else []
        parkedOwner := if keeps then s.own.parkedOwner else none
        -- what this seat cuts stays cut over a warm resume that comes neither from PARK nor from SHIP (R378)
        cutting := if k == BootKind.otherWarm then s.own.cutting.map fun c => { c with barred := true } else none }
      flt := { Faults.clean with
        pinKeeper := s.flt.pinKeeper
        coldHeld := s.flt.coldHeld ++ s.flt.all.filter fun i => coldCodes.contains i.code }
      tst := { TestPort.cold with instr := s.tst.instr, data := s.tst.data, statusFail := s.tst.statusFail, scan := s.tst.scan
                                  pinsBy := s.tst.pinsBy } }

/-- WARM_RESUME (R62, R68, R77–R80): from the 13.0 ms line of Table 3-4. -/
def warmResume (cutsHigh : Bool) (t : Ns) (s : State) : State :=
  match s.sup.resume with
  | none => s
  | some k => (s.at t).warmParts k cutsHigh

end Sys2Proof.Machine
end

