-- ==== Sys2Proof/Machine/Monitors.lean ====
section
/-!
DEFINITION. The device's own monitors (chapter 18), the straps and codes re-checked in operation (chapter 02), and test access,
loop-back and production test (chapter 19).
-/
namespace Sys2Proof.Machine

/-! ### Straps, codes and MAINT (R36, R37, R43, R499) -/

/-- One strap's streak judged. -/
def State.judgeStrap (s : State) (k : Strap) : State :=
  let x := s.strap.streak k
  s.judge2 0x961 (strapDetail k) (decide (2 ≤ x.differ)) (decide (2 ≤ x.agree))

/-- STRAP_RESAMPLE (R36): in the round whose number modulo 1,000 is 999. -/
def strapResample (x : StrapLevels) (s : State) : State :=
  if !(s.rounds && s.pace.round % 1000 == 999) then s
  else allStraps.foldl State.judgeStrap { s with strap := s.strap.resample x }

/-- CODE_REREAD (R43): code i in the round whose number modulo 1,000 is 125 · i; `sum` is the sum of its 16 conversions. -/
def codeReread (i sum : Nat) (s : State) : State :=
  match s.code.level i with
  | none => s
  | some n =>
    if !(s.rounds && decide (i < 8) && s.pace.round % 1000 == 125 * i) then s
    else
      let k := (s.code.streaks.getD i ⟨0, 0⟩).step (readCode i sum == some n)
      let s1 : State := { s with code := { s.code with streaks := s.code.streaks.set i k } }
      s1.judge2 (0x950 + i) 0 (decide (2 ≤ k.differ)) (decide (2 ≤ k.agree))

/-- MAINT_CHANGE (R37): 64 consecutive samples differ from the level in force. -/
def maintChange (s : State) : State :=
  if decide (64 ≤ s.strap.maintRun) && !(s.strap.maintLast == s.strap.maint) then
    { s with strap := { s.strap with maintNext := some s.strap.maintLast } }
  else s

/-! ### Tailor cores (R27, R455, R456) -/

def pairNum : CorePair → Nat
  | .tc0 => 0
  | .tc1 => 1

/-- The pair is held in reset until the next boot. -/
def State.pairUp (s : State) (p : CorePair) : Bool := !s.flt.tcDown.contains (pairNum p)

def otherPair : CorePair → CorePair
  | .tc0 => .tc1
  | .tc1 => .tc0

/-- A pair fails: the other raises the fault, and holds it in reset until the next boot (R456). -/
def State.pairFails (s : State) (p : CorePair) (code detail : Nat) : State :=
  if !s.domainOn 3 || !s.pairUp p then s
  else
    let s1 : State := { s with flt := { s.flt with tcDown := s.flt.tcDown ++ [(pairNum p)] } }
    if s.pairUp (otherPair p) then s1.raise code detail else s1

/-- LOCKSTEP_MISMATCH (R455, R456). -/
def lockstepMismatch (p : CorePair) (s : State) : State := s.pairFails p (0x530 + (pairNum p)) 0

/-- Consecutive stitches without a pair's heartbeat (R15). -/
def Faults.beatMiss (f : Faults) : CorePair → Nat
  | .tc0 => f.beatMiss0
  | .tc1 => f.beatMiss1

/-- HEARTBEAT_MISS (R27, R455): missed for 2 consecutive stitches; the detail names the silent pair. -/
def heartbeatMiss (p : CorePair) (s : State) : State :=
  if s.flt.beatMiss p < 2 then s else s.pairFails p 0x532 (pairNum p)

/-- An uncorrectable error in a cell's classical or seam record (Tables 8-3 and 18-3): the cell is basted afresh, and its seam
record starts open. -/
def State.recordLost (s : State) (id : CellId) : State :=
  let s1 := s.raise 0x533 id
  let s2 : State := if 4096 < id then
      s1.basteStore fun k => k == id
    else s1.bastePack (fun k => k == id) true
  s2.updS id fun c => seamRestored none c.id

/-- TCM_ECC_ERROR (R455, R456). -/
def tcmError (x : TcmError) (s : State) : State :=
  if !s.domainOn 3 then s
  else match x with
    | .correctable => { s with flt := { s.flt with tcmCe := s.flt.tcmCe + 1 } }
    | .cell id => if s.fittedCells.contains id then s.recordLost id else s
    | .other p => s.pairFails p 0x534 0

/-- PIN_KEEPER_EXPIRY (R454): four consecutive stitches were not kept. -/
def pinKeeperExpiry (s : State) : State :=
  if decide (s.flt.keepMiss < 4) || !s.pace.running then s
  else { s with flt := { s.flt with safeN := false, pin := 7, pinFrom := s.pace.round, peerStopped := true, pinKeeper := true } }

/-! ### Clocks, caps and temperature (R102, R455, R457–R459) -/

/-- FAST_CLOCK_LOSS (R457): the device latches its own cut. -/
def fastClockLoss (t : Ns) (s : State) : State := if s.domainOn 2 then cutIn t (s.raise 0x687 0) else s

/-- CRYSTAL_FAIL (R455). -/
def crystalFail (s : State) : State := if s.sup.dev == DevState.off then s else s.raise 0x125 0

/-- CAP_LATCH_MISSING (R458): the second expected latch in succession is missing; plain zero until the next latch. -/
def capLatchMissing (s : State) : State :=
  let now := decide (s.pace.stitch = 63) && !(s.pow.latchAt == some s.pace.round)
  if !(s.rounds && s.drivesCaps) || decide (s.pow.latchMisses + now.toNat < 2) then s
  else ({ s with pow := { s.pow with latchMissing := true, zeroD := true, zeroC := true } } : State).raiseFor 0x689 0 100

/-- DIE_OVERTEMP (R455, R459): T_die at or above 130 °C for 10 consecutive rounds; it stands until 100 rounds with T_die at or below
120 °C. -/
def dieOvertemp (s : State) : State := if s.rounds && decide (10 ≤ s.acq.dieHot) then s.raiseFor 0xA01 0 100 else s

/-- PACE_PLL_FAIL (R102): the device counts as failing self-test. -/
def pacePllFail (s : State) : State :=
  let starting := (s.sup.dev == DevState.boot && s.sup.bootStep == BootStep.imageRun) ||
    (s.sup.dev == DevState.run && s.pace.running && s.pace.round == s.own.since)
  if !starting then s else ({ s with tst := { s.tst with passed := false } } : State).raise 0x210 0

/-! ### The test access port (R469–R472) -/

/-- The instruction is one the lifecycle state has (Table 19-2); in the hold of R468 only AUTH is. -/
def State.tapHas (s : State) (i : TapInstr) : Bool :=
  if s.tst.hold then i == TapInstr.auth
  else match i with
    | .bypass | .idcode => true
    | .auth => false
    | _ => s.nv.fuses.lifecycle == Lifecycle.factory || s.nv.fuses.lifecycle == Lifecycle.production

/-- An instruction takes effect where the lifecycle state has it; otherwise it behaves as BYPASS (R469). Without P0 AON power there
is no test access. -/
def State.tap (s : State) (i : TapInstr) (f : State → State) : State :=
  if s.sup.dev == DevState.off then s
  else
    let bypassed : State := { s with tst := { s.tst with instr := .bypass, data := 0, pinsBy := .device } }
    if s.tapHas i then f { bypassed with tst := { bypassed.tst with instr := i } } else bypassed

/-- The data register captures a value. -/
def State.tapData (s : State) (v : Nat) : State := { s with tst := { s.tst with data := v } }

/-- The instruction's status bit. -/
def State.tapStatus (s : State) (fails : Bool) : State := { s with tst := { s.tst with statusFail := fails } }

/-- BYPASS (R469). -/
def tapBypass (s : State) : State := s.tap .bypass fun u => u

/-- The IDCODE (R469). -/
def idcodeValue : Nat := Config.stepping % 16 * 268435456 + 0x4096 * 4096 + Config.manufacturer % 2048 * 2 + 1

/-- IDCODE (R469). -/
def tapIdcode (s : State) : State := s.tap .idcode fun u => u.tapData idcodeValue

/-- SAMPLE/PRELOAD (R469, R470): the pins are captured and the boundary register is loaded. -/
def tapSample (pins scan : Nat) (s : State) : State :=
  s.tap .samplePreload fun u => { u with tst := { u.tst with data := pins, scan := scan } }

/-- EXTEST, EXTEST_PULSE, EXTEST_TRAIN (R470): the TAP controls the pins. -/
def tapExtest (i : TapInstr) (scan : Nat) (s : State) : State :=
  s.tap i fun u => { u with tst := { u.tst with scan := scan, pinsBy := .scan } }

/-- CLAMP (R470): the pins hold what the boundary register was loaded with. -/
def tapClamp (s : State) : State := s.tap .clamp fun u => { u with tst := { u.tst with pinsBy := .scan } }

/-- HIGHZ (R470). -/
def tapHighz (s : State) : State := s.tap .highz fun u => { u with tst := { u.tst with pinsBy := .highz } }

/-- LB_RESULT as a number: 2 bits an entry (R476). -/
def lbValue (l : List Nat) : Nat := (List.range l.length).foldl (fun a i => a + l.getD i 0 % 4 * 4 ^ i) 0

/-- LB_RESULT (R476). -/
def tapLbResult (s : State) : State := s.tap .lbResult fun u => u.tapData (lbValue u.tst.lb)

/-- BIST_RESULT (R477). -/
def tapBistResult (s : State) : State := s.tap .bistResult fun u => u.tapData u.tst.bist.toNat

/-- A programming of the fuses: none where the item is programmed, or the lifecycle state does not have it (R471, R472). `key` is
what the on-chip random source draws for the device-unique key. -/
def Fuses.program (f : Fuses) (key : Nat) : KeyItem → Option Fuses
  | .dieIdentity v =>
    if f.lifecycle == Lifecycle.factory && f.dieId.isNone then some { f with dieId := some (v % 2 ^ 64) } else none
  | .deviceKey => if f.lifecycle == Lifecycle.factory && f.deviceKey.isNone then some { f with deviceKey := some key } else none
  | .returnHash v =>
    if f.lifecycle == Lifecycle.factory && f.returnHash.isNone then some { f with returnHash := some (v % 2 ^ 256) } else none
  | .imageSlot k v =>
    if decide (k < 4) && (f.slots.getD k none).isNone then some { f with slots := f.slots.set k (some (v % 2 ^ 256)) } else none
  | .domainKey v =>
    if f.lifecycle == Lifecycle.production && f.domainKey.isNone then some { f with domainKey := some (v % 2 ^ 128) } else none

/-- KEY_PROG (R471, R472). -/
def keyProg (item : KeyItem) (s : State) : State :=
  s.tap .keyProg fun u =>
    match u.nv.fuses.program (Config.freeValue u.freeCtr % 2 ^ 128) item with
    | some f => ({ u with nv := { u.nv with fuses := f }, freeCtr := u.freeCtr + 1 } : State).tapStatus false
    | none => u.tapStatus true

/-- The lifecycle state as page 1 of Table 17-6 codes it. -/
def lifecycleCode : Lifecycle → Nat
  | .factory => 0
  | .production => 1
  | .field => 2
  | .return_ => 3

/-- What FUSE_READ returns (R471): public content and check values only; a blank item reads 0. -/
def Fuses.read (f : Fuses) : FuseItem → Nat
  | .dieIdentity => f.dieId.getD 0
  | .deviceKey => keyCheck f.deviceKey
  | .returnHash => f.returnHash.getD 0
  | .imageSlot k => (f.slots.getD k none).getD 0
  | .domainKey => keyCheck f.domainKey
  | .lifecycle => lifecycleCode f.lifecycle

/-- FUSE_READ (R471). -/
def fuseRead (item : FuseItem) (s : State) : State := s.tap .fuseRead fun u => u.tapData (u.nv.fuses.read item)

/-- The lifecycle state that follows, where its conditions hold (R466). -/
def Fuses.advance (f : Fuses) : Option Lifecycle :=
  match f.lifecycle with
  | .factory => if f.dieId.isSome && f.deviceKey.isSome && f.returnHash.isSome then some .production else none
  | .production => if f.slots.any Option.isSome then some .field else none
  | _ => none

/-- LC_ADVANCE (R466); `readBack` is whether the fuses read back as the new state. -/
def lcAdvance (readBack : Bool) (s : State) : State :=
  s.tap .lcAdvance fun u =>
    match u.nv.fuses.advance with
    | some l =>
      if readBack then ({ u with nv := { u.nv with fuses := { u.nv.fuses with lifecycle := l } } } : State).tapStatus false
      else u.tapStatus true
    | none => u.tapStatus true

/-- The authorisation is for this die, under the key whose hash is fused (R468). -/
def Fuses.authorised (f : Fuses) (x : AuthIn) : Bool := x.verifies && f.dieId == some x.dieId && f.returnHash.isSome &&
  f.returnHash == keyHash x.publicKey

/-- The fuses of a part in RETURN (R468): every key destroyed. -/
def Fuses.destroyed (f : Fuses) : Fuses :=
  { f with lifecycle := .return_, deviceKey := none, domainKey := none, slots := [none, none, none, none], revoked := [true, true, true, true] }

/-- AUTH (R468, R469): only in the hold at a cold boot. -/
def tapAuth (x : AuthIn) (s : State) : State :=
  s.tap .auth fun u =>
    if u.nv.fuses.authorised x then
      ({ u with
          nv := ({ u.nv with fuses := u.nv.fuses.destroyed }.dieCheck).load
          tst := { u.tst with hold := false, authOk := true } } : State).judgeCopies
    else u

/-- RETURN_HOLD_END (R468): without a verified authorisation the boot goes on unchanged. -/
def returnHoldEnd (s : State) : State :=
  if s.tst.hold then { s with tst := { s.tst with hold := false, instr := .bypass, data := 0 } } else s

/-! ### Loop-back and production BIST (R473–R477) -/

/-- The entries of LB_RESULT that the loop-back phases fill (R474, R476). -/
def phaseEntries : Nat → List Nat
  | 1 => (List.range 8).map (fun p => 4 * p) ++ [32, 34, 36, 38, 40, 43, 46]
  | 2 => (List.range 8).map (fun p => 4 * p + 1) ++ [33, 35, 37, 39, 41, 44, 47]
  | 3 => (List.range 8).map (fun p => 4 * p + 2) ++ [42]
  | 4 => (List.range 8).map (fun p => 4 * p + 3) ++ [45, 48]
  | _ => []

/-- A depth that the codes leave out, and the PHY's with the SGMII link down, is not run (R473). -/
def State.depthRuns (s : State) (i : Nat) : Bool :=
  if 40 ≤ i ∧ i ≤ 42 then s.code.ethernet && (s.out.linkUp || !decide (i = 42)) else if i = 37 ∨ i = 39 then s.code.canOn else true

/-- The entry of a depth (Table 19-4, R476): 0 not run, 1 pass, 2 fail. A PRBS depth passes without an error on at least 95 % of its
bits checked, a frame depth with every frame equal, L4 with 8 replies whose round trips spread by at most 10 ns. -/
def lbEntry : LbRun → Nat
  | .none_ => 0
  | .prbs sent checked errors => if errors = 0 ∧ 95 * sent ≤ 100 * checked then 1 else 2
  | .frames sent good => if good = sent then 1 else 2
  | .memory errors => if errors = 0 then 1 else 2
  | .echo rts => if rts.length = 8 ∧ rts.foldl max 0 ≤ rts.foldl min (rts.headD 0) + 10 then 1 else 2

/-- The level FAULT[2:0] shows for results (R476): 0 not run, 1 pass, 2 fail. -/
def outcomeLevel (l : List Nat) : BitVec 3 := if l.contains 2 then 7 else if l.contains 0 then 2 else 1

/-- LOOPBACK_PHASE (R474–R476): the phase in progress ends with what its depths saw, in the order of their entries, and the next begins. -/
def loopbackPhase (runs : List LbRun) (s : State) : State :=
  let ready := s.sup.dev == DevState.boot && s.tst.mode == TestMode.loopback && s.sup.bootStep == BootStep.selfTested
  if !ready || decide (5 ≤ s.tst.phase) then s
  else
    let e := phaseEntries s.tst.phase
    let put (l : List Nat) (k : Nat) : List Nat :=
      let i := e.getD k 0
      l.set i (if s.depthRuns i then lbEntry (runs.getD k .none_) else 0)
    let lb := (List.range e.length).foldl put s.tst.lb
    let s1 : State := { s with
      tst := { s.tst with phase := s.tst.phase + 1, lb := lb }
      own := { s.own with role := .provisional, caps := false, pins := false } }
    if s1.tst.phase = 5 then s1.setPins true (outcomeLevel lb) else s1

/-- PRODUCTION_BIST (R477): the commanding group stays at high impedance. -/
def productionBist (result : BitVec 128) (allRun passed : Bool) (s : State) : State :=
  let ready := s.sup.dev == DevState.boot && s.tst.mode == TestMode.bist &&
    (s.sup.bootStep == BootStep.domainsOn || s.sup.bootStep == BootStep.selfTested)
  if !ready || s.tst.bistDone then s
  else
    ({ s with tst := { s.tst with bist := result, bistDone := true } } : State).setPins true
      (if !passed then 7 else if allRun then 1 else 2)

end Sys2Proof.Machine
end

