-- ==== Sys2Proof/Machine/Rounds.lean ====
section
/-!
DEFINITION. The round as a whole: round 0 of a boot, stitch 0, the later stitches, stitch 62, and the commands whose effect spans
several chapters.
-/
namespace Sys2Proof.Machine

/-! ### Pace commands (R82, R93) -/

/-- `PACE.snap_phase` of a source. -/
def State.phi (s : State) : PaceSource → Nat
  | .inverter => s.img.f.pace.phiInverter
  | .mains => s.img.f.pace.phiMains
  | .dc => s.img.f.pace.phiDc

/-- PACE_IN is looked at: the PLL is enabled and RSEL_PACE is not at level 0 (R83); a park check keeps to the crystal idle pace
(R78). -/
def State.paceIn (s : State) : Bool := s.pace.enabled && !(s.code.pace == 0) && !s.sup.parkCheck

/-- PACE_EDGE (R46, R82, R95, R96): the active edge alone counts. -/
def paceEdge (x : PaceChange) (s : State) : State :=
  if !s.paceIn || !(x.rising == s.code.paceRising) then s
  else { s with pace := s.pace.edge (paceAdmits s.code.pace) s.img.f.pace.roundMin s.phi x.t }.at x.t

/-- PACE_LOSS (R93). -/
def paceLoss (t : Ns) (s : State) : State :=
  if s.paceIn && s.pace.lossDue t then { s with pace := s.pace.declareLoss }.at t else s

/-- HOLDOVER_END (R93). -/
def holdoverEnd (s : State) : State := { s with pace := s.pace.endHold }

/-- A window of 1,000 rounds ends at this stitch 0: the number has passed a multiple of 1,000. -/
def State.windowEnds (s : State) (before : Round) : Bool := !(before / 1000 == s.pace.round / 1000)

/-- The pace faults at stitch 0 (Table 4-6, R102); `before` is the number of the round just ended. -/
def State.paceFaults (s : State) (before : Round) : State :=
  if s.code.pace = 0 then s
  else
    let p := s.pace
    let over_ := match p.searchFrom with | some _ => decide (p.searchLast + 2000000000 ≤ p.start) | none => true
    let long := match p.searchFrom with | some f => !over_ && decide (f + 2000000000 ≤ p.start) | none => false
    let win := s.windowEnds before
    let s1 := s.judge2 0x203 0 p.foreignHit (decide (p.foreignRound + 1000 < p.round))
    let s2 := s1.judge2 0x204 0 (decide (1000 ≤ p.trackRounds)) (p.lock == Lock.lock)
    let s3 := s2.judge2 0x205 0 (decide (16 < p.badWindow)) win
    let s4 := s3.judge2 0x206 0 long over_
    { s4 with pace := { s4.pace with
        foreignHit := false, badWindow := if win then 0 else p.badWindow
        searchFrom := if over_ then none else p.searchFrom } }

/-! ### Every stitch -/

/-- The run of stitches without the heartbeat of a pair that is up (R15). -/
def State.beatRun (s : State) (x : StitchLevels) (p : CorePair) : Nat :=
  if s.pairUp p && x.silentPairs.contains p then s.flt.beatMiss p + 1 else 0

/-- What every stitch does: the keep words, which a pair held in reset writes no more, the heartbeats, the NOR bus, MAINT,
VCHG_DET, and the store (R15, R26, R37, R75, R349, R350, R454). -/
def State.eachStitch (s : State) (x : StitchLevels) (t : Ns) : State :=
  let s1 : State := { s with
    flt := { s.flt with
      keepMiss := if x.kept && (s.tc0Up || s.tc1Up) then 0 else s.flt.keepMiss + 1, beatMiss0 := s.beatRun x .tc0, beatMiss1 := s.beatRun x .tc1 }
    strap := s.strap.maintSample x.maint
    sup := { s.sup with vchg := x.vchg }
    lrn := { s.lrn with norHeld := if x.norBusy then s.lrn.norHeld + 1 else 0 } }
  (s1.storeStitch x.vset t).parkStitch

/-! ### Round 0 (R65, R66, R450, R479, R503) -/

/-- The pace at round 0 of a boot: the crystal idle pace, with the number of R98. -/
def State.paceZero (s : State) (cold : Bool) (t : Ns) : Pace :=
  let n : Round := if cold then 0 else match s.nv.newestSeal with | some x => x.2.buf.round + 1 | none => s.pace.round + 1
  let p : Pace := { Pace.cold with
    enabled := true, running := true, round := n, startPs := t * 1000, start := t, prevStart := t, stitchAt := t, stitchPs := t * 1000 }
  { p with word := p.statusWord }

/-- The failures of tests 9–12 that are judged at round 0 (R479). -/
def State.judgedTests (s : State) : List Nat :=
  let used (p : Nat) : Bool := (s.portEnd p).isSome
  s.tst.waiting.filter fun n =>
    if n = 9 then s.tst.failedPorts.any used
    else if n = 10 then decide (1 < s.fitted.length)
    else if n = 12 then s.code.ethernet
    else n = 11

/-- The Self-test condition at round 0 (Table 15-2, R33, R61, R102, Table 2-7). -/
def State.selfTestPassed (s : State) : Bool :=
  !s.flt.bit 0x540 && !s.flt.bit 0x210 && !s.strap.split.contains .seat1 && !s.strap.split.contains .seat0 &&
  (s.sup.failedDomains.all fun d => decide (6 < d)) && (s.code.level 4).isSome

/-- The faults whose conditions a boot finds standing (R450, R454, R441). -/
def State.raiseStanding (s : State) (cold : Bool) : State :=
  let sealed := match s.nv.newestSeal with | some x => x.2.pinKeeper | none => false
  let keeper := s.flt.pinKeeper || (cold && sealed)
  let worst := (s.nv.erase0 ++ s.nv.erase1).foldl max 0
  let seats := s.strap.split.filter fun k => k == Strap.seat1 || k == Strap.seat0
  let s1 := (s.judgedTests.foldl (fun u n => u.raise 0x540 n) s)
  let s2 := s1.strap.split.foldl (fun u k =>
    if seats.contains k then u.raiseHigh 0x960 (strapDetail k) else u.raise 0x960 (strapDetail k)) s1
  let s3 := (s2.raiseCodes).judgeTaps
  let s4 := if s.own.cut then s3.raise 0x822 0 else s3
  let s4 := match s4.own.cutting with | some c => s4.raise 0x821 (seatDetail c.seat) | none => s4
  let s5 := if s.res.path == PathState.latched then s4.raise 0x702 0 else s4
  let s6 := if keeper then ({ s5 with flt := { s5.flt with pinKeeper := false } } : State).raise 0x536 0 else s5
  let s7 := if s.sup.damping then s6.raise 0x121 0 else s6
  let s8 := if !s.img.rom && decide (s.img.f.image.eraseLimit ≤ worst) then s7.raise 0x933 0 else s7
  let s9 := if s.fitted.contains s.seat then s8 else s8.raise 0x804 (0x2200 + s.seat)
  let s10 := if decide (1 < s.fitted.length) && s.nv.fuses.domainKey.isNone then s9.raise 0x805 0 else s9
  let s11 := s.flt.coldHeld.foldl (fun u i => u.raiseInst i) s10
  ({ s11 with flt := { s11.flt with coldHeld := [] } } : State).judgeCopies

/-- The boot kind as the boot entry codes it (Table 16-13). -/
def bootKindCode : BootKind → Nat
  | .cold => 0
  | .parkWake => 1
  | .parkCheck => 2
  | .ship => 3
  | .otherWarm => 4

/-- The boot entry of the event log, ahead of every entry of this boot (R450, R503). -/
def State.logBoot (s : State) : State :=
  let d := if s.img.digest.isEmpty then List.replicate 32 0 else s.img.digest
  let payload := beBytes 1 s.img.slot ++ beBytes 1 (bootKindCode s.sup.bootKind) ++ d.take 16 ++ beBytes 1 s.img.reasonA ++
    beBytes 1 s.img.reasonB
  let e : LogEntry := ⟨6, 0, s.pace.round, s.now / 10, payload⟩
  { s with flt := { s.flt with logQueue := e :: s.flt.logQueue } }

/-- Round 0 begins: what starts with the grid. -/
def State.beginRounds (s : State) (cold : Bool) (t : Ns) : State :=
  let u := s.at t
  let check := decide (s.sup.bootKind = .parkCheck)
  let p := u.paceZero cold u.now
  { u with
      pace := p
      sup := { u.sup with
        dev := .run, parkCheck := check, storeFn := !(u.code.chem == 0), resume := none, shut := none, checkWake := false, resumeInPlace := false
        checkRounds := if check then u.img.f.supply.checkRounds else 0 }
      thr := { u.thr with window := p.round / 1000 }
      lrn := { u.lrn with eccWindow := p.round / 1000 }
      own := { u.own with
        role := if u.attachedSeats.contains u.seat then .listener else .witness, since := p.round, window := p.round / 1000,
        nonce := Config.freeValue u.freeCtr % 2 ^ 32 }
      freeCtr := u.freeCtr + 1
      trn := { Training.idle with
        lastPos := u.nv.lastPos, last := u.nv.trained, cycle := match u.nv.trained with | some r => r.cycle + 1 | none => 0 } }

/-- The store brought back changed while its measurement was off (R333, R334). -/
def State.storeSwapped (s : State) : State :=
  if s.res.swapped && !s.sup.parkCheck then ({ s with res := { s.res with swapped := false } } : State).storeChange else s

/-- ROUND_ZERO (R65). -/
def roundZero (t : Ns) (x : ZeroIn) (s : State) : State :=
  if !(s.sup.dev == DevState.boot && s.sup.bootStep == BootStep.imageRun && s.tst.mode == TestMode.none_) then s
  else
    let cold := decide (s.sup.bootKind = .cold)
    let s1 := ((s.beginRounds cold t).restoreBoot cold t).acqLatch x.snap
    let s2 := (s1.raiseStanding cold).storeSwapped
    let s3 : State := { s2 with tst := { s2.tst with passed := s2.selfTestPassed, waiting := [] } }
    let s4 := s3.logBoot.eachStitch x.levels s3.pace.start
    if s4.sup.parkCheck then s4.parkPins else s4.setPins false s4.faultLevel

/-! ### Run-time self-test (R480–R483) -/

/-- The test that runs in the present round of RUN or of a park check, if any. -/
def State.testNow (s : State) : Option Nat :=
  if !(s.sup.dev == DevState.run) then none else
  let n := s.pace.round
  let called := match s.own.checkFrom with
    | some r => if r < n ∧ n ≤ r + 8 then some (30 + (n - r)) else none
    | none => none
  match called with
  | some k => some k
  | none => if n % 100 % 10 = 0 ∧ 10 ≤ n % 100 ∧ n % 100 ≤ 80 then some (30 + n % 100 / 10) else none

/-- RUNTIME_SELF_TEST: the outcome of the test of the present round. -/
def State.runtimeTest (s : State) (passed : Bool) : State :=
  match s.testNow with
  | none => s
  | some k =>
    if passed then s
    else ({ s with tst := { s.tst with passed := false } } : State).raise (if k ≤ 33 then 0x688 else 0x541) k

/-! ### Stitch 0 (R100) -/

/-- The grid moves on and the number increments; a greater number is adopted (R98, R369). -/
def State.nextRound (s : State) (x : PllTick) : State :=
  let p := s.pace.startRound s.img.f.pace.roundMin s.phi x.t x.periodPs
  let u : State := { s with pace := p }.at p.start
  let n := u.adopted p.start p.round
  { u with pace := { u.pace with round := n }, own := { u.own with since := u.own.since + (n - p.round) } }

/-- The accumulators of RUN time (R156, R264, R399, R408, R467). -/
def State.runTime (s : State) : State :=
  let d := s.pace.dt
  if !(s.sup.dev == DevState.run) || s.sup.parkCheck then s
  else
    { s with
        nv := { s.nv with runTicks := s.nv.runTicks + d, rollback := if s.img.rom then s.nv.rollback else s.nv.rollback + d }
        pat := { s.pat with runTicks := s.pat.runTicks + d }
        img := { s.img with eligTicks := if s.ownEligible then s.img.eligTicks + d else s.img.eligTicks } }

/-- The die sensors' spread (0xA02), the rounds with T_die at or above 130 °C, and T_die above 120 °C (0xA01), Table 18-3. -/
def State.dieFaults (s : State) : State :=
  let l := (((List.range 4).map fun i => streamAt s.acq.prevStreams (43 + i)).filter Rec.usable).map fun r => r.value
  let r := s.acq.dieSpread.step (decide (800 < maxOf l - minOf l))
  let n := if hot s.dieTemp 130 then s.acq.dieHot + 1 else 0
  let s1 := ({ s with acq := { s.acq with dieSpread := r, dieHot := n } } : State).judge2 0xA02 0 (decide (100 ≤ r.bad)) (decide (100 ≤ r.good))
  let warm := match s.dieTemp with | some v => decide (12000 < v) | none => true
  if s1.flt.bit 0xA01 && warm then s1.raiseFor 0xA01 0 100 else s1

/-- Fault 0x542 clears once the table has had free entries for 1,000 rounds (Table 18-3). -/
def State.tableRound (s : State) : State :=
  let n := if s.flt.table.length < 256 then s.flt.freeRounds + 1 else 0
  let s1 : State := { s with flt := { s.flt with freeRounds := n } }
  if 1000 ≤ n then s1.clearAll 0x542 else s1

/-- Fault 0x120 has stood through a whole round (R72). -/
def State.abortOver (s : State) : State :=
  match s.sup.abortRound with
  | some r => if r + 2 ≤ s.pace.round then ({ s with sup := { s.sup with abortRound := none } } : State).clear 0x120 0 else s
  | none => s

/-- A park check at stitch 0: a round fewer to run, or RUN from here on after a wake cause (R78). -/
def State.checkRound (s : State) : State :=
  if !s.sup.parkCheck then s
  else if s.sup.checkWake then { s with sup := { s.sup with parkCheck := false, checkWake := false, checkRounds := 0 } }
  else { s with sup := { s.sup with checkRounds := s.sup.checkRounds - 1 } }

/-- MAINT takes effect at the boundary; a maintenance re-test may run again once it has fallen (R37, R161). -/
def State.maintRound (s : State) : State :=
  let k := s.strap.roundStart
  { s with strap := k, pat := { s.pat with retestDone := s.pat.retestDone && k.maint } }

/-- Stitch 0 with round work. -/
def State.workRound (s : State) (x : RoundIn) : State :=
  let before := s.pace.round
  let s1 := ((s.latchWatch.keepLate.acqClose.nextRound x.pll).joinRound.maintRound.runTime).acqLatch x.snap
  let s2 := (s1.threadRound x.silent).testRound
  let s3 := s2.learnedRound.trainRound.shedRound
  let s4 := ((s3.storeRound x.snap).shareRound x.snap).releaseTrip
  let s5 := (s4.ownerRound x.peerSilent).outputRound
  let late := s5.rounds && s5.pow.latchMissing
  let s6 := if late then s5.raiseFor 0x689 0 100 else s5
  let s7 := ((s6.paceFaults before).dieFaults).runtimeTest x.testPassed
  let s8 := (s7.tableRound.abortOver.checkRound).eachStitch x.levels s7.pace.start
  s8.holdsRound.pinsRound

/-- ROUND_START (R90, R98, R100), after the 64th stitch: in SEAL the grid alone runs on (R69), and its edges are judged (R102); a warm
resume in place takes up its work here. -/
def roundStart (x : RoundIn) (s : State) : State :=
  if !s.pace.running || decide (s.pace.stitch < 63) then s
  else match s.sup.dev with
    | .run | .grace => { s with sup := { s.sup with resumeInPlace := false } }.workRound x
    | .seal =>
      let u : State := { s with pace := s.pace.startRound s.img.f.pace.roundMin s.phi x.pll.t x.pll.periodPs }
      u.paceFaults s.pace.round
    | _ => s

/-! ### The later stitches -/

/-- STITCH_START (R90): stitches 1 to 63; without round work the grid alone runs on (R69). -/
def stitchStart (x : StitchIn) (s : State) : State :=
  if !s.pace.running || decide (63 ≤ s.pace.stitch) then s
  else if !s.rounds then { s with pace := s.pace.stepStitch x.t }
  else
    let p := s.pace.stepStitch x.t
    let s1 : State := { s.at p.stitchAt with pace := p }
    let s2 := s1.eachStitch x.levels p.stitchAt
    let s2 := if s2.pace.stitch = 43 then s2.settleReads else s2
    let s3 := if s2.pace.stitch = 8 then ({ s2 with nv := { s2.nv with writing := none } } : State).trainLate else s2
    s3.ownerStitch

/-- The published set of the round just ended has been formed in this round. -/
def State.published (s : State) : Bool :=
  match s.seam.pub with | some p => decide (p.snap + 1 = s.pace.round) | none => false

/-- PUBLICATION (R64, R306, R415, R421, R449): at stitch 62, for the snap before; none in a boot's first round, which has none. -/
def publication (summaryBegan faultBegan : Bool) (s : State) : State :=
  if !(s.rounds && decide (s.pace.stitch = 62)) || s.isFrozen || s.published then s
  else
    let s1 := State.refillTable 256 s
    let s2 := if s1.tc0Up && !(s1.own.since == s1.pace.round) then s1.formPublished else s1
    let s3 := s2.sendCanA (summaryBegan, faultBegan)
    let s4 := if s3.tc0Up then s3.queueRound.writeSealBuf else s3
    s4.writeJournal

/-! ### Commands that span chapters -/

/-- The copy of the present snap's READ that an end holds for a node (R119). -/
def State.copyAt (s : State) (id : NodeId) (e : RingEnd) : Option (List Byte) :=
  (s.node id).bind fun n => if e == RingEnd.a then n.copyA else n.copyB

/-- READ_RECEIVED (R118, R144, R382): a READ that has been accepted here is passed on. -/
def readFrame (x : ReadRx) (s : State) : State :=
  let s1 := readReceived x s
  let taken := match s.portEnd x.rx.port with
    | some (port, e) =>
      let id := nodeId port (byteAt (rxBytes x.rx) 0 % 32)
      (s.copyAt id e).isNone && (s1.copyAt id e).isSome
    | none => false
  (if taken then s1.relayRead x.rx else s1).turnCheck

/-- TOKEN_SEND (R116, R144). -/
def tokenRound (s : State) : State := (tokenSend s).turnCheck

/-- NODE_LOST (R135, R273): the cells of a lost node leave the training active set. -/
def lostNode (id : NodeId) (s : State) : State :=
  let t := nodeLost id s
  let cells := match s.img.variant with | some v => v.nodeCells id | none => []
  if ((t.node id).map fun n => n.lost).getD false then t.leaveActive fun k => cells.contains k else t

/-- IDENT_RESPONSE (R146, R162, R203, R228): the cells of a node with another identity than before are basted and start afresh. -/
def identResponse (x : ThreadRx) (s : State) : State :=
  match s.identFrame x with
  | none =>
    match s.portEnd x.port with
    | some (port, _) => if s.rounds && s.threadOn x.port then s.badFrame x port 1 18 else s
    | none => s
  | some id =>
    let u := match s.portEnd x.port with | some (port, e) => s.tokenOrder port e (nodePos id) | none => s
    let r := u.takeIdent id (rxBytes x)
    let cells := match s.img.variant with | some v => v.nodeCells id | none => []
    let sel (k : CellId) : Bool := cells.contains k
    (if r.2 then (r.1.bastePack sel true).freshStart sel else r.1).turnCheck

/-- BEAT_RECEIVED (R365–R370, R389): with what the owner intends. -/
def beatTaken (x : PeerRx) (s : State) : State :=
  match s.peerAccept 1 x with
  | (s1, some f) => (s1.takeBeat x f).followPark f.origin (readBeat f.round f.payload).intent
  | (s1, none) => s1

/-- MAINTENANCE_RETEST (R161): once for each assertion of MAINT. -/
def maintenanceRetest (s : State) : State :=
  if s.rounds && s.sup.dev == DevState.run && s.attached && s.strap.maint && !s.pat.retestDone && s.pat.testing.isNone &&
     s.pace.lock == Lock.idle && s.shuntsBelow s.img.f.supply.parkIMax && s.res.ledger.isEmpty then
    let s1 := s.startTests .maintenance
    { s1 with pat := { s1.pat with retestDone := true } }
  else s

/-- INSTALLATION_TEST (R35, R155): INSTALL is honoured and the turns of the pattern check are over. -/
def installTest (s : State) : State := installationTest (s.installHonoured && s.turnsOver) s

end Sys2Proof.Machine
end

