-- ==== Sys2Proof/Machine/ExecEstimate.lean ====
section
/-!
DEFINITION. Acquisition, classical estimator and seam commands (chapters 07, 08 and 12): one meaning for each
command, over the operations of the chapters. Every command answers a next state.
-/
namespace Sys2Proof.Machine

/-- SHUNT_SAMPLE (R170). -/
def execShuntSample (x : ShuntSample) (s : State) : Host.Outcome State Fault Refusal := .next (shuntSample x s)

/-- SHUNT_RANGE_SENSOR (R174). -/
def execShuntRangeSensor (shunt : ShuntId) (t : Ns) (s : State) : Host.Outcome State Fault Refusal := .next (shuntRangeSensor shunt t s)

/-- SENT_FRAME (R177). -/
def execSentFrame (x : SentFrame) (s : State) : Host.Outcome State Fault Refusal := .next (sentFrame x s)

/-- SENT_ID_TIMEOUT (R177). -/
def execSentIdTimeout (t : Ns) (s : State) : Host.Outcome State Fault Refusal := .next (sentIdTimeout t s)

/-- SENT_LOSS (R178). -/
def execSentLoss (t : Ns) (s : State) : Host.Outcome State Fault Refusal := .next (sentLoss t s)

/-- SB_SNAP_BLANK (R184). -/
def execSbSnapBlank (s : State) : Host.Outcome State Fault Refusal := .next (sbBlank s)

/-- SB_RESTORE (R184). -/
def execSbRestore (s : State) : Host.Outcome State Fault Refusal := .next (sbRestore s)

/-- CLASSICAL_UPDATE (R191). -/
def execClassicalUpdate (s : State) : Host.Outcome State Fault Refusal := .next (classicalUpdate s)

/-- BASTING_FORMED (R204). -/
def execBastingFormed (cell : CellId) (s : State) : Host.Outcome State Fault Refusal := .next (bastingFormed cell s)

/-- TACK_OVERDUE (R213). -/
def execTackOverdue (s : State) : Host.Outcome State Fault Refusal := .next (tackOverdue s)

/-- PAIR_RECORD_WRITE (R190). -/
def execPairRecordWrite (s : State) : Host.Outcome State Fault Refusal := .next (pairRecordWrite s)

/-- SEAM_DECISION (R295). -/
def execSeamDecision (cell : CellId) (s : State) : Host.Outcome State Fault Refusal := .next (seamDecision cell s)

/-- SEAM_DEADLINE (R20). -/
def execSeamDeadline (s : State) : Host.Outcome State Fault Refusal := .next (seamDeadline s)

/-- SEAM_WINDOW_END (R307). -/
def execSeamWindowEnd (s : State) : Host.Outcome State Fault Refusal := .next (seamWindowEnd s)

end Sys2Proof.Machine
end

