-- ==== Sys2Proof/Machine/ExecLearn.lean ====
section
/-!
DEFINITION. Learned-path, state-memory, training and checkpoint commands (chapters 09 to 11 and 16): one meaning for each
command, over the operations of the chapters. Every command answers a next state.
-/
namespace Sys2Proof.Machine

/-- LPDDR5_INIT_COMPLETE (R65). -/
def execLpddr5InitComplete (x : DdrInit) (s : State) : Host.Outcome State Fault Refusal := .next (ddrInit x s)

/-- CHECKPOINT_LOAD (R266). -/
def execCheckpointLoad (s : State) : Host.Outcome State Fault Refusal := .next (checkpointLoad s)

/-- STATE_BLOCK_FETCH (R248). -/
def execStateBlockFetch (cell : CellId) (s : State) : Host.Outcome State Fault Refusal := .next (stateBlockFetch cell s)

/-- LEARNED_RESULT_WRITTEN (R225). -/
def execLearnedResultWritten (cell : CellId) (t : Ns) (s : State) : Host.Outcome State Fault Refusal := .next (learnedResult cell t s)

/-- OPEN_LOOP_LIMIT (R228). -/
def execOpenLoopLimit (cell : CellId) (s : State) : Host.Outcome State Fault Refusal := .next (openLoopLimit cell s)

/-- WARMUP_END (R228). -/
def execWarmupEnd (cell : CellId) (s : State) : Host.Outcome State Fault Refusal := .next (warmupEnd cell s)

/-- REPLAY_STEP (R256). -/
def execReplayStep (t : Ns) (s : State) : Host.Outcome State Fault Refusal := .next (replayStep t s)

/-- REPLAY_COMPARE (R257). -/
def execReplayCompare (s : State) : Host.Outcome State Fault Refusal := .next (replayCompare s)

/-- REPLAY_ABORT (R256). -/
def execReplayAbort (s : State) : Host.Outcome State Fault Refusal := .next (replayAbort s)

/-- REPLAY_PERIOD_END (R255). -/
def execReplayPeriodEnd (s : State) : Host.Outcome State Fault Refusal := .next (replayPeriodEnd s)

/-- STEP_ABANDON (R260). -/
def execStepAbandon (cell : CellId) (s : State) : Host.Outcome State Fault Refusal := .next (stepAbandon cell s)

/-- CELL_RESTORE (R261). -/
def execCellRestore (cell : CellId) (s : State) : Host.Outcome State Fault Refusal := .next (cellRestore cell s)

/-- LPDDR5_ECC_ERROR (R262). -/
def execLpddr5EccError (correctable : Bool) (region : MemRegion) (s : State) : Host.Outcome State Fault Refusal :=
  .next (ddrEcc correctable region s)

/-- BOBBIN_ECC_ERROR (R263). -/
def execBobbinEccError (correctable : Bool) (matchesMemory : Bool) (region : MemRegion) (s : State) : Host.Outcome State Fault Refusal :=
  .next (bobbinEcc correctable matchesMemory region s)

/-- ECC_WINDOW_END (R263). -/
def execEccWindowEnd (s : State) : Host.Outcome State Fault Refusal := .next (eccWindowEnd s)

/-- SCRUB_PASS (R264). -/
def execScrubPass (s : State) : Host.Outcome State Fault Refusal := .next (scrubPass s)

/-- SCRUB_OVERDUE (R264). -/
def execScrubOverdue (s : State) : Host.Outcome State Fault Refusal := .next (scrubOverdue s)

/-- ARBITRATION_REVOKE (R265). -/
def execArbitrationRevoke (holder : Requester) (s : State) : Host.Outcome State Fault Refusal := .next (arbitrationRevoke holder s)

/-- PORT_UNFENCE (R265). -/
def execPortUnfence (holder : Requester) (s : State) : Host.Outcome State Fault Refusal := .next (portUnfence holder s)

/-- REFRESH_RATE_READ (R491). -/
def execRefreshRateRead (multiplier : Rat) (s : State) : Host.Outcome State Fault Refusal := .next (refreshRateRead multiplier s)

/-- CYCLE_START (R271). -/
def execCycleStart (s : State) : Host.Outcome State Fault Refusal := .next (cycleStart s)

/-- SHADOW_STEP (R274). -/
def execShadowStep (cell : CellId) (t : Ns) (s : State) : Host.Outcome State Fault Refusal := .next (shadowStep cell t s)

/-- WARM_PHASE_END (R272). -/
def execWarmPhaseEnd (s : State) : Host.Outcome State Fault Refusal := .next (warmPhaseEnd s)

/-- SHADOW_UPDATE (R278). -/
def execShadowUpdate (s : State) : Host.Outcome State Fault Refusal := .next (shadowUpdate s)

/-- EPOCH_END (R272). -/
def execEpochEnd (s : State) : Host.Outcome State Fault Refusal := .next (epochEnd s)

/-- FIT_DECISION (R282). -/
def execFitDecision (s : State) : Host.Outcome State Fault Refusal := .next (fitDecision s)

/-- ADAPTER_COPY (R283). -/
def execAdapterCopy (s : State) : Host.Outcome State Fault Refusal := .next (adapterCopy s)

/-- PROMOTION (R283). -/
def execPromotion (s : State) : Host.Outcome State Fault Refusal := .next (promotion s)

/-- SHED_LOWER (R288). -/
def execShedLower (t : Ns) (s : State) : Host.Outcome State Fault Refusal := .next (shedLower t s)

/-- CHECKPOINT_TRIGGER (R286). -/
def execCheckpointTrigger (cause : CkptCause) (s : State) : Host.Outcome State Fault Refusal := .next (checkpointTrigger cause s)

/-- CHECKPOINT_STAGED (R285). -/
def execCheckpointStaged (s : State) : Host.Outcome State Fault Refusal := .next (checkpointStaged s)

/-- CHECKPOINT_WRITE (R417). -/
def execCheckpointWrite (ok : Bool) (s : State) : Host.Outcome State Fault Refusal := .next (checkpointWrite ok s)

/-- NOR_BUS_REVOKE (R26). -/
def execNorBusRevoke (s : State) : Host.Outcome State Fault Refusal := .next (norBusRevoke s)

end Sys2Proof.Machine
end

