-- ==== Sys2Proof/Machine/ExecMonitor.lean ====
section
/-!
DEFINITION. The device's own monitors (chapter 18): one meaning for each
command, over the operations of the chapters. Every command answers a next state.
-/
namespace Sys2Proof.Machine

/-- TCM_ECC_ERROR (R455). -/
def execTcmEccError (x : TcmError) (s : State) : Host.Outcome State Fault Refusal := .next (tcmError x s)

/-- PIN_KEEPER_EXPIRY (R454). -/
def execPinKeeperExpiry (s : State) : Host.Outcome State Fault Refusal := .next (pinKeeperExpiry s)

/-- FAST_CLOCK_LOSS (R457). -/
def execFastClockLoss (t : Ns) (s : State) : Host.Outcome State Fault Refusal := .next (fastClockLoss t s)

/-- CRYSTAL_FAIL (R455). -/
def execCrystalFail (s : State) : Host.Outcome State Fault Refusal := .next (crystalFail s)

/-- LOCKSTEP_MISMATCH (R456). -/
def execLockstepMismatch (pair : CorePair) (s : State) : Host.Outcome State Fault Refusal := .next (lockstepMismatch pair s)

/-- HEARTBEAT_MISS (R27). -/
def execHeartbeatMiss (pair : CorePair) (s : State) : Host.Outcome State Fault Refusal := .next (heartbeatMiss pair s)

/-- DIE_OVERTEMP (R459). -/
def execDieOvertemp (s : State) : Host.Outcome State Fault Refusal := .next (dieOvertemp s)

end Sys2Proof.Machine
end

