-- ==== Sys2Proof/Machine/ExecOutput.lean ====
section
/-!
DEFINITION. Publication and output-link commands (chapter 17): one meaning for each
command, over the operations of the chapters. Every command answers a next state.
-/
namespace Sys2Proof.Machine

/-- PUBLICATION (R306). -/
def execPublication (summaryBegan : Bool) (faultBegan : Bool) (s : State) : Host.Outcome State Fault Refusal :=
  .next (publication summaryBegan faultBegan s)

/-- ROUND (R438). -/
def execRoundPage (t : Ns) (s : State) : Host.Outcome State Fault Refusal := .next (roundSend t s)

/-- ROUND_PAGE_DROP (R438). -/
def execRoundPageDrop (s : State) : Host.Outcome State Fault Refusal := .next (roundPageDrop s)

/-- CAN_TX_COMPLETE (R429). -/
def execCanTxComplete (channel : CanChannel) (second : Bool) (active : Bool) (t : Ns) (s : State) : Host.Outcome State Fault Refusal :=
  .next (canTxComplete (channel == CanChannel.canb) second active t s)

/-- CAN_ERROR_PASSIVE (R429). -/
def execCanErrorPassive (channel : CanChannel) (s : State) : Host.Outcome State Fault Refusal :=
  .next (canErrorPassive (channel == CanChannel.canb) s)

/-- CAN_BUS_OFF (R429). -/
def execCanBusOff (channel : CanChannel) (s : State) : Host.Outcome State Fault Refusal :=
  .next (canBusOff (channel == CanChannel.canb) s)

/-- CAN_BUS_OFF_RECOVERY (R429). -/
def execCanBusOffRecovery (channel : CanChannel) (s : State) : Host.Outcome State Fault Refusal :=
  .next (canBusOffRecovery (channel == CanChannel.canb) s)

/-- CAN_FRAME_RECEIVED (R6). -/
def execCanFrameReceived (channel : CanChannel) (frame : List Byte) (s : State) : Host.Outcome State Fault Refusal :=
  .next (canFrameReceived (channel == CanChannel.canb) frame s)

/-- SGMII_RX_DISCARD (R6). -/
def execSgmiiRxDiscard (frame : List Byte) (s : State) : Host.Outcome State Fault Refusal := .next (sgmiiRxDiscard frame s)

/-- SGMII_LINK_CHANGE (R436). -/
def execSgmiiLinkChange (up : Bool) (s : State) : Host.Outcome State Fault Refusal := .next (sgmiiLinkChange up s)

/-- PHY_RESET_RELEASE (R436). -/
def execPhyResetRelease (s : State) : Host.Outcome State Fault Refusal := .next (phyResetRelease s)

end Sys2Proof.Machine
end

