-- ==== Sys2Proof/Machine/ExecPace.lean ====
section
/-!
DEFINITION. Pace, round, stitch, strap and code commands (chapters 02 and 04): one meaning for each
command, over the operations of the chapters. Every command answers a next state.
-/
namespace Sys2Proof.Machine

/-- PACE_EDGE (R82). -/
def execPaceEdge (x : PaceChange) (s : State) : Host.Outcome State Fault Refusal := .next (paceEdge x s)

/-- PACE_LOSS (R93). -/
def execPaceLoss (t : Ns) (s : State) : Host.Outcome State Fault Refusal := .next (paceLoss t s)

/-- HOLDOVER_END (R93). -/
def execHoldoverEnd (s : State) : Host.Outcome State Fault Refusal := .next (holdoverEnd s)

/-- ROUND_START (R98). -/
def execRoundStart (x : RoundIn) (s : State) : Host.Outcome State Fault Refusal := .next (roundStart x s)

/-- STITCH_START (R90). -/
def execStitchStart (x : StitchIn) (s : State) : Host.Outcome State Fault Refusal := .next (stitchStart x s)

/-- MAINT_CHANGE (R37). -/
def execMaintChange (s : State) : Host.Outcome State Fault Refusal := .next (maintChange s)

/-- STRAP_RESAMPLE (R36). -/
def execStrapResample (x : StrapLevels) (s : State) : Host.Outcome State Fault Refusal := .next (strapResample x s)

/-- CODE_REREAD (R43). -/
def execCodeReread (k : Nat) (sum : Nat) (s : State) : Host.Outcome State Fault Refusal := .next (codeReread k sum s)

/-- PACE_PLL_FAIL (R102). -/
def execPacePllFail (s : State) : Host.Outcome State Fault Refusal := .next (pacePllFail s)

end Sys2Proof.Machine
end

