-- ==== Sys2Proof/Machine/ExecPower.lean ====
section
/-!
DEFINITION. Caps, fast-path, store, path and burst commands (chapters 13 and 14): one meaning for each
command, over the operations of the chapters. Every command answers a next state.
-/
namespace Sys2Proof.Machine

/-- PACK_CHECKS (R311). -/
def execPackChecks (t : Ns) (s : State) : Host.Outcome State Fault Refusal := .next (packChecks t s)

/-- CAP_LATCH (R319). -/
def execCapLatch (capsBegan : Bool) (burstBegan : Bool) (t : Ns) (s : State) : Host.Outcome State Fault Refusal :=
  .next (capLatch (capsBegan, burstBegan) t s)

/-- CAP_LATCH_MISSING (R458). -/
def execCapLatchMissing (s : State) : Host.Outcome State Fault Refusal := .next (capLatchMissing s)

/-- COMPARATOR_EVENT (R321). -/
def execComparatorEvent (x : CompEvent) (s : State) : Host.Outcome State Fault Refusal := .next (comparatorEvent x s)

/-- CELL_LIMIT_FLAG (R322). -/
def execCellLimitFlag (x : ThreadRx) (s : State) : Host.Outcome State Fault Refusal := .next (cellLimitFlag x s)

/-- FAST_PATH_RELEASE (R325). -/
def execFastPathRelease (e : FastEvent) (t : Ns) (s : State) : Host.Outcome State Fault Refusal := .next (fastPathRelease e t s)

/-- PIN_READBACK_MISMATCH (R328). -/
def execPinReadbackMismatch (pin : FastPin) (s : State) : Host.Outcome State Fault Refusal := .next (pinReadbackMismatch pin s)

/-- STORE_ABSENT (R333). -/
def execStoreAbsent (s : State) : Host.Outcome State Fault Refusal := .next (storeAbsent s)

/-- STORE_PRESENT (R333). -/
def execStorePresent (s : State) : Host.Outcome State Fault Refusal := .next (storePresent s)

/-- VMAIN_FAIL (R340). -/
def execVmainFail (x : PathSense) (s : State) : Host.Outcome State Fault Refusal := .next (vmainFail x s)

/-- RESERVE_PRECHARGE (R340). -/
def execReservePrecharge (otherHigh : Bool) (t : Ns) (s : State) : Host.Outcome State Fault Refusal :=
  .next (reservePrecharge otherHigh t s)

/-- STABLE_REACHED (R337). -/
def execStableReached (x : PathSense) (s : State) : Host.Outcome State Fault Refusal := .next (stableReached x s)

/-- PATH_DWELL_END (R341). -/
def execPathDwellEnd (x : PathSense) (s : State) : Host.Outcome State Fault Refusal := .next (pathDwellEnd x s)

/-- RAMP_COMPLETE (R344). -/
def execRampComplete (x : PathSense) (s : State) : Host.Outcome State Fault Refusal := .next (rampComplete x s)

/-- SHORT_DETECTED (R345). -/
def execShortDetected (t : Ns) (s : State) : Host.Outcome State Fault Refusal := .next (shortDetected t s)

/-- COOL_END (R346). -/
def execCoolEnd (x : PathSense) (s : State) : Host.Outcome State Fault Refusal := .next (coolEnd x s)

/-- SHORT_COUNT_RESET (R346). -/
def execShortCountReset (t : Ns) (s : State) : Host.Outcome State Fault Refusal := .next (shortCountReset t s)

/-- LATCHED_EXIT (R346). -/
def execLatchedExit (t : Ns) (s : State) : Host.Outcome State Fault Refusal := .next (latchedExit t s)

/-- FLOOR (R337). -/
def execFloor (src : FloorSource) (x : PathSense) (s : State) : Host.Outcome State Fault Refusal := .next (floor_ src x s)

/-- DAMPING_END (R342). -/
def execDampingEnd (t : Ns) (s : State) : Host.Outcome State Fault Refusal := .next (dampingEnd t s)

/-- GATE_INTERLOCK_TIMEOUT (R343). -/
def execGateInterlockTimeout (t : Ns) (s : State) : Host.Outcome State Fault Refusal := .next (gateInterlockTimeout t s)

/-- GATE_MONITOR_FAULT (R343). -/
def execGateMonitorFault (pair : Pair) (t : Ns) (s : State) : Host.Outcome State Fault Refusal := .next (gateMonitorFault pair t s)

/-- BREQ_EDGE (R355). -/
def execBreqEdge (line : Nat) (t : Ns) (s : State) : Host.Outcome State Fault Refusal := .next (breqEdge line t s)

/-- BURST_RELEASE (R353). -/
def execBurstRelease (line : Nat) (t : Ns) (s : State) : Host.Outcome State Fault Refusal := .next (burstRelease line t s)

/-- BURST_DURATION_END (R358). -/
def execBurstDurationEnd (line : Nat) (t : Ns) (s : State) : Host.Outcome State Fault Refusal := .next (burstDurationEnd line t s)

/-- BGNT_ANSWER (R354). -/
def execBgntAnswer (t : Ns) (s : State) : Host.Outcome State Fault Refusal := .next (bgntAnswer t s)

/-- GOOD_CHANGE (R341). -/
def execGoodChange (good : Bool) (t : Ns) (s : State) : Host.Outcome State Fault Refusal := .next (goodChange good t s)

/-- MAIN_PRECHARGE (R341). -/
def execMainPrecharge (otherHigh : Bool) (t : Ns) (s : State) : Host.Outcome State Fault Refusal := .next (mainPrecharge otherHigh t s)

end Sys2Proof.Machine
end

