-- ==== Sys2Proof/Machine/ExecSeat.lean ====
section
/-!
DEFINITION. PEER and ownership commands (chapter 15): one meaning for each
command, over the operations of the chapters. Every command answers a next state.
-/
namespace Sys2Proof.Machine

/-- BEAT_SEND (R365). -/
def execBeatSend (t : Ns) (s : State) : Host.Outcome State Fault Refusal := .next (beatSend t s)

/-- BEAT_RECEIVED (R443). -/
def execBeatReceived (x : PeerRx) (s : State) : Host.Outcome State Fault Refusal := .next (beatTaken x s)

/-- CLAIM_RECEIVED (R444). -/
def execClaimReceived (x : PeerRx) (s : State) : Host.Outcome State Fault Refusal := .next (claimReceived x s)

/-- YIELD_RECEIVED (R444). -/
def execYieldReceived (x : PeerRx) (s : State) : Host.Outcome State Fault Refusal := .next (yieldReceived x s)

/-- MIRROR_RECEIVED (R445). -/
def execMirrorReceived (x : PeerRx) (s : State) : Host.Outcome State Fault Refusal := .next (mirrorReceived x s)

/-- PEER_WINDOW_END (R366). -/
def execPeerWindowEnd (s : State) : Host.Outcome State Fault Refusal := .next (peerWindowEnd s)

/-- UNALIGNED (R370). -/
def execUnaligned (s : State) : Host.Outcome State Fault Refusal := .next (unaligned s)

/-- PROVISIONAL_CLAIM (R372). -/
def execProvisionalClaim (s : State) : Host.Outcome State Fault Refusal := .next (provisionalClaim s)

/-- LISTEN_TIMEOUT (R372). -/
def execListenTimeout (s : State) : Host.Outcome State Fault Refusal := .next (listenTimeout s)

/-- ELECTION (R373). -/
def execElection (s : State) : Host.Outcome State Fault Refusal := .next (election s)

/-- YIELD_SEND (R375). -/
def execYieldSend (s : State) : Host.Outcome State Fault Refusal := .next (yieldSend s)

/-- ACCEPT_CLAIM (R375). -/
def execAcceptClaim (s : State) : Host.Outcome State Fault Refusal := .next (acceptClaim s)

/-- OWNER_JUDGE (R377). -/
def execOwnerJudge (s : State) : Host.Outcome State Fault Refusal := .next (ownerJudge s)

/-- TRIP_DISAGREE (R377). -/
def execTripDisagree (t : Ns) (s : State) : Host.Outcome State Fault Refusal := .next (tripDisagree t s)

/-- CUT_IN (R30). -/
def execCutIn (t : Ns) (s : State) : Host.Outcome State Fault Refusal := .next (cutIn t s)

/-- FORCED_CLAIM (R380). -/
def execForcedClaim (s : State) : Host.Outcome State Fault Refusal := .next (forcedClaim s)

/-- FORCED_TAKEOVER_DRIVE (R380). -/
def execForcedTakeoverDrive (t : Ns) (s : State) : Host.Outcome State Fault Refusal := .next (forcedTakeoverDrive t s)

/-- OWNER_SELF_CHECK (R387). -/
def execOwnerSelfCheck (passed : Bool) (s : State) : Host.Outcome State Fault Refusal := .next (ownerSelfCheck passed s)

end Sys2Proof.Machine
end

