-- ==== Sys2Proof/Machine/Image.lean ====
section
/-!
DEFINITION. Image verification and slot selection (R394–R408): the checks of Table 16-4, the ROM defaults, the fallback
set, and the budget judged at boot.
-/
namespace Sys2Proof.Machine

/-! ### What a record may hold -/

/-- The records of Table 16-3. -/
def knownRecords : List Nat := (List.range 19).map (fun k => k + 1) ++ [0x20, 0x21]

/-- The fields that a rule names and Fields resolves elsewhere: the pattern variants, the model's blocks and the trainable
marks. -/
def nestedFields : List Nat :=
  (List.range 8).map (fun k => 0x0401 + k) ++ (List.range 11).map (fun k => 0x0801 + k) ++ [0x0811, 0x0A12, 0x0A13]

/-- Opaque blocks, of type 0x04 (R395). -/
def blockFields : List Nat := [0x0801, 0x0802, 0x0807, 0x0808, 0x0A12, 0x0A13]

/-- A field of a record: the governing tables name it. -/
def knownField (record id : Nat) : Bool :=
  decide (fieldRecord id = record) && ((allSpecs.any fun x => x.id == id) || nestedFields.contains id)

end Sys2Proof.Machine

namespace Sys2Proof
open Machine

/-- The type and the element count of an entry are as defined (R395, R403): numbers are unsigned, signed or FP32; the MAC
base address may also be six bytes; the cohort map has 1 to 4,096 entries (R229). -/
def FieldEntry.typed (x : FieldEntry) : Bool :=
  let numeric := decide (1 ≤ x.type) && decide (x.type ≤ 3)
  if blockFields.contains x.id then decide (x.type = 4)
  else if x.id = 0x0806 then decide (1 ≤ x.count) && decide (x.count ≤ 4096)
  else if x.id = 0x1208 && decide (x.type = 4) then decide (x.count = 6)
  else
    match allSpecs.find? fun y => y.id == x.id with
    | some y => numeric && decide (x.count = y.n) && decide (x.vals.length = y.n)
    | none => true

/-- A value of a field with a default (R403): the default where it is absent or out of range, and whether it was out of
range. -/
def orDefault (lo hi d : Nat) (v : Option Nat) : Nat × Bool :=
  match v with
  | none => (d, false)
  | some x => if lo ≤ x ∧ x ≤ hi then (x, false) else (d, true)

/-- A node of a variant record with its defaults (Table 6-1), and which of them an out-of-range value took; none when a field
without a default is absent or out of range. -/
def NodeEntry.settle (n : NodeEntry) : Option (PatNode × List Nat) :=
  match n.identity, n.type with
  | some i, some t =>
    if i = 0 ∨ 2 ^ 64 - 1 ≤ i ∨ 65536 ≤ t then none
    else
      let g := orDefault 1 16 16 n.groups
      let u := orDefault 1 8 8 n.temps
      let r := orDefault 0 255 0 n.ifRevMin
      some (⟨i, t, g.1, u.1, r.1⟩,
        (if g.2 then [0x0406] else []) ++ (if u.2 then [0x0407] else []) ++ (if r.2 then [0x0408] else []))
  | _, _ => none

/-- A ring of a variant record (Table 6-1). -/
def RingEntry.settle (r : RingEntry) : Option (PatRing × List Nat) :=
  match r.port, r.count with
  | some p, some k =>
    if 7 < p ∨ k = 0 ∨ 32 < k then none
    else
      let l := (r.nodes.take k).filterMap NodeEntry.settle
      if l.length = k then some (⟨p, l.map fun x => x.1⟩, (l.map fun x => x.2).flatten) else none
  | _, _ => none

/-- The variant a record gives (R139): none, an absent one, when it lacks a field without a default or such a field is out of
range, or when it has no ring 0. A ring of which it gives nothing is not described. A value out of range that has a default takes
it, and its field is named. The digest is that of R142. -/
def VariantRec.settle (v : VariantRec) : Option (Variant × List Nat) :=
  let given := v.rings.filter fun r => r.port.isSome || r.count.isSome || !r.nodes.isEmpty
  let l := given.filterMap RingEntry.settle
  match v.config, v.rings.head? with
  | some c, some r0 =>
    if 1 < c ∨ r0.settle.isNone ∨ 8 < v.rings.length ∨ l.length ≠ given.length then none
    else some (⟨decide (c = 1), l.map fun x => x.1, patternDigest v.encoded⟩, (l.map fun x => x.2).flatten.dedup)
  | _, _ => none

end Sys2Proof

namespace Sys2Proof.Machine

/-- The seats attached under a variant, as a bitmap (R362). -/
def attachedOf (v : Option Variant) : Nat :=
  match v with
  | some v => if v.twoSeats then 3 else 1
  | none => 3

/-! ### The checks of Table 16-4 -/

/-- The field values of records by field ID. -/
def recordValues (l : List SlotRecord) : Env :=
  (l.map fun r => (r.fields.filter fun x => knownField r.id x.id).map fun x => (x.id, x.vals)).flatten

/-- The variant that RSEL_PACK selects, in use: present and consistent (R139, R140). -/
def variantFor (c : Codes) (l : List (Nat × VariantRec)) : Option (Variant × List Nat) :=
  match c.level 0 with
  | some k =>
    match (lookupKey k l).bind VariantRec.settle with
    | some (v, rep) => if v.inconsistent then none else some (v, rep)
    | none => none
  | none => none

/-- The fields of records resolved against the codes and a variant. -/
def resolveRecords (c : Codes) (v : Option Variant) (l : List SlotRecord) : Given × Resolved :=
  let g : Given := ⟨c, attachedOf v, recordValues l⟩
  (g, resolveAll g)

end Sys2Proof.Machine

namespace Sys2Proof
open Machine

/-- The header is sound (reason 1). -/
def SlotImage.headerOk (x : SlotImage) : Bool :=
  decide (x.magic = 0x4B57534C) && decide (x.format = 1) && decide (x.headerLength = 512) && decide (x.length ≤ 67108864) &&
  decide (1 ≤ x.recordCount) && decide (x.recordCount ≤ 64) && decide (x.tableOffset + 16 * x.recordCount ≤ x.length)

/-- The key index names a provisioned slot that is not revoked, and the SHA-256 of the image's public key is the slot's (R398, reason 2). -/
def SlotImage.keyOk (x : SlotImage) (f : Fuses) : Bool :=
  !(f.revoked.getD x.keyIndex false) && (keyHash x.publicKey).isSome &&
  f.slots.getD x.keyIndex none == keyHash x.publicKey

/-- Both epochs equal the header's, which the ROM supports (R400, reason 5). -/
def SlotImage.epochOk (x : SlotImage) : Bool :=
  decide (x.fwEpoch = x.epoch) && decide (x.mcEpoch = x.epoch) && decide (Config.epochFirst ≤ x.epoch) &&
  decide (x.epoch ≤ Config.epochLast)

/-- Record CRCs, the model digest, no repeats, types and counts (reason 7). -/
def SlotImage.bodyOk (x : SlotImage) : Bool :=
  (x.records.all fun r => r.crcOk) && x.modelRead == x.modelDigest && !hasRepeat (x.records.map fun r => r.id) &&
  x.records.all fun r =>
    !hasRepeat (r.fields.map fun y => y.id) && (r.fields.filter fun y => knownField r.id y.id).all FieldEntry.typed

end Sys2Proof

namespace Sys2Proof.Machine

/-- The round plan (R21) and the ring schedule (R120) at the shortest round (reason 9). -/
def plansOk (v : Option Variant) (cells roundMinUs : Nat) : Bool :=
  let n := (v.map Variant.groups).getD 0 + cells
  decide (64 * 2 * (4000 + 48 * n) ≤ 53 * roundMinUs * 1000) &&
  ((v.map fun v => v.rings.all fun r => ringFits r.nodes.length 0 (roundMinUs * 1000000)).getD true)

/-- The first check of Table 16-4 that a slot fails; 0 where it passes them all. -/
def State.slotReason (s : State) (x : Option SlotImage) : Nat :=
  match x with
  | none => 1
  | some x =>
    if !x.headerOk then 1
    else if !x.keyOk s.nv.fuses then 2
    else if x.rollback < s.nv.fuses.counter then 3
    else if !x.compat.contains Config.stepping then 4
    else if !x.epochOk then 5
    else if !x.signature then 6
    else if !x.bodyOk then 7
    else
      let v := (variantFor s.code x.variants).map fun y => y.1
      let (g, r) := resolveRecords s.code v x.records
      if r.rejects g then 8
      else if !plansOk v (if s.code.chem = 0 || r.noStore g then 0 else r.env.nat 0x072A) (r.env.nat 0x0204) then 9 else 0

/-! ### What runs -/

/-- Take fields into force with a variant, and raise what their resolution calls for (R403–R405). -/
def State.useFields (s : State) (v : Option (Variant × List Nat)) (records : List SlotRecord) (model : Env → ModelFields) : State :=
  let vv := v.map fun y => y.1
  let (g, r) := resolveRecords s.code vv records
  let reps := r.replaced ++ (v.map fun y => y.2).getD []
  let unknownFields := (records.map fun q =>
    (q.fields.filter fun y => decide (q.id < 32) && knownRecords.contains q.id && !knownField q.id y.id).map fun y => Nat.lor 0x8000 y.id).flatten
  let unknownRecords := (records.filter fun q => !knownRecords.contains q.id).map fun q => 0x8000 + q.id % 128 * 256
  let s1 : State := { s with
    img := { s.img with
      variant := vv, storeServed := !r.noStore g, burstsOn := !r.noBursts g, f := imageFields r.env (model r.env) }
    acq := { s.acq with siHeld := (imageFields r.env (model r.env)).acq.siShunt }
    thr := (vv.map Variant.threads).getD ⟨[], [], [], 0⟩ }
  let s2 := reps.foldl (fun t i => t.raise 0x910 (Nat.lor 0x8000 i)) s1
  let s3 := (unknownFields ++ unknownRecords).foldl (fun t d => t.raise 0x913 d) s2
  let s4 := if r.noStore g then s3.raise 0x911 0 else s3
  if r.noBursts g then s4.raise 0x912 0 else s4

/-- The pattern record: none for the level (0x401), or inconsistent (0x402). -/
def State.judgeVariant (s : State) (l : List (Nat × VariantRec)) : State :=
  match s.code.level 0 with
  | none => s
  | some k =>
    match (lookupKey k l).bind VariantRec.settle with
    | none => s.raise 0x401 0
    | some (v, _) => if v.inconsistent then s.raise 0x402 0 else s

/-- The plan of the selected variant at boot (R240, R241, R270): no fitted cell of a cohort without a graph, every graph
within its limits, the plan fits, and the record's report is the recomputed one. With no model, none of it applies. -/
def State.budgetOk (s : State) : Bool :=
  let m := s.img.f.model
  let p := s.modelPlan
  let packs := (List.range ((s.img.variant.map Variant.groups).getD 0))
  let orphan := packs.any fun i => let c := m.cohortMap.getD i 255; decide (c < 255) && (m.cohorts.getD c none).isNone
  let params : Nat := (p.map fun x => x.2.1.params).sum
  !orphan &&
  (p.isEmpty ||
    ((p.all fun x => x.2.1.withinLimits (decide (x.1 = 16)) && x.2.1.trainOk s.img.f.train.activeCells) &&
     decide (params ≤ 4194304) && planFits m s.img.f.pace.roundMin p && m.budget == budgetReport m s.img.f.pace.roundMin p))

/-- A slot's image runs. -/
def State.runImage (s : State) (slot : Nat) (x : SlotImage) : State :=
  let s1 : State := { s with img := { s.img with
    rom := false, slot := slot, digest := x.digest, modelDigest := x.modelDigest, version := x.version, rollback := x.rollback
    keyIndex := x.keyIndex
    records := x.records.filter fun r =>
      (decide (1 ≤ r.id) && decide (r.id ≤ 7)) || (decide (11 ≤ r.id) && decide (r.id ≤ 18))
    variants := x.variants, eligTicks := 0, fallbackDue := false } }
  let s2 := (s1.judgeVariant x.variants).useFields (variantFor s.code x.variants) x.records
    fun e => modelFields e x.cohorts x.store x.cohortMap x.budget
  let s3 : State := if s2.nv.rollbackFor == x.digest then s2 else
    { s2 with nv := { s2.nv with rollback := 0, rollbackFor := x.digest, rotation := if s2.nv.rollbackFor.isEmpty then s2.nv.rotation else 16 } }
  if s3.budgetOk then s3 else ({ s3 with lrn := { s3.lrn with disabled := true } } : State).raise 0x934 0

/-- The ROM factory defaults run, with a fallback set if one is valid (R407). -/
def State.runRom (s : State) : State :=
  let s1 := ({ s with img := { s.img with
    rom := true, slot := 2, digest := [], modelDigest := [], version := 0, rollback := 0, keyIndex := 0, records := [], variants := []
    eligTicks := 0, fallbackDue := false }
                      lrn := { s.lrn with disabled := true } } : State).raise 0x904 0
  let model (e : Env) : ModelFields := modelFields e [] none [] []
  match s1.nv.fallbackR.content with
  | some b => (s1.judgeVariant b.variants).useFields (variantFor s.code b.variants) b.records model
  | none =>
    let s2 := (s1.useFields none [] model).raise 0x905 0
    { s2 with img := { s2.img with storeServed := false, burstsOn := false } }

/-- IMAGE_SELECT (R401): the slots are examined in the order of SLOT_PREF, and the first that passes every check runs;
otherwise the ROM defaults. In a test mode no image runs (R475). The operands are what the device reads in
slots A and B, none where a slot is unreadable. -/
def imageSelect (a b : Option SlotImage) (s : State) : State :=
  if !(s.sup.dev == DevState.boot && s.sup.bootStep == BootStep.selfTested && s.tst.mode == TestMode.none_) then s
  else
    let s0 : State := { s with
      img := { s.img with reasonA := 0, reasonB := 0 }
      lrn := { s.lrn with disabled := false }
      sup := { s.sup with bootStep := .imageRun } }
    let reject (t : State) (slot r : Nat) : State :=
      if slot = 0 then ({ t with img := { t.img with reasonA := r } } : State).raise 0x901 r
      else ({ t with img := { t.img with reasonB := r } } : State).raise 0x902 r
    let (first, second) := if s.strap.latched.slotPref then (1, 0) else (0, 1)
    let slot (k : Nat) : Option SlotImage := if k = 0 then a else b
    let r1 := s0.slotReason (slot first)
    match slot first, r1 with
    | some x, 0 => s0.runImage first x
    | _, _ =>
      let s1 := reject s0 first r1
      let r2 := s1.slotReason (slot second)
      match slot second, r2 with
      | some x, 0 => (s1.runImage second x).raise 0x903 0
      | _, _ => (reject s1 second r2).runRom

end Sys2Proof.Machine
end

