-- ==== Sys2Proof/Machine/ExecSupply.lean ====
section
/-!
DEFINITION. Supply, boot, shut-down and reset commands (chapters 03 and 16): one meaning for each
command, over the operations of the chapters. Every command answers a next state.
-/
namespace Sys2Proof.Machine

/-- COLD_BOOT (R65). -/
def execColdBoot (cutsHigh : Bool) (s : State) : Host.Outcome State Fault Refusal := .next (coldBoot cutsHigh s)

/-- STRAP_LATCH (R33). -/
def execStrapLatch (x : StrapSamples) (s : State) : Host.Outcome State Fault Refusal := .next (strapLatch x s)

/-- RESISTOR_CODE_READ (R41). -/
def execResistorCodeRead (x : CodeReads) (s : State) : Host.Outcome State Fault Refusal := .next (resistorCodeRead x s)

/-- PG_GOOD (R58). -/
def execPgGood (line : PgLine) (s : State) : Host.Outcome State Fault Refusal := .next (pgGood line s)

/-- PMIC_HANDSHAKE_TIMEOUT (R59). -/
def execPmicHandshakeTimeout (s : State) : Host.Outcome State Fault Refusal := .next (pmicTimeout s)

/-- PMIC_RETRY (R59). -/
def execPmicRetry (s : State) : Host.Outcome State Fault Refusal := .next (pmicRetry s)

/-- DOMAIN_SWITCH_ON (R61). -/
def execDomainSwitchOn (d : Nat) (s : State) : Host.Outcome State Fault Refusal := .next (domainSwitchOn d s)

/-- DOMAIN_SWITCH_TIMEOUT (R61). -/
def execDomainSwitchTimeout (d : Nat) (s : State) : Host.Outcome State Fault Refusal := .next (domainSwitchTimeout d s)

/-- STARTUP_SELF_TEST (R478). -/
def execStartupSelfTest (x : SelfTestIn) (s : State) : Host.Outcome State Fault Refusal := .next (startupSelfTest x s)

/-- IMAGE_SELECT (R401). -/
def execImageSelect (a : Option SlotImage) (b : Option SlotImage) (s : State) : Host.Outcome State Fault Refusal :=
  .next (imageSelect a b s)

/-- ROUND_ZERO (R65). -/
def execRoundZero (t : Ns) (x : ZeroIn) (s : State) : Host.Outcome State Fault Refusal := .next (roundZero t x s)

/-- WARM_RESUME (R68). -/
def execWarmResume (cutsHigh : Bool) (t : Ns) (s : State) : Host.Outcome State Fault Refusal := .next (warmResume cutsHigh t s)

/-- BOOT_SUPPLY_LOSS (R500). -/
def execBootSupplyLoss (s : State) : Host.Outcome State Fault Refusal := .next (bootSupplyLoss s)

/-- TAP_PRESENT (R53). -/
def execTapPresent (tap : TapId) (s : State) : Host.Outcome State Fault Refusal := .next (tapPresent tap s)

/-- TAP_ABSENT (R57). -/
def execTapAbsent (tap : TapId) (s : State) : Host.Outcome State Fault Refusal := .next (tapAbsent tap s)

/-- TAP_OVERVOLTAGE (R54). -/
def execTapOvervoltage (tap : TapId) (s : State) : Host.Outcome State Fault Refusal := .next (tapOvervoltage tap s)

/-- TAP_OVERVOLTAGE_END (R54). -/
def execTapOvervoltageEnd (tap : TapId) (s : State) : Host.Outcome State Fault Refusal := .next (tapOvervoltageEnd tap s)

/-- TAP_REVERSE_CURRENT (R54). -/
def execTapReverseCurrent (tap : TapId) (s : State) : Host.Outcome State Fault Refusal := .next (tapReverseCurrent tap s)

/-- SHARING_RUN_COMPLETE (R55). -/
def execSharingRunComplete (deviates : Bool) (s : State) : Host.Outcome State Fault Refusal := .next (sharingRun deviates s)

/-- RAIL_LOSS (R62). -/
def execRailLoss (line : PgLine) (t : Ns) (s : State) : Host.Outcome State Fault Refusal := .next (railLoss line t s)

/-- PG2_LOSS (R63). -/
def execPg2Loss (s : State) : Host.Outcome State Fault Refusal := .next (pg2Loss s)

/-- PG2_RETURN (R63). -/
def execPg2Return (s : State) : Host.Outcome State Fault Refusal := .next (pg2Return s)

/-- SUPPLY_LOSS_TRIGGER (R71). -/
def execSupplyLossTrigger (t : Ns) (s : State) : Host.Outcome State Fault Refusal := .next (supplyLoss t s)

/-- GRACE_END (R71). -/
def execGraceEnd (t : Ns) (s : State) : Host.Outcome State Fault Refusal := .next (graceEnd t s)

/-- FREEZE (R71). -/
def execFreeze (t : Ns) (s : State) : Host.Outcome State Fault Refusal := .next (freeze t s)

/-- SEAL_COMPLETE (R411). -/
def execSealComplete (t : Ns) (s : State) : Host.Outcome State Fault Refusal := .next (sealComplete t s)

/-- SUPPLY_RETURN (R72). -/
def execSupplyReturn (t : Ns) (s : State) : Host.Outcome State Fault Refusal := .next (supplyReturn t s)

/-- ABORT_DAMPING_END (R73). -/
def execAbortDampingEnd (s : State) : Host.Outcome State Fault Refusal := .next (abortDampingEnd s)

/-- AON_LOST (R67). -/
def execAonLost (s : State) : Host.Outcome State Fault Refusal := .next (aonLost s)

/-- PARK_CRITERION (R75). -/
def execParkCriterion (fusesOk : Bool) (t : Ns) (s : State) : Host.Outcome State Fault Refusal := .next (parkCriterion fusesOk t s)

/-- WAKE_CAUSE (R77). -/
def execWakeCause (cause : WakeCause) (t : Ns) (s : State) : Host.Outcome State Fault Refusal := .next (wakeCause cause t s)

/-- PARK_TIMER (R78). -/
def execParkTimer (t : Ns) (s : State) : Host.Outcome State Fault Refusal := .next (parkTimer t s)

/-- PARK_CHECK_END (R78). -/
def execParkCheckEnd (t : Ns) (s : State) : Host.Outcome State Fault Refusal := .next (parkCheckEnd t s)

/-- SHIP_CRITERION (R79). -/
def execShipCriterion (t : Ns) (s : State) : Host.Outcome State Fault Refusal := .next (shipCriterion t s)

/-- SHIP_EXIT (R80). -/
def execShipExit (t : Ns) (s : State) : Host.Outcome State Fault Refusal := .next (shipExit t s)

/-- SHIP_N_HIGH (R79). -/
def execShipNHigh (s : State) : Host.Outcome State Fault Refusal := .next (shipNHigh s)

end Sys2Proof.Machine
end

