-- ==== Sys2Proof/Machine/ExecTest.lean ====
section
/-!
DEFINITION. Test access, loop-back and production test commands (chapter 19): one meaning for each
command, over the operations of the chapters. Every command answers a next state.
-/
namespace Sys2Proof.Machine

/-- BYPASS (R469). -/
def execBypass (s : State) : Host.Outcome State Fault Refusal := .next (tapBypass s)

/-- IDCODE (R469). -/
def execIdcode (s : State) : Host.Outcome State Fault Refusal := .next (tapIdcode s)

/-- SAMPLE_PRELOAD (R470). -/
def execSamplePreload (pins : Nat) (scan : Nat) (s : State) : Host.Outcome State Fault Refusal := .next (tapSample pins scan s)

/-- EXTEST (R470). -/
def execExtest (scan : Nat) (s : State) : Host.Outcome State Fault Refusal := .next (tapExtest .extest scan s)

/-- CLAMP (R470). -/
def execClamp (s : State) : Host.Outcome State Fault Refusal := .next (tapClamp s)

/-- HIGHZ (R470). -/
def execHighz (s : State) : Host.Outcome State Fault Refusal := .next (tapHighz s)

/-- EXTEST_PULSE (R470). -/
def execExtestPulse (scan : Nat) (s : State) : Host.Outcome State Fault Refusal := .next (tapExtest .extestPulse scan s)

/-- EXTEST_TRAIN (R470). -/
def execExtestTrain (scan : Nat) (s : State) : Host.Outcome State Fault Refusal := .next (tapExtest .extestTrain scan s)

/-- LB_RESULT (R476). -/
def execLbResult (s : State) : Host.Outcome State Fault Refusal := .next (tapLbResult s)

/-- BIST_RESULT (R477). -/
def execBistResult (s : State) : Host.Outcome State Fault Refusal := .next (tapBistResult s)

/-- KEY_PROG (R471). -/
def execKeyProg (item : KeyItem) (s : State) : Host.Outcome State Fault Refusal := .next (keyProg item s)

/-- FUSE_READ (R471). -/
def execFuseRead (item : FuseItem) (s : State) : Host.Outcome State Fault Refusal := .next (fuseRead item s)

/-- LC_ADVANCE (R466). -/
def execLcAdvance (readBack : Bool) (s : State) : Host.Outcome State Fault Refusal := .next (lcAdvance readBack s)

/-- AUTH (R468). -/
def execAuth (x : AuthIn) (s : State) : Host.Outcome State Fault Refusal := .next (tapAuth x s)

/-- RETURN_HOLD_END (R468). -/
def execReturnHoldEnd (s : State) : Host.Outcome State Fault Refusal := .next (returnHoldEnd s)

/-- LOOPBACK_PHASE (R474). -/
def execLoopbackPhase (runs : List LbRun) (s : State) : Host.Outcome State Fault Refusal := .next (loopbackPhase runs s)

/-- PRODUCTION_BIST (R477). -/
def execProductionBist (result : BitVec 128) (allRun : Bool) (passed : Bool) (s : State) : Host.Outcome State Fault Refusal :=
  .next (productionBist result allRun passed s)

end Sys2Proof.Machine
end

