-- ==== Sys2Proof/Machine/ExecThread.lean ====
section
/-!
DEFINITION. Thread and wiring commands (chapters 05 and 06): one meaning for each
command, over the operations of the chapters. Every command answers a next state.
-/
namespace Sys2Proof.Machine

/-- SNAP_SEND (R111). -/
def execSnapSend (s : State) : Host.Outcome State Fault Refusal := .next (snapSend s)

/-- TOKEN_SEND (R116). -/
def execTokenSend (s : State) : Host.Outcome State Fault Refusal := .next (tokenRound s)

/-- READ_RECEIVED (R118). -/
def execReadReceived (x : ReadRx) (s : State) : Host.Outcome State Fault Refusal := .next (readFrame x s)

/-- COMMAND_RETRIES_SPENT (R131). -/
def execCommandRetriesSpent (node : NodeId) (s : State) : Host.Outcome State Fault Refusal := .next (retriesSpent node s)

/-- COMMAND_RESEND (R131). -/
def execCommandResend (node : NodeId) (s : State) : Host.Outcome State Fault Refusal := .next (commandResend node s)

/-- NODE_LOST (R135). -/
def execNodeLost (node : NodeId) (s : State) : Host.Outcome State Fault Refusal := .next (lostNode node s)

/-- RING_REVERSAL (R126). -/
def execRingReversal (ring : Nat) (s : State) : Host.Outcome State Fault Refusal := .next (ringReversal ring s)

/-- REVERSAL_END (R126). -/
def execReversalEnd (ring : Nat) (s : State) : Host.Outcome State Fault Refusal := .next (reversalEnd ring s)

/-- VIOLATION_WINDOW_END (R134). -/
def execViolationWindowEnd (s : State) : Host.Outcome State Fault Refusal := .next (violationWindowEnd s)

/-- IDENT_RESPONSE (R146). -/
def execIdentResponse (x : ThreadRx) (s : State) : Host.Outcome State Fault Refusal := .next (identResponse x s)

/-- IDENT_TIMEOUT (R146). -/
def execIdentTimeout (node : NodeId) (s : State) : Host.Outcome State Fault Refusal := .next (identTimeout node s)

/-- ECHO (R149). -/
def execEcho (x : EchoTx) (s : State) : Host.Outcome State Fault Refusal := .next (echoSend x s)

/-- ECHO_REPLY (R149). -/
def execEchoReply (x : ThreadRx) (s : State) : Host.Outcome State Fault Refusal := .next (echoReply x s)

/-- ECHO_TIMEOUT (R149). -/
def execEchoTimeout (ring : Nat) (t : Ns) (s : State) : Host.Outcome State Fault Refusal := .next (echoTimeout ring t s)

/-- LINK_TEST_START (R152). -/
def execLinkTestStart (ring : Nat) (kind : TestKind) (s : State) : Host.Outcome State Fault Refusal := .next (linkTestStart ring kind s)

/-- BERT (R152). -/
def execBert (ring : Nat) (s : State) : Host.Outcome State Fault Refusal := .next (bertSend ring s)

/-- PRBS31_START (R152). -/
def execPrbs31Start (ring : Nat) (e : RingEnd) (s : State) : Host.Outcome State Fault Refusal := .next (prbsStart ring e s)

/-- PRBS31_END (R152). -/
def execPrbs31End (x : PrbsEnd) (s : State) : Host.Outcome State Fault Refusal := .next (prbsEnd x s)

/-- BERT_REPORT (R154). -/
def execBertReport (x : ThreadRx) (s : State) : Host.Outcome State Fault Refusal := .next (bertReport x s)

/-- INSTALLATION_TEST (R155). -/
def execInstallationTest (s : State) : Host.Outcome State Fault Refusal := .next (installTest s)

/-- PERIODIC_TEST_DUE (R156). -/
def execPeriodicTestDue (s : State) : Host.Outcome State Fault Refusal := .next (periodicDue s)

/-- PERIODIC_TEST_OVERDUE (R156). -/
def execPeriodicTestOverdue (s : State) : Host.Outcome State Fault Refusal := .next (periodicOverdue s)

/-- MAINTENANCE_RETEST (R161). -/
def execMaintenanceRetest (s : State) : Host.Outcome State Fault Refusal := .next (maintenanceRetest s)

/-- SNAP_RECEIVED (R145). -/
def execSnapReceived (x : ThreadRx) (s : State) : Host.Outcome State Fault Refusal := .next (snapReceived x s)

end Sys2Proof.Machine
end

