-- ==== Sys2Proof/Machine/Dispatch.lean ====
section
/-!
DEFINITION. The effect of every command on everything but the queue.
-/
namespace Sys2Proof.Machine

def exec (i : Instr) (s : State) : Host.Outcome State Fault Refusal :=
  match i with
  | .coldBoot cutsHigh => Sys2Proof.Machine.execColdBoot cutsHigh s
  | .strapLatch x => Sys2Proof.Machine.execStrapLatch x s
  | .resistorCodeRead x => Sys2Proof.Machine.execResistorCodeRead x s
  | .pgGood line => Sys2Proof.Machine.execPgGood line s
  | .pmicHandshakeTimeout => Sys2Proof.Machine.execPmicHandshakeTimeout s
  | .pmicRetry => Sys2Proof.Machine.execPmicRetry s
  | .domainSwitchOn d => Sys2Proof.Machine.execDomainSwitchOn d s
  | .domainSwitchTimeout d => Sys2Proof.Machine.execDomainSwitchTimeout d s
  | .startupSelfTest x => Sys2Proof.Machine.execStartupSelfTest x s
  | .lpddr5InitComplete x => Sys2Proof.Machine.execLpddr5InitComplete x s
  | .imageSelect a b => Sys2Proof.Machine.execImageSelect a b s
  | .roundZero t x => Sys2Proof.Machine.execRoundZero t x s
  | .checkpointLoad => Sys2Proof.Machine.execCheckpointLoad s
  | .warmResume cutsHigh t => Sys2Proof.Machine.execWarmResume cutsHigh t s
  | .bootSupplyLoss => Sys2Proof.Machine.execBootSupplyLoss s
  | .tapPresent tap => Sys2Proof.Machine.execTapPresent tap s
  | .tapAbsent tap => Sys2Proof.Machine.execTapAbsent tap s
  | .tapOvervoltage tap => Sys2Proof.Machine.execTapOvervoltage tap s
  | .tapOvervoltageEnd tap => Sys2Proof.Machine.execTapOvervoltageEnd tap s
  | .tapReverseCurrent tap => Sys2Proof.Machine.execTapReverseCurrent tap s
  | .sharingRunComplete deviates => Sys2Proof.Machine.execSharingRunComplete deviates s
  | .railLoss line t => Sys2Proof.Machine.execRailLoss line t s
  | .pg2Loss => Sys2Proof.Machine.execPg2Loss s
  | .pg2Return => Sys2Proof.Machine.execPg2Return s
  | .supplyLossTrigger t => Sys2Proof.Machine.execSupplyLossTrigger t s
  | .graceEnd t => Sys2Proof.Machine.execGraceEnd t s
  | .freeze t => Sys2Proof.Machine.execFreeze t s
  | .sealComplete t => Sys2Proof.Machine.execSealComplete t s
  | .supplyReturn t => Sys2Proof.Machine.execSupplyReturn t s
  | .abortDampingEnd => Sys2Proof.Machine.execAbortDampingEnd s
  | .aonLost => Sys2Proof.Machine.execAonLost s
  | .parkCriterion fusesOk t => Sys2Proof.Machine.execParkCriterion fusesOk t s
  | .wakeCause cause t => Sys2Proof.Machine.execWakeCause cause t s
  | .parkTimer t => Sys2Proof.Machine.execParkTimer t s
  | .parkCheckEnd t => Sys2Proof.Machine.execParkCheckEnd t s
  | .shipCriterion t => Sys2Proof.Machine.execShipCriterion t s
  | .shipExit t => Sys2Proof.Machine.execShipExit t s
  | .paceEdge x => Sys2Proof.Machine.execPaceEdge x s
  | .paceLoss t => Sys2Proof.Machine.execPaceLoss t s
  | .holdoverEnd => Sys2Proof.Machine.execHoldoverEnd s
  | .snapSend => Sys2Proof.Machine.execSnapSend s
  | .roundStart x => Sys2Proof.Machine.execRoundStart x s
  | .stitchStart x => Sys2Proof.Machine.execStitchStart x s
  | .maintChange => Sys2Proof.Machine.execMaintChange s
  | .strapResample x => Sys2Proof.Machine.execStrapResample x s
  | .codeReread k sum => Sys2Proof.Machine.execCodeReread k sum s
  | .tokenSend => Sys2Proof.Machine.execTokenSend s
  | .readReceived x => Sys2Proof.Machine.execReadReceived x s
  | .commandRetriesSpent node => Sys2Proof.Machine.execCommandRetriesSpent node s
  | .commandResend node => Sys2Proof.Machine.execCommandResend node s
  | .nodeLost node => Sys2Proof.Machine.execNodeLost node s
  | .ringReversal ring => Sys2Proof.Machine.execRingReversal ring s
  | .reversalEnd ring => Sys2Proof.Machine.execReversalEnd ring s
  | .violationWindowEnd => Sys2Proof.Machine.execViolationWindowEnd s
  | .identResponse x => Sys2Proof.Machine.execIdentResponse x s
  | .identTimeout node => Sys2Proof.Machine.execIdentTimeout node s
  | .echo x => Sys2Proof.Machine.execEcho x s
  | .echoReply x => Sys2Proof.Machine.execEchoReply x s
  | .echoTimeout ring t => Sys2Proof.Machine.execEchoTimeout ring t s
  | .linkTestStart ring kind => Sys2Proof.Machine.execLinkTestStart ring kind s
  | .bert ring => Sys2Proof.Machine.execBert ring s
  | .prbs31Start ring e => Sys2Proof.Machine.execPrbs31Start ring e s
  | .prbs31End x => Sys2Proof.Machine.execPrbs31End x s
  | .bertReport x => Sys2Proof.Machine.execBertReport x s
  | .installationTest => Sys2Proof.Machine.execInstallationTest s
  | .periodicTestDue => Sys2Proof.Machine.execPeriodicTestDue s
  | .periodicTestOverdue => Sys2Proof.Machine.execPeriodicTestOverdue s
  | .maintenanceRetest => Sys2Proof.Machine.execMaintenanceRetest s
  | .shuntSample x => Sys2Proof.Machine.execShuntSample x s
  | .shuntRangeSensor shunt t => Sys2Proof.Machine.execShuntRangeSensor shunt t s
  | .sentFrame x => Sys2Proof.Machine.execSentFrame x s
  | .sentIdTimeout t => Sys2Proof.Machine.execSentIdTimeout t s
  | .sentLoss t => Sys2Proof.Machine.execSentLoss t s
  | .sbSnapBlank => Sys2Proof.Machine.execSbSnapBlank s
  | .sbRestore => Sys2Proof.Machine.execSbRestore s
  | .packChecks t => Sys2Proof.Machine.execPackChecks t s
  | .classicalUpdate => Sys2Proof.Machine.execClassicalUpdate s
  | .bastingFormed cell => Sys2Proof.Machine.execBastingFormed cell s
  | .tackOverdue => Sys2Proof.Machine.execTackOverdue s
  | .pairRecordWrite => Sys2Proof.Machine.execPairRecordWrite s
  | .stateBlockFetch cell => Sys2Proof.Machine.execStateBlockFetch cell s
  | .learnedResultWritten cell t => Sys2Proof.Machine.execLearnedResultWritten cell t s
  | .openLoopLimit cell => Sys2Proof.Machine.execOpenLoopLimit cell s
  | .warmupEnd cell => Sys2Proof.Machine.execWarmupEnd cell s
  | .replayStep t => Sys2Proof.Machine.execReplayStep t s
  | .replayCompare => Sys2Proof.Machine.execReplayCompare s
  | .replayAbort => Sys2Proof.Machine.execReplayAbort s
  | .replayPeriodEnd => Sys2Proof.Machine.execReplayPeriodEnd s
  | .stepAbandon cell => Sys2Proof.Machine.execStepAbandon cell s
  | .cellRestore cell => Sys2Proof.Machine.execCellRestore cell s
  | .lpddr5EccError correctable region => Sys2Proof.Machine.execLpddr5EccError correctable region s
  | .bobbinEccError correctable matchesMemory region => Sys2Proof.Machine.execBobbinEccError correctable matchesMemory region s
  | .tcmEccError x => Sys2Proof.Machine.execTcmEccError x s
  | .eccWindowEnd => Sys2Proof.Machine.execEccWindowEnd s
  | .scrubPass => Sys2Proof.Machine.execScrubPass s
  | .scrubOverdue => Sys2Proof.Machine.execScrubOverdue s
  | .arbitrationRevoke holder => Sys2Proof.Machine.execArbitrationRevoke holder s
  | .portUnfence holder => Sys2Proof.Machine.execPortUnfence holder s
  | .refreshRateRead multiplier => Sys2Proof.Machine.execRefreshRateRead multiplier s
  | .cycleStart => Sys2Proof.Machine.execCycleStart s
  | .shadowStep cell t => Sys2Proof.Machine.execShadowStep cell t s
  | .warmPhaseEnd => Sys2Proof.Machine.execWarmPhaseEnd s
  | .shadowUpdate => Sys2Proof.Machine.execShadowUpdate s
  | .epochEnd => Sys2Proof.Machine.execEpochEnd s
  | .fitDecision => Sys2Proof.Machine.execFitDecision s
  | .adapterCopy => Sys2Proof.Machine.execAdapterCopy s
  | .promotion => Sys2Proof.Machine.execPromotion s
  | .shedLower t => Sys2Proof.Machine.execShedLower t s
  | .checkpointTrigger cause => Sys2Proof.Machine.execCheckpointTrigger cause s
  | .checkpointStaged => Sys2Proof.Machine.execCheckpointStaged s
  | .checkpointWrite ok => Sys2Proof.Machine.execCheckpointWrite ok s
  | .norBusRevoke => Sys2Proof.Machine.execNorBusRevoke s
  | .seamDecision cell => Sys2Proof.Machine.execSeamDecision cell s
  | .seamDeadline => Sys2Proof.Machine.execSeamDeadline s
  | .publication summaryBegan faultBegan => Sys2Proof.Machine.execPublication summaryBegan faultBegan s
  | .roundPage t => Sys2Proof.Machine.execRoundPage t s
  | .roundPageDrop => Sys2Proof.Machine.execRoundPageDrop s
  | .seamWindowEnd => Sys2Proof.Machine.execSeamWindowEnd s
  | .capLatch capsBegan burstBegan t => Sys2Proof.Machine.execCapLatch capsBegan burstBegan t s
  | .capLatchMissing => Sys2Proof.Machine.execCapLatchMissing s
  | .comparatorEvent x => Sys2Proof.Machine.execComparatorEvent x s
  | .cellLimitFlag x => Sys2Proof.Machine.execCellLimitFlag x s
  | .fastPathRelease e t => Sys2Proof.Machine.execFastPathRelease e t s
  | .pinReadbackMismatch pin => Sys2Proof.Machine.execPinReadbackMismatch pin s
  | .storeAbsent => Sys2Proof.Machine.execStoreAbsent s
  | .storePresent => Sys2Proof.Machine.execStorePresent s
  | .vmainFail x => Sys2Proof.Machine.execVmainFail x s
  | .reservePrecharge otherHigh t => Sys2Proof.Machine.execReservePrecharge otherHigh t s
  | .stableReached x => Sys2Proof.Machine.execStableReached x s
  | .pathDwellEnd x => Sys2Proof.Machine.execPathDwellEnd x s
  | .rampComplete x => Sys2Proof.Machine.execRampComplete x s
  | .shortDetected t => Sys2Proof.Machine.execShortDetected t s
  | .coolEnd x => Sys2Proof.Machine.execCoolEnd x s
  | .shortCountReset t => Sys2Proof.Machine.execShortCountReset t s
  | .latchedExit t => Sys2Proof.Machine.execLatchedExit t s
  | .floor src x => Sys2Proof.Machine.execFloor src x s
  | .dampingEnd t => Sys2Proof.Machine.execDampingEnd t s
  | .gateInterlockTimeout t => Sys2Proof.Machine.execGateInterlockTimeout t s
  | .gateMonitorFault pair t => Sys2Proof.Machine.execGateMonitorFault pair t s
  | .breqEdge line t => Sys2Proof.Machine.execBreqEdge line t s
  | .burstRelease line t => Sys2Proof.Machine.execBurstRelease line t s
  | .burstDurationEnd line t => Sys2Proof.Machine.execBurstDurationEnd line t s
  | .bgntAnswer t => Sys2Proof.Machine.execBgntAnswer t s
  | .beatSend t => Sys2Proof.Machine.execBeatSend t s
  | .beatReceived x => Sys2Proof.Machine.execBeatReceived x s
  | .claimReceived x => Sys2Proof.Machine.execClaimReceived x s
  | .yieldReceived x => Sys2Proof.Machine.execYieldReceived x s
  | .mirrorReceived x => Sys2Proof.Machine.execMirrorReceived x s
  | .peerWindowEnd => Sys2Proof.Machine.execPeerWindowEnd s
  | .unaligned => Sys2Proof.Machine.execUnaligned s
  | .provisionalClaim => Sys2Proof.Machine.execProvisionalClaim s
  | .listenTimeout => Sys2Proof.Machine.execListenTimeout s
  | .election => Sys2Proof.Machine.execElection s
  | .yieldSend => Sys2Proof.Machine.execYieldSend s
  | .acceptClaim => Sys2Proof.Machine.execAcceptClaim s
  | .ownerJudge => Sys2Proof.Machine.execOwnerJudge s
  | .tripDisagree t => Sys2Proof.Machine.execTripDisagree t s
  | .cutIn t => Sys2Proof.Machine.execCutIn t s
  | .forcedClaim => Sys2Proof.Machine.execForcedClaim s
  | .forcedTakeoverDrive t => Sys2Proof.Machine.execForcedTakeoverDrive t s
  | .ownerSelfCheck passed => Sys2Proof.Machine.execOwnerSelfCheck passed s
  | .canTxComplete channel second active t => Sys2Proof.Machine.execCanTxComplete channel second active t s
  | .canErrorPassive channel => Sys2Proof.Machine.execCanErrorPassive channel s
  | .canBusOff channel => Sys2Proof.Machine.execCanBusOff channel s
  | .canBusOffRecovery channel => Sys2Proof.Machine.execCanBusOffRecovery channel s
  | .canFrameReceived channel frame => Sys2Proof.Machine.execCanFrameReceived channel frame s
  | .sgmiiRxDiscard frame => Sys2Proof.Machine.execSgmiiRxDiscard frame s
  | .sgmiiLinkChange up => Sys2Proof.Machine.execSgmiiLinkChange up s
  | .phyResetRelease => Sys2Proof.Machine.execPhyResetRelease s
  | .pinKeeperExpiry => Sys2Proof.Machine.execPinKeeperExpiry s
  | .fastClockLoss t => Sys2Proof.Machine.execFastClockLoss t s
  | .crystalFail => Sys2Proof.Machine.execCrystalFail s
  | .lockstepMismatch pair => Sys2Proof.Machine.execLockstepMismatch pair s
  | .heartbeatMiss pair => Sys2Proof.Machine.execHeartbeatMiss pair s
  | .dieOvertemp => Sys2Proof.Machine.execDieOvertemp s
  | .bypass => Sys2Proof.Machine.execBypass s
  | .idcode => Sys2Proof.Machine.execIdcode s
  | .samplePreload pins scan => Sys2Proof.Machine.execSamplePreload pins scan s
  | .extest scan => Sys2Proof.Machine.execExtest scan s
  | .clamp => Sys2Proof.Machine.execClamp s
  | .highz => Sys2Proof.Machine.execHighz s
  | .extestPulse scan => Sys2Proof.Machine.execExtestPulse scan s
  | .extestTrain scan => Sys2Proof.Machine.execExtestTrain scan s
  | .lbResult => Sys2Proof.Machine.execLbResult s
  | .bistResult => Sys2Proof.Machine.execBistResult s
  | .keyProg item => Sys2Proof.Machine.execKeyProg item s
  | .fuseRead item => Sys2Proof.Machine.execFuseRead item s
  | .lcAdvance readBack => Sys2Proof.Machine.execLcAdvance readBack s
  | .auth x => Sys2Proof.Machine.execAuth x s
  | .returnHoldEnd => Sys2Proof.Machine.execReturnHoldEnd s
  | .loopbackPhase runs => Sys2Proof.Machine.execLoopbackPhase runs s
  | .productionBist result allRun passed => Sys2Proof.Machine.execProductionBist result allRun passed s
  | .pacePllFail => Sys2Proof.Machine.execPacePllFail s
  | .snapReceived x => Sys2Proof.Machine.execSnapReceived x s
  | .shipNHigh => Sys2Proof.Machine.execShipNHigh s
  | .goodChange good t => Sys2Proof.Machine.execGoodChange good t s
  | .mainPrecharge otherHigh t => Sys2Proof.Machine.execMainPrecharge otherHigh t s

end Sys2Proof.Machine
end

