-- ==== Sys2Proof/WellFormed.lean ====
section
/-!
DEFINITION. Which operands the parts that send a command can give it: the widths of converters and
links, and the numbers of lines, cells, nodes and seats. The machine gives every command a meaning,
well formed or not; statements that need a range say so by this predicate.
-/
namespace Sys2Proof

/-- A list of a fixed length. -/
def hasLength {α : Type} (n : Nat) (l : List α) : Bool := l.length == n

/-- A signed converter code of some width in bits. -/
def isCode (bits : Nat) (x : Int) : Bool := decide (-(2 ^ (bits - 1) : Int) ≤ x) && decide (x < 2 ^ (bits - 1))

/-- A series position of the pack, or a store cell (R141, Table 17-5). -/
def isCell (c : CellId) : Bool := decide (1 ≤ c) && decide (c ≤ 4104)

/-- A node T p.N n: eight ports of 32 positions (R10, R103). -/
def isNode (n : NodeId) : Bool := decide (n < 256)

/-- A thread port (R103). -/
def isPort (p : Nat) : Bool := decide (p < 8)

/-- The sum of 16 conversions of 12 bits (R38). -/
def isCodeSum (x : Nat) : Bool := decide (x ≤ 16 * 4095)

/-- Five samples of every strap (R33). -/
def StrapSamples.wf (x : StrapSamples) : Bool :=
  hasLength 5 x.seat1 && hasLength 5 x.seat0 && hasLength 5 x.slotPref && hasLength 5 x.install && hasLength 5 x.test1 &&
    hasLength 5 x.test0

/-- Eight sums in each pass (R41). -/
def CodeReads.wf (x : CodeReads) : Bool :=
  hasLength 8 x.pass1 && hasLength 8 x.pass2 && x.pass1.all isCodeSum && x.pass2.all isCodeSum

/-- The widths of what the front-ends latch at the snap (chapter 07). -/
def SnapLatch.wf (x : SnapLatch) : Bool :=
  isCode 24 x.ishA && isCode 24 x.ishB && isCode 24 x.si &&
    [x.vpkA, x.vpkB, x.vmain, x.tclIn, x.tclOut, x.st1, x.st2].all (fun v => decide (v < 65536)) &&
    hasLength 8 x.sc && hasLength 3 x.vtap && hasLength 3 x.itap && hasLength 4 x.die

/-- A code group that 8b/10b can spell (R108): x below 32, y below 8. -/
def CodeGroup.wf : CodeGroup → Bool
  | .k x y => decide (x < 32) && decide (y < 8)
  | .d _ => true
  | .bad => true

/-- A received frame comes from a port. -/
def ThreadRx.wf (x : ThreadRx) : Bool := isPort x.port && x.groups.all CodeGroup.wf

/-- The sixteen levels of VSET[3:0] (R349). -/
def isVset (v : Nat) : Bool := decide (v < 16)

/-- What a stitch samples (R349). -/
def StitchLevels.wf (x : StitchLevels) : Bool := isVset x.vset

/-- A 24-bit sample of each channel (R170). -/
def ShuntSample.wf (x : ShuntSample) : Bool := isCode 24 x.a && isCode 24 x.b && isCode 24 x.store

/-- A SENT frame has at most six data nibbles (R177). -/
def SentFrame.wf (x : SentFrame) : Bool := decide (x.data.length ≤ 6)

/-- A cohort, or the store model as 16 (R221). -/
def MemRegion.wf : MemRegion → Bool
  | .state _ c _ _ => isCell c
  | .ref => true
  | .weightsLive k => decide (k ≤ 16)
  | .adaptLive c => isCell c
  | .weightsShadow k => decide (k ≤ 16)
  | .adaptShadow c => isCell c
  | .tangent c => isCell c
  | .ckptStage => true
  | .training => true

/-- The six CAP pins (R318). -/
def FastPin.wf : FastPin → Bool
  | .tripN => true
  | .cap k => decide (k < 6)

/-- The widths of the fuse items (R471). -/
def KeyItem.wf : KeyItem → Bool
  | .dieIdentity v => decide (v < 2 ^ 64)
  | .deviceKey => true
  | .returnHash v => decide (v < 2 ^ 256)
  | .imageSlot k v => decide (k < 4) && decide (v < 2 ^ 256)
  | .domainKey v => decide (v < 2 ^ 128)

/-- An error in a tightly coupled memory names a cell record by its cell. -/
def TcmError.wf : TcmError → Bool
  | .correctable => true
  | .cell c => isCell c
  | .other _ => true

/-- Whether the operands of a command are in range. -/
def Instr.wf : Instr → Bool
  | .strapLatch x => x.wf
  | .resistorCodeRead x => x.wf
  | .domainSwitchOn d => decide (2 ≤ d) && decide (d ≤ 17)
  | .domainSwitchTimeout d => decide (2 ≤ d) && decide (d ≤ 17)
  | .startupSelfTest x => x.failed.all (fun n => decide (1 ≤ n) && decide (n ≤ 12)) && x.ports.all isPort
  | .roundZero _ x => x.snap.wf && x.levels.wf
  | .roundStart x => x.snap.wf && x.levels.wf && x.silent.all isPort
  | .stitchStart x => x.levels.wf
  | .codeReread i sum => decide (i < 8) && isCodeSum sum
  | .readReceived x => x.rx.wf && x.commands.all ThreadRx.wf
  | .commandRetriesSpent n => isNode n
  | .commandResend n => isNode n
  | .nodeLost n => isNode n
  | .ringReversal r => isPort r
  | .reversalEnd r => isPort r
  | .identResponse x => x.wf
  | .identTimeout n => isNode n
  | .echo x => isNode x.node
  | .echoReply x => x.wf
  | .echoTimeout r _ => isPort r
  | .linkTestStart r _ => isPort r
  | .bert r => isPort r
  | .prbs31Start r _ => isPort r
  | .prbs31End x => isPort x.ring
  | .bertReport x => x.wf
  | .shuntSample x => x.wf
  | .sentFrame x => x.wf
  | .bastingFormed c => isCell c
  | .stateBlockFetch c => isCell c
  | .learnedResultWritten c _ => isCell c
  | .openLoopLimit c => isCell c
  | .warmupEnd c => isCell c
  | .stepAbandon c => isCell c
  | .cellRestore c => isCell c
  | .lpddr5EccError _ r => r.wf
  | .bobbinEccError _ _ r => r.wf
  | .tcmEccError x => x.wf
  | .shadowStep c _ => isCell c
  | .seamDecision c => isCell c
  | .cellLimitFlag x => x.wf
  | .pinReadbackMismatch p => p.wf
  | .breqEdge l _ => decide (l < 2)
  | .burstRelease l _ => decide (l < 2)
  | .burstDurationEnd l _ => decide (l < 2)
  | .snapReceived x => x.wf
  | .keyProg x => x.wf
  | .fuseRead (.imageSlot k) => decide (k < 4)
  | .coldBoot _ | .pgGood _ | .pmicHandshakeTimeout | .pmicRetry | .lpddr5InitComplete _ | .imageSelect _ _ | .checkpointLoad
  | .warmResume _ _ | .bootSupplyLoss | .tapPresent _ | .tapAbsent _ | .tapOvervoltage _ | .tapOvervoltageEnd _
  | .tapReverseCurrent _ | .sharingRunComplete _ | .railLoss _ _ | .pg2Loss | .pg2Return | .supplyLossTrigger _ | .graceEnd _
  | .freeze _ | .sealComplete _ | .supplyReturn _ | .abortDampingEnd | .aonLost | .parkCriterion _ _ | .wakeCause _ _
  | .parkTimer _ | .parkCheckEnd _ | .shipCriterion _ | .shipExit _ | .paceEdge _ | .paceLoss _ | .holdoverEnd | .snapSend
  | .maintChange | .strapResample _ | .tokenSend | .violationWindowEnd | .installationTest | .periodicTestDue
  | .periodicTestOverdue | .maintenanceRetest | .shuntRangeSensor _ _ | .sentIdTimeout _ | .sentLoss _ | .sbSnapBlank
  | .sbRestore | .packChecks _ | .classicalUpdate | .tackOverdue | .pairRecordWrite | .replayStep _ | .replayCompare
  | .replayAbort | .replayPeriodEnd | .eccWindowEnd | .scrubPass | .scrubOverdue | .arbitrationRevoke _ | .portUnfence _
  | .refreshRateRead _ | .cycleStart | .warmPhaseEnd | .shadowUpdate | .epochEnd | .fitDecision | .adapterCopy | .promotion
  | .shedLower _ | .checkpointTrigger _ | .checkpointStaged | .checkpointWrite _ | .norBusRevoke | .seamDeadline
  | .publication _ _ | .roundPage _ | .roundPageDrop | .seamWindowEnd | .capLatch _ _ _ | .capLatchMissing
  | .comparatorEvent _ | .fastPathRelease _ _ | .storeAbsent | .storePresent | .vmainFail _ | .reservePrecharge _ _
  | .stableReached _ | .pathDwellEnd _ | .rampComplete _ | .shortDetected _ | .coolEnd _ | .shortCountReset _
  | .latchedExit _ | .floor _ _ | .dampingEnd _ | .gateInterlockTimeout _ | .gateMonitorFault _ _ | .bgntAnswer _
  | .beatSend _ | .beatReceived _ | .claimReceived _ | .yieldReceived _ | .mirrorReceived _ | .peerWindowEnd | .unaligned
  | .provisionalClaim | .listenTimeout | .election | .yieldSend | .acceptClaim | .ownerJudge | .tripDisagree _ | .cutIn _
  | .forcedClaim | .forcedTakeoverDrive _ | .ownerSelfCheck _ | .canTxComplete _ _ _ _ | .canErrorPassive _ | .canBusOff _
  | .canBusOffRecovery _ | .canFrameReceived _ _ | .sgmiiRxDiscard _ | .sgmiiLinkChange _ | .phyResetRelease
  | .pinKeeperExpiry | .fastClockLoss _ | .crystalFail | .lockstepMismatch _ | .heartbeatMiss _ | .dieOvertemp | .bypass
  | .idcode | .samplePreload _ _ | .extest _ | .clamp | .highz | .extestPulse _ | .extestTrain _ | .lbResult | .bistResult
  | .fuseRead _ | .lcAdvance _ | .auth _ | .returnHoldEnd | .loopbackPhase _ | .productionBist _ _ _ | .pacePllFail
  | .shipNHigh | .goodChange _ _ | .mainPrecharge _ _ => true

end Sys2Proof
end

