-- ==== Sys2Proof/Safety.lean ====
section
/-!
DEFINITION. The words in which statements about the block are put: a command that completes, the part of
the state that configures the block, what a fault change leaves alone, and the invariants.
-/
namespace Sys2Proof.Machine

/-- The command, run in a state, answers a next state of which P holds. -/
def Completes (c : Instr) (s : State) (P : State → Prop) : Prop := ∃ t, exec c s = .next t ∧ P t

/-- What no command of the running block may change (R3–R8): the queue, the fuses, the latched straps and codes, and the image
fields in force. -/
structure Fixed where
  pending : List Instr
  fuses : Fuses
  straps : StrapLevels
  codes : List (Option Nat)
  fields : ImageFields

/-- The fixed part of a state. -/
def State.fixed (s : State) : Fixed := ⟨s.pending, s.nv.fuses, s.strap.latched, s.code.levels, s.img.f⟩

/-- Whether an instance stands is the same in both states, but for the codes named, and for 0x542, which tells that the fault table
is full (R449). -/
def SameFaults (but : List Nat) (s t : State) : Prop :=
  ∀ c d, c ∉ but → c ≠ 0x542 → t.flt.stands c d = s.flt.stands c d

/-- Every standing instance has its place in the fault table (R449). -/
def State.allListed (s : State) : Prop := s.flt.unlisted = []

/-- The order in which a part goes through its lifecycle states (R465, R466). -/
def lifecycleRank : Lifecycle → Nat
  | .factory => 0
  | .production => 1
  | .field => 2
  | .return_ => 3

/-- A part in RETURN holds no key (R468): no device-unique key, no K_D and no image-key hash. -/
def Fuses.keyless (f : Fuses) : Prop :=
  f.lifecycle = .return_ → f.deviceKey = none ∧ f.domainKey = none ∧ f.slots = [none, none, none, none]

/-- What one programming does to a one-time field: it stays as it is once it holds a value. -/
def Kept {α : Type} (before after : Option α) : Prop := ∀ v, before = some v → after = some v

/-- The fuses only move on (R399, R465, R466, R471): no state behind the one reached, no identity or hash written twice, no
revocation undone, no counter stepped back. -/
structure Fuses.Forward (f g : Fuses) : Prop where
  lifecycle : lifecycleRank f.lifecycle ≤ lifecycleRank g.lifecycle
  dieId : Kept f.dieId g.dieId
  returnHash : Kept f.returnHash g.returnHash
  deviceKey : g.lifecycle ≠ .return_ → Kept f.deviceKey g.deviceKey
  domainKey : g.lifecycle ≠ .return_ → Kept f.domainKey g.domainKey
  revoked : ∀ k, k < 4 → f.revoked.getD k false = true → g.revoked.getD k false = true
  counter : min 64 f.counter ≤ g.counter

end Sys2Proof.Machine
end

