-- ==== Sys2Proof/Certificates/Slice0/Obligations.lean ====
section
/-!
DEFINITION. The statements about the block: what each command completes with, for the states and operands that the manual names, and what
every step keeps.
-/
open Sys2Proof Sys2Proof.Machine

/-- A step takes the command at the front of the queue and runs it with the rest of the queue; on an empty queue the block idles (the model's
choice, log entry 1). -/
def Obligations.StepRunsTheFrontCommand : Prop :=
  (∀ (s : State) (c : Instr) (rest : List Instr), s.pending = c :: rest → step s = exec c { s with pending := rest }) ∧
  (∀ s : State, s.pending = [] → step s = .next s)

/-- R465, R471, R472: every command answers a next state in every state; it leaves the queue as it is, and the fuses only move on: no
lifecycle state goes back, nothing programmed once is programmed again, and no revocation or rollback count is undone. -/
def Obligations.EveryCommandCompletes : Prop :=
  ∀ (c : Instr) (s : State), Completes c s (fun t => t.pending = s.pending ∧ Fuses.Forward s.nv.fuses t.nv.fuses)

/-- R468: a part in RETURN holds no device-unique key, no domain key and no image-key hash, and no step gives it one. -/
def Obligations.ReturnHoldsNoKey : Prop :=
  ∀ s t : State, s.nv.fuses.keyless → step s = .next t → t.nv.fuses.keyless

/-- R60, R67, Table 18-2: the state after reset has no power: every domain and rail is off, nothing of the commanding group is driven, SAFE_N
is low, no fault stands and no command waits. The part is a blank one (the model's choice, log entry 16) and holds no key. -/
def Obligations.ResetHasNoPower : Prop :=
  let s := State.reset
  s.pending = [] ∧ s.sup.dev = .off ∧ s.sup.domains = [] ∧ s.sup.p1 = false ∧ s.sup.pmicEn = false ∧ s.drives = false ∧
  s.drivesCaps = false ∧ (∀ k, s.capPin k = .undriven) ∧ s.flt.safeN = false ∧ s.flt.all = [] ∧ s.own.cut = false ∧ s.rounds = false ∧
  s.nv.fuses.keyless

/-- R379: only the start of a cold boot or of a warm resume, with both CUT_IN pins high, clears a cut latch that keeps its power, and a seat
that is cut is not eligible. A warm resume in place is not such a start. -/
def Obligations.CutLatchClearsOnlyAtADomainStart : Prop :=
  ∀ (s : State) (c : Instr), s.own.cut = true → c ≠ .aonLost →
    let start := (c = .coldBoot true ∧ s.sup.dev = .off) ∨ (∃ at_, c = .warmResume true at_ ∧ s.sup.resume ≠ none)
    Completes c s (fun t => (start → t.own.cut = false) ∧ (¬ start → t.own.cut = true ∧ t.ownEligible = false))

/-- R3, R5: while the device operates no command changes the latched straps, the resistor codes or the image fields in force; a boot alone
brings others. -/
def Obligations.ConfigurationIsFixedInOperation : Prop :=
  ∀ (s : State) (c : Instr), s.sup.dev ≠ .off → s.sup.dev ≠ .boot → s.sup.resume = none → c ≠ .aonLost →
    Completes c s (fun t => t.strap.latched = s.strap.latched ∧ t.code.levels = s.code.levels ∧ t.img.f = s.img.f)

/-- R80: in SHIP only VCHG_DET for its 100 ms calls for a warm resume, which then is the one way out; SHIP_N going high does nothing. After a
loss of P0 AON in SHIP the next boot is a cold boot, and it goes on into BOOT. -/
def Obligations.ShipEndsOnlyByTheCharger : Prop :=
  (∀ (s : State) (c : Instr), s.sup.dev = .ship → c ≠ .aonLost → (∀ b at_, c = .warmResume b at_ → s.sup.resume = none) →
    Completes c s (fun t => t.sup.dev = .ship ∧ ((∃ at_, c = .shipExit at_) → t.sup.resume = some .ship) ∧
      ((∀ at_, c ≠ .shipExit at_) → t.sup.resume = s.sup.resume))) ∧
  (∀ (s : State) (b : Bool) (at_ : Ns), s.sup.dev = .ship → s.sup.resume = some .ship →
    Completes (.warmResume b at_) s (fun t => t.sup.dev = .boot ∧ t.sup.bootKind = .ship ∧ t.sup.bootStep = .codesRead)) ∧
  (∀ s : State, s.sup.dev = .ship → Completes .shipNHigh s (fun t => t = s)) ∧
  (∀ (s u : State) (b : Bool), exec .aonLost s = .next u →
    Completes (.coldBoot b) u (fun t => t.sup.dev = .boot ∧ t.sup.bootKind = .cold ∧ t.sup.bootStep = .aonUp))

/-- R53, R54, R57: an event of a fitted tap changes that tap's class or overvoltage, DGATE with it, and the tap faults; TAP_REVERSE_CURRENT
turns the FET off. R55: with the sharing enforced, a run of 1 s of one tap deviating raises fault 0x106, a run of 1 s of every tap within
the bound clears it. The model's choice in it: the runs of R55 as they are counted from snap to snap (log entry 160). -/
def Obligations.TapsAreClassifiedAndShared : Prop :=
  (∀ (s : State) (k : TapId), s.tapsWatched = true → s.code.tapFitted k = true →
    let gate (over_ : Bool) : Dgate := if over_ then .heldOff else .regulating
    let faults := [0x101, 0x102, 0x103, 0x104, 0x105]
    Completes (.tapPresent k) s (fun t =>
      t = { s with
        sup := s.sup.setTap k { s.sup.tap k with cls := .present, dgate := gate (s.sup.tap k).overvoltage }, flt := t.flt } ∧
      SameFaults faults s t ∧ (s.pace.running = true → s.allListed → t.flt.stands (0x101 + tapIndex k) 0 = false)) ∧
    Completes (.tapAbsent k) s (fun t =>
      t = { s with
        sup := s.sup.setTap k { s.sup.tap k with cls := .absent, dgate := gate (s.sup.tap k).overvoltage }, flt := t.flt } ∧
      SameFaults faults s t ∧ (s.pace.running = true → t.flt.stands (0x101 + tapIndex k) 0 = true) ∧
      (s.pace.running = true → t.tapsPresent = 1 → t.flt.stands 0x104 0 = true)) ∧
    Completes (.tapOvervoltage k) s (fun t =>
      t = { s with sup := s.sup.setTap k { s.sup.tap k with overvoltage := true, dgate := .heldOff }, flt := t.flt } ∧
      SameFaults faults s t ∧ (s.pace.running = true → t.flt.stands 0x105 (0x2500 + tapIndex k) = true)) ∧
    Completes (.tapOvervoltageEnd k) s (fun t =>
      t = { s with sup := s.sup.setTap k { s.sup.tap k with overvoltage := false, dgate := .regulating }, flt := t.flt } ∧
      SameFaults faults s t ∧ (s.pace.running = true → s.allListed → t.flt.stands 0x105 (0x2500 + tapIndex k) = false)) ∧
    Completes (.tapReverseCurrent k) s (fun t => t = { s with sup := s.sup.setTap k { s.sup.tap k with dgate := .low } })) ∧
  (∀ s : State, s.tapsWatched = true → s.code.sharing = true →
    let deviates := 1000000000 ≤ s.sup.shareA ∨ 1000000000 ≤ s.sup.shareB ∨ 1000000000 ≤ s.sup.shareC
    Completes (.sharingRunComplete true) s (fun t =>
      t = { s with flt := t.flt } ∧ SameFaults [0x106] s t ∧
      (deviates → t.flt.stands 0x106 0 = true) ∧ (¬ deviates → t.flt = s.flt)) ∧
    Completes (.sharingRunComplete false) s (fun t =>
      t = { s with flt := t.flt } ∧ SameFaults [0x106] s t ∧
      (1000000000 ≤ s.sup.shareOk → s.allListed → t.flt.stands 0x106 0 = false) ∧ (s.sup.shareOk < 1000000000 → t.flt = s.flt)))

/-- R58, R59: a good PG line is taken while PMIC_EN is high; the last of the four ends the handshake of a boot, and clears fault 0x110 with
the pins of BOOT. R59: a handshake that does not end in time takes PMIC_EN low and counts, and what LPDDR5 holds is lost; the third
failure raises fault 0x110 with FAULT at 0b111 and SAFE_N low; PMIC_RETRY takes PMIC_EN high again. The model's choice in it: which
attempts belong to one boot (log entry 22). -/
def Obligations.PmicHandshakeEndsOrCounts : Prop :=
  (∀ (s : State) (l : PgLine), s.sup.pmicEn = true →
    let rails := s.sup.setPg l true
    let last := s.sup.dev = .boot ∧ s.sup.bootStep = .codesRead ∧ s.sup.handshake = false ∧ rails.allPg = true
    (last → Completes (.pgGood l) s (fun t =>
      t = { s with sup := { rails with handshake := true, bootStep := .pmicUp }, flt := t.flt } ∧
      SameFaults [0x110] s t ∧ (s.allListed → t.flt.stands 0x110 0 = false) ∧
      (s.flt.stands 0x110 0 = true → t.flt.pin = 0 ∧ t.flt.safeN = false))) ∧
    (¬ last → Completes (.pgGood l) s (fun t => t = { s with sup := rails }))) ∧
  ((∀ s : State, s.sup.dev = .boot → s.sup.bootStep = .codesRead → s.sup.pmicEn = true → s.sup.handshake = false →
    Completes .pmicHandshakeTimeout s (fun t =>
      t = { s with
        sup := { s.sup.railsOff with attempts := s.sup.attempts + 1, bootStep := .codesRead }
        out := Output.cold, lrn := t.lrn, pace := { s.pace with running := false }, flt := t.flt } ∧
      t.lrn.ddr = false ∧ t.lrn.staging = none ∧
      SameFaults [0x110] s t ∧
      (s.sup.attempts + 1 < 3 → t.flt = s.flt) ∧
      (3 ≤ s.sup.attempts + 1 → t.flt.stands 0x110 0 = true ∧ t.flt.pin = 7 ∧ t.flt.safeN = false))) ∧
  (∀ s : State, s.sup.dev = .boot → s.sup.bootStep = .codesRead → s.sup.pmicEn = false → s.sup.held112 = false →
    s.sup.bootLoss = false → Completes .pmicRetry s (fun t => t = { s with sup := { s.sup with pmicEn := true } })))

/-- R60, R61: domains are switched on one by one in the order P2 to P17, in RUN all of them but those that failed; one that does not report
good stays off with fault 0x124, P2 to P6 end the Self-test condition, and P7 to P17 take the learned path with them until the next cold
boot. R62, R63: the loss of PG0, PG1 or PG3 in RUN or GRACE begins an emergency seal at once; PG2 alone takes P7 to P17 and fault 0x111,
and its return clears the fault once they are on again. -/
def Obligations.DomainsSwitchAndRailsAreLost : Prop :=
  ((∀ (s : State) (d : Nat), s.sup.pmicEn = true → s.sup.handshake = true → d ∈ s.wantedDomains → d ∉ s.sup.domains →
    (∀ e ∈ s.wantedDomains, e < d → e ∈ s.sup.domains) →
    Completes (.domainSwitchOn d) s (fun t =>
      t = { s with sup := { s.sup with domains := s.sup.domains ++ [d], bootStep := t.sup.bootStep }, flt := t.flt } ∧
      SameFaults [0x111, 0x121] s t ∧
      ((∃ e ∈ s.wantedDomains, e ≠ d ∧ e ∉ s.sup.domains) → t.sup.bootStep = s.sup.bootStep ∧ t.flt = s.flt) ∧
      (s.sup.dev = .boot → s.sup.bootStep = .pmicUp → (∀ e ∈ s.wantedDomains, e ≠ d → e ∈ s.sup.domains) →
        t.sup.bootStep = .domainsOn)) ∧
    Completes (.domainSwitchTimeout d) s (fun t =>
      t = { s with
        sup := { s.sup with failedDomains := s.sup.failedDomains ++ [d], bootStep := t.sup.bootStep }
        lrn := { s.lrn with disabledCold := s.lrn.disabledCold || decide (7 ≤ d) }
        tst := { s.tst with passed := s.tst.passed && decide (7 ≤ d) }, flt := t.flt } ∧
      SameFaults [0x111, 0x121, 0x124] s t ∧ t.flt.stands 0x124 (0x2400 + d) = true)) ∧
  (∀ s : State, (s.sup.dev = .boot ∧ s.sup.bootKind ≠ .parkCheck) ∨ s.sup.dev = .run → s.sup.parkCheck = false →
    s.sup.pg2Lost = false → s.trn.shed < 3 → s.sup.damping = false →
    s.wantedDomains = (List.range' 2 16).filter fun d => !s.sup.failedDomains.contains d)) ∧
  ((∀ (s : State) (l : PgLine) (at_ : Ns), l ≠ .pg2 → (s.sup.dev = .run ∨ s.sup.dev = .grace) →
    Completes (.railLoss l at_) s (fun t =>
      t.sup = { s.sup.setPg l false with
        dev := .seal
        shut := some ⟨.rail, at_, true, true, false, none, false, s.sup.parkCheck⟩
        railLosses := at_ :: s.sup.railLosses.filter fun u => decide (at_ < u + 600000000000) } ∧
      t.flt.safeN = false ∧
      (t.bufs.writing.map fun x => (x.kind, x.t, x.buf)) = (s.bufs.newest.map fun b => (SealKind.emergency, at_, b)) ∧
      t.fixed = s.fixed)) ∧
  (∀ s : State, s.sup.handshake = true → Completes .pg2Loss s (fun t =>
    t.sup = { s.sup with
      pg2 := false, pg2Lost := true, p7SelfRefresh := false, domains := s.sup.domains.filter fun d => decide (d < 7)
      bootStep := t.sup.bootStep } ∧
    t.flt.stands 0x111 0 = true ∧ t.lrn.ddr = false ∧ t.lrn.staging = none ∧ t.fixed = s.fixed)) ∧
  (∀ s : State, s.sup.pg2Lost = true → Completes .pg2Return s (fun t =>
    t = { s with
      sup := { s.sup with pg2 := true, pg2Lost := false, bootStep := t.sup.bootStep }
      lrn := { s.lrn with lost := s.lrn.lost || s.pace.running }, flt := t.flt } ∧
    SameFaults [0x111, 0x121] s t ∧ (t.nextDomain ≠ none → t.flt = s.flt) ∧
    (t.nextDomain = none → s.allListed → t.flt.stands 0x111 0 = false))))

/-- R65, R67: a cold boot starts from the reset state with what is kept without power; the time base goes on from the newest valid seal with
fault 0x123, or from zero with fault 0x122. R33, R468: each strap is latched at the majority of its five samples; one whose samples differ
raises fault 0x960; the hold for AUTH is requested in FIELD alone. R38, R41: a code is latched at the level that both passes return, and
at INVALID with fault 0x940 + i otherwise; then P1 goes on and PMIC_EN high. In FIELD the levels 4 to 6 of RSEL_TAPS are INVALID (R48).
The model's choice in it: what a cold boot keeps (log entry 18). -/
def Obligations.ColdBootLatchesStrapsAndCodes : Prop :=
  (∀ (s : State) (cutsHigh : Bool), s.sup.dev = .off →
    let held := s.nv.dieCheck.newestSeal.map fun x => x.2
    Completes (.coldBoot cutsHigh) s (fun t =>
      t.sup = { Supply.cold with dev := .boot } ∧
      t.now = (held.map fun x => x.t).getD 0 ∧
      t.flt.stands (if held.isSome then 0x123 else 0x122) 0 = true ∧
      t.flt.safeN = false ∧ t.flt.pin = 0 ∧ t.pace.round = 0 ∧ t.strap = Straps.cold ∧ t.code = Codes.cold ∧
      t.own.cut = (s.own.cut && !cutsHigh) ∧ t.nv.fuses = s.nv.fuses ∧ t.pending = s.pending)) ∧
  (∀ (s : State) (x : StrapSamples), s.sup.dev = .boot → s.sup.bootStep = .aonUp → s.sup.bootKind = .cold →
    Completes (.strapLatch x) s (fun t =>
      t = { s with
        sup := { s.sup with bootStep := .strapsLatched }, strap := t.strap
        tst := { s.tst with hold := s.nv.fuses.lifecycle == .field && x.returnHold }, flt := t.flt } ∧
      (x.wf = true → ∀ k, t.strap.latched.get k = decide (3 ≤ (x.get k).countP id)) ∧
      (∀ k, unanimous (x.get k) = false → t.flt.stands 0x960 (strapDetail k) = true) ∧
      SameFaults [0x960] s t)) ∧
  (∀ (s : State) (x : CodeReads), s.sup.dev = .boot → s.sup.bootStep = .strapsLatched → s.tst.hold = false →
    Completes (.resistorCodeRead x) s (fun t =>
      (∀ i, i < 8 → i ≠ 3 → t.code.level i = latchCode i (x.pass1.getD i 0) (x.pass2.getD i 0)) ∧
      (s.nv.fuses.lifecycle ≠ .field → t.code.level 3 = latchCode 3 (x.pass1.getD 3 0) (x.pass2.getD 3 0)) ∧
      (s.nv.fuses.lifecycle = .field → t.code.level 3 =
        (latchCode 3 (x.pass1.getD 3 0) (x.pass2.getD 3 0)).filter fun n => !(decide (4 ≤ n) && decide (n ≤ 6))) ∧
      (∀ i, i < 8 → t.code.level i = none → t.flt.stands (0x940 + i) 0 = true) ∧
      t.sup = { s.sup with
        bootStep := .codesRead, tapA := t.sup.tapA, tapB := t.sup.tapB, tapC := t.sup.tapC, p1 := true, pmicEn := true } ∧
      t = { s with code := t.code, sup := t.sup, tst := { s.tst with mode := t.tst.mode }, flt := t.flt }))

/-- R478, R479: start-up tests 1 to 8 are judged at once with fault 0x540, tests 9 to 12 wait for round 0. R244, R245: LPDDR5 that reports
failure disables the learned path with fault 0x501, LPDDR5 smaller than nine eighths of the regions of the image with fault 0x502;
otherwise it is laid out, and the state of the learned path can be loaded. R266, R287: the learned state comes from the newest valid
checkpoint that matches the image; without one the image's weights run and every cell starts afresh with fault 0x523. -/
def Obligations.StartUpTestsAndMemory : Prop :=
  (∀ (s : State) (x : SelfTestIn), s.sup.dev = .boot → s.sup.bootStep = .domainsOn →
    Completes (.startupSelfTest x) s (fun t =>
      t = { s with
        sup := { s.sup with bootStep := .selfTested }
        tst := { s.tst with waiting := x.failed.filter fun n => decide (9 ≤ n) && decide (n ≤ 12), failedPorts := x.ports }
        flt := t.flt } ∧
      (∀ n ∈ x.failed, 1 ≤ n → n ≤ 8 → t.flt.stands 0x540 n = true) ∧ SameFaults [0x540] s t)) ∧
  (∀ (s : State) (x : DdrInit), s.domainOn 7 = true →
    (x.ok = true → 9 * s.regions.sum ≤ 8 * x.installed →
      Completes (.lpddr5InitComplete x) s (fun t => t = { s with lrn := { s.lrn with ddr := true } })) ∧
    (x.ok = true → 8 * x.installed < 9 * s.regions.sum →
      Completes (.lpddr5InitComplete x) s (fun t =>
        t = { s with lrn := { s.lrn with disabled := true }, flt := t.flt } ∧ SameFaults [0x502] s t ∧ t.flt.stands 0x502 0 = true)) ∧
    (x.ok = false →
      Completes (.lpddr5InitComplete x) s (fun t =>
        t = { s with lrn := { s.lrn with disabled := true }, flt := t.flt } ∧ SameFaults [0x501] s t ∧ t.flt.stands 0x501 0 = true))) ∧
  (∀ s : State, s.lrn.ddr = true → s.lrn.loaded = false → s.lrn.disabled = false → s.lrn.disabledCold = false →
    Completes .checkpointLoad s (fun t =>
      t = { s with lrn := t.lrn, nv := { s.nv with rotation := t.nv.rotation }, flt := t.flt } ∧ t.lrn.loaded = true ∧
      (∀ k, s.matchingCkpt = some k →
        t.lrn.weights = ((List.range 17).map fun c => ⟨k.weights.getD c [], k.weights.getD c [], false⟩) ∧ t.nv.rotation = s.nv.rotation) ∧
      (s.matchingCkpt = none → t.lrn.weights = s.imageWeights ∧ t.nv.rotation = 16 ∧ t.flt.stands 0x523 0 = true) ∧
      (s.nv.ckpt0 = none ∨ s.nv.ckpt1 = none → t.flt.stands 0x930 0 = true)))

/-- R401, R407: the slots are examined in the order of SLOT_PREF; the first that passes every check runs, and the ROM defaults run when
neither does. -/
def Obligations.ImageSelectTakesTheFirstSoundSlot : Prop :=
  ∀ (s : State) (a b : Option SlotImage), s.sup.dev = .boot → s.sup.bootStep = .selfTested → s.tst.mode = .none_ →
    let order : Nat × Nat := if s.strap.latched.slotPref then (1, 0) else (0, 1)
    let slot (k : Nat) : Option SlotImage := if k = 0 then a else b
    let sound (k : Nat) : Prop := (slot k).isSome = true ∧ s.slotReason (slot k) = 0
    Completes (.imageSelect a b) s (fun t =>
      t.sup = { s.sup with bootStep := .imageRun } ∧
      (sound order.1 → t.img.rom = false ∧ t.img.slot = order.1 ∧ some t.img.digest = (slot order.1).map fun x => x.digest) ∧
      (¬ sound order.1 → sound order.2 → t.img.rom = false ∧ t.img.slot = order.2 ∧ t.flt.stands 0x903 0 = true) ∧
      (¬ sound order.1 → ¬ sound order.2 → t.img.rom = true ∧ t.img.slot = 2 ∧ t.lrn.disabled = true) ∧
      t.nv.fuses = s.nv.fuses ∧ t.strap = s.strap ∧ t.code = s.code ∧ t.pending = s.pending)

/-- R65, R66: round 0 puts the device into RUN (a park check after a wake by the park timer) with the store function enabled where a store is
fitted, and the grid running on the idle pace. R68: a warm resume goes on from the 13.0 ms line of the boot with P0 AON and P1 kept, and
with the straps and codes as latched. R72, R500: a supply loss before round 0 takes PMIC_EN and the rails low and writes no seal; the
return of the supply, with a tap present, takes PMIC_EN high again. The model's choice in it: the Delta t of round 0 (log entry 36). -/
def Obligations.RoundZeroAndWarmResume : Prop :=
  (∀ (s : State) (at_ : Ns) (x : ZeroIn), s.sup.dev = .boot → s.sup.bootStep = .imageRun → s.tst.mode = .none_ →
    Completes (.roundZero at_ x) s (fun t =>
      t.sup.dev = .run ∧ t.sup.parkCheck = decide (s.sup.bootKind = .parkCheck) ∧ t.sup.storeFn = decide (s.code.chem ≠ 0) ∧
      t.pace.running = true ∧ t.pace.lock = .idle ∧ t.pace.stitch = 0 ∧ t.own.since = t.pace.round ∧
      t.now = max s.now at_ ∧ t.fixed = s.fixed)) ∧
  (∀ (s : State) (cutsHigh : Bool) (at_ : Ns) (k : BootKind), s.sup.resume = some k →
    Completes (.warmResume cutsHigh at_) s (fun t =>
      t.sup.dev = .boot ∧ t.sup.bootStep = .codesRead ∧ t.sup.bootKind = k ∧ t.sup.pmicEn = true ∧ t.sup.p1 = true ∧
      t.sup.resume = none ∧ t.strap.latched = s.strap.latched ∧ t.code = s.code ∧ t.res = s.res ∧
      t.flt.table = [] ∧ t.flt.events = [] ∧ t.pace.round = s.pace.round ∧ t.nv.fuses = s.nv.fuses ∧
      t.now = max s.now at_ ∧ t.pending = s.pending)) ∧
  (∀ s : State, s.sup.dev = .boot → s.codesLatched = true → s.sup.held112 = false →
    Completes .bootSupplyLoss s (fun t =>
      t = { s with sup := { s.sup.railsOff with bootLoss := true, bootStep := .codesRead }, out := Output.cold, lrn := t.lrn } ∧
      t.lrn.ddr = false) ∧
    ∀ at_ : Ns, s.sup.bootLoss = true → 1 ≤ s.tapsPresent → Completes (.supplyReturn at_) s (fun t =>
      t = { s with now := max s.now at_, sup := { s.sup with bootLoss := false, pmicEn := true, attempts := 0 } }))

/-- R70, R71: a supply loss in RUN begins GRACE: P8 to P17 go off, LPDDR5 goes to self-refresh, and training is abandoned. R71, R76: GRACE
ends after SUPPLY.grace, for a park or ship shut-down once its checkpoint and link tests are over; the freeze step begins, with nothing
else changed than the domains. The model's choice in it: the instant that GRACE_END carries (log entry 30). -/
def Obligations.GraceBeginsAndEnds : Prop :=
  (∀ (s : State) (at_ : Ns), s.sup.dev = .run →
    Completes (.supplyLossTrigger at_) s (fun t =>
      t.sup = { s.sup with
        dev := .grace, shut := some ⟨.supply, at_, false, false, false, none, false, s.sup.parkCheck⟩
        domains := s.sup.domains.filter fun d => decide (d < 8), p7SelfRefresh := s.sup.p7SelfRefresh || s.domainOn 7 } ∧
      t.now = max s.now at_ ∧ t.out = { s.out with graceSent := false } ∧ t.cycleOn = false ∧ t.fixed = s.fixed ∧
      t = { s with now := t.now, sup := t.sup, out := t.out, trn := t.trn, lrn := t.lrn, nv := t.nv, flt := t.flt })) ∧
  (∀ (s : State) (at_ : Ns) (h : Shutdown), s.sup.dev = .grace → s.sup.shut = some h → h.graceOver = false →
    (h.kind = .supply ∨ (s.lrn.staging = none ∧ s.pat.testing = none)) → h.since + s.img.f.supply.grace * 1000000 ≤ at_ →
    Completes (.graceEnd at_) s (fun t =>
      t = { s with
        now := max s.now at_
        sup := { s.sup with
          shut := some { h with graceOver := true, frozen := true }
          domains := s.sup.domains.filter fun d => decide (d < 8), p7SelfRefresh := s.sup.p7SelfRefresh || s.domainOn 7 } }))

/-- R71, R72: the freeze step puts zero power on the CAP pins and starts the write of the seal from the newest seal buffer; a supply return
qualified by then aborts the shut-down instead, and fault 0x120 stands. R411: the completed seal is the newest one: it goes to the area
that does not hold the newest valid seal. Where the supply has returned in a supply-loss shut-down with the rails good, RUN goes on in
place (R69); otherwise P2 to P17 and PMIC_EN are off (R71). The model's choice in it: the device state after the power-off (log entry
147), and the seal write that starts in the freeze step (log entry 27). -/
def Obligations.SealIsWrittenAndPowersDown : Prop :=
  (∀ (s : State) (at_ : Ns) (h : Shutdown), s.sup.dev = .grace → s.sup.shut = some h → h.graceOver = true →
    ((h.returned = false ∨ h.kind ≠ .supply) →
      Completes (.freeze at_) s (fun t =>
        t.sup = { s.sup with dev := .seal } ∧ t.now = max s.now at_ ∧
        t.pow = { s.pow with frozen := true, zeroD := true, zeroC := true } ∧
        (t.bufs.writing.map fun x => (x.kind, x.t, x.buf)) = (t.bufs.newest.map fun b => (sealKindOf h.kind, at_, b)) ∧
        (s.tc0Up = false → t.bufs.newest = s.bufs.newest) ∧ t.fixed = s.fixed ∧
        t = { s with now := t.now, sup := t.sup, pow := t.pow, bufs := t.bufs, nv := t.nv, freeCtr := t.freeCtr })) ∧
    (h.returned = true → h.kind = .supply →
      Completes (.freeze at_) s (fun t =>
        t.sup.dev = .run ∧ t.sup.shut = none ∧ t.pow = { s.pow with frozen := false, zeroD := true, zeroC := true } ∧
        t.flt.stands 0x120 0 = true ∧ t.bufs.writing = s.bufs.writing ∧ t.fixed = s.fixed))) ∧
  (∀ (s : State) (at_ : Ns) (h : Shutdown) (x : Seal), s.sup.dev = .seal → s.sup.shut = some h → s.bufs.writing = some x →
    let place (t : State) : Prop := (if s.nv.sealTarget then t.nv.seal1 else t.nv.seal0) = some x ∧
      (if s.nv.sealTarget then t.nv.seal0 = s.nv.seal0 else t.nv.seal1 = s.nv.seal1)
    let inPlace := h.kind = .supply ∧ h.returned = true ∧ s.sup.corePg = true
    (inPlace → Completes (.sealComplete at_) s (fun t =>
      t.sup = { s.sup with dev := .run, shut := none, p7SelfRefresh := false, resumeInPlace := true, parkCheck := false } ∧
      place t ∧ t.fixed = s.fixed)) ∧
    (¬ inPlace → Completes (.sealComplete at_) s (fun t =>
      place t ∧ t.sup.domains = [] ∧ t.sup.pmicEn = false ∧ t.sup.shut = none ∧ t.sup.storeFn = false ∧ t.pace.running = false ∧
      t.out = Output.cold ∧ t.fixed = s.fixed ∧
      (h.lateLoss = true ∨ h.kind = .supply → t.sup.dev = .seal ∧ t.sup.resume = if h.returned then some .otherWarm else none) ∧
      (h.lateLoss = false → h.kind = .park → t.sup.dev = .park ∧ t.sup.parkTimerFrom = at_ ∧ t.nv.parks = s.nv.parks + 1 ∧
        t.sup.resume = h.wake.map fun _ => BootKind.parkWake) ∧
      (h.lateLoss = false → h.kind = .parkCheckEnd → t.sup.dev = .park ∧ t.nv.parks = s.nv.parks) ∧
      (h.lateLoss = false → h.kind = .ship → t.sup.dev = .ship ∧ t.sup.p1 = false ∧ t.res = Reserve.cold) ∧
      (h.lateLoss = false → h.kind = .rail → h.fromParkCheck = false → s.sup.railLosses.length < 3 →
        t.sup.dev = .seal ∧ t.sup.resume = some .otherWarm) ∧
      (h.lateLoss = false → h.kind = .rail → h.fromParkCheck = true → s.sup.railLosses.length < 3 →
        t.sup.dev = .park ∧ t.sup.resume = h.wake.map fun _ => BootKind.parkWake) ∧
      (h.lateLoss = false → h.kind = .rail → 3 ≤ s.sup.railLosses.length →
        t.sup.dev = .boot ∧ t.sup.held112 = true ∧ t.flt.stands 0x112 0 = true ∧ t.flt.pin = 7 ∧ t.flt.safeN = false))))

/-- Table 3-7, R72, R73: a supply return in GRACE aborts the shut-down from the live state; the third within 60 s keeps P8 to P17 off, with
fault 0x121, until the damping ends. A return needs a fitted tap that is present. In the freeze step and in SEAL it is noted. R67, R415:
when P0 AON is lost, only what is kept without power stays, less the journal write it cuts short; everything else is at its reset value.
The model's choice in it: what is kept without power (log entry 18), and where a journal write is cut (log entry 175). -/
def Obligations.SupplyReturnAndAonLoss : Prop :=
  ((∀ (s : State) (at_ : Ns) (h : Shutdown), s.sup.dev = .grace → s.sup.shut = some h → h.kind = .supply → h.frozen = false →
    1 ≤ s.tapsPresent → Completes (.supplyReturn at_) s (fun t =>
      t.sup = { s.sup with
        dev := .run, shut := none, p7SelfRefresh := false, aborts := t.sup.aborts
        damping := s.sup.damping || decide (3 ≤ t.sup.aborts.length), abortRound := some s.pace.round } ∧
      t.sup.aborts = at_ :: s.sup.aborts.filter (fun u => decide (at_ < u + 60000000000)) ∧
      t.flt.stands 0x120 0 = true ∧ (3 ≤ t.sup.aborts.length → t.flt.stands 0x121 0 = true) ∧
      t.pow = { s.pow with frozen := false } ∧ t.now = max s.now at_ ∧ t.fixed = s.fixed ∧
      t = { s with now := t.now, sup := t.sup, pow := t.pow, lrn := t.lrn, nv := t.nv, flt := t.flt })) ∧
  (∀ (s : State) (at_ : Ns) (h : Shutdown), (s.sup.dev = .grace ∧ h.frozen = true) ∨ s.sup.dev = .seal → s.sup.shut = some h →
    (h.kind = .supply ∨ h.lateLoss = true) → 1 ≤ s.tapsPresent →
    Completes (.supplyReturn at_) s (fun t =>
      t = { s with now := max s.now at_, sup := { s.sup with shut := some { h with returned := true } } })) ∧
  (∀ s : State, s.sup.dev ≠ .off → s.sup.damping = true →
    Completes .abortDampingEnd s (fun t =>
      t = { s with sup := { s.sup with damping := false, bootStep := t.sup.bootStep }, flt := t.flt } ∧ SameFaults [0x111, 0x121] s t ∧
      (t.nextDomain = none → t.domainOn 17 = true → s.allListed → t.flt.stands 0x121 0 = false)))) ∧
  (∀ s : State, Completes .aonLost s (fun t =>
    t = { State.reset with pending := s.pending, nv := t.nv, freeCtr := t.freeCtr } ∧
    (s.nv.writing = none → t.nv = s.nv) ∧ t.nv.seal0 = s.nv.seal0 ∧ t.nv.seal1 = s.nv.seal1 ∧ t.nv.ckpt0 = s.nv.ckpt0 ∧
    t.nv.ckpt1 = s.nv.ckpt1 ∧ t.nv.events = s.nv.events ∧ t.nv.fuses = s.nv.fuses))

/-- R75, R76, R79: the park criterion, held for its dwell, and, from RUN or PARK, the ship criterion begin their shut-downs; a ship shut-down
needs SHIP_N seen high. The model's choice in it: ship from PARK (log entry 32), and what happens in the step of the park criterion (log
entry 40). -/
def Obligations.ParkAndShipBeginTheirShutDowns : Prop :=
  (∀ (s : State) (ok : Bool) (at_ from_ : Ns), s.sup.dev = .run → s.rounds = true → s.sup.parkCheck = false →
    s.decides = true → s.pace.lock = .idle → s.shuntsBelow s.img.f.supply.parkIMax = true → s.res.ledger = [] → s.strap.maint = false →
    s.sup.vchg = false → s.res.path = .vehicle → s.sup.parkFrom = some from_ →
    from_ + s.img.f.supply.parkDwell * 1000000000 ≤ at_ →
    Completes (.parkCriterion ok at_) s (fun t =>
      t.sup.dev = .grace ∧ t.sup.shut = some ⟨.park, at_, false, false, false, none, false, s.sup.parkCheck⟩ ∧
      t.sup.parkOwner = true ∧ t.now = max s.now at_ ∧ t.cycleOn = false ∧ t.pending = s.pending ∧ Fuses.Forward s.nv.fuses t.nv.fuses ∧
      t.strap = s.strap ∧ t.code = s.code ∧ t.pace = s.pace ∧ t.res = s.res ∧ t.own = s.own)) ∧
  (∀ (s : State) (at_ : Ns), s.sup.shipSeenHigh = true → s.sup.dev = .run → s.rounds = true →
    (s.decides = true ∨ s.sup.parkCheck = true) → s.pace.lock = .idle → s.res.ledger = [] →
    Completes (.shipCriterion at_) s (fun t =>
      t.sup.dev = .grace ∧ t.sup.shut = some ⟨.ship, at_, false, false, false, none, false, s.sup.parkCheck⟩ ∧
      t.now = max s.now at_ ∧ t.cycleOn = false ∧ t.fixed = s.fixed ∧ t.pace = s.pace ∧ t.res = s.res ∧ t.own = s.own)) ∧
  (∀ (s : State) (at_ : Ns), s.sup.shipSeenHigh = true → s.sup.dev = .park →
    Completes (.shipCriterion at_) s (fun t =>
      t.sup = { s.sup with dev := .seal, shut := some ⟨.ship, at_, true, true, false, none, false, false⟩ } ∧
      t.bufs.newest = s.bufs.newest ∧
      (t.bufs.writing.map fun x => (x.kind, x.t, x.buf)) = (s.bufs.newest.map fun b => (SealKind.ship, at_, b)) ∧
      t = { s with now := max s.now at_, sup := t.sup, bufs := t.bufs, nv := t.nv, freeCtr := t.freeCtr } ∧ t.fixed = s.fixed)) ∧
  (∀ s : State, s.sup.dev ≠ .off → s.sup.dev ≠ .ship →
    Completes .shipNHigh s (fun t => t = { s with sup := { s.sup with shipSeenHigh := true } }))

/-- R76 to R80: a wake cause in PARK, the park timer of the seat that was owner, and VCHG_DET in SHIP set a warm resume of their kind; a wake
cause in the freeze or seal of a park shut-down is kept for its end; the end of a park check goes back to PARK through GRACE. -/
def Obligations.WakesAndParkChecks : Prop :=
  (∀ (s : State) (c : WakeCause) (at_ : Ns), s.sup.dev = .park →
    Completes (.wakeCause c at_) s (fun t => t = { s with now := max s.now at_, sup := { s.sup with resume := some .parkWake } })) ∧
  (∀ (s : State) (c : WakeCause) (at_ : Ns) (h : Shutdown), s.sup.dev = .seal → s.sup.shut = some h → h.kind = .park →
    Completes (.wakeCause c at_) s (fun t =>
      t = { s with now := max s.now at_, sup := { s.sup with shut := some { h with wake := some c } } })) ∧
  (∀ (s : State) (c : WakeCause) (at_ : Ns) (h : Shutdown), s.sup.dev = .grace → s.sup.shut = some h → h.kind = .park →
    h.frozen = false → Completes (.wakeCause c at_) s (fun t =>
      t.sup.dev = .run ∧ t.sup.shut = none ∧ t.sup.parkCheck = s.sup.parkCheck ∧ t.sup.aborts = s.sup.aborts ∧
      t.flt.stands 0x120 0 = true ∧ t.fixed = s.fixed)) ∧
  (∀ (s : State) (c : WakeCause) (at_ : Ns), s.sup.dev = .run → s.sup.parkCheck = true →
    Completes (.wakeCause c at_) s (fun t =>
      t = { s with now := max s.now at_, sup := { s.sup with checkWake := true }, thr := t.thr, pat := t.pat, flt := t.flt } ∧
      ((∀ r ∈ s.thr.rings, r.test = none) → t.thr = s.thr ∧ t.pat = s.pat ∧ t.flt = s.flt) ∧
      ((∃ r ∈ s.thr.rings, r.test ≠ none) → t.pat.testing = none ∧ t.flt.stands 0x411 0 = true))) ∧
  (∀ (s : State) (at_ : Ns), s.sup.dev = .park → s.sup.parkOwner = true → s.sup.resume = none →
    s.sup.parkTimerFrom + s.img.f.supply.checkInterval * 3600000000000 ≤ at_ →
    Completes (.parkTimer at_) s (fun t => t = { s with now := max s.now at_, sup := { s.sup with resume := some .parkCheck } })) ∧
  (∀ (s : State) (at_ : Ns), s.sup.dev = .run → s.sup.parkCheck = true → s.sup.checkRounds = 0 → s.sup.checkWake = false →
    Completes (.parkCheckEnd at_) s (fun t =>
      t.sup = { s.sup with dev := .grace, shut := some ⟨.parkCheckEnd, at_, false, false, false, none, false, true⟩ } ∧
      t.own = { s.own with parkItems := s.parkResults } ∧ t.fixed = s.fixed)) ∧
  (∀ (s : State) (at_ : Ns), s.sup.dev = .ship →
    Completes (.shipExit at_) s (fun t => t = { s with now := max s.now at_, sup := { s.sup with resume := some .ship } }))

/-- R46, R82, R93: an active edge on PACE_IN becomes the last qualified edge, and a tracking PLL finds it valid within a quarter of the
predicted period in an admitted band, bad otherwise; the other edge of the signal does nothing; pace loss freezes the PLL after 1.5
predicted periods; HOLD ends on the crystal idle pace. The model's choice in it: the order of HOLDOVER_END and the next boundary (log
entry 44). -/
def Obligations.PaceInputIsJudged : Prop :=
  (∀ (s : State) (at_ : Ns), s.paceIn = true →
    Completes (.paceEdge ⟨s.code.paceRising, at_⟩) s (fun t =>
      t = { s with pace := t.pace, now := max s.now at_ } ∧ t.pace.lastQualified = some at_ ∧ t.pace.opening = false ∧
      t.pace.lock = s.pace.lock ∧ t.pace.round = s.pace.round ∧ t.pace.stitch = s.pace.stitch ∧
      (∀ q v, s.pace.opening = false → s.pace.lastQualified = some q → at_ - q < 25000000 → s.pace.tracking = true →
        s.pace.lastValid = some v →
        let d := (at_ - v) * 1000
        let good := (paceBand d).any (paceAdmits s.code.pace) = true ∧ 3 * s.pace.periodPs ≤ 4 * d ∧ 4 * d ≤ 5 * s.pace.periodPs
        (good → t.pace.lastValid = some at_ ∧ t.pace.badWindow = s.pace.badWindow) ∧
        (¬ good → t.pace.lastValid = some v ∧ t.pace.badWindow = s.pace.badWindow + 1 ∧ t.pace.badRound = true))) ∧
    Completes (.paceEdge ⟨!s.code.paceRising, at_⟩) s (fun t => t = s)) ∧
  (∀ (s : State) (at_ v : Ns), s.paceIn = true → s.pace.tracking = true → s.pace.lastValid = some v →
    3 * s.pace.periodPs ≤ 2 * ((at_ - v) * 1000) →
    Completes (.paceLoss at_) s (fun t =>
      t = { s with
        now := max s.now at_
        pace := { s.pace with
          lossPending := true, resumePending := false, opening := true, acqCount := 0, acqSum := 0, acquired := none
          ratioNext := none } })) ∧
  (∀ s : State, s.pace.lock = .hold → s.pace.holdLeft = 0 → s.pace.resumePending = false →
    Completes .holdoverEnd s (fun t =>
      t = { s with pace := { s.pace with
        lock := .idle, source := none, ratio := none, phase := 0, lossPending := false, ratioNext := none, locked := false
        lockCount := 0, heldEnd := some (s.pace.startPs + s.pace.heldPs) } }))

/-- R90, R98, R100: at stitch 0 the round number increments, or takes a greater one projected from a BEAT; the idle pace is 100,000 ticks; a
debounced MAINT takes effect. In SEAL the grid alone runs on. A later stitch follows the one before, an equal part of a round whose length
is known. The model's choice in it: the grid in SEAL (log entry 124), the PLL operands (log entries 41 and 153). -/
def Obligations.RoundsAndStitchesFollow : Prop :=
  (∀ (s : State) (x : RoundIn), s.pace.running = true → s.pace.stitch = 63 → (s.sup.dev = .run ∨ s.sup.dev = .grace) →
    Completes (.roundStart x) s (fun t =>
      s.pace.round + 1 ≤ t.pace.round ∧ ((∀ v ∈ s.own.views, v.heard = false) → t.pace.round = s.pace.round + 1) ∧
      t.pace.stitch = 0 ∧ t.pace.prevStart = s.pace.start ∧ t.pace.startPs = s.pace.boundary x.pll.t ∧
      t.sup.resumeInPlace = false ∧ t.strap.maint = s.strap.maintNext.getD s.strap.maint ∧ t.fixed = s.fixed)) ∧
  (∀ (s : State) (x : RoundIn), s.pace.running = true → s.pace.stitch = 63 → s.sup.dev = .seal →
    Completes (.roundStart x) s (fun t =>
      t = { s with pace := t.pace, flt := t.flt } ∧ SameFaults [0x203, 0x204, 0x205, 0x206] s t ∧ t.pace.round = s.pace.round + 1 ∧ t.pace.stitch = 0 ∧
      t.pace.startPs = s.pace.boundary x.pll.t)) ∧
  (∀ (p : Pace) (pll : Ns), p.lock = .idle → p.heldEnd = none → p.idleAdjust = 0 → p.boundary pll = p.startPs + 1000000000) ∧
  (∀ (p : Pace) (pll : Ns), (p.lock = .idle ∨ p.lock = .hold ∨ p.lock = .transition) →
    p.nextStitch pll = p.startPs + (p.stitch + 1) * p.lengthPs / 64) ∧
  (∀ (s : State) (x : StitchIn), s.rounds = true → s.pace.stitch < 63 →
    Completes (.stitchStart x) s (fun t =>
      t.pace.stitch = s.pace.stitch + 1 ∧ t.pace.stitchAt = s.pace.nextStitch x.t / 1000 ∧ t.pace.round = s.pace.round ∧
      t.strap = s.strap.maintSample x.levels.maint ∧ t.fixed = s.fixed))

/-- R36, R37, R43: straps and codes are checked in operation, in their rounds, without a change of what is latched: two differing results
raise 0x961 or 0x950 + i and two agreeing ones clear it; 64 differing samples of MAINT wait for the boundary. -/
def Obligations.StrapsAndCodesAreChecked : Prop :=
  (∀ (s : State) (x : StrapLevels), s.rounds = true → s.pace.round % 1000 = 999 →
    Completes (.strapResample x) s (fun t =>
      t = { s with strap := s.strap.resample x, flt := t.flt } ∧ SameFaults [0x961] s t ∧
      ∀ k, (2 ≤ (t.strap.streak k).differ → t.flt.stands 0x961 (strapDetail k) = true) ∧
        (2 ≤ (t.strap.streak k).agree → s.allListed → t.flt.stands 0x961 (strapDetail k) = false))) ∧
  (∀ (s : State) (i sum n : Nat), s.rounds = true → i < 8 → s.pace.round % 1000 = 125 * i → s.code.level i = some n →
    let k := (s.code.streaks.getD i ⟨0, 0⟩).step (readCode i sum == some n)
    Completes (.codeReread i sum) s (fun t =>
      t = { s with code := { s.code with streaks := s.code.streaks.set i k }, flt := t.flt } ∧ SameFaults [0x950 + i] s t ∧
      (2 ≤ k.differ → t.flt.stands (0x950 + i) 0 = true) ∧
      (2 ≤ k.agree → s.allListed → t.flt.stands (0x950 + i) 0 = false))) ∧
  (∀ s : State, 64 ≤ s.strap.maintRun → s.strap.maintLast ≠ s.strap.maint →
    Completes .maintChange s (fun t => t = { s with strap := { s.strap with maintNext := some s.strap.maintLast } }))

/-- R106, R111, R126, R133: in the last three stitches SNAP for the coming round leaves from each end that sends it, once on every ring, with
the oldest violation report of the ring from the head. R126, R145, R158: a valid SNAP from the far end marks the head as seen at the tail,
and raises fault 0x308 at the head; one that has crossed a mapped-out link is discarded, and one with a violation or a wrong CRC counts at
its port. The third equal count of hops in a turn judges the ring's length with fault 0x404. The model's choice in it: three equal counts
of hops (log entry 156). -/
def Obligations.SnapsLeaveAndAreJudged : Prop :=
  (∀ s : State, s.rounds = true → 61 ≤ s.pace.stitch → (s.thr.rings.map fun r => r.port).Nodup →
    Completes .snapSend s (fun t =>
      t = { s with thr := { s.thr with rings := t.thr.rings } } ∧
      ∀ r ∈ s.thr.rings,
        let sends (e : RingEnd) : Bool := s.ownEnds.contains e && s.sendsSnap r e
        let frame (e : RingEnd) : List Byte :=
          if sends e then snapFrame e (s.pace.round + 1) (if s.acts && e == s.headEnd then r.naks.head? else none) else []
        (r.snapFor ≠ some (s.pace.round + 1) → t.ring r.port = some { r with
          snapA := frame .a, snapB := frame .b, snapFor := some (s.pace.round + 1)
          naks := if s.acts && sends s.headEnd then r.naks.tail else r.naks }) ∧
        (r.snapFor = some (s.pace.round + 1) → t.ring r.port = some r))) ∧
  (∀ (s : State) (x : ThreadRx) (port : Nat) (e : RingEnd), s.portEnd x.port = some (port, e) → s.rounds = true →
    s.threadOn x.port = true →
    let bad := countsAsError sofS x (!(rxFramed sofS x && decide ((rxBytes x).length = 9)))
    let hops := byteAt (rxBytes x) 1 % 32
    (snapValid x = false → bad = true → Completes (.snapReceived x) s (fun t =>
      t = { s with thr := { s.thr with ports := updWhere (fun p => p.port == x.port) (fun p => { p with crc := p.crc + 1 }) s.thr.ports }
                   flt := t.flt } ∧ SameFaults [0x309] s t)) ∧
    (snapValid x = true → s.split port = false → decide (128 ≤ byteAt (rxBytes x) 0) = (e == RingEnd.a) →
      ((s.acts = true ∧ e = s.headEnd) →
        Completes (.snapReceived x) s (fun t =>
          t.flt.stands 0x308 (portDetail x.port) = true ∧ SameFaults [0x308] s t ∧
          t = { s with thr := { s.thr with
            ports := updWhere (fun p => p.port == x.port) (fun p => { p with foreignRound := some s.pace.round }) s.thr.ports }
                       flt := t.flt })) ∧
      (¬ (s.acts = true ∧ e = s.headEnd) →
        Completes (.snapReceived x) s (fun t =>
          t = { s with thr := { s.thr with rings := t.thr.rings }, pat := { s.pat with passed := t.pat.passed }, flt := t.flt } ∧
          SameFaults [0x404] s t ∧
          (t.ring port).map (fun r => (r.headSeen, r.hopsLast)) = (s.ring port).map (fun _ => (true, hops)) ∧
          (∀ r, t.ring port = some r → 3 ≤ r.hopsRun → s.pat.turn.isSome = true → hops ≠ s.ringLen port →
            t.flt.stands 0x404 (portDetail port) = true ∧ t.pat.passed = false)))) ∧
    (snapValid x = true → s.split port = true → Completes (.snapReceived x) s (fun t => t = s)))

/-- R29, R100, R116, R117, R383: at the start of stitch 1, once in a round and outside a test window, the tail sends what the owner relayed
and then the return token; the head sends its token, with no command where the ring does not fit the round. R118, R119, R134: a READ of
the present round, valid, in order and in time, is kept as the copy of its end; the second equal copy is accepted, so that its node is
heard and its epoch taken, and two that differ are both discarded, with violation 0x2B; one after stitch 40, or in stitch 0, raises fault
0x307; one with a wrong CRC counts at its port. The model's choice in it: a READ in stitch 0 (log entry 137), and when the copies are
settled (log entry 162). -/
def Obligations.TokensAndReads : Prop :=
  (∀ s : State, s.rounds = true → s.attached = true → s.pace.stitch = 1 → s.pat.turn ≠ some s.seat →
    (s.thr.rings.map fun r => r.port).Nodup →
    Completes .tokenSend s (fun t =>
      (s.isHead = false → t = { s with thr := t.thr }) ∧ t.thr.ports = s.thr.ports ∧ t.fixed = s.fixed ∧ t.pace = s.pace ∧
      ∀ r ∈ s.thr.rings, r.outToken = false → r.returnToken = false →
        let stopped := r.inWindow = true ∨ s.threadOn r.port = false ∨ s.own.cut = true ∨ s.own.unaligned = true
        (stopped → t.ring r.port = some { r with sent := [] }) ∧
        (¬ stopped → s.isHead = false → t.ring r.port = some { r with sent := r.relay, relay := [], returnToken := true }) ∧
        (¬ stopped → s.isHead = true → s.commandRound (s.ringLen r.port) = false →
          t.ring r.port = some { r with sent := [], viaTail := [], outToken := true, returnToken := !s.twoSeats }))) ∧
  (∀ (s : State) (x : ReadRx) (port : Nat) (e : RingEnd), s.portEnd x.rx.port = some (port, e) → s.rounds = true →
    s.threadOn x.rx.port = true → x.skippedAt = none → x.abortedAt = none → x.commands = [] → s.pat.turn ≠ some s.seat →
    let l := rxBytes x.rx
    let pos := byteAt l 0 % 32
    let id := nodeId port pos
    let sound := rxValid x.rx 43 = true ∧ byteAt l 0 / 64 = 0 ∧ pos < s.ringLen port ∧ s.blocked port pos e = false
    (∀ n r, sound → s.node id = some n → s.ring port = some r → (if e = .a then n.copyA else n.copyB) = none →
      0 < s.pace.stitch → s.pace.stitch ≤ 40 → inOrder e (if e = .a then r.lastAtA else r.lastAtB) pos = true →
      byteAt l 1 = s.pace.round % 256 →
      let other := if e = .a then n.copyB else n.copyA
      Completes (.readReceived x) s (fun t =>
        (t.node id).map (fun m => if e = .a then m.copyA else m.copyB) = some (some (l.take 40)) ∧
        (other = none → (t.node id).map (fun m => (m.heard, m.epoch)) = some (n.heard, n.epoch)) ∧
        (∀ o, other = some o → readBody o = readBody (l.take 40) → n.heard = false → n.differed = false →
          (t.node id).map (fun m => (m.heard, m.missed, m.epoch)) = some (true, 0, some (byteAt l 2 / 16))) ∧
        (∀ o, other = some o → readBody o ≠ readBody (l.take 40) →
          (t.node id).map (fun m => (m.heard, m.differed, m.violations)) = some (false, true, n.violations + 1)) ∧
        t.fixed = s.fixed ∧ t.pace = s.pace ∧ t.acq = s.acq)) ∧
    (sound → s.pace.stitch = 0 ∨ 40 < s.pace.stitch → Completes (.readReceived x) s (fun t =>
      t.flt.stands 0x307 (portDetail x.rx.port) = true ∧ SameFaults [0x307] s t ∧
      t = { s with thr := { s.thr with
              ports := updWhere (fun p => p.port == x.rx.port) (fun p => { p with lateRound := some s.pace.round }) s.thr.ports }
                   flt := t.flt })) ∧
    (rxValid x.rx l.length = false → countsAsError sofN x.rx (crcRight l) = true → Completes (.readReceived x) s (fun t =>
      t = { s with thr := { s.thr with
              ports := updWhere (fun p => p.port == x.rx.port) (fun p => { p with crc := p.crc + 1 }) s.thr.ports }
                   flt := t.flt } ∧ SameFaults [0x309] s t)))

/-- R131, R135: fault 0x302 for a command whose retries are spent, a fresh sending of it after 100 rounds with a new number, and fault 0x301
for a node not heard for three rounds, whose cells leave the training active set. R126, R134: the tail reverses a ring whose head is not
heard, with fault 0x304, and gives it back after 16 rounds; at the end of a window every violation count and port count starts again, and
a port above its limit has fault 0x309. The model's choice in it: spent commands (log entry 133). -/
def Obligations.CommandsNodesAndRings : Prop :=
  (∀ (s : State) (id : NodeId) (n : Node), s.node id = some n → (s.thr.nodes.map fun m => m.id).Nodup →
    let put (f : Node → Node) : Threads := { s.thr with nodes := updWhere (fun m => m.id == id) f s.thr.nodes }
    (∀ c, n.cmd = some c → n.identCmd = none → c.spent s.img.f.thread.cmdRetries s.pace = true → s.acts = true →
      Completes (.commandRetriesSpent id) s (fun t =>
        t = { s with thr := put fun m => { m with cmd := none, spent := m.spent ++ [{ c with faulted := true }] }, flt := t.flt } ∧
        t.flt.stands 0x302 (nodeDetail id) = true ∧ SameFaults [0x302] s t)) ∧
    (∀ c rest, n.spent = c :: rest → c.due = false → s.acts = true → c.sentRound + 100 ≤ s.pace.round → n.cmd ≠ some c →
      n.identCmd ≠ some c → c ∉ rest →
      Completes (.commandResend id) s (fun t =>
        t = { s with thr := { s.thr with nodes := t.thr.nodes } } ∧
        let q := (n.seqCtr + 1) % 128
        t.node id = some { n with
          seqCtr := q, ownSent := true, spent := { c with seq := q, epoch := n.epoch.getD 15, due := true, free := true } :: rest })) ∧
    (3 ≤ n.missed → n.lost = false →
      Completes (.nodeLost id) s (fun t =>
        t = { s with thr := put fun m => { m with lost := true, epoch := none }, trn := t.trn, flt := t.flt } ∧
        (∀ v, s.img.variant = some v → t.trn = (s.leaveActive fun k => (v.nodeCells id).contains k).trn) ∧
        t.flt.stands 0x301 (nodeDetail id) = true ∧ SameFaults [0x301] s t))) ∧
  ((∀ (s : State) (port : Nat) (r : Ring), s.ring port = some r → s.rounds = true → s.attached = true →
    (s.twoSeats = false ∨ s.acts = false) → r.reversed = false → r.headSeen = false → r.inWindow = false →
    Completes (.ringReversal port) s (fun t =>
      t = { s with thr := { s.thr with rings := t.thr.rings }, flt := t.flt } ∧
      t.ring port = some { r with
        reversed := true, headRun := 0
        missedRound := some (if 60 ≤ s.pace.stitch then s.pace.round + 1 else s.pace.round) } ∧
      t.flt.stands 0x304 (portDetail port) = true ∧ SameFaults [0x304] s t)) ∧
  (∀ (s : State) (port : Nat) (r : Ring), s.ring port = some r → r.reversed = true → 16 ≤ r.headRun →
    (∀ m ∈ s.nv.mapOuts, m.1 ≠ port) →
    Completes (.reversalEnd port) s (fun t =>
      t = { s with thr := { s.thr with rings := t.thr.rings }, flt := t.flt } ∧
      t.ring port = some { r with reversed := false, headRun := 0 } ∧
      (s.allListed → t.flt.stands 0x304 (portDetail port) = false) ∧ SameFaults [0x304] s t)) ∧
  (∀ s : State, (s.thr.ports.map fun p => p.port).Nodup → s.thr.window ≠ s.pace.round / 1000 →
    Completes .violationWindowEnd s (fun t =>
      t = { s with thr := { s.thr with nodes := t.thr.nodes, ports := t.thr.ports, window := s.pace.round / 1000 }, flt := t.flt } ∧
      (∀ n ∈ t.thr.nodes, n.violations = 0) ∧ t.thr.ports = s.thr.ports.map (fun p => { p with crc := 0 }) ∧
      (∀ p ∈ s.thr.ports, s.img.f.thread.crcLimit < p.crc → t.flt.stands 0x309 (portDetail p.port) = true) ∧
      SameFaults [0x306, 0x309] s t)))

/-- R146, R148, R163: an IDENT response classifies its node (Table 6-3), with fault 0x405 for FOREIGN and 0x408 for MISFIT; a response that
does not come makes the node MISSING with fault 0x407 in a pattern check, and is a violation in RUN. R132, R149, R150: an ECHO request is
the one outstanding on its ring; its reply gives a round trip, in RUN one of the last eight of the node; one without a reply in 45 µs is
lost. The model's choice in it: the attempt number in the tag of an ECHO (log entry 157). -/
def Obligations.NodesAreIdentifiedAndTimed : Prop :=
  ((∀ (s : State) (x : ThreadRx) (id : NodeId) (n : Node) (p : PatNode), s.identFrame x = some id → s.node id = some n →
    s.patNode id = some p →
    let l := rxBytes x
    let ident := beNat ((l.drop 2).take 8)
    let c := classify p ident (byteAt l 10 * 256 + byteAt l 11) (byteAt l 14 % 16 + 1) (byteAt l 14 / 16) (byteAt l 13)
    Completes (.identResponse x) s (fun t =>
      (t.node id).map (fun m => (m.identity, m.cls, m.identSent, m.newEpoch)) = some (some ident, c, none, false) ∧
      (c = .foreign → t.flt.stands 0x405 (nodeDetail id) = true) ∧ (c = .misfit → t.flt.stands 0x408 (nodeDetail id) = true) ∧
      t.fixed = s.fixed ∧ t.pace = s.pace ∧ t.acq = s.acq)) ∧
  (∀ (s : State) (id : NodeId) (n : Node) (r : Round), s.node id = some n → n.identSent = some r → r + 3 ≤ s.pace.round →
    Completes (.identTimeout id) s (fun t =>
      t.fixed = s.fixed ∧ t.pace = s.pace ∧ (t.node id).map (fun m => m.identSent) = some none ∧
      (s.pat.turn ≠ none → (t.node id).map (fun m => m.cls) = some .missing ∧ t.flt.stands 0x407 (nodeDetail id) = true) ∧
      (s.pat.turn = none → (t.node id).map (fun m => m.violations) = some (n.violations + 1))))) ∧
  ((∀ (s : State) (x : EchoTx) (r : Ring) (n : Node), s.ring (nodePort x.node) = some r → s.node x.node = some n →
    41 ≤ s.pace.stitch → s.pace.stitch ≤ 60 → s.ownEnds.contains x.ringEnd = true → s.acts = true → s.rounds = true →
    s.threadOn (nodePort x.node) = true → r.inWindow = false → n.quarantined = false → r.echoOut = none →
    s.own.cut = false → s.blocked (nodePort x.node) (nodePos x.node) x.ringEnd = false →
    let turn := s.pat.turn = some s.seat
    let e := n.echo x.ringEnd
    ((turn ∧ s.pat.turnStart + 3 ≤ s.pace.round ∧ e.done = false ∧ e.failed = false ∧ e.sent < 16 ∧ r.echoCount < 4) ∨
      (s.pat.turn = none ∧ r.echoCount < 1 ∧ x.ringEnd = s.headEnd ∧ s.echoTurn r = some x.node)) →
    Completes (.echo x) s (fun t =>
      t = { s with now := max s.now x.t, thr := { s.thr with rings := t.thr.rings, nodes := t.thr.nodes } } ∧
      (t.ring (nodePort x.node)).map (fun q => (q.echoOut, q.echoCount)) = some
        (some (x.node, x.ringEnd, 256 * nodePos x.node + (if s.pat.turn = none then 0 else e.sent + 1), x.t), r.echoCount + 1) ∧
      (t.node x.node).map (fun m => m.seqCtr) = some ((n.seqCtr + 1) % 128))) ∧
  (∀ (s : State) (x : ThreadRx) (port : Nat) (e : RingEnd) (r : Ring) (id : NodeId) (n : Node) (tag : Nat) (t0 : Ns),
    s.portEnd x.port = some (port, e) → s.rounds = true → s.threadOn x.port = true → rxValid x 6 = true → byteAt (rxBytes x) 0 / 64 = 2 →
    s.ring port = some r → r.echoOut = some (id, e, tag, t0) → s.node id = some n → nodePort id = port →
    byteAt (rxBytes x) 0 % 32 = nodePos id → byteAt (rxBytes x) 1 * 256 + byteAt (rxBytes x) 2 = tag → x.t ≤ t0 + 45000 →
    s.blocked port (nodePos id) e = false →
    Completes (.echoReply x) s (fun t =>
      t.now = max s.now x.t ∧ (t.ring port).map (fun q => q.echoOut) = some none ∧ t.fixed = s.fixed ∧ t.pace = s.pace ∧
      (s.pat.turn = none →
        t = { s with now := t.now, thr := t.thr, flt := t.flt } ∧
        (t.node id).map (fun m => m.runTrips) = some (((x.t - t0) :: n.runTrips).take 8)) ∧
      (s.pat.turn = some s.seat → (n.echo e).replies.length < 7 → (n.echo e).sent < 16 →
        (t.node id).map (fun m => (m.echo e).replies) = some ((n.echo e).replies ++ [x.t - t0])))) ∧
  (∀ (s : State) (port : Nat) (at_ : Ns) (r : Ring) (id : NodeId) (e : RingEnd) (tag : Nat) (t0 : Ns), s.ring port = some r →
    r.echoOut = some (id, e, tag, t0) → t0 + 45000 ≤ at_ →
    Completes (.echoTimeout port at_) s (fun t =>
      t.now = max s.now at_ ∧ (t.ring port).map (fun q => q.echoOut) = some none ∧ t.fixed = s.fixed ∧ t.pace = s.pace)))

/-- R152, R154: a test window opens on a ring, the BERTs leave in their order in stitches 41 to 60, an interval starts and ends, and its
counts, or a node's report, are kept until every link has its verdict. R155, R156, R161: an installation test in a cold boot with INSTALL
honoured once the turns are done, a periodic test due after its interval and overdue with fault 0x413 after twice that, and a re-test
under MAINT on the idle pace, once for each assertion. The model's choice in it: which seat judges which port (log entry 163). -/
def Obligations.LinkTestsRunAndFallDue : Prop :=
  ((∀ (s : State) (port : Nat) (kind : TestKind) (r : Ring), s.rounds = true → s.attached = true → s.ring port = some r →
    s.pat.testing = some kind ∨ (s.pat.testing = none ∧ kind = .periodic ∧ s.periodicNow = true) →
    Completes (.linkTestStart port kind) s (fun t =>
      t = { s with thr := { s.thr with rings := t.thr.rings, nodes := t.thr.nodes }, pat := { s.pat with testing := some kind } } ∧
      (r.test = none → t.ring port = some { r with
        test := some ⟨kind, s.pace.round, s.testD kind, 0, [], 0, [], false, none⟩ }) ∧
      (r.test ≠ none → t.ring port = some r))) ∧
  (∀ (s : State) (port : Nat) (r : Ring) (x : LinkTest) (n : Node), s.ring port = some r → r.test = some x → s.acts = true →
    s.rounds = true → s.threadOn port = true → 41 ≤ s.pace.stitch → s.pace.stitch ≤ 60 → x.start + x.berts < s.pace.round →
    x.berts < 2 * s.ringLen port → x.closeRound = none → x.interrupted = false → s.own.cut = false →
    let b := bertTarget (s.ringLen port) x.berts
    s.node (nodeId port b.1) = some n →
    Completes (.bert port) s (fun t =>
      t = { s with thr := { s.thr with rings := t.thr.rings, nodes := t.thr.nodes } } ∧
      (t.ring port).map (fun q => q.test) = some (some { x with
        berts := x.berts + 1, running := x.running ++ [.node b.1 b.2] }))) ∧
  (∀ (s : State) (port : Nat) (e : RingEnd) (r : Ring) (x : LinkTest), s.ring port = some r → r.test = some x →
    (if e = s.headEnd then 2 * s.ringLen port ≤ x.berts else 1 ≤ x.berts) → s.ownEnds.contains e = true →
    x.running.contains (.port e) = false → s.rounds = true → s.threadOn port = true → s.own.cut = false → x.interrupted = false →
    x.closeRound = none →
    Completes (.prbs31Start port e) s (fun t =>
      t = { s with thr := { s.thr with rings := t.thr.rings } } ∧
      t.ring port = some { r with test := some { x with running := x.running ++ [.port e] } })) ∧
  (∀ (s : State) (x : PrbsEnd) (r : Ring) (y : LinkTest), s.ring x.ring = some r → r.test = some y → y.running.contains x.at_ = true →
    let left := y.running.filter fun p => !(p == x.at_)
    let k := s.ringLen x.ring
    Completes (.prbs31End x) s (fun t =>
      t = { s with now := max s.now x.t, thr := { s.thr with rings := t.thr.rings } } ∧
      t.ring x.ring = some { r with test := some { y with
        running := left, ended := y.ended + 1
        results := (match x.at_ with
          | .port e => y.results ++ [((checkerOf k (.port e)).1, (checkerOf k (.port e)).2, x.bits, x.errors)]
          | .node _ _ => y.results)
        closeRound := if (y.interrupted = true ∨ 2 * k ≤ y.berts) ∧ left = [] then some (s.pace.round + 2 * k + 1) else none } })) ∧
  (∀ (s : State) (x : ThreadRx) (port : Nat) (e : RingEnd) (r : Ring) (y : LinkTest), s.portEnd x.port = some (port, e) →
    s.rounds = true → s.threadOn x.port = true → rxValid x 13 = true → byteAt (rxBytes x) 0 / 64 = 3 → s.ring port = some r →
    r.test = some y → y.closeRound = none →
    let c := checkerOf (s.ringLen port) (.node (byteAt (rxBytes x) 0 % 32) (if byteAt (rxBytes x) 1 = 0 then .a else .b))
    (∀ z ∈ y.results, (z.1, z.2.1) ≠ c) →
    let last := if e = .a then r.lastAtA else r.lastAtB
    last = some (byteAt (rxBytes x) 0 % 32) ∨ inOrder e last (byteAt (rxBytes x) 0 % 32) = true →
    Completes (.bertReport x) s (fun t =>
      t = { s with thr := { s.thr with rings := t.thr.rings } } ∧
      t.ring port = some { r with test := some { y with results :=
        y.results ++ [(c.1, c.2, beNat (((rxBytes x).drop 2).take 4), beNat (((rxBytes x).drop 6).take 4))] } }))) ∧
  ((∀ s : State, s.installHonoured = true → s.attached = true → s.rounds = true → s.sup.bootKind = .cold → s.pat.installDone = false →
    s.turnsOver = true →
    Completes .installationTest s (fun t =>
      t = { s with thr := { s.thr with rings := t.thr.rings, nodes := t.thr.nodes }
                   pat := { s.pat with testing := some .installation, verdicts := [] } } ∧
      t.thr.rings.all (fun r => r.test.isSome) = true)) ∧
  (∀ s : State, s.img.f.pattern.periodicInterval * hourTicks ≤ s.pat.runTicks →
    Completes .periodicTestDue s (fun t => t = { s with pat := { s.pat with periodicDue := true } })) ∧
  (∀ s : State, 2 * (s.img.f.pattern.periodicInterval * hourTicks) ≤ s.pat.runTicks →
    Completes .periodicTestOverdue s (fun t =>
      t = { s with flt := t.flt } ∧ t.flt.stands 0x413 0 = true ∧ SameFaults [0x413] s t)) ∧
  (∀ s : State, s.rounds = true → s.sup.dev = .run → s.attached = true → s.strap.maint = true → s.pat.retestDone = false →
    s.pat.testing = none → s.pace.lock = .idle → s.shuntsBelow s.img.f.supply.parkIMax = true → s.res.ledger = [] →
    Completes .maintenanceRetest s (fun t =>
      t = { s with
        thr := { s.thr with rings := t.thr.rings, nodes := t.thr.nodes }
        pat := { s.pat with testing := some .maintenance, verdicts := [], retestDone := true } } ∧
      t.thr.rings.all (fun r => r.test.isSome) = true)))

/-- R170 to R173, R185: a sample adds 125 µs of its current to the count of each channel that is powered and fitted; the pack count takes the
mean of the shunts in use, or the one in use. R174, R185: RANGE for 10 ms is the full-scale fault of its channel. The model's choice in
it: rounding to the nearest mA (log entry 57). -/
def Obligations.ShuntsCountAndSaturate : Prop :=
  (∀ (s : State) (x : ShuntSample),
    let f := s.img.f.acq
    let ia := shuntMA x.a f.rA f.invertA
    let ib := shuntMA x.b f.rB f.invertB
    let useA := s.acq.ishA.counts f.rA (fullScale x.a)
    let useB := s.acq.ishB.counts f.rB (fullScale x.b)
    Completes (.shuntSample x) s (fun t =>
      t = { s with
        now := max s.now x.t
        acq := { s.acq with ishA := t.acq.ishA, ishB := t.acq.ishB, packCount := t.acq.packCount, store := t.acq.store } } ∧
      (s.domainOn 2 = true →
        (f.rA ≠ 0 → t.acq.ishA.count = s.acq.ishA.count + 125 * ia) ∧ (f.rB ≠ 0 → t.acq.ishB.count = s.acq.ishB.count + 125 * ib) ∧
        (useA = true → useB = true → t.acq.packCount = s.acq.packCount + (125 * ia + 125 * ib) / 2) ∧
        (useA = true → useB = false → t.acq.packCount = s.acq.packCount + 125 * ia) ∧
        (useA = false → useB = true → t.acq.packCount = s.acq.packCount + 125 * ib) ∧
        (useA = false → useB = false → t.acq.packCount = s.acq.packCount)) ∧
      (s.domainOn 2 = false →
        t.acq.ishA = s.acq.ishA ∧ t.acq.ishB = s.acq.ishB ∧ t.acq.packCount = s.acq.packCount) ∧
      (s.sup.p1 = true → t.acq.store.count = s.acq.store.count + 125 * shuntMA x.store s.acq.siHeld false) ∧
      (s.sup.p1 = false → t.acq.store = s.acq.store))) ∧
  (∀ (s : State) (at_ t0 : Ns), t0 + 10000000 ≤ at_ →
    (s.acq.ishA.rangeSince = some t0 → Completes (.shuntRangeSensor .a at_) s (fun t =>
      t = { s with
        now := max s.now at_, acq := { s.acq with ishA := { s.acq.ishA with sensor := true, clean := 0 } }, flt := t.flt } ∧
      t.flt.stands 0x610 0 = true ∧ SameFaults [0x610] s t)) ∧
    (s.acq.ishB.rangeSince = some t0 → Completes (.shuntRangeSensor .b at_) s (fun t =>
      t = { s with
        now := max s.now at_, acq := { s.acq with ishB := { s.acq.ishB with sensor := true, clean := 0 } }, flt := t.flt } ∧
      t.flt.stands 0x611 0 = true ∧ SameFaults [0x611] s t)) ∧
    (s.acq.store.rangeSince = some t0 → Completes (.shuntRangeSensor .store at_) s (fun t =>
      t = { s with
        now := max s.now at_, acq := { s.acq with store := { s.acq.store with sensor := true, clean := 0 } }, flt := t.flt } ∧
      t.flt.stands 0x741 0 = true ∧ SameFaults [0x741] s t)))

/-- R177, R178: a valid SENT frame is stamped with its value, another one is discarded and counted; its status nibble carries the identity
message, of another value with fault 0x614 as also where none comes in 2 s, and the loss of frames has fault 0x613. The model's choice in
it: the CRC and the slow channel of SAE J2716 (log entry 55). -/
def Obligations.SentFramesAreStampedOrDiscarded : Prop :=
  (∀ (s : State) (x : SentFrame), s.img.f.acq.sentRole ≠ 0 → s.domainOn 2 = true →
    let f := s.img.f.acq
    let d : Int := (x.data.foldl (fun a n => a * 16 + (n - 12)) 0 : Nat)
    let slow := (((x.status - 12).testBit 3, (x.status - 12).testBit 2) :: s.acq.sent.slow).take 18
    (s.sentValid x = true → Completes (.sentFrame x) s (fun t =>
      t = { s with now := max s.now x.t, acq := { s.acq with sent := t.acq.sent }, flt := t.flt } ∧
      t.acq.sent.frames = ((x.t - 1000 * f.sentLatency, (d - f.sentZero) * f.sentLsb) :: s.acq.sent.frames).take 64 ∧
      t.acq.sent.cal = some x.cal ∧ t.acq.sent.lastValid = some x.t ∧ t.acq.sent.discarded = s.acq.sent.discarded ∧
      (∀ v, slowMessage f.sentCrcRecommended slow = some (f.sentIdMsg, v) → v ≠ f.sentIdValue → t.flt.stands 0x614 0 = true) ∧
      (slowMessage f.sentCrcRecommended slow = some (f.sentIdMsg, f.sentIdValue) → t.acq.sent.idSeen = true ∧ t.flt = s.flt) ∧
      SameFaults [0x614] s t)) ∧
    (s.sentValid x = false → Completes (.sentFrame x) s (fun t =>
      t = { s with
        now := max s.now x.t, acq := { s.acq with sent := { s.acq.sent with discarded := s.acq.sent.discarded + 1, slow := [] } }
        flt := t.flt } ∧ SameFaults [0x613] s t ∧
      (10 ≤ s.acq.sent.discarded → t.flt.stands 0x613 0 = true) ∧ (s.acq.sent.discarded < 10 → t.flt = s.flt)))) ∧
  (∀ (s : State) (at_ t0 : Ns), s.acq.sent.firstValid = some t0 → s.acq.sent.idSeen = false → t0 + 2000000000 ≤ at_ →
    Completes (.sentIdTimeout at_) s (fun t =>
      t = { s with now := max s.now at_, acq := { s.acq with sent := { s.acq.sent with idBad := true } }, flt := t.flt } ∧
      t.flt.stands 0x614 0 = true ∧ SameFaults [0x614] s t)) ∧
  (∀ (s : State) (at_ : Ns), s.img.f.acq.sentRole ≠ 0 → s.acq.sent.lastValid.getD 0 + 50000000 ≤ at_ →
    Completes (.sentLoss at_) s (fun t =>
      t = { s with
        now := max s.now at_, acq := { s.acq with sent := { s.acq.sent with lossInWindow := true } }, flt := t.flt } ∧
      t.flt.stands 0x613 0 = true ∧ SameFaults [0x613] s t))

/-- R17, R167, R175: once in a round, in stitches 41 to 61, the 96 streams of the snap are formed and the limits of the round computed; fault
0x618 tells that there is no pack current. R184, R335: every store balancing switch is off around the snap, and the requested states
return after it, in RUN with the path in VEHICLE. -/
def Obligations.PackChecksAndStoreBalancing : Prop :=
  (∀ (s : State) (at_ : Ns) (x : SnapLatch), s.rounds = true → s.tc1Up = true → 41 ≤ s.pace.stitch → s.pace.stitch ≤ 61 →
    s.pow.capRound ≠ some s.pace.round → s.acq.latch = some x → s.acq.formed ≠ some s.pace.round →
    Completes (.packChecks at_) s (fun t =>
      t.acq.formed = some s.pace.round ∧ t.pow.capRound = some s.pace.round ∧ t.now = max s.now at_ ∧
      t.acq.streams.length = 96 ∧ t.flt.stands 0x618 0 = (streamAt t.acq.streams 13).absent ∧
      t.fixed = s.fixed ∧ t.pace = s.pace ∧ t.sup = s.sup ∧ t.nv = s.nv ∧ t.cls = s.cls ∧ t.own = s.own ∧ t.out = s.out)) ∧
  (∀ s : State,
    (s.sup.p1 = true → Completes .sbSnapBlank s (fun t =>
      t = { s with acq := { s.acq with sbBlank := true } } ∧ ∀ k, t.sbPin k = false)) ∧
    Completes .sbRestore s (fun t =>
      t = { s with acq := { s.acq with sbBlank := false } } ∧
      (s.sup.dev = .run → s.sup.parkCheck = false → s.res.path = .vehicle → s.res.changing = false →
        ∀ k, t.sbPin k = (s.sup.p1 && decide (k ≤ s.storeCells) && s.acq.sb.getD (k - 1) false)) ∧
      (s.sup.dev ≠ .run ∨ s.res.path ≠ .vehicle → ∀ k, t.sbPin k = false)))

/-- R17, R191, R205: the classical update is made once for each snap, in stitches 8 to 60, with the charge and the time of its round; it
writes nothing to the non-volatile store. R204, R213: the basting value of a pack cell replaces the cell and clears its fault 0x533; an
estimator whose tack age is over the limit is overdue, with fault 0x623. R190, R415: the pair records are written in TC1's window, after
which the region holds them, and fall due for the next one outside it. The model's choice in it: the detail of fault 0x623 (log entry 63),
and when pair records are written (log entry 106). -/
def Obligations.ClassicalUpdateAndRecords : Prop :=
  ((∀ s : State, s.rounds = true → s.tc0Up = true → 8 ≤ s.pace.stitch → s.pace.stitch ≤ 60 → s.cls.updated ≠ some s.pace.round →
    Completes .classicalUpdate s (fun t =>
      t.cls.updated = some s.pace.round ∧ t.cls.pack.countAt = s.acq.packSnap.2 ∧ t.cls.pack.lastAt = s.acq.prevT ∧
      t.fixed = s.fixed ∧ t.now = s.now ∧ t.pace = s.pace ∧ t.sup = s.sup ∧ t.nv = s.nv ∧ t.own = s.own ∧ t.pow = s.pow)) ∧
  (∀ s : State, s.cls.updated = some s.pace.round → Completes .classicalUpdate s (fun t => t = s))) ∧
  ((∀ (s : State) (id : CellId) (c c1 : Cell) (l : List CellNote), id ≤ 4096 → (s.cls.pack.cells.find? fun c => c.id == id) = some c →
    c.formBasting s.img.f.est s.cls.pack.restAge (s.ocvTemp id) = some (c1, l) →
    Completes (.bastingFormed id) s (fun t =>
      t.cls.pack.cells = updWhere (fun c => c.id == id) (fun _ => c1) s.cls.pack.cells ∧
      (s.allListed → t.flt.stands 0x533 id = false) ∧ t.fixed = s.fixed ∧
      t = { s with
        cls := { s.cls with pack := { s.cls.pack with cells := t.cls.pack.cells, display := t.cls.pack.display } }
        trn := { s.trn with targets := t.trn.targets }, flt := t.flt })) ∧
  (∀ s : State, s.cls.pack.cells ≠ [] → s.cls.pack.isOverdue s.img.f.est s.now = true →
    Completes .tackOverdue s (fun t =>
      t = { s with
        cls := { s.cls with
          pack := { s.cls.pack with overdue := true }, store := { s.cls.store with overdue := t.cls.store.overdue } }
        flt := t.flt } ∧
      t.flt.stands 0x623 0 = true ∧ SameFaults [0x623] s t))) ∧
  (∀ s : State,
    (s.journalWindow = true → Completes .pairRecordWrite s (fun t =>
      t.nv.pairsR.content = some s.pairsNow ∧ t.nv.rests = s.cls.pack.rests ∧ t.cls.pack.pairsDue = false ∧
      t.cls.store.pairsDue = false ∧ t.fixed = s.fixed ∧ t = { s with nv := t.nv, cls := t.cls, flt := t.flt })) ∧
    (s.journalWindow = false → Completes .pairRecordWrite s (fun t =>
      t = { s with cls := { s.cls with pack := { s.cls.pack with pairsDue := true } } })))

/-- R292 to R296: with both results in hand a cell is decided once in a round, and its state moves on the verdict; fault 0x650 ends with
SPLIT. R20, R292, R307: at the deadline every cell not yet decided is decided, and the round is closed; at the end of a window every count
begins afresh. -/
def Obligations.SeamDecidesAndCloses : Prop :=
  (∀ (s : State) (id : CellId) (q : SeamCell) (c : Cell) (r : Result), s.tc0Up = true → s.cls.updated = some s.pace.round →
    s.seam.closedFor ≠ some s.pace.round → s.seamCell id = some q → s.clsCell id = some c → s.seamRecord id = some r →
    q.decided ≠ some s.pace.round → s.pace.stitch ≤ 61 →
    let f := s.img.f.seam
    let rec_ := s.cellRec id
    let app := rec_.usable && !rec_.flags.getLsbD 3 && !rec_.flags.getLsbD 4
    let n := residCount f.residV app (s.cellVolt id) q.vPrev q.resid
    let v := verdictOf (c.bracket (s.estOf id)) r.soc r.cap r.res (decide (f.residRounds ≤ n))
    let m := q.state.move f.rejoin v q.rejoin
    Completes (.seamDecision id) s (fun t =>
      (t.seamCell id).map (fun x => (x.state, x.rejoin, x.resid, x.decided)) = some (m.1, m.2, n, some s.pace.round) ∧
      (v = .out → m.1 = .split) ∧ (m.1 ≠ .split → s.allListed → t.flt.stands 0x650 id = false) ∧
      t = { s with seam := { s.seam with cells := t.seam.cells, cohorts := t.seam.cohorts }, flt := t.flt } ∧
      SameFaults [0x650, 0x651] s t)) ∧
  ((∀ s : State, s.rounds = true → s.tc0Up = true → s.pace.stitch = 61 → s.cls.updated = some s.pace.round →
    s.seam.closedFor ≠ some s.pace.round →
    (∀ q ∈ s.seam.cells, (s.clsCell q.id).isSome = true) →
    Completes .seamDeadline s (fun t =>
      t.seam.closedFor = some s.pace.round ∧ (∀ q ∈ t.seam.cells, q.decided = some s.pace.round) ∧ t.fixed = s.fixed ∧
      t = { s with seam := t.seam, lrn := t.lrn, flt := t.flt })) ∧
  (∀ s : State, s.rounds = true → s.tc1Up = true → s.seam.window ≠ s.pace.round / 1000 → Completes .seamWindowEnd s (fun t =>
    t = { s with seam := { s.seam with window := s.pace.round / 1000, cohorts := s.seam.cohorts.map fun x => { x with counts := SeamCohort.zero.counts } }
                 flt := t.flt } ∧
    t.flt.table = s.flt.table ∧ t.flt.logQueue.length = s.flt.logQueue.length + s.modelPlan.length)))

/-- R64, R306, R415: at stitch 62 TC0 publishes the set of the snap before and completes the other seal buffer, and TC1 writes its log
entries. The model's choice in it: one publication in a round (log entry 122). -/
def Obligations.PublicationAtStitch62 : Prop :=
  ∀ (s : State) (a b : Bool), s.rounds = true → s.pace.stitch = 62 → s.isFrozen = false → s.published = false →
    Completes (.publication a b) s (fun t =>
      (s.tc0Up = true → s.own.since ≠ s.pace.round →
        t.seam.pub.map (fun p => (p.snap, p.t)) = some (s.pace.round - 1, s.acq.prevT)) ∧
      (s.tc0Up = true → t.bufs.latest = !s.bufs.latest ∧ t.bufs.newest.map (fun x => x.round) = some s.pace.round) ∧
      (s.tc0Up = false → t.bufs = s.bufs) ∧ (s.tc1Up = true → t.flt.logQueue = []) ∧
      t.fixed = s.fixed ∧ t.pace = s.pace ∧ t.sup = s.sup ∧ t.lrn = s.lrn ∧ t.own = s.own)

/-- R19, R221, R246, R253, R260: the due step of a resident cell completes in its stitches, once no step is ahead of it: the state that the
gate engine computes from its graph goes to the other copy, which the selector then names, and it is no longer due; warm-up ends with its
last round. R227, R228, R260: past the limit of open-loop rounds a cell's results are cleared with fault 0x631; a late step not complete
by stitch 8 is given up without a change of the selector. The model's choice in it: the order of the steps (log entry 81). -/
def Obligations.LearnedStepsAndTheirEnds : Prop :=
  ((∀ (s : State) (id : CellId) (c : LCell), s.lcell id = some c → s.learnedOn = true → s.fenced .scheduler = false →
    s.pace.stitch ≤ 60 → Completes (.stateBlockFetch id) s (fun t =>
      t = { s with lrn := { s.lrn with cells := t.lrn.cells } } ∧ t.lcell id = some { c with resident := c.due.isSome })) ∧
  (∀ (s : State) (id : CellId) (at_ : Ns) (c : LCell) (g : Graph) (snap : Round), s.lcell id = some c → s.graph c.cohort = some g →
    c.due = some snap → s.learnedOn = true → c.resident = true → c.restoring = false → c.reloading = false →
    s.fenced .scheduler = false → s.fenced .scan = false → s.stepAhead c = false →
    (snap + 1 < s.pace.round ∧ s.pace.stitch < 8 ∨ s.pace.round ≤ snap + 1 ∧ 8 ≤ s.pace.stitch) →
    let x := c.late.getD (s.stepIn g c)
    let y := liveStep g (s.halves c).1 (x.features.map fun p => p.1) (s.halves c).2
      ((snap + id) % s.img.f.numeric.renormInterval == 0) id snap c.state
    Completes (.learnedResultWritten id at_) s (fun t =>
      (poisonedState y.state = false →
        (t.lcell id).map (fun m => (m.state, m.other, m.selY, m.stepped)) = some (y.state, c.state, !c.selY, some snap) ∧
        (t.lcell id).map (fun m => (m.resident, m.due)) =
          some (false, if snap + 1 < s.pace.round then some (s.pace.round - 1) else none)) ∧
      (poisonedState y.state = false →
        t = { s with now := max s.now at_, lrn := t.lrn, trn := { s.trn with copyDue := t.trn.copyDue }, flt := t.flt } ∧
        SameFaults [0x630, 0x631] s t) ∧
      (poisonedState y.state = true → t.flt.stands 0x514 id = true) ∧ t.fixed = s.fixed ∧ t.pace = s.pace ∧ t.cls = s.cls)) ∧
  (∀ (s : State) (id : CellId) (c : LCell), s.lcell id = some c → c.warmLeft = 0 →
    Completes (.warmupEnd id) s (fun t =>
      t = { s with lrn := { s.lrn with cells := t.lrn.cells } } ∧ t.lcell id = some { c with warmup := false }))) ∧
  ((∀ (s : State) (id : CellId) (c : LCell) (r : Result), s.lcell id = some c → s.img.f.model.openLoopMax < c.openRun →
    c.result = some r →
    Completes (.openLoopLimit id) s (fun t =>
      t = { s with lrn := { s.lrn with cells := t.lrn.cells }, flt := t.flt } ∧
      t.lcell id = some { c with result := some { r with
        vPred := none, soc := none, cap := none, res := none, ocv := none, anomaly := none } } ∧
      t.flt.stands 0x631 id = true ∧ SameFaults [0x631] s t)) ∧
  (∀ (s : State) (id : CellId) (c : LCell) (snap : Round), s.lcell id = some c → c.due = some snap → snap + 1 < s.pace.round →
    8 ≤ s.pace.stitch →
    Completes (.stepAbandon id) s (fun t =>
      (t.lcell id).map (fun m => (m.due, m.resident, m.x, m.y, m.selY, m.stepped)) =
        some (some (s.pace.round - 1), false, c.x, c.y, c.selY, c.stepped) ∧
      (∀ a ∈ t.trn.cells, a.id = id → a.active = false) ∧ t.fixed = s.fixed ∧
      t = { s with lrn := t.lrn, trn := { s.trn with cells := t.trn.cells, copyDue := t.trn.copyDue }, flt := t.flt })))

/-- R261: a cell to be restored comes back from the newest checkpoint that holds it, and leaves the active set; a corrupt adapter takes its
initial value where there is none. R19, R255 to R258: once no live step is queued, the reference of the replay cell is seeded and stepped
once a snap; φ joins the fray counters and re-seeds the cell above 1; the third aborted comparison in a period is fault 0x513; a complete
period passes on to the next cell. The model's choice in it: the start of the reference (log entry 72). -/
def Obligations.ReplayAndRestore : Prop :=
  (∀ (s : State) (id : CellId) (c : LCell), s.lcell id = some c → s.tc1Up = true →
    (∀ k, c.restoring = true → c.reloading = false → s.ckptCell id = some k →
      Completes (.cellRestore id) s (fun t =>
        t = { s with lrn := { s.lrn with cells := t.lrn.cells }, trn := { s.trn with cells := t.trn.cells } } ∧
        (t.lcell id).map (fun m => (m.state, m.selY, m.adapter, m.stepped, m.restoring)) =
          some (k.blocks, c.selY, c.adapter, some k.snap, false) ∧
        ∀ a ∈ t.trn.cells, a.id = id → a.active = false)) ∧
    (c.reloading = true → s.ckptCell id = none →
      Completes (.cellRestore id) s (fun t =>
        t = { s with lrn := { s.lrn with cells := t.lrn.cells } } ∧
        t.lcell id = some { c with
          restoring := false, reloading := false, adapter := ((s.graph c.cohort).map Graph.firstAdapter).getD [] }))) ∧
  ((∀ (s : State) (id : CellId) (at_ : Ns) (c : LCell) (g : Graph), s.lrn.replay.cell = some id → s.lcell id = some c →
    s.graph c.cohort = some g → s.stepsQueued = false → s.replayQueued = true → s.fenced .scan = false →
    Completes (.replayStep at_) s (fun t =>
      t = { s with now := max s.now at_, lrn := { s.lrn with replay := { s.lrn.replay with
        seeded := true, ref := t.lrn.replay.ref, stepped := some (s.pace.round - 1), vPred := t.lrn.replay.vPred } } } ∧
      t.lrn.replay.ref = (refStep g (s.halves c).1 (c.input.features.map fun p => p.1) (s.halves c).2
        (if s.lrn.replay.seeded then s.lrn.replay.ref else refSeed c.other)).state)) ∧
  (∀ (s : State) (id : CellId) (c : LCell) (n : Round), s.lrn.replay.cell = some id → s.lcell id = some c →
    s.lrn.replay.seeded = true → c.stepped = some n → s.lrn.replay.stepped = some n → s.lrn.replay.compared ≠ some n →
    let phi := frayRatio s.img.f.numeric.betaOrd s.img.f.numeric.betaLined c.state s.lrn.replay.ref
    Completes .replayCompare s (fun t =>
      (1 < phi → (s.graph c.cohort).isSome = true → t.flt.stands 0x510 0 = true) ∧
      (phi ≤ 1 → poisonedState c.state = false → (c.vPred = none ∨ s.lrn.replay.vPred = none) →
        t.lrn.replay = { s.lrn.replay with compared := some n, done := s.lrn.replay.done + 1 } ∧ t.lrn.cells = s.lrn.cells ∧
        t.flt = s.flt) ∧ t.fixed = s.fixed ∧ t = { s with lrn := t.lrn, flt := t.flt })) ∧
  (∀ (s : State) (id : CellId), s.lrn.replay.cell = some id → s.lrn.replay.seeded = true → s.lrn.replay.suspended = false →
    s.lrn.replay.stepped ≠ some (s.pace.round - 1) → 61 ≤ s.pace.stitch →
    Completes .replayAbort s (fun t =>
      t.lrn.replay.aborts = s.lrn.replay.aborts + 1 ∧ t.lrn.replay.seeded = false ∧ t.lrn.replay.done = 0 ∧
      (2 ≤ s.lrn.replay.aborts → t.flt.stands 0x513 0 = true) ∧ t.lrn.cells = s.lrn.cells ∧ t = { s with lrn := t.lrn, flt := t.flt })) ∧
  (∀ s : State, s.img.f.numeric.replayPeriod ≤ s.lrn.replay.done →
    Completes .replayPeriodEnd s (fun t =>
      t.lrn.replay.aborts = 0 ∧ t.lrn.replay.seeded = false ∧ t.lrn.replay.done = 0 ∧
      (s.allListed → t.flt.stands 0x513 0 = false) ∧ t.lrn.cells = s.lrn.cells ∧ t = { s with lrn := t.lrn, flt := t.flt })))

/-- R262, R263, R264, R455: corrected errors are counted and judged at the end of their window; an uncorrectable one is fault 0x504 or 0x506,
and poisons the state block it falls in; a scrub pass clears fault 0x515 and a missing one raises it. -/
def Obligations.MemoryErrorsAreCounted : Prop :=
  (∀ (s : State) (r : MemRegion), Completes (.lpddr5EccError true r) s (fun t =>
    t = { s with lrn := { s.lrn with ddrCe := s.lrn.ddrCe + 1 } })) ∧
  (∀ (s : State) (r : MemRegion), Completes (.lpddr5EccError false r) s (fun t =>
    t.flt.stands 0x504 0 = true ∧ (∀ id, r = .adaptLive id → ∀ c, t.lcell id = some c → c.reloading = true) ∧
    t.fixed = s.fixed ∧ t.cls = s.cls ∧ t.seam = s.seam)) ∧
  (∀ (s : State) (m : Bool) (r : MemRegion), Completes (.bobbinEccError true m r) s (fun t =>
    t = { s with lrn := { s.lrn with bobCe := s.lrn.bobCe + 1 } })) ∧
  (∀ (s : State) (r : MemRegion),
    Completes (.bobbinEccError false true r) s (fun t => t = s) ∧
    Completes (.bobbinEccError false false r) s (fun t =>
      t.flt.stands 0x506 0 = true ∧ t.fixed = s.fixed ∧ t.cls = s.cls ∧ t.seam = s.seam)) ∧
  (∀ s : State, s.domainOn 3 = true → Completes (.tcmEccError .correctable) s (fun t =>
    t = { s with flt := { s.flt with tcmCe := s.flt.tcmCe + 1 } })) ∧
  (∀ (s : State) (id : CellId), s.domainOn 3 = true → s.fittedCells.contains id = true →
    Completes (.tcmEccError (.cell id)) s (fun t =>
      t.flt.stands 0x533 id = true ∧ SameFaults [0x533] s t ∧ t = { s with cls := t.cls, seam := t.seam, flt := t.flt })) ∧
  (∀ s : State, s.rounds = true → s.lrn.eccWindow ≠ s.pace.round / 1000 → Completes .eccWindowEnd s (fun t =>
    t.lrn = { s.lrn with eccWindow := s.pace.round / 1000, ddrCe := 0, bobCe := 0 } ∧ t.flt.tcmCe = 0 ∧ SameFaults [0x503, 0x505, 0x535] s t ∧
    (s.img.f.numeric.ceLimit < s.lrn.ddrCe → t.flt.stands 0x503 0 = true) ∧
    (s.img.f.numeric.ceLimit < s.lrn.bobCe → t.flt.stands 0x505 0 = true) ∧ (16 < s.flt.tcmCe → t.flt.stands 0x535 0 = true) ∧
    t = { s with lrn := t.lrn, flt := t.flt })) ∧
  (∀ s : State,
    (s.fenced .scrubber = false → Completes .scrubPass s (fun t =>
      t = { s with lrn := { s.lrn with scrubTicks := 0 }, flt := t.flt } ∧ (s.allListed → t.flt.stands 0x515 0 = false) ∧
      SameFaults [0x515] s t)) ∧
    (2 * s.img.f.numeric.scrubPeriod * hourTicks < s.lrn.scrubTicks → Completes .scrubOverdue s (fun t =>
      t = { s with flt := t.flt } ∧ t.flt.stands 0x515 0 = true ∧ SameFaults [0x515] s t)))

/-- R265, R491: a revoked grant fences its holder's port with fault 0x520 until TC1 unfences it at a later boundary, and what the scheduler or
the scan had in flight is discarded; a second one of the same requester within 1,000 rounds disables the learned path with fault 0x521;
the reported refresh rate is applied. -/
def Obligations.ArbitrationFencesItsHolder : Prop :=
  (∀ (s : State) (r : Requester), Completes (.arbitrationRevoke r) s (fun t =>
    t.fenced r = true ∧ (∀ q, q ≠ r → t.fenced q = s.fenced q) ∧ t.flt.stands 0x520 0 = true ∧
    ((∃ f ∈ s.lrn.fences, f.req = r ∧ s.pace.round < f.round + 1000) →
      t.lrn.disabledCold = true ∧ t.flt.stands 0x521 0 = true) ∧
    (¬ (∃ f ∈ s.lrn.fences, f.req = r ∧ s.pace.round < f.round + 1000) → t.lrn.disabledCold = s.lrn.disabledCold) ∧
    SameFaults [0x520, 0x521] s t ∧
    ((r = .scheduler ∨ r = .scan) → ∀ c ∈ t.lrn.cells, c.resident = false) ∧
    t = { s with lrn := t.lrn, trn := t.trn, nv := t.nv, flt := t.flt } ∧ t.fixed = s.fixed)) ∧
  (∀ (s : State) (r : Requester), s.tc1Up = true → s.pace.stitch = 0 → (∀ f ∈ s.lrn.fences, f.req = r → f.round ≠ s.pace.round) →
    Completes (.portUnfence r) s (fun t =>
    t.fenced r = false ∧ (∀ q, q ≠ r → t.fenced q = s.fenced q) ∧ t = { s with lrn := { s.lrn with fences := t.lrn.fences } })) ∧
  (∀ (s : State) (m : Rat), s.lrn.ddr = true → Completes (.refreshRateRead m) s (fun t =>
    t = { s with lrn := { s.lrn with refresh := m } }))

/-- R271 to R273, R278: a cycle begins in the warm phase with the next cohort of the rotation, passes to the epoch and then to the fitting
window, each once its snaps are done, with its sums at zero. R19, R274, R278: a shadow step of an active cell follows its live step once,
when no step and no replay is queued; an update of the shadow moves the epoch's count by one, and one with a value that is not finite ends
the cycle with fault 0x640. The model's choice in it: which cycle begins (log entries 77 and 78). -/
def Obligations.TrainingCyclesStepAndUpdate : Prop :=
  ((∀ (s : State) (c : Nat), s.tc1Up = true → s.learnedOn = true → s.cycleOn = false → s.trn.shed = 0 → s.img.f.train.enable = true →
    s.trn.again = false → s.nextCohort = some c →
    Completes .cycleStart s (fun t =>
      t.trn.phase = .warm ∧ t.trn.cohort = c ∧ t.trn.snaps = 0 ∧ t.trn.first = s.pace.round - 1 ∧
      t.trn.cells.map (fun a => a.id) = s.activeSet c ∧ (∀ a ∈ t.trn.cells, a.active = true) ∧
      (s.halvesRead c = false → ∀ m ∈ t.lrn.cells, m.cohort = c → m.shadow = m.adapter) ∧ t = { s with trn := t.trn, lrn := t.lrn })) ∧
  (∀ s : State, s.tc1Up = true → s.trn.phase = .warm → s.img.f.train.warm ≤ s.trn.snaps →
    Completes .warmPhaseEnd s (fun t =>
      t.trn.phase = .epoch ∧ t.trn.snaps = 0 ∧ t.trn.update = 0 ∧ t.trn.master = s.trn.master ∧ (∀ v ∈ t.trn.grad, v = some 0) ∧
      t.trn.cells.map (fun a => (a.id, a.active, a.master)) = s.trn.cells.map (fun a => (a.id, a.active, a.master)) ∧
      t = { s with trn := t.trn })) ∧
  (∀ s : State, s.tc1Up = true → s.trn.phase = .epoch → s.img.f.train.epoch ≤ s.trn.snaps →
    Completes .epochEnd s (fun t =>
      t = { s with trn := { s.trn with
        phase := .fit, snaps := 0, lLive := 0, lShadow := 0, samples := 0, xLive := 0, xShadow := 0, nonfinite := 0 } }))) ∧
  ((∀ (s : State) (id : CellId) (at_ : Ns) (a : ACell) (c : LCell) (g : Graph) (snap : Round),
    (s.trn.cells.find? fun a => a.id == id) = some a → s.lcell id = some c → s.graph c.cohort = some g → c.stepped = some snap →
    s.learnedOn = true → s.cycleOn = true → a.active = true → s.stepsQueued = false → s.replayQueued = false →
    (match a.pending with | some p => p.snap < snap | none => s.trn.first ≤ snap) →
    Completes (.shadowStep id at_) s (fun t =>
      t.lrn = s.lrn ∧ t = { s with now := max s.now at_, trn := t.trn } ∧
      ((t.trn.cells.find? fun a => a.id == id).map (fun b => (b.active, (b.pending.map fun p => p.snap))) = some (true, some snap) ∨
        (t.trn.cells.find? fun a => a.id == id).map (fun b => b.active) = some false))) ∧
  (∀ (s : State) (g : Graph), s.trn.phase = .epoch → (s.trn.update + 1) * s.img.f.train.updateInterval ≤ s.trn.snaps →
    s.graph s.trn.cohort = some g →
    Completes .shadowUpdate s (fun t =>
      (t.trn.phase = .epoch → t.trn.update = s.trn.update + 1 ∧ t.flt = s.flt ∧ t.nv = s.nv) ∧
      (t.trn.phase ≠ .epoch → t.trn.phase = .idle ∧ t.flt.stands 0x640 0 = true ∧ t.trn.last.map (fun r => r.reason) = some 6) ∧
      (t.lrn.weights.map fun w => w.live) = (s.lrn.weights.map fun w => w.live) ∧
      (t.lrn.cells.map fun m => (m.id, m.adapter)) = (s.lrn.cells.map fun m => (m.id, m.adapter)) ∧ t.fixed = s.fixed ∧
      t = { s with trn := t.trn, lrn := t.lrn, nv := t.nv, flt := t.flt })))

/-- R282 to R284: a cycle without a reason of Table 11-6 is decided and recorded for promotion, any other is unpicked with its reason; once
the adapters are copied, the halves exchange roles at a boundary. R288: after 60 s of the conditions of a step down, the level falls by
one; from level 3 what the memory held is lost. The model's choice in it: the lowest failing reason (log entry 76). -/
def Obligations.PromotionAndShedding : Prop :=
  ((∀ s : State, s.tc1Up = true → s.trn.phase = .fit → s.img.f.train.fit ≤ s.trn.snaps → 61 ≤ s.pace.stitch →
    Completes .fitDecision s (fun t =>
      t.trn.last.map (fun r => (r.cohort, r.cycle, r.reason)) = some (s.trn.cohort, s.trn.cycle, s.fitReason) ∧
      t.trn.cycle = s.trn.cycle + 1 ∧ t.nv.rotation = s.trn.cohort ∧
      t.trn.phase = (if s.fitReason = 0 then .decision else .idle) ∧ t.trn.promote = decide (s.fitReason = 0) ∧
      (s.allListed → t.flt.stands 0x640 0 = false) ∧ t.fixed = s.fixed ∧
      t = { s with trn := t.trn, lrn := t.lrn, nv := t.nv, flt := t.flt })) ∧
  (∀ s : State, s.trn.promote = true → s.trn.copied = false →
    Completes .adapterCopy s (fun t =>
      t = { s with trn := { s.trn with copied := true }, lrn := { s.lrn with cells := t.lrn.cells } } ∧
      (t.lrn.cells.map fun m => (m.id, m.adapter)) = (s.lrn.cells.map fun m => (m.id, m.adapter)) ∧
      ∀ m ∈ t.lrn.cells, m.cohort = s.trn.cohort → (∀ a ∈ s.trn.cells, a.id = m.id → a.scored = false) → m.shadow = m.adapter)) ∧
  (∀ s : State, s.trn.promote = true → s.trn.copied = true → s.pace.stitch = 0 →
    Completes .promotion s (fun t =>
      t.trn = { s.trn with phase := .idle, promote := false, copied := false, promoted := some s.pace.round, copyDue := some s.trn.cohort } ∧
      t.lrn.staging = none ∧ (t.lrn.weights.length = s.lrn.weights.length) ∧
      (∀ w, s.lrn.weights[s.trn.cohort]? = some w →
        t.lrn.weights[s.trn.cohort]? = some { w with live := w.shadow, shadow := w.live }) ∧
      (∀ i, i ≠ s.trn.cohort → t.lrn.weights[i]? = s.lrn.weights[i]?) ∧
      t.lrn.cells = updWhere (fun c => c.cohort == s.trn.cohort)
        (fun c => { c with adapter := c.shadow, shadow := c.adapter, bound := c.bound || c.isLate s.pace.round }) s.lrn.cells ∧
      t = { s with trn := t.trn, lrn := t.lrn }))) ∧
  (∀ (s : State) (at_ t0 : Ns), s.trn.coolFrom = some t0 → 0 < s.trn.shed → t0 + 60000000000 ≤ at_ →
    Completes (.shedLower at_) s (fun t =>
      t.trn = { s.trn with shed := s.trn.shed - 1, coolFrom := none } ∧ t.now = max s.now at_ ∧
      t.lrn.lost = (s.lrn.lost || decide (s.trn.shed = 3)) ∧ SameFaults [0x643, 0xA20, 0xA21, 0xA22] s t ∧ t.fixed = s.fixed ∧
      t = { s with now := t.now, trn := t.trn, lrn := { s.lrn with lost := t.lrn.lost, replay := t.lrn.replay }, flt := t.flt }))

/-- R26, R71, R285, R286, R417: a checkpoint is staged for its cause, is complete once every cell is in it, and its write makes it the valid
one of its area; a write that fails leaves its area without one and raises fault 0x642, as does a bus held for 4 stitches. In a park or
ship shut-down P8 to P17 go off with its end. The model's choice in it: the domains of a park checkpoint (log entry 29), and its snap (log
entry 80). -/
def Obligations.CheckpointsAreStagedAndWritten : Prop :=
  (∀ s : State, s.tc1Up = true → s.learnedOn = true → s.lrn.staging = none → s.flt.bit 0x933 = false →
    s.img.f.train.ckptInterval * 6000000000 ≤ s.lrn.ckptTicks → s.sup.dev = .run →
    Completes (.checkpointTrigger .interval) s (fun t =>
      t = { s with lrn := { s.lrn with staging := some ⟨.interval, s.pace.round, s.now, [], none⟩ } })) ∧
  (∀ s : State, s.tc1Up = true → s.learnedOn = true → s.flt.bit 0x933 = false → s.trn.promoted = some s.pace.round →
    Completes (.checkpointTrigger .promotion) s (fun t =>
      t = { s with lrn := { s.lrn with staging := some ⟨.promotion, s.pace.round - 1, s.now, [], none⟩ } })) ∧
  (∀ (s : State) (st : Staging), s.lrn.staging = some st → st.staged = none →
    (s.lrn.cells.all fun c => st.cells.any fun e => e.id == c.id) = true →
    Completes .checkpointStaged s (fun t =>
      t = { s with lrn := { s.lrn with staging := t.lrn.staging } } ∧
      ∃ k : Ckpt, t.lrn.staging = some { st with staged := some k } ∧ k.snap = st.snap ∧ k.model = s.img.modelDigest ∧
        k.weights = (s.lrn.weights.map fun w => w.live) ∧ (∀ b x, s.nv.newestCkpt = some (b, x) → k.seq = x.seq + 1))) ∧
  (∀ (s : State) (st : Staging) (k : Ckpt), s.lrn.staging = some st → st.staged = some k → s.tc1Up = true → s.fenced .ckptPort = false →
    (∀ b x, s.nv.newestCkpt = some (b, x) → x.seq < k.seq) → s.sup.dev ≠ .grace →
    Completes (.checkpointWrite true) s (fun t =>
      t.nv.newestCkpt.map (fun x => x.2) = some k ∧ t.lrn = { s.lrn with staging := none, ckptTicks := 0 } ∧
      (s.allListed → t.flt.stands 0x642 0 = false) ∧ t.fixed = s.fixed ∧
      t = { s with nv := t.nv, lrn := t.lrn, flt := t.flt })) ∧
  (∀ (s : State) (st : Staging) (k : Ckpt), s.lrn.staging = some st → st.staged = some k → s.fenced .ckptPort = false →
    s.sup.dev ≠ .grace →
    let failed (t : State) : Prop :=
      t.nv.newestCkpt.map (fun x => x.2) = s.nv.newestCkpt.map (fun x => x.2) ∧ t.lrn = { s.lrn with staging := none } ∧
      t.flt.stands 0x642 0 = true ∧ t.fixed = s.fixed ∧ t = { s with nv := t.nv, lrn := t.lrn, flt := t.flt }
    Completes (.checkpointWrite false) s failed ∧ (4 ≤ s.lrn.norHeld → Completes .norBusRevoke s failed)) ∧
  (∀ (s : State) (st : Staging) (k : Ckpt) (h : Shutdown), s.lrn.staging = some st → st.staged = some k → st.cause = .park →
    s.tc1Up = true → s.fenced .ckptPort = false → s.sup.dev = .grace → s.sup.shut = some h → (h.kind = .park ∨ h.kind = .ship) →
    Completes (.checkpointWrite true) s (fun t =>
      t.lrn.staging = none ∧ t.sup = { s.sup with
        domains := s.sup.domains.filter fun d => decide (d < 8), p7SelfRefresh := s.sup.p7SelfRefresh || s.domainOn 7 }))

/-- R319, R316, R456, R323: at stitch 63 the coders latch the caps of the snap, which rise from zero after a zero was coded, a forced zero
prevailing; a set that has not been published for 16 rounds latches zero. The model's choice in it: the rise from a zero coded in the same
snap (log entry 142). -/
def Obligations.CapsAreLatchedAtStitch63 : Prop :=
  ∀ (s : State) (a b : Bool) (at_ : Ns), s.rounds = true → s.tc1Up = true → s.pace.stitch = 63 →
    Completes (.capLatch a b at_) s (fun t =>
      let fresh := s.pow.capRound = some s.pace.round
      (fresh → s.stalePub = false → t.pow.latched = s.capsInForce ∧ (s.pow.zeroD = false → s.pow.zeroC = false → t.pow.latched = s.pow.caps)) ∧
      (fresh → t.pow.zeroD = (s.forced .discharge || s.pow.frozen) ∧ t.pow.zeroC = (s.forced .charge || s.pow.frozen) ∧
        t.pow.latchMissing = false ∧ t.pow.latchAt = some s.pace.round) ∧
      (¬ fresh → t.pow = { s.pow with caps := t.pow.caps }) ∧
      (s.stalePub = true → ∀ c ∈ t.pow.caps, c = (0, 0)) ∧ (s.stalePub = false → t.pow.caps = s.pow.caps) ∧
      t.now = max s.now at_ ∧ t.fixed = s.fixed ∧ t = { s with now := t.now, pow := t.pow, out := t.out, res := t.res, flt := t.flt })

/-- R458: at the second consecutive missing latch every pin that is driven codes plain zero, but for a forced zero, which prevails, and fault
0x689 is raised; at the first latch the coder receives it codes the latched cap again. -/
def Obligations.MissingLatchCodesPlainZero : Prop :=
  (∀ s : State, s.rounds = true → s.drivesCaps = true →
    2 ≤ s.pow.latchMisses + (if s.pace.stitch = 63 ∧ s.pow.latchAt ≠ some s.pace.round then 1 else 0) →
    Completes .capLatchMissing s (fun t =>
      t = { s with pow := { s.pow with latchMissing := true, zeroD := true, zeroC := true }, flt := t.flt } ∧
      t.flt.stands 0x689 0 = true ∧ SameFaults [0x689] s t ∧
      ∀ k c, s.domainOn 2 = true → k < s.code.capPins → s.img.f.consumers[k]? = some c →
        t.capPin k = if s.forced c.pinDir = true then .forced else .plain 0)) ∧
  (∀ (s : State) (a b : Bool) (at_ : Ns) (k : Nat) (c : Consumer), s.rounds = true → s.drivesCaps = true → s.domainOn 2 = true →
    s.tc1Up = true → s.pace.stitch = 63 → s.pow.capRound = some s.pace.round → s.stalePub = false → s.pow.frozen = false →
    k < s.code.capPins → s.img.f.consumers[k]? = some c → s.forced c.pinDir = false →
    let cap := s.capsInForce.getD k (0, 0)
    Completes (.capLatch a b at_) s (fun t =>
      t.pow.latchMissing = false ∧
      t.capPin k = .plain (capCode s.capSteps (c.fullScale.getD 0) (match c.pinDir with | .discharge => cap.1 | .charge => cap.2))))

/-- R171, R321, R323: a comparator event, in the direction its polarity and the inversion of its shunt give, takes the action the image gives
it: it stands as a cause, forces the zero of its direction or trips, and raises its fault. R322: an armed flag of a READ is a cell event
of its group, above FAST.cell_split an over-voltage and otherwise an under-voltage; a READ with no flag set raises nothing. The model's
choice in it: the detail of a cell event (log entry 146). -/
def Obligations.FastEventsForceZeroOrTrip : Prop :=
  (∀ (s : State) (x : CompEvent), s.domainOn 2 = true →
    ((x.shunt = .a ∧ s.img.f.acq.rA ≠ 0) ∨ (x.shunt = .b ∧ s.img.f.acq.rB ≠ 0)) →
    let d := s.compDir x
    let e : FastEvent := if d = .discharge then .disOver else .chgOver
    let a := s.img.f.fast.action e
    Completes (.comparatorEvent x) s (fun t =>
      t.fast.causes = ⟨e, a, some (t.now, t.now)⟩ :: (s.fast.causes.filter fun c => !(c.event == e)) ∧
      t.fast.trip = (s.fast.trip || decide (a = 2)) ∧ (a = 1 → d = .discharge → t.fast.forcedD = true) ∧
      (a = 1 → d = .charge → t.fast.forcedC = true) ∧ (a = 2 → t.forced .discharge = true ∧ t.forced .charge = true) ∧
      t.flt.stands (if d = .discharge then 0x680 else 0x681) 0 = true ∧ SameFaults [0x680, 0x681] s t ∧
      t.out = { s.out with capsEvents := s.out.capsEvents ++ [e] } ∧ t.now = max s.now x.t ∧
      t = { s with now := t.now, fast := t.fast, pow := t.pow, out := t.out, flt := t.flt })) ∧
  (∀ (s : State) (x : ThreadRx) (id : NodeId) (flags : BitVec 16) (volts : List Nat) (v : Variant),
    s.limitRead x = some (id, flags, volts) → s.img.variant = some v →
    Completes (.cellLimitFlag x) s (fun t =>
      (∀ g, g < (v.nodeCells id).length → flags.getLsbD g = true →
        t.flt.stands (if s.img.f.fast.split * 10 < ((volts.getD g 65535 : Nat) : Rat) then 0x682 else 0x683) 0 = true) ∧
      ((∀ g, g < (v.nodeCells id).length → flags.getLsbD g = false) → t.flt = s.flt ∧ t.fast.causes = s.fast.causes) ∧
      SameFaults [0x682, 0x683, 0x684] s t ∧ t.now = max s.now x.t ∧
      t = { s with now := t.now, fast := t.fast, pow := t.pow, out := t.out, flt := t.flt }))

/-- R325, R328: a cause that has been clear for its hold time is released, and its fault clears; a trip stays where the image does not release
it; a pin read back wrong is fault 0x686. The model's choice in it: the evidence that spans the hold time (log entry 86). -/
def Obligations.FastCausesAreReleased : Prop :=
  (∀ (s : State) (e : FastEvent) (at_ : Ns) (c : FastCause), (s.fast.causes.find? fun c => c.event == e) = some c →
    s.causeClear c at_ = true →
    Completes (.fastPathRelease e at_) s (fun t =>
      t.fast.causes = (s.fast.causes.filter fun c => !(c.event == e)) ∧
      t.fast.flagged = (s.fast.flagged.filter fun g => !(g.event == e)) ∧
      (e ≠ .persist → e ≠ .request → s.allListed → t.flt.stands (fastFault e) 0 = false) ∧
      (s.img.f.fast.release = false → t.fast.trip = s.fast.trip ∧ t.fast.request = s.fast.request) ∧
      (s.img.f.fast.release = true → s.pace.lock = .idle → (∀ x ∈ s.fast.causes, x.event ≠ e → x.action ≠ 2) →
        t.fast.trip = false ∧ t.fast.request = false) ∧
      SameFaults [0x680, 0x681, 0x682, 0x683, 0x684, 0x685] s t ∧ t.now = max s.now at_ ∧
      t = { s with now := t.now, fast := t.fast, pow := t.pow, flt := t.flt })) ∧
  (∀ (s : State) (p : FastPin), (p = .tripN → s.tripN.isSome = true) → (∀ k, p = .cap k → k < 6 ∧ s.capPin k ≠ .undriven) →
    Completes (.pinReadbackMismatch p) s (fun t =>
      t = { s with flt := t.flt } ∧ t.flt.stands 0x686 0 = true ∧ SameFaults [0x686] s t))

/-- R340, R342: the loss of VMAIN in VEHICLE, RAMP_M or HANDBACK goes to HANDOVER, with the reserve pair waiting, where the store is in order,
and to DOWN with fault 0x711 and every burst cut where it is not; the third abort of a hand-back in 10 s damps the path, fault 0x703.
R337, R338, R341: a change of GOOD restarts the stability time; STABLE starts the main pair from DOWN, and in RESERVE the hand-back once
its dwell is met. The model's choice in it: conditions of one cycle (log entry 173). -/
def Obligations.VmainIsLostAndTakenUp : Prop :=
  (∀ (s : State) (x : PathSense), s.sup.p1 = true → (s.res.path = .vehicle ∨ s.res.path = .rampM ∨ s.res.path = .handback) →
    x.short = false → Completes (.vmainFail x) s (fun t =>
      ((s.sense x).storeOk = true → t.res.path = .handover ∧ t.res.gateMain = .off ∧ t.res.gateRes = .waiting ∧
        t.res.ledger = s.res.ledger) ∧
      ((s.sense x).storeOk = false → t.res.path = .down ∧ t.res.gateMain = .off ∧ t.res.gateRes = .off ∧
        t.flt.stands 0x711 0 = true ∧ t.res.ledger = []) ∧
      (s.res.path ≠ .handback → t.res.aborts = s.res.aborts ∧ t.res.damping = s.res.damping) ∧
      (s.res.path = .handback → t.res.aborts = x.t :: (s.res.aborts.filter fun a => decide (x.t < a + 10000000000)) ∧
        (3 ≤ t.res.aborts.length → t.res.damping = true ∧ t.flt.stands 0x703 0 = true)) ∧
      t.res.since = x.t ∧ t.res.stackLow = x.stackLow ∧ SameFaults [0x703, 0x710, 0x711] s t ∧ t.now = max s.now x.t ∧
      t = { s with now := t.now, res := t.res, flt := t.flt })) ∧
  ((∀ (s : State) (g : Bool) (at_ : Ns), s.sup.p1 = true → Completes (.goodChange g at_) s (fun t =>
    t = { s with now := max s.now at_, res := { s.res with good := g, goodFrom := at_, stable := false } })) ∧
  (∀ (s : State) (x : PathSense), s.res.isStable x.t = true → s.sup.p1 = true → x.short = false → x.floor = false → x.fail = false →
    Completes (.stableReached x) s (fun t =>
      t.res.stable = true ∧ t = { s with now := max s.now x.t, res := t.res } ∧
      (s.res.path = .down → s.sup.storeFn = true →
        t.res.path = .rampM ∧ t.res.gateMain = (if x.otherHigh then .waiting else .ramping) ∧ t.res.since = x.t) ∧
      (s.res.path = .reserve → s.res.dwellMet = true → t.res.path = .handback ∧ t.res.gateMain = .waiting ∧ t.res.gateRes = .off) ∧
      ((s.res.path ≠ .down ∧ s.res.path ≠ .reserve) ∨ (s.res.path = .down ∧ s.sup.storeFn = false) ∨
        (s.res.path = .reserve ∧ s.res.dwellMet = false) → t.res = { s.res with stable := true, stackLow := x.stackLow }))) ∧
  (∀ (s : State) (x : PathSense), s.res.path = .reserve → ((s.res.since : Nat) : Rat) + s.img.f.path.dwellMin * 1000000 ≤ (x.t : Rat) →
    x.short = false → x.floor = false → x.fail = false →
    Completes (.pathDwellEnd x) s (fun t =>
      t = { s with now := max s.now x.t, res := t.res } ∧
      (s.res.isStable x.t = false → t.res = { s.res with dwellMet := true, stackLow := x.stackLow }) ∧
      (s.res.isStable x.t = true → t.res.path = .handback ∧ t.res.gateMain = .waiting ∧ t.res.gateRes = .off ∧ t.res.since = x.t))))

/-- R339, R341, R343, R344: a pair's gate ramps 3.0 µs after HANDOVER or HANDBACK began, in RAMP_M at once, when the other gate is down, and a
completed ramp enters RESERVE or VEHICLE with its pair full on. R337, R342, R343, R358: the floor cuts every granted burst, and ends
HANDOVER and RESERVE in DOWN with fault 0x704; the damping ends after 60 s in VEHICLE; a pair that waits 10 µs for the other's gate goes
to COOL, and a gate out of range raises fault 0x70A. The model's choice in it: FLOOR in any path state (log entry 141), conditions of one
cycle (log entry 173). -/
def Obligations.PairsRampAndGatesAreWatched : Prop :=
  ((∀ (s : State) (at_ : Ns), s.res.path = .handover → s.res.gateRes = .waiting → s.res.since + 3000 ≤ at_ →
    Completes (.reservePrecharge false at_) s (fun t =>
      t = { s with now := max s.now at_, res := { s.res with gateRes := .ramping } })) ∧
  (∀ (s : State) (at_ : Ns), s.res.path = .handback → s.res.gateMain = .waiting → s.res.since + 3000 ≤ at_ →
    Completes (.mainPrecharge false at_) s (fun t =>
      t = { s with now := max s.now at_, res := { s.res with gateMain := .ramping } })) ∧
  (∀ (s : State) (at_ : Ns), s.res.path = .rampM → s.res.gateMain = .waiting → s.res.since ≤ at_ →
    Completes (.mainPrecharge false at_) s (fun t =>
      t = { s with now := max s.now at_, res := { s.res with gateMain := .ramping } })) ∧
  (∀ (s : State) (x : PathSense), s.sup.p1 = true → x.short = false → x.floor = false → x.fail = false →
    (s.res.gateMain = .ramping → Completes (.rampComplete x) s (fun t =>
      t = { s with
        now := max s.now x.t
        res := { s.res with
          path := .vehicle, since := x.t, dwellMet := false, gateMain := .full, gateRes := .off, stackLow := x.stackLow } })) ∧
    (s.res.gateMain ≠ .ramping → s.res.gateRes = .ramping → Completes (.rampComplete x) s (fun t =>
      t = { s with
        now := max s.now x.t
        res := { s.res with
          path := .reserve, since := x.t, dwellMet := false, gateMain := .off, gateRes := .full, stackLow := x.stackLow } })))) ∧
  ((∀ (s : State) (src : FloorSource) (x : PathSense), s.sup.p1 = true → x.short = false →
    (src = .cell → s.res.cellLow = true ∧ s.sup.dev ≠ .park) →
    Completes (.floor src x) s (fun t =>
    t.res.cellLow = s.res.cellLow ∧ t.res.stackLow = (x.stackLow || decide (src = .stack)) ∧
    (s.res.path = .handover ∨ s.res.path = .reserve →
      t.res.path = .down ∧ t.res.gateMain = .off ∧ t.res.gateRes = .off ∧ t.res.ledger = [] ∧ t.flt.stands 0x704 0 = true) ∧
    (s.res.path ≠ .handover → s.res.path ≠ .reserve → t.res.path = s.res.path ∧ t.res.ledger = []) ∧
    SameFaults [0x704, 0x710] s t ∧ t = { s with now := max s.now x.t, res := t.res, flt := t.flt })) ∧
  (∀ (s : State) (at_ : Ns), s.res.damping = true → s.res.path = .vehicle → s.res.since + 60000000000 ≤ at_ →
    Completes (.dampingEnd at_) s (fun t =>
      t = { s with now := max s.now at_, res := { s.res with damping := false }, flt := t.flt } ∧
      (s.allListed → t.flt.stands 0x703 0 = false) ∧ SameFaults [0x703] s t)) ∧
  (∀ (s : State) (at_ : Ns), s.res.gateMain = .waiting ∨ s.res.gateRes = .waiting →
    s.res.since + (if s.res.path = .rampM then 10000 else 13000) ≤ at_ →
    Completes (.gateInterlockTimeout at_) s (fun t =>
      t.res.path = .cool ∧ t.res.gateMain = .off ∧ t.res.gateRes = .off ∧ t.res.ledger = [] ∧ t.flt.stands 0x70A 0 = true ∧
      SameFaults [0x70A, 0x710] s t ∧ t = { s with now := max s.now at_, res := t.res, flt := t.flt })) ∧
  (∀ (s : State) (p : Pair) (at_ : Ns), s.sup.p1 = true →
    (let g := if p = .main then s.res.gateMain else s.res.gateRes; g = .full ∨ g = .off) →
    Completes (.gateMonitorFault p at_) s (fun t =>
      t = { s with now := max s.now at_, flt := t.flt } ∧ t.flt.stands 0x70A 0 = true ∧ SameFaults [0x70A] s t)))

/-- R339, R345, R346: a short, which goes before any other condition of its instant, turns both pairs off into COOL with fault 0x701, the
fourth of a count into LATCHED with fault 0x702, with every burst cut; COOL ends by what is there then; the count ends after 10 s full on,
and LATCHED once VMAIN is stable again. The model's choice in it: conditions of one cycle (log entry 173). -/
def Obligations.ShortsCoolAndLatch : Prop :=
  (∀ (s : State) (at_ : Ns), s.res.pairOn = true →
    Completes (.shortDetected at_) s (fun t =>
      t.res.path = (if 4 ≤ s.res.shorts + 1 then .latched else .cool) ∧ t.res.shorts = s.res.shorts + 1 ∧ t.res.gateMain = .off ∧
      t.res.gateRes = .off ∧ t.res.since = at_ ∧ t.res.ledger = [] ∧ t.flt.stands 0x701 0 = true ∧
      (3 ≤ s.res.shorts → t.flt.stands 0x702 0 = true) ∧ SameFaults [0x701, 0x702, 0x710] s t ∧
      t = { s with now := max s.now at_, res := t.res, flt := t.flt })) ∧
  (∀ (s : State) (x : PathSense), s.res.path = .cool → ((s.res.since : Nat) : Rat) + s.img.f.path.shortCool * 1000000 ≤ (x.t : Rat) →
    Completes (.coolEnd x) s (fun t =>
      t.res.path = (if s.res.good then .rampM else if (s.sense x).storeOk then .handover else .down) ∧ t.res.since = x.t ∧
      t = { s with now := max s.now x.t, res := t.res, flt := t.flt } ∧ SameFaults [0x710] s t)) ∧
  (∀ (s : State) (x : PathSense), s.sup.p1 = true → x.short = true → s.res.pairOn = true →
    Completes (.vmainFail x) s (fun t =>
      t.res.path = (if 4 ≤ s.res.shorts + 1 then .latched else .cool) ∧ t.flt.stands 0x701 0 = true ∧ t.fixed = s.fixed)) ∧
  (∀ (s : State) (at_ : Ns), s.res.path = .vehicle ∨ s.res.path = .reserve → s.res.since + 10000000000 ≤ at_ →
    Completes (.shortCountReset at_) s (fun t =>
      t = { s with now := max s.now at_, res := { s.res with shorts := 0 }, flt := t.flt } ∧
      (s.allListed → t.flt.stands 0x701 0 = false) ∧ SameFaults [0x701] s t)) ∧
  (∀ (s : State) (at_ : Ns), s.res.path = .latched → s.res.since ≤ s.res.goodFrom → s.res.isStable at_ = true →
    Completes (.latchedExit at_) s (fun t =>
      t.res.path = .down ∧ t.res.shorts = 0 ∧ t.res.stable = true ∧ t.res.since = at_ ∧
      (s.allListed → t.flt.stands 0x702 0 = false ∧ t.flt.stands 0x701 0 = false) ∧
      SameFaults [0x701, 0x702, 0x710] s t ∧ t = { s with now := max s.now at_, res := t.res, flt := t.flt }))

/-- R333, R334: a store below its presence level for 10 rounds is absent, fault 0x705; back again it is taken as changed, fault 0x706, or in
PARK noted for the next RUN. The model's choice in it: a store brought back in PARK (log entry 84). -/
def Obligations.StorePresence : Prop :=
  (∀ s : State, s.storeCells ≠ 0 → s.res.absent = false → s.sup.dev = .park ∨ 10 ≤ s.res.presRuns.bad →
    Completes .storeAbsent s (fun t =>
      t = { s with res := { s.res with absent := true }, flt := t.flt } ∧ t.flt.stands 0x705 0 = true ∧ SameFaults [0x705] s t)) ∧
  (∀ s : State, s.res.absent = true → s.sup.dev = .park →
    Completes .storePresent s (fun t =>
      t = { s with res := { s.res with absent := false, swapped := true }, flt := t.flt } ∧
      (s.allListed → t.flt.stands 0x705 0 = false) ∧ SameFaults [0x705] s t)) ∧
  (∀ s : State, s.res.absent = true → s.sup.dev ≠ .park → 10 ≤ s.res.presRuns.good →
    Completes .storePresent s (fun t =>
      t.res = { s.res with absent := false, changing := true } ∧ t.flt.stands 0x706 0 = true ∧ t.cls.store.tackFrom = s.now ∧
      t.cls.store.overdue = false ∧ t.cls.pack = s.cls.pack ∧ t.fixed = s.fixed ∧
      t = { s with res := t.res, cls := t.cls, lrn := t.lrn, seam := t.seam, trn := t.trn, flt := t.flt }))

/-- R354 to R358: a request that is admitted opens a burst and is answered as granted, one of an open burst again, and another is refused and
counted; a burst closes on its release or at the end of its duration, and clears fault 0x710; answers leave one by one. -/
def Obligations.BurstsAreGrantedAndClosed : Prop :=
  (∀ (s : State) (line : Nat) (at_ : Ns), s.breqOn line = true →
    let s0 := (s.at at_).ledgerAt at_
    Completes (.breqEdge line at_) s (fun t =>
      (∀ e, s0.burst line = some e → t = { s0 with res := { s0.res with answers := s.res.answers ++ [(10 + 10 * line, at_)] } }) ∧
      (∀ p, s0.burst line = none → s0.admits line = some p →
        let d := s.img.f.burst.maxDuration
        t = { s0 with res := { s0.res with
          ledger := s0.res.ledger ++ [⟨line, s.pace.round, at_, p, d, p * d / 3600000, 0⟩]
          answers := s.res.answers ++ [(10 + 10 * line, at_)] } }) ∧
      (s0.burst line = none → s0.admits line = none →
        t = { s0 with res := { s0.res with refusals := t.res.refusals, answers := s.res.answers ++ [(30 + 10 * line, at_)] } } ∧
        (line < 2 → t.res.refusals.getD line 0 = s.res.refusals.getD line 0 + 1)))) ∧
  (∀ (s : State) (line : Nat) (at_ : Ns) (e : LedgerEntry), s.burst line = some e →
    let closed (k : BurstEnd) (t : State) : Prop :=
      t.res.ledger = (s.res.ledger.filter fun x => !(x.line == e.line)) ∧
      t.res.closed = s.res.closed ++ [({ e with rb := 0 }, k, (at_ - e.t) / 1000000)] ∧
      (s.allListed → t.flt.stands 0x710 0 = false) ∧ SameFaults [0x710] s t ∧
      t = { s with now := max s.now at_, res := t.res, flt := t.flt }
    Completes (.burstRelease line at_) s (closed .released) ∧
    (e.t + 1000000 * e.duration ≤ at_ → Completes (.burstDurationEnd line at_) s (closed .duration))) ∧
  (∀ (s : State) (at_ : Ns) (us : Nat) (d : Ns) (rest : List (Nat × Ns)), s.res.answers = (us, d) :: rest → s.drivesPath = true →
    (∀ e, s.res.pulseEnd = some e → e + 20000 ≤ at_) → d < at_ → s.tc1Up = true →
    Completes (.bgntAnswer at_) s (fun t =>
      t = { s with
        now := max s.now at_, res := { s.res with answers := rest, pulseEnd := some (at_ + 1000 * us) }
        out := { s.out with answers := t.out.answers } }))

/-- R365, R366, R443, R444: in stitch 2 a seat sends its BEAT on both of its links; an accepted BEAT becomes the latest of its seat, whose
0x803 clears; a frame that fails authentication counts for its link and does nothing else; a window beyond the limit has fault 0x802.
R370, R387: a seat off the grid for four BEATs of the grid seat is unaligned, with fault 0x812; an owner whose self-check fails, or that
has one of faults 0x612, 0x615 and 0x616, raises fault 0x832, and its Self-test condition fails. The model's choice in it: the details of
ownership faults (log entry 91). -/
def Obligations.BeatsAreSentAndTaken : Prop :=
  ((∀ (s : State) (at_ : Ns), s.rounds = true → s.pace.stitch = 2 → s.tc1Up = true →
    Completes (.beatSend at_) s (fun t =>
      let b := (s.at at_).makeBeat
      let head := s.peerHead 1 b.bytes.length
      let r := s.pace.round % 2 ^ 48
      let f := head ++ b.bytes ++ peerTag (s.nv.fuses.domainKey.getD 0) r head b.bytes
      t = { s with now := max s.now at_, own := t.own } ∧ t.own.beat = some b ∧
      t.own.linkU = { s.own.linkU with dep := (s.pace.round, at_) :: s.own.linkU.dep.take 1 } ∧
      t.own.linkD = { s.own.linkD with dep := (s.pace.round, at_) :: s.own.linkD.dep.take 1 } ∧
      (s.peerOn = true → s.flt.peerStopped = false → t.own.sent = s.own.sent ++ [(CutSide.up, f), (CutSide.down, f)]) ∧
      (s.peerOn = false → t.own.sent = s.own.sent))) ∧
  (∀ (s s1 : State) (x : PeerRx) (f : PeerFrame), s.peerAccept 1 x = (s1, some f) →
    (readBeat f.round f.payload).intent = .none_ →
    Completes (.beatReceived x) s (fun t =>
      let b := readBeat f.round f.payload
      (t.view f.origin).map (fun v => (v.beat, v.heard, v.missed, v.role, v.beatRound)) =
        some (some b, true, 0, b.role, s.pace.round) ∧
      (s.allListed → t.flt.stands 0x803 (seatDetail f.origin) = false) ∧
      (b.role ≠ .listener → b.role ≠ .witness → s.acts = true → f.origin < s.seat →
        t.own.role = .listener ∧ t.own.releaseNow = true ∧ t.flt.stands 0x824 0 = true) ∧
      SameFaults [0x803, 0x812, 0x824] s t ∧
      t = { s with
        now := max s.now x.t, own := t.own, pace := { s.pace with idleAdjust := t.pace.idleAdjust }
        pat := { s.pat with turn := t.pat.turn, turnStart := t.pat.turnStart, turnsDone := t.pat.turnsDone }, flt := t.flt })) ∧
  (∀ (s : State) (x : PeerRx), s.peerOn = true →
    (byteAt x.bytes 0 % 16 = 1 ∧ x.framed = false) ∨ byteAt x.bytes 0 % 16 = 0 ∨ 5 ≤ byteAt x.bytes 0 % 16 →
    Completes (.beatReceived x) s (fun t =>
      (x.side = .up → t = { s with own := { s.own with linkU := { s.own.linkU with fails := s.own.linkU.fails + 1 } } }) ∧
      (x.side = .down → t = { s with own := { s.own with linkD := { s.own.linkD with fails := s.own.linkD.fails + 1 } } }))) ∧
  (∀ s : State, s.rounds = true → s.own.window ≠ s.pace.round / 1000 → Completes .peerWindowEnd s (fun t =>
    let beyond := s.img.f.own.authLimit < s.own.linkU.fails ∨ s.img.f.own.authLimit < s.own.linkD.fails
    t = { s with
      own := { s.own with
        window := s.pace.round / 1000, linkU := { s.own.linkU with fails := 0 }, linkD := { s.own.linkD with fails := 0 } }
      flt := t.flt } ∧
    (beyond → t.flt.stands 0x802 0 = true) ∧
    (¬ beyond → s.flt.bit 0x801 = false → s.allListed → t.flt.stands 0x802 0 = false) ∧
    (¬ beyond → s.flt.bit 0x801 = true → t.flt = s.flt) ∧ SameFaults [0x802] s t))) ∧
  ((∀ s : State, 4 ≤ s.own.alignRuns.bad → s.gridSeat ≠ s.seat → s.own.unaligned = false →
    Completes .unaligned s (fun t =>
      t = { s with own := { s.own with unaligned := true }, flt := t.flt } ∧ t.flt.stands 0x812 0 = true ∧
      SameFaults [0x812] s t ∧ t.ownEligible = false)) ∧
  (∀ (s : State) (passed : Bool) (r : Round), s.own.checkFrom = some r → r + 8 ≤ s.pace.round → s.own.role = .owner →
    Completes (.ownerSelfCheck passed) s (fun t =>
      let bad := passed = false ∨ s.flt.bit 0x612 = true ∨ s.flt.bit 0x615 = true ∨ s.flt.bit 0x616 = true
      t = { s with own := { s.own with checkFrom := none }, tst := { s.tst with passed := t.tst.passed }, flt := t.flt } ∧
      (bad → t.tst.passed = false ∧ t.flt.stands 0x832 0 = true ∧ t.ownEligible = false) ∧
      (¬ bad → t.tst.passed = s.tst.passed ∧ t.flt = s.flt) ∧ SameFaults [0x832] s t)))

/-- R372, R373, R375, R381–R383, R444, R445: an accepted CLAIM, YIELD or MIRROR. A provisional, elected or forced CLAIM gives its seat the
role, and a higher-numbered seat in the role releases the group; an accept CLAIM of the successor is noted; a YIELD is the yield in
progress; a command relayed in MIRROR waits at its ring for the tail. The model's choice in it: the round in which a CLAIM takes effect
(log entry 93). -/
def Obligations.PeerFramesMoveTheRoles : Prop :=
  (∀ (s s1 : State) (x : PeerRx) (f : PeerFrame), s.peerAccept 2 x = (s1, some f) →
    let kind := byteAt f.payload 0
    Completes (.claimReceived x) s (fun t =>
      (kind = 0 → (t.view f.origin).map (fun v => v.role) = some .provisional ∧
        (s.attached = true → s.pat.turn = none → f.origin ∉ s.pat.turnsDone → t.pat.turn = some f.origin)) ∧
      (kind = 1 ∨ 3 ≤ kind → (t.view f.origin).map (fun v => v.role) = some .owner ∧
        (s.allListed → t.flt.stands 0x833 0 = false)) ∧
      (kind ≠ 2 → s.acts = true → f.origin < s.seat →
        t.own.role = .listener ∧ t.own.releaseNow = true ∧ t.own.yielding = none ∧ t.flt.stands 0x824 0 = true) ∧
      (∀ y, kind = 2 → s.own.yielding = some y → y.succ = f.origin → t.own.yielding = some { y with accepted := true }) ∧
      (∀ c, 3 ≤ kind → s.own.cutting = some c → c.claimed = none → f.origin < s.seat → f.origin ∈ s.attachedSeats →
        s1.seatEligible f.origin = true → t.own.cutting = some { c with barred := true }) ∧
      SameFaults [0x824, 0x833] s t ∧
      t = { s with
        now := max s.now x.t, own := t.own, pat := { s.pat with turn := t.pat.turn, turnStart := t.pat.turnStart }, flt := t.flt })) ∧
  (∀ (s s1 : State) (x : PeerRx) (f : PeerFrame), s.peerAccept 3 x = (s1, some f) →
    Completes (.yieldReceived x) s (fun t =>
      t = { s with
        now := max s.now x.t
        pat := { s.pat with turn := t.pat.turn, turnsDone := t.pat.turnsDone }
        own := { s1.own with
          turnSent := t.own.turnSent
          yielding := some ⟨f.origin, byteAt f.payload 0, natAt f.payload 2 6, byteAt f.payload 1, 0, false, false⟩ } } ∧
      (byteAt f.payload 1 = 0 → f.origin ∈ t.pat.turnsDone) ∧
      (byteAt f.payload 1 ≠ 0 → t.pat = s.pat ∧ t.own.turnSent = s.own.turnSent))) ∧
  (∀ (s s1 : State) (x : PeerRx) (f : PeerFrame) (r : Ring) (c : List Byte), s.peerAccept 4 x = (s1, some f) → r.port < 256 →
    f.payload = mirrorItem 2 (beBytes 1 r.port ++ c) → s.ring r.port = some r → s.attached = true → s.acts = false →
    Completes (.mirrorReceived x) s (fun t =>
      t.ring r.port = some { r with relay := r.relay ++ [c] } ∧
      t = { s with now := max s.now x.t, own := s1.own, thr := { s.thr with rings := t.thr.rings } }))

/-- R372, R373: S0 takes provisional ownership at stitch 5 of its round 0, S1 alone with fault 0x840 where S0 is silent; the election notes at
the provisional owner which seat is the owner, itself or the one it yields to, or releases the role after two rounds with fault 0x833.
R374, R375: a planned yield is sent in round Y at stitch 5, with H at stitch 0 of round Y + 2, by a provisional owner to the seat that was
elected and by an owner that ceased to be eligible in an earlier round to the lowest eligible seat; the successor accepts it at stitch 5
of the round before H. The model's choice in it: when the election is judged (log entries 130, 131 and 174). -/
def Obligations.OwnershipIsClaimedElectedAndYielded : Prop :=
  ((∀ s : State, s.rounds = true → s.tc1Up = true → s.own.role = .listener → s.img.rom = false → s.img.digest.length = 32 →
    s.tst.passed = true → s.pat.ownTurnDone = false → s.pace.stitch = 5 →
    let taken (t : State) : Prop :=
      t.own = { s.own with role := .provisional, caps := true, pins := true, seq := t.own.seq
                           sent := (s.sendClaim 0 s.pace.round).own.sent } ∧
      t.pat.turn = some s.seat ∧ t.pat.turnStart = s.pace.round ∧ (∀ n ∈ t.thr.nodes, n.identDue = true) ∧
      t = { s with own := t.own, pat := t.pat, thr := { s.thr with nodes := t.thr.nodes }, flt := t.flt }
    (s.seat = 0 → s.pace.round = s.own.since → Completes .provisionalClaim s (fun t => taken t ∧ SameFaults [0x40A] s t)) ∧
    (s.seat = 1 → 1 ∈ s.attachedSeats → s.ownerSeat = none → (∀ v ∈ s.own.views, v.seat ≠ 0 ∨ v.beat = none) →
      s.own.since + s.img.f.own.listenMax ≤ s.pace.round → Completes .listenTimeout s (fun t =>
      taken t ∧ t.flt.stands 0x840 0 = true ∧ SameFaults [0x40A, 0x840] s t))) ∧
  (∀ s : State, s.rounds = true → s.tc1Up = true → s.own.elected = false → s.pat.turn = none → s.pat.testing = none →
    s.turnsOver = true → s.installAwaited = false → s.pace.stitch = 3 →
    Completes .election s (fun t =>
      t.own.elected = true ∧ SameFaults [0x833] s t ∧ t = { s with own := t.own, flt := t.flt } ∧
      (s.lowestEligible (fun _ => true) = none → t.flt.stands 0x833 0 = true ∧
        t.own = { s.own with elected := true
                             releaseAt := if s.own.role = .provisional then some (s.pace.round + 2) else s.own.releaseAt }) ∧
      (∀ k, s.lowestEligible (fun _ => true) = some k → t.flt = s.flt ∧
        t.own = { s.own with elected := true
                             electedSeat := if s.own.role = .provisional then some k else s.own.electedSeat })))) ∧
  ((∀ s : State, s.own.yielding = none → s.own.abandoned = none → s.rounds = true → s.tc1Up = true → s.pace.stitch = 5 →
    let yields (k reason : Nat) (t : State) : Prop :=
      t = { s with own := { s.own with
        yielding := some ⟨s.seat, k, s.pace.round + 2, reason, 0, false, false⟩, electedSeat := none
        seq := t.own.seq, sent := (s.sendYield k reason (s.pace.round + 2)).own.sent } }
    (∀ k, s.own.role = .provisional → s.own.electedSeat = some k → k ≠ s.seat → Completes .yieldSend s (yields k 1)) ∧
    (∀ k r, s.own.role = .owner → s.own.cut = false → s.ownEligible = false → s.own.unfit = some r → r < s.pace.round →
      s.lowestEligible (fun j => !decide (j = s.seat)) = some k →
      Completes .yieldSend s (yields k (if s.own.outvoted = true then 3 else 2)))) ∧
  (∀ (s : State) (y : Yield), s.own.yielding = some y → y.succ = s.seat → y.accepted = false → s.pace.round + 1 = y.h →
    s.pace.stitch = 5 → s.rounds = true → s.tc1Up = true →
    Completes .acceptClaim s (fun t =>
      t = { s with own := { s.own with
        yielding := some { y with accepted := true }, seq := t.own.seq, sent := (s.sendClaim 2 y.h).own.sent } })))

/-- R30, R377–R380, R348: a criterion met at stitch 3, or a trip disagreement, asserts the CUT_OUT pins that face the owner, with fault 0x821;
without a criterion or a successor nothing is cut; the cut seat latches 0x822 with SAFE_N low and drives no CUT_OUT; the successor claims
at stitch 5 and at stitch 6 drives the pins, its path controller as R348 states, with fault 0x823. The model's choice in it: the details
of ownership faults and the round of a forced CLAIM (log entries 91, 93 and 95). -/
def Obligations.CutAndForcedTakeover : Prop :=
  (∀ (s : State) (k : Nat) (v : SeatView), s.seatIn .owner = some k → s.view k = some v → s.rounds = true → s.tc1Up = true →
    s.pace.stitch = 3 → s.judges k = true → s.own.cutting = none →
    let c1 := s.img.f.own.beatMiss ≤ v.missed
    let c2 := s.img.f.own.healthGrace ≤ v.unmet ∧ s.own.yielding = none
    let succ := (s.lowestEligible fun j => !decide (j = k)).isSome = true
    (c1 ∨ c2 → succ → Completes .ownerJudge s (fun t =>
      t = { s with own := { s.own with
        cutting := some ⟨k, s.upSeat == k, s.downSeat == k, s.pace.stitchAt, none, false, false⟩ }, flt := t.flt } ∧
      t.flt.stands 0x821 (seatDetail k) = true ∧ SameFaults [0x821] s t)) ∧
    (¬ c1 ∧ ¬ c2 ∧ s.isOutvoted k = false ∨ ¬ succ → Completes .ownerJudge s (fun t => t = s))) ∧
  (∀ (s : State) (k : Nat) (at_ : Ns), s.seatIn .owner = some k → s.judges k = true → s.own.cutting = none → s.fast.trip = true →
    ((s.fast.tripAt : Nat) : Rat) + s.img.f.own.tripDisagree * 1000 ≤ (at_ : Rat) →
    s.domainOn 2 = true → Completes (.tripDisagree at_) s (fun t =>
      t = { s with now := max s.now at_, own := { s.own with
        cutting := some ⟨k, s.upSeat == k, s.downSeat == k, at_, none, false, false⟩ }, flt := t.flt } ∧
      t.flt.stands 0x821 (seatDetail k) = true ∧ SameFaults [0x821] s t)) ∧
  (∀ (s : State) (at_ : Ns), s.sup.dev ≠ .off → Completes (.cutIn at_) s (fun t =>
    t = { s with now := max s.now at_, own := { s.own with cut := true, cutting := none, yielding := none }, flt := t.flt } ∧
    t.flt.stands 0x822 0 = true ∧ t.flt.safeN = false ∧ t.drives = false ∧ t.drivesCaps = false ∧ t.ownEligible = false ∧
    (∀ c, s.own.cutting = some c → s.allListed → t.flt.stands 0x821 (seatDetail c.seat) = false) ∧ SameFaults [0x821, 0x822] s t)) ∧
  (∀ (s : State) (c : CutPlan), s.own.cutting = some c → s.rounds = true → s.tc1Up = true → s.pace.stitch = 5 → c.claimed = none →
    c.barred = false → c.at_ * 1000 + 2 * (s.pace.lengthPs / 64) ≤ s.pace.stitchAt * 1000 + 1000 → s.attached = true →
    s.lowestEligible (fun k => !decide (k = c.seat)) = some s.seat → Completes .forcedClaim s (fun t =>
      t = { s with own := { s.own with
        cutting := some { c with claimed := some s.pace.round }, seq := t.own.seq
        sent := (s.sendClaim 3 (s.pace.round + 1)).own.sent } })) ∧
  (∀ (s : State) (c : CutPlan) (at_ : Ns), s.own.cutting = some c → c.claimed = some s.pace.round → s.pace.stitch = 6 →
    c.barred = false → c.driven = false → s.own.cut = false → Completes (.forcedTakeoverDrive at_) s (fun t =>
      let p := s.res.path
      t.own = { s.own with pins := true, cutting := some { c with driven := true } } ∧
      t.flt.stands 0x823 0 = true ∧ SameFaults [0x710, 0x823] s t ∧
      (p = .vehicle ∨ p = .rampM ∨ p = .handback → t.res.path = .rampM ∧ t.res.gateMain = .ramping ∧ t.res.gateRes = .off) ∧
      (p = .reserve ∨ p = .handover → t.res.path = if s.storeOk = true then .handover else .down) ∧
      (p = .down ∨ p = .cool ∨ p = .latched → t.res = { s.res with answers := [] }) ∧
      t = { s with now := max s.now at_, res := t.res, own := t.own, flt := t.flt }))

/-- R429: a buffer whose frame is sent holds it no longer, the first buffer of a channel going before the second unless the second's frame has
begun; 0x672 for a channel that is error-passive, 0x670 or 0x671 for one that is bus-off, whose frames wait again, and after recovery it
is error-active; a frame received changes nothing (R6). The model's choice in it: the frame that a bus-off channel was sending (log entry
178). -/
def Obligations.CanChannelsSendAndFail : Prop :=
  ∀ (s : State) (ch : CanChannel),
    let isB : Bool := ch == CanChannel.canb
    let chan (o : Output) : CanChan := if ch = .canb then o.canB else o.canA
    let c := chan s.out
    let put (c' : CanChan) : Output := if ch = .canb then { s.out with canB := c' } else { s.out with canA := c' }
    let again (b : CanBuf) : CanBuf :=
      { b with sending := none, queued := if b.queued.isSome = true then b.queued else b.sending }
    (∀ (act : Bool) (at_ : Ns), c.busOff = false → s.domainOn 6 = true → c.first.queued.isSome = true ∨ c.first.sending.isSome = true →
      Completes (.canTxComplete ch false act at_) s (fun t =>
        t = { s with
          now := max s.now at_
          out := put { c with
            first := if c.first.sending.isSome = true then { c.first with sending := none } else { c.first with queued := none }
            passive := if act = true then false else c.passive } })) ∧
    (∀ (act : Bool) (at_ : Ns), c.busOff = false → s.domainOn 6 = true →
      c.second.sending.isSome = true ∨ (c.second.queued.isSome = true ∧ c.first.queued = none ∧ c.first.sending = none) →
      Completes (.canTxComplete ch true act at_) s (fun t =>
        t = { s with
          now := max s.now at_
          out := put { c with
            second := if c.second.sending.isSome = true then { c.second with sending := none } else { c.second with queued := none }
            passive := if act = true then false else c.passive } })) ∧
    (∀ (second act : Bool) (at_ : Ns), c.busOff = true → Completes (.canTxComplete ch second act at_) s (fun t => t = s)) ∧
    (s.domainOn 6 = true → Completes (.canErrorPassive ch) s (fun t =>
      t = { s with out := put { c with passive := true, activeRounds := 0 }, flt := t.flt } ∧ t.flt.stands 0x672 0 = true ∧
      SameFaults [0x672] s t)) ∧
    (s.domainOn 6 = true → Completes (.canBusOff ch) s (fun t =>
      t = { s with
        out := put { c with busOff := true, activeRounds := 0, first := again c.first, second := again c.second }, flt := t.flt } ∧
      t.flt.stands (if isB = true then 0x671 else 0x670) 0 = true ∧ SameFaults [0x670, 0x671] s t)) ∧
    Completes (.canBusOffRecovery ch) s (fun t => t = { s with out := put { c with busOff := false, passive := false } }) ∧
    (∀ frame, Completes (.canFrameReceived ch frame) s (fun t => t = s))

/-- R22, R436, R438, R6: with the link up and the PHY released the first page waiting that is not late leaves as the next Ethernet frame, and
otherwise none does; pages waiting when the link goes down, or left at stitch 62 of the round after their own, are discarded, the latter
with fault 0x674; PHY_RST_N is released with P6 powered, PG1 good and Ethernet on; whatever is received is discarded. The model's choice
in it: what an Ethernet frame holds (log entry 110). -/
def Obligations.RoundPagesLeaveOrAreDropped : Prop :=
  ∀ s : State,
    let late (p : Round × List Byte) : Prop := p.1 + 1 < s.pace.round ∨ (p.1 + 1 = s.pace.round ∧ 62 ≤ s.pace.stitch)
    (∀ (at_ : Ns) (n : Round) (p : List Byte) (rest : List (Round × List Byte)), s.out.pages = (n, p) :: rest →
      (∀ q ∈ s.out.pages, ¬ late q) →
      (s.out.linkUp = true → s.out.phyOn = true → s.domainOn 6 = true → Completes (.roundPage at_) s (fun t =>
        t = { s with
          now := max s.now at_
          out := { s.out with
            pages := rest, ident := (s.out.ident + 1) % 65536
            lastPage := some ((s.at at_).ethernetFrame s.out.ident p) } })) ∧
      (s.out.linkUp = false ∨ s.out.phyOn = false ∨ s.domainOn 6 = false → Completes (.roundPage at_) s (fun t => t = s))) ∧
    (∀ at_ : Ns, (∀ q ∈ s.out.pages, late q) → Completes (.roundPage at_) s (fun t => t = s)) ∧
    (s.rounds = true → (∃ p ∈ s.out.pages, late p) → Completes .roundPageDrop s (fun t =>
      t = { s with out := { s.out with pages := t.out.pages }, flt := t.flt } ∧
      (∀ p, p ∈ t.out.pages ↔ p ∈ s.out.pages ∧ ¬ late p) ∧ t.out.pages.Sublist s.out.pages ∧
      t.flt.stands 0x674 0 = true ∧ SameFaults [0x674] s t)) ∧
    (∀ up : Bool, Completes (.sgmiiLinkChange up) s (fun t =>
      t = { s with out := { s.out with linkUp := up, pages := if up = true then s.out.pages else [] } })) ∧
    (s.domainOn 6 = true → s.sup.pg1 = true → s.code.ethernet = true → Completes .phyResetRelease s (fun t =>
      t = { s with out := { s.out with phyOn := true } })) ∧
    (∀ frame, Completes (.sgmiiRxDiscard frame) s (fun t => t = s))

/-- R27, R454–R457, R102, R459: a pin keeper that ran out drives FAULT to 0b111 and SAFE_N low and stops PEER; a core pair that loses
lockstep, or falls silent for two stitches, is held in reset, the other pair raising the fault; the loss of the fast clock cuts the device
with 0x687; the crystal, the die temperature and the pace PLL raise theirs. The model's choice in it: the details of fault 0x532 (log
entry 114), and when 0xA01 is held (log entry 115). -/
def Obligations.MonitorsReact : Prop :=
  ∀ s : State,
    (4 ≤ s.flt.keepMiss → s.pace.running = true → Completes .pinKeeperExpiry s (fun t =>
      t = { s with flt := { s.flt with
        safeN := false, pin := 7, pinFrom := s.pace.round, peerStopped := true, pinKeeper := true } })) ∧
    (s.domainOn 3 = true →
      let held (k other c d : Nat) (t : State) : Prop :=
        t = { s with flt := t.flt } ∧ t.flt.tcDown = s.flt.tcDown ++ [k] ∧
        (other ∉ s.flt.tcDown → t.flt.stands c d = true) ∧
        (other ∈ s.flt.tcDown → t.flt = { s.flt with tcDown := t.flt.tcDown }) ∧ SameFaults [c] s t
      (0 ∉ s.flt.tcDown → Completes (.lockstepMismatch .tc0) s (held 0 1 0x530 0) ∧
        (2 ≤ s.flt.beatMiss0 → Completes (.heartbeatMiss .tc0) s (held 0 1 0x532 0))) ∧
      (1 ∉ s.flt.tcDown → Completes (.lockstepMismatch .tc1) s (held 1 0 0x531 0) ∧
        (2 ≤ s.flt.beatMiss1 → Completes (.heartbeatMiss .tc1) s (held 1 0 0x532 1)))) ∧
    (∀ at_ : Ns, s.domainOn 2 = true → s.sup.dev ≠ .off → Completes (.fastClockLoss at_) s (fun t =>
      t = { s with
        now := max s.now at_, own := { s.own with cut := true, cutting := none, yielding := none }, flt := t.flt } ∧
      t.flt.stands 0x687 0 = true ∧ t.flt.stands 0x822 0 = true ∧ t.flt.safeN = false ∧ SameFaults [0x687, 0x821, 0x822] s t)) ∧
    (s.sup.dev ≠ .off → Completes .crystalFail s (fun t =>
      t = { s with flt := t.flt } ∧ t.flt.stands 0x125 0 = true ∧ SameFaults [0x125] s t)) ∧
    (s.rounds = true → 10 ≤ s.acq.dieHot → Completes .dieOvertemp s (fun t =>
      t = { s with flt := t.flt } ∧ t.flt.stands 0xA01 0 = true ∧ SameFaults [0xA01] s t)) ∧
    ((s.sup.dev = .boot ∧ s.sup.bootStep = .imageRun) ∨
        (s.sup.dev = .run ∧ s.pace.running = true ∧ s.pace.round = s.own.since) → Completes .pacePllFail s (fun t =>
      t = { s with tst := { s.tst with passed := false }, flt := t.flt } ∧ t.flt.stands 0x210 0 = true ∧ SameFaults [0x210] s t))

/-- R469, R470, R476, R477: an instruction that the lifecycle state has puts the pins and the data register as Table 19-2 says and leaves all
but the test access as it is; one it does not have behaves as BYPASS. The model's choice in it: IEEE 1149.1 for CLAMP and BYPASS (log
entry 116), BYPASS in the hold (log entry 117). -/
def Obligations.TestAccessDrivesPinsAndData : Prop :=
  ∀ s : State, s.sup.dev ≠ .off → s.tst.hold = false →
    let put (i : TapInstr) (p : PinControl) (data scan : Nat) (t : State) : Prop :=
      t = { s with tst := { s.tst with instr := i, pinsBy := p, data := data, scan := scan } }
    let inPart := s.nv.fuses.lifecycle = .factory ∨ s.nv.fuses.lifecycle = .production
    Completes .bypass s (put .bypass .device 0 s.tst.scan) ∧
    Completes .idcode s (put .idcode .device idcodeValue s.tst.scan) ∧
    (inPart →
      (∀ pins scan, Completes (.samplePreload pins scan) s (put .samplePreload .device pins scan)) ∧
      (∀ scan, Completes (.extest scan) s (put .extest .scan 0 scan) ∧
        Completes (.extestPulse scan) s (put .extestPulse .scan 0 scan) ∧
        Completes (.extestTrain scan) s (put .extestTrain .scan 0 scan)) ∧
      Completes .clamp s (put .clamp .scan 0 s.tst.scan) ∧ Completes .highz s (put .highz .highz 0 s.tst.scan) ∧
      Completes .lbResult s (put .lbResult .device (lbValue s.tst.lb) s.tst.scan) ∧
      Completes .bistResult s (put .bistResult .device s.tst.bist.toNat s.tst.scan)) ∧
    (¬ inPart →
      (∀ a b, Completes (.samplePreload a b) s (put .bypass .device 0 s.tst.scan)) ∧
      (∀ a, ∀ c ∈ [Instr.extest a, .extestPulse a, .extestTrain a, .clamp, .highz, .lbResult, .bistResult],
        Completes c s (put .bypass .device 0 s.tst.scan)) ∧
      (∀ item, Completes (.keyProg item) s (put .bypass .device 0 s.tst.scan)) ∧
      (∀ item, Completes (.fuseRead item) s (put .bypass .device 0 s.tst.scan)) ∧
      (∀ b, Completes (.lcAdvance b) s (put .bypass .device 0 s.tst.scan))) ∧
    (∀ x, Completes (.auth x) s (put .bypass .device 0 s.tst.scan))

/-- R465, R466, R468, R471, R472: a blank item of the lifecycle state's list is programmed once, and of an item that is programmed already, or
is not on the list, the status shows the failure; FUSE_READ shows the public content, and of a key its check value; the lifecycle advances
only where its conditions hold and the fuses read back; an authorisation for this die, verified in the hold under the fused key, takes a
part to RETURN and destroys its keys; without one the boot goes on. The model's choice in it: the status of an item that is not on the
list (log entry 118), and the drawn key (log entry 119). -/
def Obligations.FusesAreProgrammedReadAndAdvanced : Prop :=
  (∀ s : State, s.sup.dev ≠ .off → s.tst.hold = false →
    let f := s.nv.fuses
    let done (i : TapInstr) (fails : Bool) (g : Fuses) (k : Nat) (t : State) : Prop :=
      t = { s with
        tst := { s.tst with instr := i, data := 0, pinsBy := .device, statusFail := fails }
        nv := { s.nv with fuses := g }, freeCtr := s.freeCtr + k }
    (f.lifecycle = .factory →
      (∀ v, Completes (.keyProg (.dieIdentity v)) s
        (if f.dieId = none then done .keyProg false { f with dieId := some (v % 2 ^ 64) } 1 else done .keyProg true f 0)) ∧
      Completes (.keyProg .deviceKey) s
        (if f.deviceKey = none then done .keyProg false { f with deviceKey := some (Config.freeValue s.freeCtr % 2 ^ 128) } 1
         else done .keyProg true f 0) ∧
      (∀ v, Completes (.keyProg (.returnHash v)) s
        (if f.returnHash = none then done .keyProg false { f with returnHash := some (v % 2 ^ 256) } 1 else done .keyProg true f 0)) ∧
      (∀ v, Completes (.keyProg (.domainKey v)) s (done .keyProg true f 0)) ∧
      (∀ ok, let l := ok = true ∧ f.dieId ≠ none ∧ f.deviceKey ≠ none ∧ f.returnHash ≠ none
        (l → Completes (.lcAdvance ok) s (done .lcAdvance false { f with lifecycle := .production } 0)) ∧
        (¬ l → Completes (.lcAdvance ok) s (done .lcAdvance true f 0)))) ∧
    (f.lifecycle = .production →
      (∀ v, Completes (.keyProg (.domainKey v)) s
        (if f.domainKey = none then done .keyProg false { f with domainKey := some (v % 2 ^ 128) } 1 else done .keyProg true f 0)) ∧
      (∀ v, ∀ item ∈ [KeyItem.dieIdentity v, .deviceKey, .returnHash v], Completes (.keyProg item) s (done .keyProg true f 0)) ∧
      (∀ ok, let l := ok = true ∧ f.slots.any Option.isSome = true
        (l → Completes (.lcAdvance ok) s (done .lcAdvance false { f with lifecycle := .field } 0)) ∧
        (¬ l → Completes (.lcAdvance ok) s (done .lcAdvance true f 0)))) ∧
    (f.lifecycle = .factory ∨ f.lifecycle = .production →
      (∀ k v, Completes (.keyProg (.imageSlot k v)) s
        (if k < 4 ∧ f.slots.getD k none = none then done .keyProg false { f with slots := f.slots.set k (some (v % 2 ^ 256)) } 1
         else done .keyProg true f 0)) ∧
      (∀ item, Completes (.fuseRead item) s (fun t =>
        t = { s with tst := { s.tst with instr := .fuseRead, pinsBy := .device, data := t.tst.data } } ∧
        t.tst.data = match item with
          | .dieIdentity => f.dieId.getD 0
          | .deviceKey => keyCheck f.deviceKey
          | .returnHash => f.returnHash.getD 0
          | .imageSlot k => (f.slots.getD k none).getD 0
          | .domainKey => keyCheck f.domainKey
          | .lifecycle => lifecycleCode f.lifecycle)))) ∧
  (∀ (s : State) (x : AuthIn), s.sup.dev ≠ .off → s.tst.hold = true →
    let f := s.nv.fuses
    let verified := x.verifies = true ∧ f.dieId = some x.dieId ∧ ∃ h, f.returnHash = some h ∧ keyHash x.publicKey = some h
    (verified → Completes (.auth x) s (fun t =>
      t.nv.fuses = { f with
        lifecycle := .return_, deviceKey := none, domainKey := none, slots := [none, none, none, none]
        revoked := [true, true, true, true] } ∧
      t.tst = { s.tst with instr := .auth, data := 0, pinsBy := .device, hold := false, authOk := true } ∧
      SameFaults [0x935, 0x936] s t ∧ t = { s with nv := t.nv, tst := t.tst, flt := t.flt })) ∧
    (¬ verified → Completes (.auth x) s (fun t =>
      t = { s with tst := { s.tst with instr := .auth, data := 0, pinsBy := .device } }))) ∧
  (∀ s : State, s.tst.hold = true → Completes .returnHoldEnd s (fun t =>
    t = { s with tst := { s.tst with hold := false, instr := .bypass, data := 0 } }))

/-- R473–R477: in loop-back mode each phase ends with its results at their places, each by the criterion of its depth, a depth the codes leave
out staying 0, and the end of the fourth shows the outcome on FAULT; production BIST shows its result on FAULT, with SAFE_N high where no
cut is latched. The model's choice in it: the order of phases and results (log entries 121 and 184). -/
def Obligations.LoopbackAndProductionTests : Prop :=
  (∀ (s : State) (runs : List LbRun), s.sup.dev = .boot → s.tst.mode = .loopback → s.sup.bootStep = .selfTested → s.tst.phase < 5 →
    s.tst.lb.length = 49 → Completes (.loopbackPhase runs) s (fun t =>
      t.tst = { s.tst with phase := s.tst.phase + 1, lb := t.tst.lb } ∧
      t.own = { s.own with role := .provisional, caps := false, pins := false } ∧
      (∀ k, k < (phaseEntries s.tst.phase).length →
        let i := (phaseEntries s.tst.phase).getD k 0
        t.tst.lb.getD i 3 = if s.depthRuns i = true then
          (match runs.getD k .none_ with
            | .none_ => 0
            | .prbs sent checked errors => if errors = 0 ∧ 95 * sent ≤ 100 * checked then 1 else 2
            | .frames sent good => if good = sent then 1 else 2
            | .memory errors => if errors = 0 then 1 else 2
            | .echo rts => if rts.length = 8 ∧ (∀ a ∈ rts, ∀ b ∈ rts, a ≤ b + 10) then 1 else 2) else 0) ∧
      (∀ i, i ∉ phaseEntries s.tst.phase → t.tst.lb.getD i 3 = s.tst.lb.getD i 3) ∧
      (s.tst.phase = 4 → t.flt = { s.flt with safeN := !s.own.cut, pin := outcomeLevel t.tst.lb, pinFrom := s.pace.round }) ∧
      (s.tst.phase ≠ 4 → t.flt = s.flt) ∧ t = { s with tst := t.tst, own := t.own, flt := t.flt })) ∧
  (∀ (s : State) (result : BitVec 128) (allRun passed : Bool), s.sup.dev = .boot → s.tst.mode = .bist →
    (s.sup.bootStep = .domainsOn ∨ s.sup.bootStep = .selfTested) → s.tst.bistDone = false →
    Completes (.productionBist result allRun passed) s (fun t =>
      t = { s with
        tst := { s.tst with bist := result, bistDone := true }
        flt := { s.flt with
          safeN := !s.own.cut, pin := if passed = false then 7 else if allRun = true then 1 else 2, pinFrom := s.pace.round } }))
end

