-- ==== Sys2Proof/Laws/Frame.lean ====
section
/-!
SUPPORT. The operations that leave the fixed part of the state as it is: the queue, the fuses, the latched straps and codes, and
the image fields in force (R3 to R8).
-/
namespace Sys2Proof.Machine

set_option linter.unusedTactic false
set_option linter.unreachableTactic false
set_option linter.unusedSimpArgs false

theorem fixed_mk (a b c d e f g h i j k l m n o p q r t u v w x y) :
  State.fixed ⟨a, b, c, d, e, f, g, h, i, j, k, l, m, n, o, p, q, r, t, u, v, w, x, y⟩ = ⟨a, t.fuses, e.latched, f.levels, g.f⟩ := rfl
theorem fixed_fold (s : State) : (⟨s.pending, s.nv.fuses, s.strap.latched, s.code.levels, s.img.f⟩ : Fixed) = s.fixed := rfl
theorem fixed_ite (c : Prop) [Decidable c] (a b : State) : (if c then a else b).fixed = if c then a.fixed else b.fixed := apply_ite _ _ _ _
theorem foldl_fixed {α : Type} (f : State → α → State) (h : ∀ s a, (f s a).fixed = s.fixed) (l : List α) (s : State) : (l.foldl f s).fixed = s.fixed := by
  induction l generalizing s with
  | nil => rfl
  | cons a l ih => simp [ih, h]

theorem State.parkPins_fixed (s : State) : (State.parkPins s).fixed = s.fixed := by
  unfold State.parkPins
  repeat' first | rfl | simp only [↓fixed_mk, ↓fixed_ite, fixed_fold, ite_self, implies_true, ↓foldl_fixed] | rw [foldl_fixed] | split | intro _
theorem State.pinsUp_fixed (s : State) : (State.pinsUp s).fixed = s.fixed := by
  unfold State.pinsUp
  repeat' first | rfl | simp only [↓fixed_mk, ↓fixed_ite, fixed_fold, ite_self, implies_true, ↓State.parkPins_fixed, ↓foldl_fixed] | rw [foldl_fixed] | split | intro _
theorem State.log_fixed (s : State) (kind : ℕ) (payload : List Byte) : (State.log s kind payload).fixed = s.fixed := by
  unfold State.log
  repeat' first | rfl | simp only [↓fixed_mk, ↓fixed_ite, fixed_fold, ite_self, implies_true, ↓foldl_fixed] | rw [foldl_fixed] | split | intro _
theorem State.reportRaise_fixed (s : State) (i : FaultInst) : (State.reportRaise s i).fixed = s.fixed := by
  unfold State.reportRaise
  repeat' first | rfl | simp only [↓fixed_mk, ↓fixed_ite, fixed_fold, ite_self, implies_true, ↓State.log_fixed, ↓foldl_fixed] | rw [foldl_fixed] | split | intro _
theorem State.reportClear_fixed (s : State) (i : FaultInst) : (State.reportClear s i).fixed = s.fixed := by
  unfold State.reportClear
  repeat' first | rfl | simp only [↓fixed_mk, ↓fixed_ite, fixed_fold, ite_self, implies_true, ↓State.log_fixed, ↓foldl_fixed] | rw [foldl_fixed] | split | intro _
theorem State.raiseOverflow_fixed (s : State) (code : ℕ) : (State.raiseOverflow s code).fixed = s.fixed := by
  unfold State.raiseOverflow
  repeat' first | rfl | simp only [↓fixed_mk, ↓fixed_ite, fixed_fold, ite_self, implies_true, ↓State.reportRaise_fixed, ↓foldl_fixed] | rw [foldl_fixed] | split | intro _
theorem State.raiseInst_fixed (s : State) (i : FaultInst) : (State.raiseInst s i).fixed = s.fixed := by
  unfold State.raiseInst
  repeat' first | rfl | simp only [↓fixed_mk, ↓fixed_ite, fixed_fold, ite_self, implies_true, ↓State.pinsUp_fixed, ↓State.reportRaise_fixed, ↓State.raiseOverflow_fixed, ↓foldl_fixed] | rw [foldl_fixed] | split | intro _
theorem State.raise_fixed (s : State) (code : ℕ) (detail : ℕ) : (State.raise s code detail).fixed = s.fixed := by
  unfold State.raise
  repeat' first | rfl | simp only [↓fixed_mk, ↓fixed_ite, fixed_fold, ite_self, implies_true, ↓State.raiseInst_fixed, ↓foldl_fixed] | rw [foldl_fixed] | split | intro _
theorem State.raiseHigh_fixed (s : State) (code : ℕ) (detail : ℕ) : (State.raiseHigh s code detail).fixed = s.fixed := by
  unfold State.raiseHigh
  repeat' first | rfl | simp only [↓fixed_mk, ↓fixed_ite, fixed_fold, ite_self, implies_true, ↓State.raiseInst_fixed, ↓foldl_fixed] | rw [foldl_fixed] | split | intro _
theorem State.clear_fixed (s : State) (code : ℕ) (detail : ℕ) : (State.clear s code detail).fixed = s.fixed := by
  unfold State.clear
  repeat' first | rfl | simp only [↓fixed_mk, ↓fixed_ite, fixed_fold, ite_self, implies_true, ↓State.reportClear_fixed, ↓foldl_fixed] | rw [foldl_fixed] | split | intro _
theorem State.clearAll_fixed (s : State) (code : ℕ) : (State.clearAll s code).fixed = s.fixed := by
  unfold State.clearAll
  repeat' first | rfl | simp only [↓fixed_mk, ↓fixed_ite, fixed_fold, ite_self, implies_true, ↓State.clear_fixed, ↓foldl_fixed] | rw [foldl_fixed] | split | intro _
theorem State.judge_fixed (s : State) (code : ℕ) (detail : ℕ) (cond : Bool) : (State.judge s code detail cond).fixed = s.fixed := by
  unfold State.judge
  repeat' first | rfl | simp only [↓fixed_mk, ↓fixed_ite, fixed_fold, ite_self, implies_true, ↓State.raise_fixed, ↓State.clear_fixed, ↓foldl_fixed] | rw [foldl_fixed] | split | intro _
theorem State.judge2_fixed (s : State) (code : ℕ) (detail : ℕ) (up : Bool) (down : Bool) : (State.judge2 s code detail up down).fixed = s.fixed := by
  unfold State.judge2
  repeat' first | rfl | simp only [↓fixed_mk, ↓fixed_ite, fixed_fold, ite_self, implies_true, ↓State.raise_fixed, ↓State.clear_fixed, ↓foldl_fixed] | rw [foldl_fixed] | split | intro _
theorem State.raiseFor_fixed (s : State) (code : ℕ) (detail : ℕ) (rounds : ℕ) : (State.raiseFor s code detail rounds).fixed = s.fixed := by
  unfold State.raiseFor
  repeat' first | rfl | simp only [↓fixed_mk, ↓fixed_ite, fixed_fold, ite_self, implies_true, ↓State.raise_fixed, ↓foldl_fixed] | rw [foldl_fixed] | split | intro _
theorem State.holdsRound_fixed (s : State) : (State.holdsRound s).fixed = s.fixed := by
  unfold State.holdsRound
  repeat' first | rfl | simp only [↓fixed_mk, ↓fixed_ite, fixed_fold, ite_self, implies_true, ↓State.clear_fixed, ↓foldl_fixed] | rw [foldl_fixed] | split | intro _
theorem State.pinsRound_fixed (s : State) : (State.pinsRound s).fixed = s.fixed := by
  unfold State.pinsRound
  repeat' first | rfl | simp only [↓fixed_mk, ↓fixed_ite, fixed_fold, ite_self, implies_true, ↓State.parkPins_fixed, ↓foldl_fixed] | rw [foldl_fixed] | split | intro _
theorem State.setPins_fixed (s : State) (safe : Bool) (level : BitVec 3) : (State.setPins s safe level).fixed = s.fixed := by
  unfold State.setPins
  repeat' first | rfl | simp only [↓fixed_mk, ↓fixed_ite, fixed_fold, ite_self, implies_true, ↓foldl_fixed] | rw [foldl_fixed] | split | intro _
theorem State.at_fixed (s : State) (t : Ns) : (State.at s t).fixed = s.fixed := by
  unfold State.at
  repeat' first | rfl | simp only [↓fixed_mk, ↓fixed_ite, fixed_fold, ite_self, implies_true, ↓foldl_fixed] | rw [foldl_fixed] | split | intro _
theorem State.updRing_fixed (s : State) (port : ℕ) (f : Ring → Ring) : (State.updRing s port f).fixed = s.fixed := by
  unfold State.updRing
  repeat' first | rfl | simp only [↓fixed_mk, ↓fixed_ite, fixed_fold, ite_self, implies_true, ↓foldl_fixed] | rw [foldl_fixed] | split | intro _
theorem State.updNode_fixed (s : State) (id : NodeId) (f : Node → Node) : (State.updNode s id f).fixed = s.fixed := by
  unfold State.updNode
  repeat' first | rfl | simp only [↓fixed_mk, ↓fixed_ite, fixed_fold, ite_self, implies_true, ↓foldl_fixed] | rw [foldl_fixed] | split | intro _
theorem State.updPort_fixed (s : State) (port : ℕ) (f : PortRx → PortRx) : (State.updPort s port f).fixed = s.fixed := by
  unfold State.updPort
  repeat' first | rfl | simp only [↓fixed_mk, ↓fixed_ite, fixed_fold, ite_self, implies_true, ↓foldl_fixed] | rw [foldl_fixed] | split | intro _
theorem State.violate_fixed (s : State) (id : NodeId) (code : ℕ) : (State.violate s id code).fixed = s.fixed := by
  unfold State.violate
  repeat' first | rfl | simp only [↓fixed_mk, ↓fixed_ite, fixed_fold, ite_self, implies_true, ↓State.updRing_fixed, ↓State.updNode_fixed, ↓State.raise_fixed, ↓foldl_fixed] | rw [foldl_fixed] | split | intro _
theorem State.portError_fixed (s : State) (port : ℕ) : (State.portError s port).fixed = s.fixed := by
  unfold State.portError
  repeat' first | rfl | simp only [↓fixed_mk, ↓fixed_ite, fixed_fold, ite_self, implies_true, ↓State.updPort_fixed, ↓State.raise_fixed, ↓foldl_fixed] | rw [foldl_fixed] | split | intro _
theorem State.recordConf_fixed (s : State) (port : ℕ) (l : List Byte) : (State.recordConf s port l).fixed = s.fixed := by
  unfold State.recordConf
  repeat' first | rfl | simp only [↓fixed_mk, ↓fixed_ite, fixed_fold, ite_self, implies_true, ↓State.updNode_fixed, ↓foldl_fixed] | rw [foldl_fixed] | split | intro _
theorem State.dropCmd_fixed (s : State) (n : Node) (c : Cmd) : (State.dropCmd s n c).fixed = s.fixed := by
  unfold State.dropCmd
  repeat' first | rfl | simp only [↓fixed_mk, ↓fixed_ite, fixed_fold, ite_self, implies_true, ↓State.updNode_fixed, ↓State.clear_fixed, ↓foldl_fixed] | rw [foldl_fixed] | split | intro _
theorem State.dropCmds_fixed (s : State) (n : Node) : (State.dropCmds s n).fixed = s.fixed := by
  unfold State.dropCmds
  repeat' first | rfl | simp only [↓fixed_mk, ↓fixed_ite, fixed_fold, ite_self, implies_true, ↓State.updNode_fixed, ↓State.clear_fixed, ↓foldl_fixed] | rw [foldl_fixed] | split | intro _
theorem State.respCheck_fixed (s : State) (id : NodeId) (seq : ℕ) (code : ℕ) : (State.respCheck s id seq code).fixed = s.fixed := by
  unfold State.respCheck
  repeat' first | rfl | simp only [↓fixed_mk, ↓fixed_ite, fixed_fold, ite_self, implies_true, ↓State.violate_fixed, ↓foldl_fixed] | rw [foldl_fixed] | split | intro _
theorem State.ackCheck_fixed (s : State) (id : NodeId) (seq : ℕ) (code : ℕ) (epoch : ℕ) : (State.ackCheck s id seq code epoch).fixed = s.fixed := by
  unfold State.ackCheck
  repeat' first | rfl | simp only [↓fixed_mk, ↓fixed_ite, fixed_fold, ite_self, implies_true, ↓State.violate_fixed, ↓State.updNode_fixed, ↓State.dropCmd_fixed, ↓foldl_fixed] | rw [foldl_fixed] | split | intro _
theorem State.epochCheck_fixed (s : State) (id : NodeId) (e : ℕ) : (State.epochCheck s id e).fixed = s.fixed := by
  unfold State.epochCheck
  repeat' first | rfl | simp only [↓fixed_mk, ↓fixed_ite, fixed_fold, ite_self, implies_true, ↓State.updNode_fixed, ↓State.violate_fixed, ↓foldl_fixed] | rw [foldl_fixed] | split | intro _
theorem State.takeSamples_fixed (s : State) (id : NodeId) (l : List Byte) : (State.takeSamples s id l).fixed = s.fixed := by
  unfold State.takeSamples
  repeat' first | rfl | simp only [↓fixed_mk, ↓fixed_ite, fixed_fold, ite_self, implies_true, ↓State.updNode_fixed, ↓State.violate_fixed, ↓foldl_fixed] | rw [foldl_fixed] | split | intro _
theorem State.reported_fixed (s : State) (id : NodeId) (seq : ℕ) (code : ℕ) : (State.reported s id seq code).fixed = s.fixed := by
  unfold State.reported
  repeat' first | rfl | simp only [↓fixed_mk, ↓fixed_ite, fixed_fold, ite_self, implies_true, ↓State.updNode_fixed, ↓State.updRing_fixed, ↓foldl_fixed] | rw [foldl_fixed] | split | intro _
theorem State.settleRead_fixed (s : State) (id : NodeId) (l : List Byte) : (State.settleRead s id l).fixed = s.fixed := by
  unfold State.settleRead
  repeat' first | rfl | simp only [↓fixed_mk, ↓fixed_ite, fixed_fold, ite_self, implies_true, ↓State.epochCheck_fixed, ↓State.updNode_fixed, ↓State.clear_fixed, ↓State.ackCheck_fixed, ↓State.respCheck_fixed, ↓State.reported_fixed, ↓State.takeSamples_fixed, ↓foldl_fixed] | rw [foldl_fixed] | split | intro _
theorem State.acceptRead_fixed (s : State) (id : NodeId) (e : RingEnd) (l : List Byte) : (State.acceptRead s id e l).fixed = s.fixed := by
  unfold State.acceptRead
  repeat' first | rfl | simp only [↓fixed_mk, ↓fixed_ite, fixed_fold, ite_self, implies_true, ↓State.updNode_fixed, ↓State.settleRead_fixed, ↓State.violate_fixed, ↓foldl_fixed] | rw [foldl_fixed] | split | intro _
theorem State.settleReads_fixed (s : State) : (State.settleReads s).fixed = s.fixed := by
  unfold State.settleReads
  repeat' first | rfl | simp only [↓fixed_mk, ↓fixed_ite, fixed_fold, ite_self, implies_true, ↓State.settleRead_fixed, ↓foldl_fixed] | rw [foldl_fixed] | split | intro _
theorem State.snapRing_fixed (s : State) (r : Ring) : (State.snapRing s r).fixed = s.fixed := by
  unfold State.snapRing
  repeat' first | rfl | simp only [↓fixed_mk, ↓fixed_ite, fixed_fold, ite_self, implies_true, ↓State.updRing_fixed, ↓foldl_fixed] | rw [foldl_fixed] | split | intro _
theorem snapSend_fixed (s : State) : (snapSend s).fixed = s.fixed := by
  unfold snapSend
  repeat' first | rfl | simp only [↓fixed_mk, ↓fixed_ite, fixed_fold, ite_self, implies_true, ↓State.snapRing_fixed, ↓foldl_fixed] | rw [foldl_fixed] | split | intro _
theorem snapReceived_fixed (x : ThreadRx) (s : State) : (snapReceived x s).fixed = s.fixed := by
  unfold snapReceived
  repeat' first | rfl | simp only [↓fixed_mk, ↓fixed_ite, fixed_fold, ite_self, implies_true, ↓State.portError_fixed, ↓State.raise_fixed, ↓State.updPort_fixed, ↓State.updRing_fixed, ↓State.judge_fixed, ↓foldl_fixed] | rw [foldl_fixed] | split | intro _
theorem CmdPick.send_fixed (p : CmdPick) (n : Node) (c : Cmd) : (p.send n c).state.fixed = p.state.fixed := by
  show (State.recordConf _ _ _).fixed = _
  rw [State.recordConf_fixed, State.updNode_fixed]
theorem CmdPick.visit_fixed (ident : Bool) (p : CmdPick) (id : NodeId) :
    (CmdPick.visit ident p id).state.fixed = p.state.fixed := by
  unfold CmdPick.visit; dsimp only
  repeat' first | rfl | exact CmdPick.send_fixed _ _ _ | (rw [CmdPick.send_fixed]; exact State.updNode_fixed _ _ _) | split
theorem State.pickCommands_fixed (s : State) (port : Nat) : (s.pickCommands port).state.fixed = s.fixed := by
  suffices h : ∀ (ident : Bool) (l : List NodeId) (p : CmdPick),
      (l.foldl (CmdPick.visit ident) p).state.fixed = p.state.fixed by
    unfold State.pickCommands
    rw [h, h]
  intro ident l
  induction l with
  | nil => intro p; rfl
  | cons a l ih => intro p; rw [List.foldl_cons, ih, CmdPick.visit_fixed]

theorem State.tokenRing_fixed (s : State) (r : Ring) : (State.tokenRing s r).fixed = s.fixed := by
  unfold State.tokenRing; dsimp only
  split
  · rfl
  · split
    · exact State.updRing_fixed _ _ _
    · split
      · split
        · rw [State.updRing_fixed, State.pickCommands_fixed]
        · exact State.updRing_fixed _ _ _
      · rw [State.updRing_fixed]
        exact foldl_fixed _ (fun u f => State.recordConf_fixed _ _ _) _ _
theorem tokenSend_fixed (s : State) : (tokenSend s).fixed = s.fixed := by
  unfold tokenSend
  repeat' first | rfl | simp only [↓fixed_mk, ↓fixed_ite, fixed_fold, ite_self, implies_true, ↓State.tokenRing_fixed, ↓foldl_fixed] | rw [foldl_fixed] | split | intro _
theorem State.flowMarks_fixed (s : State) (port : ℕ) (x : ReadRx) : (State.flowMarks s port x).fixed = s.fixed := by
  unfold State.flowMarks
  repeat' first | rfl | simp only [↓fixed_mk, ↓fixed_ite, fixed_fold, ite_self, implies_true, ↓State.raise_fixed, ↓State.updNode_fixed, ↓State.violate_fixed, ↓foldl_fixed] | rw [foldl_fixed] | split | intro _
theorem State.identSeen_fixed (s : State) (ring : ℕ) (l : List Byte) : (State.identSeen s ring l).fixed = s.fixed := by
  unfold State.identSeen
  repeat' first | rfl | simp only [↓fixed_mk, ↓fixed_ite, fixed_fold, ite_self, implies_true, ↓State.updNode_fixed, ↓foldl_fixed] | rw [foldl_fixed] | split | intro _
theorem State.takeCommand_fixed (s : State) (ring : ℕ) (port : ℕ) (f : ThreadRx) : (State.takeCommand s ring port f).fixed = s.fixed := by
  unfold State.takeCommand
  repeat' first | rfl | simp only [↓fixed_mk, ↓fixed_ite, fixed_fold, ite_self, implies_true, ↓State.identSeen_fixed, ↓State.recordConf_fixed, ↓State.portError_fixed, ↓foldl_fixed] | rw [foldl_fixed] | split | intro _
theorem State.markEnd_fixed (s : State) (port : ℕ) (b : ℕ) : (State.markEnd s port b).fixed = s.fixed := by
  unfold State.markEnd
  repeat' first | rfl | simp only [↓fixed_mk, ↓fixed_ite, fixed_fold, ite_self, implies_true, ↓State.updRing_fixed, ↓foldl_fixed] | rw [foldl_fixed] | split | intro _
theorem State.judgeRead_fixed (s : State) (port : ℕ) (e : RingEnd) (l : List Byte) : (State.judgeRead s port e l).fixed = s.fixed := by
  unfold State.judgeRead
  repeat' first | rfl | simp only [↓fixed_mk, ↓fixed_ite, fixed_fold, ite_self, implies_true, ↓State.markEnd_fixed, ↓State.acceptRead_fixed, ↓State.violate_fixed, ↓foldl_fixed] | rw [foldl_fixed] | split | intro _
theorem readReceived_fixed (x : ReadRx) (s : State) : (readReceived x s).fixed = s.fixed := by
  unfold readReceived
  repeat' first | rfl | simp only [↓fixed_mk, ↓fixed_ite, fixed_fold, ite_self, implies_true, ↓State.takeCommand_fixed, ↓State.flowMarks_fixed, ↓State.portError_fixed, ↓State.violate_fixed, ↓State.raise_fixed, ↓State.updPort_fixed, ↓State.updRing_fixed, ↓State.judgeRead_fixed, ↓foldl_fixed] | rw [foldl_fixed] | split | intro _
theorem retriesSpent_fixed (id : NodeId) (s : State) : (retriesSpent id s).fixed = s.fixed := by
  unfold retriesSpent
  repeat' first | rfl | simp only [↓fixed_mk, ↓fixed_ite, fixed_fold, ite_self, implies_true, ↓State.raise_fixed, ↓State.updNode_fixed, ↓foldl_fixed] | rw [foldl_fixed] | split | intro _
theorem commandResend_fixed (id : NodeId) (s : State) : (commandResend id s).fixed = s.fixed := by
  unfold commandResend
  repeat' first | rfl | simp only [↓fixed_mk, ↓fixed_ite, fixed_fold, ite_self, implies_true, ↓State.updNode_fixed, ↓foldl_fixed] | rw [foldl_fixed] | split | intro _
theorem nodeLost_fixed (id : NodeId) (s : State) : (nodeLost id s).fixed = s.fixed := by
  unfold nodeLost
  repeat' first | rfl | simp only [↓fixed_mk, ↓fixed_ite, fixed_fold, ite_self, implies_true, ↓State.raise_fixed, ↓State.updNode_fixed, ↓foldl_fixed] | rw [foldl_fixed] | split | intro _
theorem State.holdOut_fixed (s : State) (ring : ℕ) (link : ℕ) (cause : ℕ) : (State.holdOut s ring link cause).fixed = s.fixed := by
  unfold State.holdOut
  repeat' first | rfl | simp only [↓fixed_mk, ↓fixed_ite, fixed_fold, ite_self, implies_true, ↓foldl_fixed] | rw [foldl_fixed] | split | intro _
theorem State.mapOut_fixed (s : State) (ring : ℕ) (link : ℕ) (cause : ℕ) : (State.mapOut s ring link cause).fixed = s.fixed := by
  unfold State.mapOut
  repeat' first | rfl | simp only [↓fixed_mk, ↓fixed_ite, fixed_fold, ite_self, implies_true, ↓State.raise_fixed, ↓State.holdOut_fixed, ↓foldl_fixed] | rw [foldl_fixed] | split | intro _
theorem ringReversal_fixed (port : ℕ) (s : State) : (ringReversal port s).fixed = s.fixed := by
  unfold ringReversal
  repeat' first | rfl | simp only [↓fixed_mk, ↓fixed_ite, fixed_fold, ite_self, implies_true, ↓State.raise_fixed, ↓State.updRing_fixed, ↓foldl_fixed] | rw [foldl_fixed] | split | intro _
theorem State.countBreak_fixed (s : State) (port : ℕ) (m : ℕ) (link : ℕ) : (State.countBreak s port m link).fixed = s.fixed := by
  unfold State.countBreak
  repeat' first | rfl | simp only [↓fixed_mk, ↓fixed_ite, fixed_fold, ite_self, implies_true, ↓State.updRing_fixed, ↓State.mapOut_fixed, ↓foldl_fixed] | rw [foldl_fixed] | split | intro _
theorem State.findBreak_fixed (s : State) (r : Ring) : (State.findBreak s r).fixed = s.fixed := by
  unfold State.findBreak
  repeat' first | rfl | simp only [↓fixed_mk, ↓fixed_ite, fixed_fold, ite_self, implies_true, ↓State.countBreak_fixed, ↓State.updRing_fixed, ↓foldl_fixed] | rw [foldl_fixed] | split | intro _
theorem reversalEnd_fixed (port : ℕ) (s : State) : (reversalEnd port s).fixed = s.fixed := by
  unfold reversalEnd
  repeat' first | rfl | simp only [↓fixed_mk, ↓fixed_ite, fixed_fold, ite_self, implies_true, ↓State.clear_fixed, ↓State.updRing_fixed, ↓foldl_fixed] | rw [foldl_fixed] | split | intro _
theorem State.windowNode_fixed (s : State) (n : Node) : (State.windowNode s n).fixed = s.fixed := by
  unfold State.windowNode
  repeat' first | rfl | simp only [↓fixed_mk, ↓fixed_ite, fixed_fold, ite_self, implies_true, ↓State.updNode_fixed, ↓State.clear_fixed, ↓foldl_fixed] | rw [foldl_fixed] | split | intro _
theorem State.windowPort_fixed (s : State) (p : PortRx) : (State.windowPort s p).fixed = s.fixed := by
  unfold State.windowPort
  repeat' first | rfl | simp only [↓fixed_mk, ↓fixed_ite, fixed_fold, ite_self, implies_true, ↓State.updPort_fixed, ↓State.judge_fixed, ↓foldl_fixed] | rw [foldl_fixed] | split | intro _
theorem violationWindowEnd_fixed (s : State) : (violationWindowEnd s).fixed = s.fixed := by
  unfold violationWindowEnd
  repeat' first | rfl | simp only [↓fixed_mk, ↓fixed_ite, fixed_fold, ite_self, implies_true, ↓State.windowPort_fixed, ↓State.windowNode_fixed, ↓foldl_fixed] | rw [foldl_fixed] | split | intro _
theorem State.roundNode_fixed (s : State) (n : Node) : (State.roundNode s n).fixed = s.fixed := by
  unfold State.roundNode
  repeat' first | rfl | simp only [↓fixed_mk, ↓fixed_ite, fixed_fold, ite_self, implies_true, ↓State.updNode_fixed, ↓State.dropCmds_fixed, ↓State.clear_fixed, ↓foldl_fixed] | rw [foldl_fixed] | split | intro _
theorem State.roundRing_fixed (s : State) (r : Ring) : (State.roundRing s r).fixed = s.fixed := by
  unfold State.roundRing
  repeat' first | rfl | simp only [↓fixed_mk, ↓fixed_ite, fixed_fold, ite_self, implies_true, ↓State.findBreak_fixed, ↓State.updRing_fixed, ↓State.updNode_fixed, ↓foldl_fixed] | rw [foldl_fixed] | split | intro _
theorem State.roundPort_fixed (s : State) (p : PortRx) : (State.roundPort s p).fixed = s.fixed := by
  unfold State.roundPort
  repeat' first | rfl | simp only [↓fixed_mk, ↓fixed_ite, fixed_fold, ite_self, implies_true, ↓State.clear_fixed, ↓State.updPort_fixed, ↓foldl_fixed] | rw [foldl_fixed] | split | intro _
theorem State.threadRound_fixed (s : State) (silent : List ℕ) : (State.threadRound s silent).fixed = s.fixed := by
  unfold State.threadRound
  repeat' first | rfl | simp only [↓fixed_mk, ↓fixed_ite, fixed_fold, ite_self, implies_true, ↓State.roundNode_fixed, ↓State.roundRing_fixed, ↓State.roundPort_fixed, ↓State.judge_fixed, ↓foldl_fixed] | rw [foldl_fixed] | split | intro _
theorem State.otherTurn_fixed (s : State) (k : ℕ) : (State.otherTurn s k).fixed = s.fixed := by
  unfold State.otherTurn
  repeat' first | rfl | simp only [↓fixed_mk, ↓fixed_ite, fixed_fold, ite_self, implies_true, ↓foldl_fixed] | rw [foldl_fixed] | split | intro _
theorem State.turnOver_fixed (s : State) (k : ℕ) : (State.turnOver s k).fixed = s.fixed := by
  unfold State.turnOver
  repeat' first | rfl | simp only [↓fixed_mk, ↓fixed_ite, fixed_fold, ite_self, implies_true, ↓foldl_fixed] | rw [foldl_fixed] | split | intro _
theorem State.beginTurn_fixed (s : State) : (State.beginTurn s).fixed = s.fixed := by
  unfold State.beginTurn
  repeat' first | rfl | simp only [↓fixed_mk, ↓fixed_ite, fixed_fold, ite_self, implies_true, ↓State.clearAll_fixed, ↓foldl_fixed] | rw [foldl_fixed] | split | intro _
theorem State.recordCheck_fixed (s : State) : (State.recordCheck s).fixed = s.fixed := by
  unfold State.recordCheck
  repeat' first | rfl | simp only [↓fixed_mk, ↓fixed_ite, fixed_fold, ite_self, implies_true, ↓foldl_fixed] | rw [foldl_fixed] | split | intro _
theorem State.endTurn_fixed (s : State) : (State.endTurn s).fixed = s.fixed := by
  unfold State.endTurn
  repeat' first | rfl | simp only [↓fixed_mk, ↓fixed_ite, fixed_fold, ite_self, implies_true, ↓State.turnOver_fixed, ↓State.judge_fixed, ↓State.raiseHigh_fixed, ↓State.clear_fixed, ↓State.recordCheck_fixed, ↓foldl_fixed] | rw [foldl_fixed] | split | intro _
theorem State.turnCheck_fixed (s : State) : (State.turnCheck s).fixed = s.fixed := by
  unfold State.turnCheck
  repeat' first | rfl | simp only [↓fixed_mk, ↓fixed_ite, fixed_fold, ite_self, implies_true, ↓State.endTurn_fixed, ↓foldl_fixed] | rw [foldl_fixed] | split | intro _
theorem State.foreignCount_fixed (s : State) : (State.foreignCount s).fixed = s.fixed := by
  unfold State.foreignCount
  repeat' first | rfl | simp only [↓fixed_mk, ↓fixed_ite, fixed_fold, ite_self, implies_true, ↓State.raise_fixed, ↓foldl_fixed] | rw [foldl_fixed] | split | intro _
theorem State.takeIdent_fixed (s : State) (id : NodeId) (l : List Byte) : (State.takeIdent s id l).1.fixed = s.fixed := by
  unfold State.takeIdent
  repeat' first | rfl | simp only [↓fixed_mk, ↓fixed_ite, fixed_fold, ite_self, implies_true, ↓State.updNode_fixed, ↓State.raise_fixed, ↓State.clear_fixed, ↓State.foreignCount_fixed, ↓foldl_fixed] | rw [foldl_fixed] | split | intro _
theorem identTimeout_fixed (id : NodeId) (s : State) : (identTimeout id s).fixed = s.fixed := by
  unfold identTimeout
  repeat' first | rfl | simp only [↓fixed_mk, ↓fixed_ite, fixed_fold, ite_self, implies_true, ↓State.updNode_fixed, ↓State.turnCheck_fixed, ↓State.raise_fixed, ↓State.dropCmds_fixed, ↓State.violate_fixed, ↓foldl_fixed] | rw [foldl_fixed] | split | intro _
theorem echoSend_fixed (x : EchoTx) (s : State) : (echoSend x s).fixed = s.fixed := by
  unfold echoSend
  repeat' first | rfl | simp only [↓fixed_mk, ↓fixed_ite, fixed_fold, ite_self, implies_true, ↓State.updNode_fixed, ↓State.at_fixed, ↓State.updRing_fixed, ↓foldl_fixed] | rw [foldl_fixed] | split | intro _
theorem State.failEcho_fixed (s : State) (id : NodeId) (e : RingEnd) : (State.failEcho s id e).fixed = s.fixed := by
  unfold State.failEcho
  repeat' first | rfl | simp only [↓fixed_mk, ↓fixed_ite, fixed_fold, ite_self, implies_true, ↓State.raise_fixed, ↓State.updNode_fixed, ↓foldl_fixed] | rw [foldl_fixed] | split | intro _
theorem State.echoBudget_fixed (s : State) (id : NodeId) (e : RingEnd) : (State.echoBudget s id e).fixed = s.fixed := by
  unfold State.echoBudget
  repeat' first | rfl | simp only [↓fixed_mk, ↓fixed_ite, fixed_fold, ite_self, implies_true, ↓State.failEcho_fixed, ↓foldl_fixed] | rw [foldl_fixed] | split | intro _
theorem State.echoSet_fixed (s : State) (id : NodeId) (e : RingEnd) (l : List ℕ) : (State.echoSet s id e l).fixed = s.fixed := by
  unfold State.echoSet
  repeat' first | rfl | simp only [↓fixed_mk, ↓fixed_ite, fixed_fold, ite_self, implies_true, ↓State.updNode_fixed, ↓State.failEcho_fixed, ↓State.clear_fixed, ↓foldl_fixed] | rw [foldl_fixed] | split | intro _
theorem State.echoRun_fixed (s : State) (id : NodeId) (e : RingEnd) (rt : ℕ) : (State.echoRun s id e rt).fixed = s.fixed := by
  unfold State.echoRun
  repeat' first | rfl | simp only [↓fixed_mk, ↓fixed_ite, fixed_fold, ite_self, implies_true, ↓State.updNode_fixed, ↓State.raise_fixed, ↓foldl_fixed] | rw [foldl_fixed] | split | intro _
theorem State.badFrame_fixed (s : State) (x : ThreadRx) (port : ℕ) (kind : ℕ) (len : ℕ) : (State.badFrame s x port kind len).fixed = s.fixed := by
  unfold State.badFrame
  repeat' first | rfl | simp only [↓fixed_mk, ↓fixed_ite, fixed_fold, ite_self, implies_true, ↓State.portError_fixed, ↓State.violate_fixed, ↓foldl_fixed] | rw [foldl_fixed] | split | intro _
theorem State.tokenOrder_fixed (s : State) (port : ℕ) (e : RingEnd) (pos : ℕ) : (State.tokenOrder s port e pos).fixed = s.fixed := by
  unfold State.tokenOrder
  repeat' first | rfl | simp only [↓fixed_mk, ↓fixed_ite, fixed_fold, ite_self, implies_true, ↓State.violate_fixed, ↓foldl_fixed] | rw [foldl_fixed] | split | intro _
theorem echoReply_fixed (x : ThreadRx) (s : State) : (echoReply x s).fixed = s.fixed := by
  unfold echoReply
  repeat' first | rfl | simp only [↓fixed_mk, ↓fixed_ite, fixed_fold, ite_self, implies_true, ↓State.badFrame_fixed, ↓State.at_fixed, ↓State.updRing_fixed, ↓State.updNode_fixed, ↓State.echoSet_fixed, ↓State.echoBudget_fixed, ↓State.turnCheck_fixed, ↓State.echoRun_fixed, ↓foldl_fixed] | rw [foldl_fixed] | split | intro _
theorem echoTimeout_fixed (port : ℕ) (t : Ns) (s : State) : (echoTimeout port t s).fixed = s.fixed := by
  unfold echoTimeout
  repeat' first | rfl | simp only [↓fixed_mk, ↓fixed_ite, fixed_fold, ite_self, implies_true, ↓State.at_fixed, ↓State.updRing_fixed, ↓State.turnCheck_fixed, ↓State.echoBudget_fixed, ↓foldl_fixed] | rw [foldl_fixed] | split | intro _
theorem State.openWindow_fixed (s : State) (kind : TestKind) (port : ℕ) : (State.openWindow s kind port).fixed = s.fixed := by
  unfold State.openWindow
  repeat' first | rfl | simp only [↓fixed_mk, ↓fixed_ite, fixed_fold, ite_self, implies_true, ↓State.updRing_fixed, ↓foldl_fixed] | rw [foldl_fixed] | split | intro _
theorem State.startTests_fixed (s : State) (kind : TestKind) : (State.startTests s kind).fixed = s.fixed := by
  unfold State.startTests
  repeat' first | rfl | simp only [↓fixed_mk, ↓fixed_ite, fixed_fold, ite_self, implies_true, ↓State.openWindow_fixed, ↓foldl_fixed] | rw [foldl_fixed] | split | intro _
theorem bertSend_fixed (port : ℕ) (s : State) : (bertSend port s).fixed = s.fixed := by
  unfold bertSend
  repeat' first | rfl | simp only [↓fixed_mk, ↓fixed_ite, fixed_fold, ite_self, implies_true, ↓State.updRing_fixed, ↓State.updNode_fixed, ↓foldl_fixed] | rw [foldl_fixed] | split | intro _
theorem State.followBerts_fixed (s : State) (r : Ring) : (State.followBerts s r).fixed = s.fixed := by
  unfold State.followBerts
  repeat' first | rfl | simp only [↓fixed_mk, ↓fixed_ite, fixed_fold, ite_self, implies_true, ↓State.updRing_fixed, ↓foldl_fixed] | rw [foldl_fixed] | split | intro _
theorem prbsStart_fixed (port : ℕ) (e : RingEnd) (s : State) : (prbsStart port e s).fixed = s.fixed := by
  unfold prbsStart
  repeat' first | rfl | simp only [↓fixed_mk, ↓fixed_ite, fixed_fold, ite_self, implies_true, ↓State.updRing_fixed, ↓foldl_fixed] | rw [foldl_fixed] | split | intro _
theorem State.applyVerdict_fixed (s : State) (kind : TestKind) (port : ℕ) (link : ℕ) (pass : Bool) : (State.applyVerdict s kind port link pass).fixed = s.fixed := by
  unfold State.applyVerdict
  repeat' first | rfl | simp only [↓fixed_mk, ↓fixed_ite, fixed_fold, ite_self, implies_true, ↓State.clear_fixed, ↓State.mapOut_fixed, ↓foldl_fixed] | rw [foldl_fixed] | split | intro _
theorem State.testsOver_fixed (s : State) (kind : TestKind) : (State.testsOver s kind).fixed = s.fixed := by
  unfold State.testsOver
  repeat' first | rfl | simp only [↓fixed_mk, ↓fixed_ite, fixed_fold, ite_self, implies_true, ↓State.clear_fixed, ↓State.updNode_fixed, ↓foldl_fixed] | rw [foldl_fixed] | split | intro _
theorem State.reportsMissing_fixed (s : State) (port : ℕ) (t : LinkTest) : (State.reportsMissing s port t).fixed = s.fixed := by
  unfold State.reportsMissing
  repeat' first | rfl | simp only [↓fixed_mk, ↓fixed_ite, fixed_fold, ite_self, implies_true, ↓State.violate_fixed, ↓foldl_fixed] | rw [foldl_fixed] | split | intro _
theorem State.concludeTest_fixed (s : State) (port : ℕ) (closed : Bool) : (State.concludeTest s port closed).fixed = s.fixed := by
  unfold State.concludeTest
  repeat' first | rfl | simp only [↓fixed_mk, ↓fixed_ite, fixed_fold, ite_self, implies_true, ↓State.updRing_fixed, ↓State.reportsMissing_fixed, ↓State.applyVerdict_fixed, ↓State.testsOver_fixed, ↓foldl_fixed] | rw [foldl_fixed] | split | intro _
theorem prbsEnd_fixed (x : PrbsEnd) (s : State) : (prbsEnd x s).fixed = s.fixed := by
  unfold prbsEnd
  repeat' first | rfl | simp only [↓fixed_mk, ↓fixed_ite, fixed_fold, ite_self, implies_true, ↓State.at_fixed, ↓State.updRing_fixed, ↓foldl_fixed] | rw [foldl_fixed] | split | intro _
theorem bertReport_fixed (x : ThreadRx) (s : State) : (bertReport x s).fixed = s.fixed := by
  unfold bertReport
  repeat' first | rfl | simp only [↓fixed_mk, ↓fixed_ite, fixed_fold, ite_self, implies_true, ↓State.badFrame_fixed, ↓State.concludeTest_fixed, ↓State.updRing_fixed, ↓State.tokenOrder_fixed, ↓foldl_fixed] | rw [foldl_fixed] | split | intro _
theorem State.checkTest_fixed (s : State) : (State.checkTest s).fixed = s.fixed := by
  unfold State.checkTest
  repeat' first | rfl | simp only [↓fixed_mk, ↓fixed_ite, fixed_fold, ite_self, implies_true, ↓State.startTests_fixed, ↓foldl_fixed] | rw [foldl_fixed] | split | intro _
theorem State.testRound_fixed (s : State) : (State.testRound s).fixed = s.fixed := by
  unfold State.testRound
  repeat' first | rfl | simp only [↓fixed_mk, ↓fixed_ite, fixed_fold, ite_self, implies_true, ↓State.checkTest_fixed, ↓State.concludeTest_fixed, ↓State.followBerts_fixed, ↓foldl_fixed] | rw [foldl_fixed] | split | intro _
theorem State.abortTests_fixed (s : State) : (State.abortTests s).fixed = s.fixed := by
  unfold State.abortTests
  repeat' first | rfl | simp only [↓fixed_mk, ↓fixed_ite, fixed_fold, ite_self, implies_true, ↓State.raise_fixed, ↓foldl_fixed] | rw [foldl_fixed] | split | intro _
theorem periodicDue_fixed (s : State) : (periodicDue s).fixed = s.fixed := by
  unfold periodicDue
  repeat' first | rfl | simp only [↓fixed_mk, ↓fixed_ite, fixed_fold, ite_self, implies_true, ↓foldl_fixed] | rw [foldl_fixed] | split | intro _
theorem periodicOverdue_fixed (s : State) : (periodicOverdue s).fixed = s.fixed := by
  unfold periodicOverdue
  repeat' first | rfl | simp only [↓fixed_mk, ↓fixed_ite, fixed_fold, ite_self, implies_true, ↓State.raise_fixed, ↓foldl_fixed] | rw [foldl_fixed] | split | intro _
theorem linkTestStart_fixed (port : ℕ) (kind : TestKind) (s : State) : (linkTestStart port kind s).fixed = s.fixed := by
  unfold linkTestStart
  repeat' first | rfl | simp only [↓fixed_mk, ↓fixed_ite, fixed_fold, ite_self, implies_true, ↓State.openWindow_fixed, ↓foldl_fixed] | rw [foldl_fixed] | split | intro _
theorem installationTest_fixed (due : Bool) (s : State) : (installationTest due s).fixed = s.fixed := by
  unfold installationTest
  repeat' first | rfl | simp only [↓fixed_mk, ↓fixed_ite, fixed_fold, ite_self, implies_true, ↓State.startTests_fixed, ↓foldl_fixed] | rw [foldl_fixed] | split | intro _
theorem shuntSample_fixed (x : ShuntSample) (s : State) : (shuntSample x s).fixed = s.fixed := by
  unfold shuntSample
  repeat' first | rfl | simp only [↓fixed_mk, ↓fixed_ite, fixed_fold, ite_self, implies_true, ↓State.at_fixed, ↓foldl_fixed] | rw [foldl_fixed] | split | intro _
theorem shuntRangeSensor_fixed (id : ShuntId) (t : Ns) (s : State) : (shuntRangeSensor id t s).fixed = s.fixed := by
  unfold shuntRangeSensor
  repeat' first | rfl | simp only [↓fixed_mk, ↓fixed_ite, fixed_fold, ite_self, implies_true, ↓State.raise_fixed, ↓State.at_fixed, ↓foldl_fixed] | rw [foldl_fixed] | split | intro _
theorem sentFrame_fixed (x : SentFrame) (s : State) : (sentFrame x s).fixed = s.fixed := by
  unfold sentFrame
  repeat' first | rfl | simp only [↓fixed_mk, ↓fixed_ite, fixed_fold, ite_self, implies_true, ↓State.raise_fixed, ↓State.at_fixed, ↓foldl_fixed] | rw [foldl_fixed] | split | intro _
theorem sentIdTimeout_fixed (t : Ns) (s : State) : (sentIdTimeout t s).fixed = s.fixed := by
  unfold sentIdTimeout
  repeat' first | rfl | simp only [↓fixed_mk, ↓fixed_ite, fixed_fold, ite_self, implies_true, ↓State.raise_fixed, ↓State.at_fixed, ↓foldl_fixed] | rw [foldl_fixed] | split | intro _
theorem sentLoss_fixed (t : Ns) (s : State) : (sentLoss t s).fixed = s.fixed := by
  unfold sentLoss
  repeat' first | rfl | simp only [↓fixed_mk, ↓fixed_ite, fixed_fold, ite_self, implies_true, ↓State.raise_fixed, ↓State.at_fixed, ↓foldl_fixed] | rw [foldl_fixed] | split | intro _
theorem State.formStreams_fixed (s : State) : (State.formStreams s).fixed = s.fixed := by
  unfold State.formStreams
  repeat' first | rfl | simp only [↓fixed_mk, ↓fixed_ite, fixed_fold, ite_self, implies_true, ↓State.judge2_fixed, ↓State.judge_fixed, ↓foldl_fixed] | rw [foldl_fixed] | split | intro _
theorem State.voltageCheck_fixed (s : State) : (State.voltageCheck s).fixed = s.fixed := by
  unfold State.voltageCheck
  repeat' first | rfl | simp only [↓fixed_mk, ↓fixed_ite, fixed_fold, ite_self, implies_true, ↓State.judge2_fixed, ↓foldl_fixed] | rw [foldl_fixed] | split | intro _
theorem State.channelCheck_fixed (s : State) : (State.channelCheck s).fixed = s.fixed := by
  unfold State.channelCheck
  repeat' first | rfl | simp only [↓fixed_mk, ↓fixed_ite, fixed_fold, ite_self, implies_true, ↓State.judge_fixed, ↓State.judge2_fixed, ↓foldl_fixed] | rw [foldl_fixed] | split | intro _
theorem State.groupCheck_fixed (s : State) : (State.groupCheck s).fixed = s.fixed := by
  unfold State.groupCheck
  repeat' first | rfl | simp only [↓fixed_mk, ↓fixed_ite, fixed_fold, ite_self, implies_true, ↓State.judge2_fixed, ↓foldl_fixed] | rw [foldl_fixed] | split | intro _
theorem State.acqClose_fixed (s : State) : (State.acqClose s).fixed = s.fixed := by
  unfold State.acqClose
  repeat' first | rfl | simp only [↓fixed_mk, ↓fixed_ite, fixed_fold, ite_self, implies_true, ↓State.formStreams_fixed, ↓foldl_fixed] | rw [foldl_fixed] | split | intro _
theorem State.acqLatch_fixed (s : State) (x : SnapLatch) : (State.acqLatch s x).fixed = s.fixed := by
  unfold State.acqLatch
  repeat' first | rfl | simp only [↓fixed_mk, ↓fixed_ite, fixed_fold, ite_self, implies_true, ↓State.clear_fixed, ↓foldl_fixed] | rw [foldl_fixed] | split | intro _
theorem sbBlank_fixed (s : State) : (sbBlank s).fixed = s.fixed := by
  unfold sbBlank
  repeat' first | rfl | simp only [↓fixed_mk, ↓fixed_ite, fixed_fold, ite_self, implies_true, ↓foldl_fixed] | rw [foldl_fixed] | split | intro _
theorem sbRestore_fixed (s : State) : (sbRestore s).fixed = s.fixed := by
  unfold sbRestore
  repeat' first | rfl | simp only [↓fixed_mk, ↓fixed_ite, fixed_fold, ite_self, implies_true, ↓foldl_fixed] | rw [foldl_fixed] | split | intro _
theorem State.updL_fixed (s : State) (id : CellId) (f : LCell → LCell) : (State.updL s id f).fixed = s.fixed := by
  unfold State.updL
  repeat' first | rfl | simp only [↓fixed_mk, ↓fixed_ite, fixed_fold, ite_self, implies_true, ↓foldl_fixed] | rw [foldl_fixed] | split | intro _
theorem State.leaveActive_fixed (s : State) (sel : CellId → Bool) : (State.leaveActive s sel).fixed = s.fixed := by
  unfold State.leaveActive
  repeat' first | rfl | simp only [↓fixed_mk, ↓fixed_ite, fixed_fold, ite_self, implies_true, ↓foldl_fixed] | rw [foldl_fixed] | split | intro _
theorem State.updFray_fixed (s : State) (c : ℕ) (f : Fray → Fray) : (State.updFray s c f).fixed = s.fixed := by
  unfold State.updFray
  repeat' first | rfl | simp only [↓fixed_mk, ↓fixed_ite, fixed_fold, ite_self, implies_true, ↓foldl_fixed] | rw [foldl_fixed] | split | intro _
theorem State.tourEnd_fixed (s : State) : (State.tourEnd s).fixed = s.fixed := by
  unfold State.tourEnd
  extract_lets s1 s2 s3
  have h1 : s1.fixed = s.fixed := by simp only [s1]; split <;> [rfl; exact State.clear_fixed _ _ _]
  have h2 : s2.fixed = s1.fixed := by simp only [s2]; split <;> [rfl; exact State.clearAll_fixed _ _]
  have h3 : s3.fixed = s2.fixed := by
    simp only [s3]
    exact foldl_fixed _ (fun u a => by rw [fixed_ite, State.clear_fixed, ite_self]) _ _
  clear_value s3
  rw [fixed_mk, fixed_fold, h3, h2, h1]
theorem State.nextReplay_fixed (s : State) : (State.nextReplay s).fixed = s.fixed := by
  unfold State.nextReplay
  repeat' first | rfl | simp only [↓fixed_mk, ↓fixed_ite, fixed_fold, ite_self, implies_true, ↓State.tourEnd_fixed, ↓foldl_fixed] | rw [foldl_fixed] | split | intro _
theorem State.reseed_fixed (s : State) (id : CellId) : (State.reseed s id).fixed = s.fixed := by
  unfold State.reseed
  repeat' first | rfl | simp only [↓fixed_mk, ↓fixed_ite, fixed_fold, ite_self, implies_true, ↓State.raise_fixed, ↓State.updL_fixed, ↓State.updFray_fixed, ↓State.nextReplay_fixed, ↓foldl_fixed] | rw [foldl_fixed] | split | intro _
theorem State.abortReplay_fixed (s : State) : (State.abortReplay s).fixed = s.fixed := by
  unfold State.abortReplay
  repeat' first | rfl | simp only [↓fixed_mk, ↓fixed_ite, fixed_fold, ite_self, implies_true, ↓State.updFray_fixed, ↓State.nextReplay_fixed, ↓State.raise_fixed, ↓foldl_fixed] | rw [foldl_fixed] | split | intro _
theorem State.freshStart_fixed (s : State) (sel : CellId → Bool) : (State.freshStart s sel).fixed = s.fixed := by
  unfold State.freshStart
  repeat' first | rfl | simp only [↓fixed_mk, ↓fixed_ite, fixed_fold, ite_self, implies_true, ↓State.clear_fixed, ↓State.leaveActive_fixed, ↓State.nextReplay_fixed, ↓foldl_fixed] | rw [foldl_fixed] | split | intro _
theorem State.poison_fixed (s : State) (id : CellId) : (State.poison s id).fixed = s.fixed := by
  unfold State.poison
  repeat' first | rfl | simp only [↓fixed_mk, ↓fixed_ite, fixed_fold, ite_self, implies_true, ↓State.leaveActive_fixed, ↓State.raiseFor_fixed, ↓State.reseed_fixed, ↓State.updL_fixed, ↓foldl_fixed] | rw [foldl_fixed] | split | intro _
theorem State.keepLate_fixed (s : State) : (State.keepLate s).fixed = s.fixed := by
  unfold State.keepLate
  repeat' first | rfl | simp only [↓fixed_mk, ↓fixed_ite, fixed_fold, ite_self, implies_true, ↓foldl_fixed] | rw [foldl_fixed] | split | intro _
theorem State.recordCycle_fixed (s : State) (reason : ℕ) : (State.recordCycle s reason).fixed = s.fixed := by
  unfold State.recordCycle
  repeat' first | rfl | simp only [↓fixed_mk, ↓fixed_ite, fixed_fold, ite_self, implies_true, ↓State.log_fixed, ↓foldl_fixed] | rw [foldl_fixed] | split | intro _
theorem State.restoreShadow_fixed (s : State) (cohort : ℕ) : (State.restoreShadow s cohort).fixed = s.fixed := by
  unfold State.restoreShadow
  repeat' first | rfl | simp only [↓fixed_mk, ↓fixed_ite, fixed_fold, ite_self, implies_true, ↓foldl_fixed] | rw [foldl_fixed] | split | intro _
theorem State.settleShadow_fixed (s : State) : (State.settleShadow s).fixed = s.fixed := by
  unfold State.settleShadow
  repeat' first | rfl | simp only [↓fixed_mk, ↓fixed_ite, fixed_fold, ite_self, implies_true, ↓State.restoreShadow_fixed, ↓foldl_fixed] | rw [foldl_fixed] | split | intro _
theorem State.unpick_fixed (s : State) (reason : ℕ) : (State.unpick s reason).fixed = s.fixed := by
  unfold State.unpick
  repeat' first | rfl | simp only [↓fixed_mk, ↓fixed_ite, fixed_fold, ite_self, implies_true, ↓State.restoreShadow_fixed, ↓State.recordCycle_fixed, ↓State.raise_fixed, ↓State.clear_fixed, ↓foldl_fixed] | rw [foldl_fixed] | split | intro _
theorem State.trainCorrupt_fixed (s : State) : (State.trainCorrupt s).fixed = s.fixed := by
  unfold State.trainCorrupt
  repeat' first | rfl | simp only [↓fixed_mk, ↓fixed_ite, fixed_fold, ite_self, implies_true, ↓State.unpick_fixed, ↓foldl_fixed] | rw [foldl_fixed] | split | intro _
theorem State.updA_fixed (s : State) (id : CellId) (f : ACell → ACell) : (State.updA s id f).fixed = s.fixed := by
  unfold State.updA
  repeat' first | rfl | simp only [↓fixed_mk, ↓fixed_ite, fixed_fold, ite_self, implies_true, ↓foldl_fixed] | rw [foldl_fixed] | split | intro _
theorem State.scorePending_fixed (s : State) (g : Graph) (a : ACell) (p : Pending) (v : Option ℚ) : (State.scorePending s g a p v).fixed = s.fixed := by
  unfold State.scorePending
  repeat' first | rfl | simp only [↓fixed_mk, ↓fixed_ite, fixed_fold, ite_self, implies_true, ↓State.updA_fixed, ↓foldl_fixed] | rw [foldl_fixed] | split | intro _
theorem stateBlockFetch_fixed (id : CellId) (s : State) : (stateBlockFetch id s).fixed = s.fixed := by
  unfold stateBlockFetch
  repeat' first | rfl | simp only [↓fixed_mk, ↓fixed_ite, fixed_fold, ite_self, implies_true, ↓State.updL_fixed, ↓foldl_fixed] | rw [foldl_fixed] | split | intro _
theorem State.stageCell_fixed (s : State) (id : CellId) : (State.stageCell s id).fixed = s.fixed := by
  unfold State.stageCell
  repeat' first | rfl | simp only [↓fixed_mk, ↓fixed_ite, fixed_fold, ite_self, implies_true, ↓foldl_fixed] | rw [foldl_fixed] | split | intro _
theorem learnedResult_fixed (id : CellId) (t : Ns) (s : State) : (learnedResult id t s).fixed = s.fixed := by
  unfold learnedResult
  split
  · rfl
  · split
    · split
      · rfl
      · rename_i c _ _ g snap _ _ _
        extract_lets late renorm x hv y vals nonf run corrupt hide r keep c1 s1 s2 s3 s4
        have h1 : s1.fixed = s.fixed := State.updL_fixed _ _ _
        have h2 : s2.fixed = s1.fixed := by simp only [s2]; split <;> [exact State.raise_fixed _ _ _; rfl]
        have h3 : s3.fixed = s2.fixed := by simp only [s3]; split <;> [exact State.clear_fixed _ _ _; rfl]
        have h4 : s4.fixed = s3.fixed := by
          simp only [s4]; rw [State.settleShadow_fixed]; split
          · split <;> [exact State.stageCell_fixed _ _; rfl]
          · rfl
        split
        · rw [State.poison_fixed, h4, h3, h2, h1]
        · rw [h4, h3, h2, h1]
    · rfl
theorem openLoopLimit_fixed (id : CellId) (s : State) : (openLoopLimit id s).fixed = s.fixed := by
  unfold openLoopLimit
  repeat' first | rfl | simp only [↓fixed_mk, ↓fixed_ite, fixed_fold, ite_self, implies_true, ↓State.raise_fixed, ↓State.updL_fixed, ↓foldl_fixed] | rw [foldl_fixed] | split | intro _
theorem warmupEnd_fixed (id : CellId) (s : State) : (warmupEnd id s).fixed = s.fixed := by
  unfold warmupEnd
  repeat' first | rfl | simp only [↓fixed_mk, ↓fixed_ite, fixed_fold, ite_self, implies_true, ↓State.updL_fixed, ↓foldl_fixed] | rw [foldl_fixed] | split | intro _
theorem stepAbandon_fixed (id : CellId) (s : State) : (stepAbandon id s).fixed = s.fixed := by
  unfold stepAbandon
  repeat' first | rfl | simp only [↓fixed_mk, ↓fixed_ite, fixed_fold, ite_self, implies_true, ↓State.stageCell_fixed, ↓State.leaveActive_fixed, ↓State.updL_fixed, ↓State.settleShadow_fixed, ↓State.abortReplay_fixed, ↓foldl_fixed] | rw [foldl_fixed] | split | intro _
theorem cellRestore_fixed (id : CellId) (s : State) : (cellRestore id s).fixed = s.fixed := by
  unfold cellRestore
  repeat' first | rfl | simp only [↓fixed_mk, ↓fixed_ite, fixed_fold, ite_self, implies_true, ↓State.leaveActive_fixed, ↓State.updL_fixed, ↓foldl_fixed] | rw [foldl_fixed] | split | intro _
theorem replayStep_fixed (t : Ns) (s : State) : (replayStep t s).fixed = s.fixed := by
  unfold replayStep
  repeat' first | rfl | simp only [↓fixed_mk, ↓fixed_ite, fixed_fold, ite_self, implies_true, ↓State.nextReplay_fixed, ↓State.at_fixed, ↓foldl_fixed] | rw [foldl_fixed] | split | intro _
theorem replayCompare_fixed (s : State) : (replayCompare s).fixed = s.fixed := by
  unfold replayCompare
  repeat' first | rfl | simp only [↓fixed_mk, ↓fixed_ite, fixed_fold, ite_self, implies_true, ↓State.updFray_fixed, ↓State.reseed_fixed, ↓foldl_fixed] | rw [foldl_fixed] | split | intro _
theorem replayAbort_fixed (s : State) : (replayAbort s).fixed = s.fixed := by
  unfold replayAbort
  repeat' first | rfl | simp only [↓fixed_mk, ↓fixed_ite, fixed_fold, ite_self, implies_true, ↓State.abortReplay_fixed, ↓foldl_fixed] | rw [foldl_fixed] | split | intro _
theorem replayPeriodEnd_fixed (s : State) : (replayPeriodEnd s).fixed = s.fixed := by
  unfold replayPeriodEnd
  repeat' first | rfl | simp only [↓fixed_mk, ↓fixed_ite, fixed_fold, ite_self, implies_true, ↓State.clear_fixed, ↓State.updFray_fixed, ↓State.nextReplay_fixed, ↓foldl_fixed] | rw [foldl_fixed] | split | intro _
theorem State.regionLost_fixed (s : State) (r : MemRegion) : (State.regionLost s r).fixed = s.fixed := by
  unfold State.regionLost
  repeat' first | rfl | simp only [↓fixed_mk, ↓fixed_ite, fixed_fold, ite_self, implies_true, ↓State.updL_fixed, ↓State.poison_fixed, ↓State.raiseFor_fixed, ↓State.abortReplay_fixed, ↓State.trainCorrupt_fixed, ↓foldl_fixed] | rw [foldl_fixed] | split | intro _
theorem ddrEcc_fixed (correctable : Bool) (r : MemRegion) (s : State) : (ddrEcc correctable r s).fixed = s.fixed := by
  unfold ddrEcc
  repeat' first | rfl | simp only [↓fixed_mk, ↓fixed_ite, fixed_fold, ite_self, implies_true, ↓State.regionLost_fixed, ↓State.raiseFor_fixed, ↓foldl_fixed] | rw [foldl_fixed] | split | intro _
theorem bobbinEcc_fixed (correctable : Bool) (matchesMemory : Bool) (r : MemRegion) (s : State) : (bobbinEcc correctable matchesMemory r s).fixed = s.fixed := by
  unfold bobbinEcc
  repeat' first | rfl | simp only [↓fixed_mk, ↓fixed_ite, fixed_fold, ite_self, implies_true, ↓State.regionLost_fixed, ↓State.raiseFor_fixed, ↓foldl_fixed] | rw [foldl_fixed] | split | intro _
theorem eccWindowEnd_fixed (s : State) : (eccWindowEnd s).fixed = s.fixed := by
  unfold eccWindowEnd
  repeat' first | rfl | simp only [↓fixed_mk, ↓fixed_ite, fixed_fold, ite_self, implies_true, ↓State.judge_fixed, ↓foldl_fixed] | rw [foldl_fixed] | split | intro _
theorem scrubPass_fixed (s : State) : (scrubPass s).fixed = s.fixed := by
  unfold scrubPass
  repeat' first | rfl | simp only [↓fixed_mk, ↓fixed_ite, fixed_fold, ite_self, implies_true, ↓State.clear_fixed, ↓foldl_fixed] | rw [foldl_fixed] | split | intro _
theorem scrubOverdue_fixed (s : State) : (scrubOverdue s).fixed = s.fixed := by
  unfold scrubOverdue
  repeat' first | rfl | simp only [↓fixed_mk, ↓fixed_ite, fixed_fold, ite_self, implies_true, ↓State.raise_fixed, ↓foldl_fixed] | rw [foldl_fixed] | split | intro _
theorem arbitrationRevoke_fixed (r : Requester) (s : State) : (arbitrationRevoke r s).fixed = s.fixed := by
  unfold arbitrationRevoke
  repeat' first | rfl | simp only [↓fixed_mk, ↓fixed_ite, fixed_fold, ite_self, implies_true, ↓State.raiseFor_fixed, ↓State.raise_fixed, ↓State.unpick_fixed, ↓foldl_fixed] | rw [foldl_fixed] | split | intro _
theorem portUnfence_fixed (r : Requester) (s : State) : (portUnfence r s).fixed = s.fixed := by
  unfold portUnfence
  repeat' first | rfl | simp only [↓fixed_mk, ↓fixed_ite, fixed_fold, ite_self, implies_true, ↓foldl_fixed] | rw [foldl_fixed] | split | intro _
theorem refreshRateRead_fixed (multiplier : ℚ) (s : State) : (refreshRateRead multiplier s).fixed = s.fixed := by
  unfold refreshRateRead
  repeat' first | rfl | simp only [↓fixed_mk, ↓fixed_ite, fixed_fold, ite_self, implies_true, ↓foldl_fixed] | rw [foldl_fixed] | split | intro _
theorem ddrInit_fixed (x : DdrInit) (s : State) : (ddrInit x s).fixed = s.fixed := by
  unfold ddrInit
  repeat' first | rfl | simp only [↓fixed_mk, ↓fixed_ite, fixed_fold, ite_self, implies_true, ↓State.raise_fixed, ↓foldl_fixed] | rw [foldl_fixed] | split | intro _
theorem checkpointLoad_fixed (s : State) : (checkpointLoad s).fixed = s.fixed := by
  unfold checkpointLoad
  repeat' first | rfl | simp only [↓fixed_mk, ↓fixed_ite, fixed_fold, ite_self, implies_true, ↓State.raise_fixed, ↓State.raiseFor_fixed, ↓foldl_fixed] | rw [foldl_fixed] | split | intro _
theorem State.loseMemory_fixed (s : State) : (State.loseMemory s).fixed = s.fixed := by
  unfold State.loseMemory
  repeat' first | rfl | simp only [↓fixed_mk, ↓fixed_ite, fixed_fold, ite_self, implies_true, ↓foldl_fixed] | rw [foldl_fixed] | split | intro _
theorem State.learnedRound_fixed (s : State) : (State.learnedRound s).fixed = s.fixed := by
  unfold State.learnedRound
  repeat' first | rfl | simp only [↓fixed_mk, ↓fixed_ite, fixed_fold, ite_self, implies_true, ↓State.clear_fixed, ↓State.abortReplay_fixed, ↓State.raiseFor_fixed, ↓foldl_fixed] | rw [foldl_fixed] | split | intro _
theorem State.countOverruns_fixed (s : State) : (State.countOverruns s).fixed = s.fixed := by
  unfold State.countOverruns
  repeat' first | rfl | simp only [↓fixed_mk, ↓fixed_ite, fixed_fold, ite_self, implies_true, ↓State.judge2_fixed, ↓foldl_fixed] | rw [foldl_fixed] | split | intro _
theorem cycleStart_fixed (s : State) : (cycleStart s).fixed = s.fixed := by
  unfold cycleStart
  repeat' first | rfl | simp only [↓fixed_mk, ↓fixed_ite, fixed_fold, ite_self, implies_true, ↓State.settleShadow_fixed, ↓State.restoreShadow_fixed, ↓foldl_fixed] | rw [foldl_fixed] | split | intro _
theorem warmPhaseEnd_fixed (s : State) : (warmPhaseEnd s).fixed = s.fixed := by
  unfold warmPhaseEnd
  repeat' first | rfl | simp only [↓fixed_mk, ↓fixed_ite, fixed_fold, ite_self, implies_true, ↓foldl_fixed] | rw [foldl_fixed] | split | intro _
theorem epochEnd_fixed (s : State) : (epochEnd s).fixed = s.fixed := by
  unfold epochEnd
  repeat' first | rfl | simp only [↓fixed_mk, ↓fixed_ite, fixed_fold, ite_self, implies_true, ↓foldl_fixed] | rw [foldl_fixed] | split | intro _
theorem shadowStep_fixed (id : CellId) (t : Ns) (s : State) : (shadowStep id t s).fixed = s.fixed := by
  unfold shadowStep
  repeat' first | rfl | simp only [↓fixed_mk, ↓fixed_ite, fixed_fold, ite_self, implies_true, ↓State.at_fixed, ↓State.leaveActive_fixed, ↓State.scorePending_fixed, ↓State.updA_fixed, ↓foldl_fixed] | rw [foldl_fixed] | split | intro _
theorem shadowUpdate_fixed (s : State) : (shadowUpdate s).fixed = s.fixed := by
  unfold shadowUpdate
  repeat' first | rfl | simp only [↓fixed_mk, ↓fixed_ite, fixed_fold, ite_self, implies_true, ↓State.unpick_fixed, ↓foldl_fixed] | rw [foldl_fixed] | split | intro _
theorem fitDecision_fixed (s : State) : (fitDecision s).fixed = s.fixed := by
  unfold fitDecision
  repeat' first | rfl | simp only [↓fixed_mk, ↓fixed_ite, fixed_fold, ite_self, implies_true, ↓State.clear_fixed, ↓State.recordCycle_fixed, ↓State.unpick_fixed, ↓foldl_fixed] | rw [foldl_fixed] | split | intro _
theorem adapterCopy_fixed (s : State) : (adapterCopy s).fixed = s.fixed := by
  unfold adapterCopy
  repeat' first | rfl | simp only [↓fixed_mk, ↓fixed_ite, fixed_fold, ite_self, implies_true, ↓foldl_fixed] | rw [foldl_fixed] | split | intro _
theorem promotion_fixed (s : State) : (promotion s).fixed = s.fixed := by
  unfold promotion
  repeat' first | rfl | simp only [↓fixed_mk, ↓fixed_ite, fixed_fold, ite_self, implies_true, ↓foldl_fixed] | rw [foldl_fixed] | split | intro _
theorem State.trainRound_fixed (s : State) : (State.trainRound s).fixed = s.fixed := by
  unfold State.trainRound
  repeat' first | rfl | simp only [↓fixed_mk, ↓fixed_ite, fixed_fold, ite_self, implies_true, ↓State.unpick_fixed, ↓foldl_fixed] | rw [foldl_fixed] | split | intro _
theorem State.trainLate_fixed (s : State) : (State.trainLate s).fixed = s.fixed := by
  unfold State.trainLate
  repeat' first | rfl | simp only [↓fixed_mk, ↓fixed_ite, fixed_fold, ite_self, implies_true, ↓State.leaveActive_fixed, ↓foldl_fixed] | rw [foldl_fixed] | split | intro _
theorem State.shedFaults_fixed (s : State) : (State.shedFaults s).fixed = s.fixed := by
  unfold State.shedFaults
  repeat' first | rfl | simp only [↓fixed_mk, ↓fixed_ite, fixed_fold, ite_self, implies_true, ↓State.raise_fixed, ↓State.clear_fixed, ↓State.judge2_fixed, ↓foldl_fixed] | rw [foldl_fixed] | split | intro _
theorem State.shedTo_fixed (s : State) (l : ℕ) : (State.shedTo s l).fixed = s.fixed := by
  unfold State.shedTo
  repeat' first | rfl | simp only [↓fixed_mk, ↓fixed_ite, fixed_fold, ite_self, implies_true, ↓State.unpick_fixed, ↓State.loseMemory_fixed, ↓foldl_fixed] | rw [foldl_fixed] | split | intro _
theorem State.shedRound_fixed (s : State) : (State.shedRound s).fixed = s.fixed := by
  unfold State.shedRound
  repeat' first | rfl | simp only [↓fixed_mk, ↓fixed_ite, fixed_fold, ite_self, implies_true, ↓State.shedTo_fixed, ↓State.shedFaults_fixed, ↓foldl_fixed] | rw [foldl_fixed] | split | intro _
theorem shedLower_fixed (t : Ns) (s : State) : (shedLower t s).fixed = s.fixed := by
  unfold shedLower
  repeat' first | rfl | simp only [↓fixed_mk, ↓fixed_ite, fixed_fold, ite_self, implies_true, ↓State.shedFaults_fixed, ↓State.at_fixed, ↓foldl_fixed] | rw [foldl_fixed] | split | intro _
theorem checkpointTrigger_fixed (cause : CkptCause) (s : State) : (checkpointTrigger cause s).fixed = s.fixed := by
  unfold checkpointTrigger
  repeat' first | rfl | simp only [↓fixed_mk, ↓fixed_ite, fixed_fold, ite_self, implies_true, ↓foldl_fixed] | rw [foldl_fixed] | split | intro _
theorem checkpointStaged_fixed (s : State) : (checkpointStaged s).fixed = s.fixed := by
  unfold checkpointStaged
  repeat' first | rfl | simp only [↓fixed_mk, ↓fixed_ite, fixed_fold, ite_self, implies_true, ↓foldl_fixed] | rw [foldl_fixed] | split | intro _
theorem State.eraseArea_fixed (s : State) (len : ℕ) : (State.eraseArea s len).2.fixed = s.fixed := by
  unfold State.eraseArea
  repeat' first | rfl | simp only [↓fixed_mk, ↓fixed_ite, fixed_fold, ite_self, implies_true, ↓State.raise_fixed, ↓foldl_fixed] | rw [foldl_fixed] | split | intro _
theorem State.failCkpt_fixed (s : State) (k : Ckpt) : (State.failCkpt s k).fixed = s.fixed := by
  unfold State.failCkpt
  repeat' first | rfl | simp only [↓fixed_mk, ↓fixed_ite, fixed_fold, ite_self, implies_true, ↓State.eraseArea_fixed, ↓State.raise_fixed, ↓foldl_fixed] | rw [foldl_fixed] | split | intro _
theorem State.shedDomains_fixed (s : State) : (State.shedDomains s).fixed = s.fixed := by
  unfold State.shedDomains
  repeat' first | rfl | simp only [↓fixed_mk, ↓fixed_ite, fixed_fold, ite_self, implies_true, ↓foldl_fixed] | rw [foldl_fixed] | split | intro _
theorem State.graceCkpt_fixed (s : State) (wanted : Bool) : (State.graceCkpt s wanted).fixed = s.fixed := by
  unfold State.graceCkpt
  repeat' first | rfl | simp only [↓fixed_mk, ↓fixed_ite, fixed_fold, ite_self, implies_true, ↓checkpointTrigger_fixed, ↓State.shedDomains_fixed, ↓foldl_fixed] | rw [foldl_fixed] | split | intro _
theorem checkpointWrite_fixed (ok : Bool) (s : State) : (checkpointWrite ok s).fixed = s.fixed := by
  unfold checkpointWrite
  repeat' first | rfl | simp only [↓fixed_mk, ↓fixed_ite, fixed_fold, ite_self, implies_true, ↓State.graceCkpt_fixed, ↓State.failCkpt_fixed, ↓State.eraseArea_fixed, ↓State.clear_fixed, ↓State.log_fixed, ↓foldl_fixed] | rw [foldl_fixed] | split | intro _
theorem norBusRevoke_fixed (s : State) : (norBusRevoke s).fixed = s.fixed := by
  unfold norBusRevoke
  repeat' first | rfl | simp only [↓fixed_mk, ↓fixed_ite, fixed_fold, ite_self, implies_true, ↓State.graceCkpt_fixed, ↓State.failCkpt_fixed, ↓foldl_fixed] | rw [foldl_fixed] | split | intro _
theorem State.judgeCopies_fixed (s : State) : (State.judgeCopies s).fixed = s.fixed := by
  unfold State.judgeCopies
  repeat' first | rfl | simp only [↓fixed_mk, ↓fixed_ite, fixed_fold, ite_self, implies_true, ↓State.judge_fixed, ↓foldl_fixed] | rw [foldl_fixed] | split | intro _
theorem State.writeLog_fixed (s : State) (e : LogEntry) : (State.writeLog s e).fixed = s.fixed := by
  unfold State.writeLog
  repeat' first | rfl | simp only [↓fixed_mk, ↓fixed_ite, fixed_fold, ite_self, implies_true, ↓foldl_fixed] | rw [foldl_fixed] | split | intro _
theorem State.flushLog_fixed (s : State) : (State.flushLog s).fixed = s.fixed := by
  unfold State.flushLog
  repeat' first | rfl | simp only [↓fixed_mk, ↓fixed_ite, fixed_fold, ite_self, implies_true, ↓State.writeLog_fixed, ↓foldl_fixed] | rw [foldl_fixed] | split | intro _
theorem State.writePairs_fixed (s : State) : (State.writePairs s).fixed = s.fixed := by
  unfold State.writePairs
  repeat' first | rfl | simp only [↓fixed_mk, ↓fixed_ite, fixed_fold, ite_self, implies_true, ↓foldl_fixed] | rw [foldl_fixed] | split | intro _
theorem State.writePattern_fixed (s : State) : (State.writePattern s).fixed = s.fixed := by
  unfold State.writePattern
  repeat' first | rfl | simp only [↓fixed_mk, ↓fixed_ite, fixed_fold, ite_self, implies_true, ↓foldl_fixed] | rw [foldl_fixed] | split | intro _
theorem State.writeStatus_fixed (s : State) : (State.writeStatus s).fixed = s.fixed := by
  unfold State.writeStatus
  repeat' first | rfl | simp only [↓fixed_mk, ↓fixed_ite, fixed_fold, ite_self, implies_true, ↓foldl_fixed] | rw [foldl_fixed] | split | intro _
theorem State.inWindow_fixed (s : State) (write : State → State) (h : ∀ u, (write u).fixed = u.fixed) : (State.inWindow s write).fixed = s.fixed := by
  unfold State.inWindow; dsimp only
  split
  · exact h s
  · rw [← h s]; rfl
theorem State.writeHeader_fixed (s : State) : (State.writeHeader s).fixed = s.fixed := by
  unfold State.writeHeader
  repeat' first | rfl | simp only [↓fixed_mk, ↓fixed_ite, fixed_fold, ite_self, implies_true, ↓foldl_fixed] | rw [foldl_fixed] | split | intro _
theorem State.writeFallback_fixed (s : State) : (State.writeFallback s).fixed = s.fixed := by
  unfold State.writeFallback
  repeat' first | rfl | simp only [↓fixed_mk, ↓fixed_ite, fixed_fold, ite_self, implies_true, ↓foldl_fixed] | rw [foldl_fixed] | split | intro _
theorem State.writeJournal_fixed (s : State) : (State.writeJournal s).fixed = s.fixed := by
  unfold State.writeJournal
  repeat' first | rfl | simp only [↓fixed_mk, ↓fixed_ite, fixed_fold, ite_self, implies_true, ↓State.flushLog_fixed, ↓State.judgeCopies_fixed, ↓State.inWindow_fixed, ↓State.writeFallback_fixed, ↓State.writeStatus_fixed, ↓State.writePattern_fixed, ↓State.writePairs_fixed, ↓State.writeHeader_fixed, ↓foldl_fixed] | rw [foldl_fixed] | split | intro _
theorem State.cutWrites_fixed (s : State) : (State.cutWrites s).fixed = s.fixed := by
  unfold State.cutWrites
  repeat' first | rfl | simp only [↓fixed_mk, ↓fixed_ite, fixed_fold, ite_self, implies_true, ↓foldl_fixed] | rw [foldl_fixed] | split | intro _
theorem State.addTarget_fixed (s : State) (id : CellId) (f : Targets → Targets) : (State.addTarget s id f).fixed = s.fixed := by
  unfold State.addTarget
  repeat' first | rfl | simp only [↓fixed_mk, ↓fixed_ite, fixed_fold, ite_self, implies_true, ↓foldl_fixed] | rw [foldl_fixed] | split | intro _
theorem State.note_fixed (s : State) (n : CellNote) : (State.note s n).fixed = s.fixed := by
  unfold State.note
  repeat' first | rfl | simp only [↓fixed_mk, ↓fixed_ite, fixed_fold, ite_self, implies_true, ↓State.judge_fixed, ↓State.addTarget_fixed, ↓foldl_fixed] | rw [foldl_fixed] | split | intro _
theorem State.notes_fixed (s : State) (l : List CellNote) : (State.notes s l).fixed = s.fixed := by
  unfold State.notes
  repeat' first | rfl | simp only [↓fixed_mk, ↓fixed_ite, fixed_fold, ite_self, implies_true, ↓State.note_fixed, ↓foldl_fixed] | rw [foldl_fixed] | split | intro _
theorem State.bastePack_fixed (s : State) (sel : CellId → Bool) (fresh : Bool) : (State.bastePack s sel fresh).fixed = s.fixed := by
  unfold State.bastePack
  repeat' first | rfl | simp only [↓fixed_mk, ↓fixed_ite, fixed_fold, ite_self, implies_true, ↓State.clear_fixed, ↓foldl_fixed] | rw [foldl_fixed] | split | intro _
theorem State.basteStore_fixed (s : State) (sel : CellId → Bool) : (State.basteStore s sel).fixed = s.fixed := by
  unfold State.basteStore
  repeat' first | rfl | simp only [↓fixed_mk, ↓fixed_ite, fixed_fold, ite_self, implies_true, ↓State.clear_fixed, ↓foldl_fixed] | rw [foldl_fixed] | split | intro _
theorem State.storeChange_fixed (s : State) : (State.storeChange s).fixed = s.fixed := by
  unfold State.storeChange
  repeat' first | rfl | simp only [↓fixed_mk, ↓fixed_ite, fixed_fold, ite_self, implies_true, ↓State.basteStore_fixed, ↓State.raise_fixed, ↓State.freshStart_fixed, ↓foldl_fixed] | rw [foldl_fixed] | split | intro _
theorem State.storeRules_fixed (s : State) (rest : Bool) : (State.storeRules s rest).fixed = s.fixed := by
  unfold State.storeRules
  repeat' first | rfl | simp only [↓fixed_mk, ↓fixed_ite, fixed_fold, ite_self, implies_true, ↓State.storeChange_fixed, ↓foldl_fixed] | rw [foldl_fixed] | split | intro _
theorem State.overdueEnds_fixed (s : State) : (State.overdueEnds s).fixed = s.fixed := by
  unfold State.overdueEnds
  repeat' first | rfl | simp only [↓fixed_mk, ↓fixed_ite, fixed_fold, ite_self, implies_true, ↓State.clear_fixed, ↓foldl_fixed] | rw [foldl_fixed] | split | intro _
theorem State.balancePack_fixed (s : State) : (State.balancePack s).fixed = s.fixed := by
  unfold State.balancePack
  repeat' first | rfl | simp only [↓fixed_mk, ↓fixed_ite, fixed_fold, ite_self, implies_true, ↓State.updNode_fixed, ↓foldl_fixed] | rw [foldl_fixed] | split | intro _
theorem State.balanceStore_fixed (s : State) : (State.balanceStore s).fixed = s.fixed := by
  unfold State.balanceStore
  repeat' first | rfl | simp only [↓fixed_mk, ↓fixed_ite, fixed_fold, ite_self, implies_true, ↓foldl_fixed] | rw [foldl_fixed] | split | intro _
theorem State.hemUpdate_fixed (s : State) : (State.hemUpdate s).fixed = s.fixed := by
  unfold State.hemUpdate
  repeat' first | rfl | simp only [↓fixed_mk, ↓fixed_ite, fixed_fold, ite_self, implies_true, ↓State.judge2_fixed, ↓foldl_fixed] | rw [foldl_fixed] | split | intro _
theorem classicalUpdate_fixed (s : State) : (classicalUpdate s).fixed = s.fixed := by
  unfold classicalUpdate
  repeat' first | rfl | simp only [↓fixed_mk, ↓fixed_ite, fixed_fold, ite_self, implies_true, ↓State.notes_fixed, ↓State.storeRules_fixed, ↓State.hemUpdate_fixed, ↓State.balanceStore_fixed, ↓State.balancePack_fixed, ↓State.overdueEnds_fixed, ↓foldl_fixed] | rw [foldl_fixed] | split | intro _
theorem bastingFormed_fixed (id : CellId) (s : State) : (bastingFormed id s).fixed = s.fixed := by
  unfold bastingFormed
  repeat' first | rfl | simp only [↓fixed_mk, ↓fixed_ite, fixed_fold, ite_self, implies_true, ↓State.clear_fixed, ↓State.notes_fixed, ↓foldl_fixed] | rw [foldl_fixed] | split | intro _
theorem tackOverdue_fixed (s : State) : (tackOverdue s).fixed = s.fixed := by
  unfold tackOverdue
  repeat' first | rfl | simp only [↓fixed_mk, ↓fixed_ite, fixed_fold, ite_self, implies_true, ↓State.raise_fixed, ↓foldl_fixed] | rw [foldl_fixed] | split | intro _
theorem pairRecordWrite_fixed (s : State) : (pairRecordWrite s).fixed = s.fixed := by
  unfold pairRecordWrite
  repeat' first | rfl | simp only [↓fixed_mk, ↓fixed_ite, fixed_fold, ite_self, implies_true, ↓State.judgeCopies_fixed, ↓State.inWindow_fixed, ↓State.writePairs_fixed, ↓foldl_fixed] | rw [foldl_fixed] | split | intro _
theorem State.missedRounds_fixed (s : State) : (State.missedRounds s).fixed = s.fixed := by
  unfold State.missedRounds
  repeat' first | rfl | simp only [↓fixed_mk, ↓fixed_ite, fixed_fold, ite_self, implies_true, ↓foldl_fixed] | rw [foldl_fixed] | split | intro _
theorem State.updS_fixed (s : State) (id : CellId) (f : SeamCell → SeamCell) : (State.updS s id f).fixed = s.fixed := by
  unfold State.updS
  repeat' first | rfl | simp only [↓fixed_mk, ↓fixed_ite, fixed_fold, ite_self, implies_true, ↓foldl_fixed] | rw [foldl_fixed] | split | intro _
theorem State.updCohort_fixed (s : State) (c : ℕ) (f : SeamCohort → SeamCohort) : (State.updCohort s c f).fixed = s.fixed := by
  unfold State.updCohort
  repeat' first | rfl | simp only [↓fixed_mk, ↓fixed_ite, fixed_fold, ite_self, implies_true, ↓foldl_fixed] | rw [foldl_fixed] | split | intro _
theorem State.decideCell_fixed (s : State) (id : CellId) (r : Option Result) : (State.decideCell s id r).fixed = s.fixed := by
  unfold State.decideCell
  repeat' first | rfl | simp only [↓fixed_mk, ↓fixed_ite, fixed_fold, ite_self, implies_true, ↓State.updS_fixed, ↓State.updCohort_fixed, ↓State.judge2_fixed, ↓foldl_fixed] | rw [foldl_fixed] | split | intro _
theorem seamDecision_fixed (id : CellId) (s : State) : (seamDecision id s).fixed = s.fixed := by
  unfold seamDecision
  repeat' first | rfl | simp only [↓fixed_mk, ↓fixed_ite, fixed_fold, ite_self, implies_true, ↓State.decideCell_fixed, ↓foldl_fixed] | rw [foldl_fixed] | split | intro _
theorem State.cohortHold_fixed (s : State) (c : ℕ) : (State.cohortHold s c).fixed = s.fixed := by
  unfold State.cohortHold
  repeat' first | rfl | simp only [↓fixed_mk, ↓fixed_ite, fixed_fold, ite_self, implies_true, ↓State.updCohort_fixed, ↓State.judge2_fixed, ↓foldl_fixed] | rw [foldl_fixed] | split | intro _
theorem State.packSplitCheck_fixed (s : State) : (State.packSplitCheck s).fixed = s.fixed := by
  unfold State.packSplitCheck
  repeat' first | rfl | simp only [↓fixed_mk, ↓fixed_ite, fixed_fold, ite_self, implies_true, ↓State.judge2_fixed, ↓foldl_fixed] | rw [foldl_fixed] | split | intro _
theorem State.absentCheck_fixed (s : State) : (State.absentCheck s).fixed = s.fixed := by
  unfold State.absentCheck
  repeat' first | rfl | simp only [↓fixed_mk, ↓fixed_ite, fixed_fold, ite_self, implies_true, ↓State.judge2_fixed, ↓State.updL_fixed, ↓foldl_fixed] | rw [foldl_fixed] | split | intro _
theorem seamDeadline_fixed (s : State) : (seamDeadline s).fixed = s.fixed := by
  unfold seamDeadline
  repeat' first | rfl | simp only [↓fixed_mk, ↓fixed_ite, fixed_fold, ite_self, implies_true, ↓State.decideCell_fixed, ↓State.cohortHold_fixed, ↓State.countOverruns_fixed, ↓State.absentCheck_fixed, ↓State.packSplitCheck_fixed, ↓foldl_fixed] | rw [foldl_fixed] | split | intro _
theorem State.closeWindow_fixed (s : State) (partial_ : Bool) : (State.closeWindow s partial_).fixed = s.fixed := by
  unfold State.closeWindow
  repeat' first | rfl | simp only [↓fixed_mk, ↓fixed_ite, fixed_fold, ite_self, implies_true, ↓State.log_fixed, ↓foldl_fixed] | rw [foldl_fixed] | split | intro _
theorem seamWindowEnd_fixed (s : State) : (seamWindowEnd s).fixed = s.fixed := by
  unfold seamWindowEnd
  repeat' first | rfl | simp only [↓fixed_mk, ↓fixed_ite, fixed_fold, ite_self, implies_true, ↓State.closeWindow_fixed, ↓foldl_fixed] | rw [foldl_fixed] | split | intro _
theorem State.formPublished_fixed (s : State) : (State.formPublished s).fixed = s.fixed := by
  unfold State.formPublished
  repeat' first | rfl | simp only [↓fixed_mk, ↓fixed_ite, fixed_fold, ite_self, implies_true, ↓foldl_fixed] | rw [foldl_fixed] | split | intro _
theorem State.writeSealBuf_fixed (s : State) : (State.writeSealBuf s).fixed = s.fixed := by
  unfold State.writeSealBuf
  repeat' first | rfl | simp only [↓fixed_mk, ↓fixed_ite, fixed_fold, ite_self, implies_true, ↓foldl_fixed] | rw [foldl_fixed] | split | intro _
theorem State.ledgerAt_fixed (s : State) (t : Ns) : (State.ledgerAt s t).fixed = s.fixed := by
  unfold State.ledgerAt
  repeat' first | rfl | simp only [↓fixed_mk, ↓fixed_ite, fixed_fold, ite_self, implies_true, ↓foldl_fixed] | rw [foldl_fixed] | split | intro _
theorem State.answer_fixed (s : State) (us : ℕ) (t : Ns) : (State.answer s us t).fixed = s.fixed := by
  unfold State.answer
  repeat' first | rfl | simp only [↓fixed_mk, ↓fixed_ite, fixed_fold, ite_self, implies_true, ↓foldl_fixed] | rw [foldl_fixed] | split | intro _
theorem State.closeBurst_fixed (s : State) (e : LedgerEntry) (k : BurstEnd) (t : Ns) : (State.closeBurst s e k t).fixed = s.fixed := by
  unfold State.closeBurst
  repeat' first | rfl | simp only [↓fixed_mk, ↓fixed_ite, fixed_fold, ite_self, implies_true, ↓State.log_fixed, ↓foldl_fixed] | rw [foldl_fixed] | split | intro _
theorem State.cutBursts_fixed (s : State) (t : Ns) : (State.cutBursts s t).fixed = s.fixed := by
  unfold State.cutBursts
  repeat' first | rfl | simp only [↓fixed_mk, ↓fixed_ite, fixed_fold, ite_self, implies_true, ↓State.raise_fixed, ↓State.answer_fixed, ↓State.closeBurst_fixed, ↓foldl_fixed] | rw [foldl_fixed] | split | intro _
theorem breqEdge_fixed (line : ℕ) (t : Ns) (s : State) : (breqEdge line t s).fixed = s.fixed := by
  unfold breqEdge
  repeat' first | rfl | simp only [↓fixed_mk, ↓fixed_ite, fixed_fold, ite_self, implies_true, ↓State.ledgerAt_fixed, ↓State.at_fixed, ↓State.answer_fixed, ↓foldl_fixed] | rw [foldl_fixed] | split | intro _
theorem burstRelease_fixed (line : ℕ) (t : Ns) (s : State) : (burstRelease line t s).fixed = s.fixed := by
  unfold burstRelease
  repeat' first | rfl | simp only [↓fixed_mk, ↓fixed_ite, fixed_fold, ite_self, implies_true, ↓State.clear_fixed, ↓State.closeBurst_fixed, ↓State.at_fixed, ↓foldl_fixed] | rw [foldl_fixed] | split | intro _
theorem burstDurationEnd_fixed (line : ℕ) (t : Ns) (s : State) : (burstDurationEnd line t s).fixed = s.fixed := by
  unfold burstDurationEnd
  repeat' first | rfl | simp only [↓fixed_mk, ↓fixed_ite, fixed_fold, ite_self, implies_true, ↓State.clear_fixed, ↓State.answer_fixed, ↓State.closeBurst_fixed, ↓State.at_fixed, ↓foldl_fixed] | rw [foldl_fixed] | split | intro _
theorem bgntAnswer_fixed (t : Ns) (s : State) : (bgntAnswer t s).fixed = s.fixed := by
  unfold bgntAnswer
  repeat' first | rfl | simp only [↓fixed_mk, ↓fixed_ite, fixed_fold, ite_self, implies_true, ↓State.at_fixed, ↓foldl_fixed] | rw [foldl_fixed] | split | intro _
theorem State.enterPath_fixed (s : State) (p : PathState) (t : Ns) : (State.enterPath s p t).fixed = s.fixed := by
  unfold State.enterPath
  repeat' first | rfl | simp only [↓fixed_mk, ↓fixed_ite, fixed_fold, ite_self, implies_true, ↓State.cutBursts_fixed, ↓foldl_fixed] | rw [foldl_fixed] | split | intro _
theorem State.loseMain_fixed (s : State) (t : Ns) : (State.loseMain s t).fixed = s.fixed := by
  unfold State.loseMain
  repeat' first | rfl | simp only [↓fixed_mk, ↓fixed_ite, fixed_fold, ite_self, implies_true, ↓State.enterPath_fixed, ↓State.raise_fixed, ↓foldl_fixed] | rw [foldl_fixed] | split | intro _
theorem State.sense_fixed (s : State) (x : PathSense) : (State.sense s x).fixed = s.fixed := by
  unfold State.sense
  repeat' first | rfl | simp only [↓fixed_mk, ↓fixed_ite, fixed_fold, ite_self, implies_true, ↓State.at_fixed, ↓foldl_fixed] | rw [foldl_fixed] | split | intro _
theorem State.takeShort_fixed (s : State) (t : Ns) : (State.takeShort s t).fixed = s.fixed := by
  unfold State.takeShort
  repeat' first | rfl | simp only [↓fixed_mk, ↓fixed_ite, fixed_fold, ite_self, implies_true, ↓State.raise_fixed, ↓State.at_fixed, ↓State.enterPath_fixed, ↓foldl_fixed] | rw [foldl_fixed] | split | intro _
theorem State.takeFloor_fixed (s : State) (t : Ns) : (State.takeFloor s t).fixed = s.fixed := by
  unfold State.takeFloor
  repeat' first | rfl | simp only [↓fixed_mk, ↓fixed_ite, fixed_fold, ite_self, implies_true, ↓State.raise_fixed, ↓State.enterPath_fixed, ↓State.at_fixed, ↓State.cutBursts_fixed, ↓foldl_fixed] | rw [foldl_fixed] | split | intro _
theorem State.takeFail_fixed (s : State) (t : Ns) : (State.takeFail s t).fixed = s.fixed := by
  unfold State.takeFail
  repeat' first | rfl | simp only [↓fixed_mk, ↓fixed_ite, fixed_fold, ite_self, implies_true, ↓State.loseMain_fixed, ↓State.raise_fixed, ↓foldl_fixed] | rw [foldl_fixed] | split | intro _
theorem State.cycle_fixed (s : State) (x : PathSense) (act : State → State) (h : ∀ u, (act u).fixed = u.fixed) : (State.cycle s x act).fixed = s.fixed := by
  unfold State.cycle; dsimp only
  repeat' first | rfl | (rw [h]; exact State.sense_fixed _ _) | (rw [State.takeShort_fixed]; exact State.sense_fixed _ _) | (rw [State.takeFloor_fixed]; exact State.sense_fixed _ _) | (rw [State.takeFail_fixed]; exact State.sense_fixed _ _) | split
theorem State.rampMain_fixed (s : State) (otherHigh : Bool) (t : Ns) : (State.rampMain s otherHigh t).fixed = s.fixed := by
  unfold State.rampMain
  repeat' first | rfl | simp only [↓fixed_mk, ↓fixed_ite, fixed_fold, ite_self, implies_true, ↓State.enterPath_fixed, ↓foldl_fixed] | rw [foldl_fixed] | split | intro _
theorem vmainFail_fixed (x : PathSense) (s : State) : (vmainFail x s).fixed = s.fixed := by
  unfold vmainFail
  repeat' first | rfl | simp only [↓fixed_mk, ↓fixed_ite, fixed_fold, ite_self, implies_true, ↓State.cycle_fixed, ↓State.takeFail_fixed, ↓foldl_fixed] | rw [foldl_fixed] | split | intro _
theorem reservePrecharge_fixed (otherHigh : Bool) (t : Ns) (s : State) : (reservePrecharge otherHigh t s).fixed = s.fixed := by
  unfold reservePrecharge
  repeat' first | rfl | simp only [↓fixed_mk, ↓fixed_ite, fixed_fold, ite_self, implies_true, ↓State.at_fixed, ↓foldl_fixed] | rw [foldl_fixed] | split | intro _
theorem mainPrecharge_fixed (otherHigh : Bool) (t : Ns) (s : State) : (mainPrecharge otherHigh t s).fixed = s.fixed := by
  unfold mainPrecharge
  repeat' first | rfl | simp only [↓fixed_mk, ↓fixed_ite, fixed_fold, ite_self, implies_true, ↓State.at_fixed, ↓foldl_fixed] | rw [foldl_fixed] | split | intro _
theorem rampComplete_fixed (x : PathSense) (s : State) : (rampComplete x s).fixed = s.fixed := by
  unfold rampComplete
  repeat' first | rfl | simp only [↓fixed_mk, ↓fixed_ite, fixed_fold, ite_self, implies_true, ↓State.cycle_fixed, ↓State.enterPath_fixed, ↓foldl_fixed] | rw [foldl_fixed] | split | intro _
theorem goodChange_fixed (good : Bool) (t : Ns) (s : State) : (goodChange good t s).fixed = s.fixed := by
  unfold goodChange
  repeat' first | rfl | simp only [↓fixed_mk, ↓fixed_ite, fixed_fold, ite_self, implies_true, ↓State.at_fixed, ↓foldl_fixed] | rw [foldl_fixed] | split | intro _
theorem stableReached_fixed (x : PathSense) (s : State) : (stableReached x s).fixed = s.fixed := by
  unfold stableReached
  split
  · rfl
  · rw [State.cycle_fixed]
    · rfl
    · intro u; repeat' first | rfl | exact State.rampMain_fixed _ _ _ | simp only [↓fixed_ite, ite_self] | split
theorem pathDwellEnd_fixed (x : PathSense) (s : State) : (pathDwellEnd x s).fixed = s.fixed := by
  unfold pathDwellEnd
  repeat' first | rfl | simp only [↓fixed_mk, ↓fixed_ite, fixed_fold, ite_self, implies_true, ↓State.cycle_fixed, ↓State.enterPath_fixed, ↓foldl_fixed] | rw [foldl_fixed] | split | intro _
theorem shortDetected_fixed (t : Ns) (s : State) : (shortDetected t s).fixed = s.fixed := by
  unfold shortDetected
  repeat' first | rfl | simp only [↓fixed_mk, ↓fixed_ite, fixed_fold, ite_self, implies_true, ↓State.takeShort_fixed, ↓foldl_fixed] | rw [foldl_fixed] | split | intro _
theorem coolEnd_fixed (x : PathSense) (s : State) : (coolEnd x s).fixed = s.fixed := by
  unfold coolEnd
  repeat' first | rfl | simp only [↓fixed_mk, ↓fixed_ite, fixed_fold, ite_self, implies_true, ↓State.sense_fixed, ↓State.rampMain_fixed, ↓State.enterPath_fixed, ↓foldl_fixed] | rw [foldl_fixed] | split | intro _
theorem shortCountReset_fixed (t : Ns) (s : State) : (shortCountReset t s).fixed = s.fixed := by
  unfold shortCountReset
  repeat' first | rfl | simp only [↓fixed_mk, ↓fixed_ite, fixed_fold, ite_self, implies_true, ↓State.clear_fixed, ↓State.at_fixed, ↓foldl_fixed] | rw [foldl_fixed] | split | intro _
theorem latchedExit_fixed (t : Ns) (s : State) : (latchedExit t s).fixed = s.fixed := by
  unfold latchedExit
  repeat' first | rfl | simp only [↓fixed_mk, ↓fixed_ite, fixed_fold, ite_self, implies_true, ↓State.clear_fixed, ↓State.enterPath_fixed, ↓State.at_fixed, ↓foldl_fixed] | rw [foldl_fixed] | split | intro _
theorem floor__fixed (src : FloorSource) (x : PathSense) (s : State) : (floor_ src x s).fixed = s.fixed := by
  unfold floor_
  repeat' first | rfl | simp only [↓fixed_mk, ↓fixed_ite, fixed_fold, ite_self, implies_true, ↓State.cycle_fixed, ↓State.takeFloor_fixed, ↓foldl_fixed] | rw [foldl_fixed] | split | intro _
theorem dampingEnd_fixed (t : Ns) (s : State) : (dampingEnd t s).fixed = s.fixed := by
  unfold dampingEnd
  repeat' first | rfl | simp only [↓fixed_mk, ↓fixed_ite, fixed_fold, ite_self, implies_true, ↓State.clear_fixed, ↓State.at_fixed, ↓foldl_fixed] | rw [foldl_fixed] | split | intro _
theorem gateInterlockTimeout_fixed (t : Ns) (s : State) : (gateInterlockTimeout t s).fixed = s.fixed := by
  unfold gateInterlockTimeout
  repeat' first | rfl | simp only [↓fixed_mk, ↓fixed_ite, fixed_fold, ite_self, implies_true, ↓State.enterPath_fixed, ↓State.raiseFor_fixed, ↓State.at_fixed, ↓foldl_fixed] | rw [foldl_fixed] | split | intro _
theorem gateMonitorFault_fixed (pair : Pair) (t : Ns) (s : State) : (gateMonitorFault pair t s).fixed = s.fixed := by
  unfold gateMonitorFault
  repeat' first | rfl | simp only [↓fixed_mk, ↓fixed_ite, fixed_fold, ite_self, implies_true, ↓State.raiseFor_fixed, ↓State.at_fixed, ↓foldl_fixed] | rw [foldl_fixed] | split | intro _
theorem State.pathTakeover_fixed (s : State) (t : Ns) : (State.pathTakeover s t).fixed = s.fixed := by
  unfold State.pathTakeover
  repeat' first | rfl | simp only [↓fixed_mk, ↓fixed_ite, fixed_fold, ite_self, implies_true, ↓State.enterPath_fixed, ↓foldl_fixed] | rw [foldl_fixed] | split | intro _
theorem storeAbsent_fixed (s : State) : (storeAbsent s).fixed = s.fixed := by
  unfold storeAbsent
  repeat' first | rfl | simp only [↓fixed_mk, ↓fixed_ite, fixed_fold, ite_self, implies_true, ↓State.raise_fixed, ↓foldl_fixed] | rw [foldl_fixed] | split | intro _
theorem storePresent_fixed (s : State) : (storePresent s).fixed = s.fixed := by
  unfold storePresent
  repeat' first | rfl | simp only [↓fixed_mk, ↓fixed_ite, fixed_fold, ite_self, implies_true, ↓State.clear_fixed, ↓State.storeChange_fixed, ↓foldl_fixed] | rw [foldl_fixed] | split | intro _
theorem State.vsetSample_fixed (s : State) (code : ℕ) : (State.vsetSample s code).fixed = s.fixed := by
  unfold State.vsetSample
  repeat' first | rfl | simp only [↓fixed_mk, ↓fixed_ite, fixed_fold, ite_self, implies_true, ↓State.clear_fixed, ↓State.raise_fixed, ↓foldl_fixed] | rw [foldl_fixed] | split | intro _
theorem State.refUpdate_fixed (s : State) (t : Ns) : (State.refUpdate s t).fixed = s.fixed := by
  unfold State.refUpdate
  repeat' first | rfl | simp only [↓fixed_mk, ↓fixed_ite, fixed_fold, ite_self, implies_true, ↓foldl_fixed] | rw [foldl_fixed] | split | intro _
theorem State.storeStitch_fixed (s : State) (vset : ℕ) (t : Ns) : (State.storeStitch s vset t).fixed = s.fixed := by
  unfold State.storeStitch
  repeat' first | rfl | simp only [↓fixed_mk, ↓fixed_ite, fixed_fold, ite_self, implies_true, ↓State.vsetSample_fixed, ↓State.ledgerAt_fixed, ↓State.refUpdate_fixed, ↓foldl_fixed] | rw [foldl_fixed] | split | intro _
theorem State.ledgerEnergy_fixed (s : State) : (State.ledgerEnergy s).fixed = s.fixed := by
  unfold State.ledgerEnergy
  repeat' first | rfl | simp only [↓fixed_mk, ↓fixed_ite, fixed_fold, ite_self, implies_true, ↓foldl_fixed] | rw [foldl_fixed] | split | intro _
theorem State.storeRound_fixed (s : State) (x : SnapLatch) : (State.storeRound s x).fixed = s.fixed := by
  unfold State.storeRound
  repeat' first | rfl | simp only [↓fixed_mk, ↓fixed_ite, fixed_fold, ite_self, implies_true, ↓State.clear_fixed, ↓State.judge2_fixed, ↓foldl_fixed] | rw [foldl_fixed] | split | intro _
theorem State.computePower_fixed (s : State) : (State.computePower s).fixed = s.fixed := by
  unfold State.computePower
  repeat' first | rfl | simp only [↓fixed_mk, ↓fixed_ite, fixed_fold, ite_self, implies_true, ↓State.judge2_fixed, ↓State.judge_fixed, ↓foldl_fixed] | rw [foldl_fixed] | split | intro _
theorem State.tripRequest_fixed (s : State) : (State.tripRequest s).fixed = s.fixed := by
  unfold State.tripRequest
  repeat' first | rfl | simp only [↓fixed_mk, ↓fixed_ite, fixed_fold, ite_self, implies_true, ↓State.raise_fixed, ↓foldl_fixed] | rw [foldl_fixed] | split | intro _
theorem packChecks_fixed (t : Ns) (s : State) : (packChecks t s).fixed = s.fixed := by
  unfold packChecks
  repeat' first | rfl | simp only [↓fixed_mk, ↓fixed_ite, fixed_fold, ite_self, implies_true, ↓State.ledgerEnergy_fixed, ↓State.tripRequest_fixed, ↓State.computePower_fixed, ↓State.groupCheck_fixed, ↓State.channelCheck_fixed, ↓State.voltageCheck_fixed, ↓State.formStreams_fixed, ↓State.settleReads_fixed, ↓State.at_fixed, ↓foldl_fixed] | rw [foldl_fixed] | split | intro _
theorem State.latchCaps_fixed (s : State) : (State.latchCaps s).fixed = s.fixed := by
  unfold State.latchCaps
  repeat' first | rfl | simp only [↓fixed_mk, ↓fixed_ite, fixed_fold, ite_self, implies_true, ↓foldl_fixed] | rw [foldl_fixed] | split | intro _
theorem State.latchWatch_fixed (s : State) : (State.latchWatch s).fixed = s.fixed := by
  unfold State.latchWatch
  repeat' first | rfl | simp only [↓fixed_mk, ↓fixed_ite, fixed_fold, ite_self, implies_true, ↓foldl_fixed] | rw [foldl_fixed] | split | intro _
theorem State.refreshForced_fixed (s : State) : (State.refreshForced s).fixed = s.fixed := by
  unfold State.refreshForced
  repeat' first | rfl | simp only [↓fixed_mk, ↓fixed_ite, fixed_fold, ite_self, implies_true, ↓foldl_fixed] | rw [foldl_fixed] | split | intro _
theorem State.fastEvent_fixed (s : State) (e : FastEvent) : (State.fastEvent s e).fixed = s.fixed := by
  unfold State.fastEvent
  repeat' first | rfl | simp only [↓fixed_mk, ↓fixed_ite, fixed_fold, ite_self, implies_true, ↓State.raise_fixed, ↓State.refreshForced_fixed, ↓foldl_fixed] | rw [foldl_fixed] | split | intro _
theorem comparatorEvent_fixed (x : CompEvent) (s : State) : (comparatorEvent x s).fixed = s.fixed := by
  unfold comparatorEvent
  repeat' first | rfl | simp only [↓fixed_mk, ↓fixed_ite, fixed_fold, ite_self, implies_true, ↓State.fastEvent_fixed, ↓State.at_fixed, ↓foldl_fixed] | rw [foldl_fixed] | split | intro _
theorem State.groupFlag_fixed (s : State) (id : CellId) (flag : Bool) (first : Bool) (volt : ℕ) (t : Ns) : (State.groupFlag s id flag first volt t).fixed = s.fixed := by
  unfold State.groupFlag
  repeat' first | rfl | simp only [↓fixed_mk, ↓fixed_ite, fixed_fold, ite_self, implies_true, ↓State.fastEvent_fixed, ↓foldl_fixed] | rw [foldl_fixed] | split | intro _
theorem cellLimitFlag_fixed (x : ThreadRx) (s : State) : (cellLimitFlag x s).fixed = s.fixed := by
  unfold cellLimitFlag
  repeat' first | rfl | simp only [↓fixed_mk, ↓fixed_ite, fixed_fold, ite_self, implies_true, ↓State.at_fixed, ↓State.groupFlag_fixed, ↓foldl_fixed] | rw [foldl_fixed] | split | intro _
theorem State.releaseTrip_fixed (s : State) : (State.releaseTrip s).fixed = s.fixed := by
  unfold State.releaseTrip
  repeat' first | rfl | simp only [↓fixed_mk, ↓fixed_ite, fixed_fold, ite_self, implies_true, ↓State.clear_fixed, ↓foldl_fixed] | rw [foldl_fixed] | split | intro _
theorem fastPathRelease_fixed (e : FastEvent) (t : Ns) (s : State) : (fastPathRelease e t s).fixed = s.fixed := by
  unfold fastPathRelease
  repeat' first | rfl | simp only [↓fixed_mk, ↓fixed_ite, fixed_fold, ite_self, implies_true, ↓State.refreshForced_fixed, ↓State.at_fixed, ↓State.clear_fixed, ↓State.releaseTrip_fixed, ↓foldl_fixed] | rw [foldl_fixed] | split | intro _
theorem pinReadbackMismatch_fixed (p : FastPin) (s : State) : (pinReadbackMismatch p s).fixed = s.fixed := by
  unfold pinReadbackMismatch
  repeat' first | rfl | simp only [↓fixed_mk, ↓fixed_ite, fixed_fold, ite_self, implies_true, ↓State.raiseFor_fixed, ↓foldl_fixed] | rw [foldl_fixed] | split | intro _
theorem State.updView_fixed (s : State) (k : ℕ) (f : SeatView → SeatView) : (State.updView s k f).fixed = s.fixed := by
  unfold State.updView
  repeat' first | rfl | simp only [↓fixed_mk, ↓fixed_ite, fixed_fold, ite_self, implies_true, ↓foldl_fixed] | rw [foldl_fixed] | split | intro _
theorem State.peerSend_fixed (s : State) (type : ℕ) (payload : List Byte) : (State.peerSend s type payload).fixed = s.fixed := by
  unfold State.peerSend
  repeat' first | rfl | simp only [↓fixed_mk, ↓fixed_ite, fixed_fold, ite_self, implies_true, ↓foldl_fixed] | rw [foldl_fixed] | split | intro _
theorem State.sendClaim_fixed (s : State) (kind : ℕ) (round : Round) : (State.sendClaim s kind round).fixed = s.fixed := by
  unfold State.sendClaim
  repeat' first | rfl | simp only [↓fixed_mk, ↓fixed_ite, fixed_fold, ite_self, implies_true, ↓State.peerSend_fixed, ↓foldl_fixed] | rw [foldl_fixed] | split | intro _
theorem State.sendYield_fixed (s : State) (succ : ℕ) (reason : ℕ) (h : Round) : (State.sendYield s succ reason h).fixed = s.fixed := by
  unfold State.sendYield
  repeat' first | rfl | simp only [↓fixed_mk, ↓fixed_ite, fixed_fold, ite_self, implies_true, ↓State.peerSend_fixed, ↓foldl_fixed] | rw [foldl_fixed] | split | intro _
theorem State.sendItems_fixed (s : State) (items : List (List Byte)) : (State.sendItems s items).fixed = s.fixed := by
  unfold State.sendItems
  extract_lets r
  have h : r.1.fixed = s.fixed := by
    simp only [r]
    suffices h : ∀ (l : List (List Byte)) (a : State × List Byte), (l.foldl (fun (a : State × List Byte) i =>
        if a.2.isEmpty then (a.1, i)
        else if 1024 < a.2.length + i.length then (a.1.peerSend 4 a.2, i) else (a.1, a.2 ++ i)) a).1.fixed = a.1.fixed from h _ _
    intro l
    induction l with
    | nil => intro a; rfl
    | cons i l ih =>
      intro a; rw [List.foldl_cons, ih]; split
      · rfl
      · split <;> [exact State.peerSend_fixed _ _ _; rfl]
  split
  · exact h
  · rw [State.peerSend_fixed, h]
theorem State.peerFail_fixed (s : State) (side : CutSide) : (State.peerFail s side).fixed = s.fixed := by
  unfold State.peerFail
  repeat' first | rfl | simp only [↓fixed_mk, ↓fixed_ite, fixed_fold, ite_self, implies_true, ↓foldl_fixed] | rw [foldl_fixed] | split | intro _
theorem State.forward_fixed (s : State) (x : PeerRx) (origin : ℕ) : (State.forward s x origin).fixed = s.fixed := by
  unfold State.forward
  repeat' first | rfl | simp only [↓fixed_mk, ↓fixed_ite, fixed_fold, ite_self, implies_true, ↓foldl_fixed] | rw [foldl_fixed] | split | intro _
theorem State.peerAccept_fixed (s : State) (type : ℕ) (x : PeerRx) : (State.peerAccept s type x).1.fixed = s.fixed := by
  unfold State.peerAccept
  repeat' first | rfl | simp only [↓fixed_mk, ↓fixed_ite, fixed_fold, ite_self, implies_true, ↓State.peerFail_fixed, ↓State.raise_fixed, ↓State.forward_fixed, ↓State.at_fixed, ↓State.updView_fixed, ↓foldl_fixed] | rw [foldl_fixed] | split | intro _
theorem State.align_fixed (s : State) (zero : ℤ) (round : Round) : (State.align s zero round).fixed = s.fixed := by
  unfold State.align
  repeat' first | rfl | simp only [↓fixed_mk, ↓fixed_ite, fixed_fold, ite_self, implies_true, ↓State.clear_fixed, ↓foldl_fixed] | rw [foldl_fixed] | split | intro _
theorem State.steer_fixed (s : State) (zero : ℤ) (lock : ℕ) : (State.steer s zero lock).fixed = s.fixed := by
  unfold State.steer
  repeat' first | rfl | simp only [↓fixed_mk, ↓fixed_ite, fixed_fold, ite_self, implies_true, ↓foldl_fixed] | rw [foldl_fixed] | split | intro _
theorem State.joinRound_fixed (s : State) : (State.joinRound s).fixed = s.fixed := by
  unfold State.joinRound
  repeat' first | rfl | simp only [↓fixed_mk, ↓fixed_ite, fixed_fold, ite_self, implies_true, ↓foldl_fixed] | rw [foldl_fixed] | split | intro _
theorem unaligned_fixed (s : State) : (unaligned s).fixed = s.fixed := by
  unfold unaligned
  repeat' first | rfl | simp only [↓fixed_mk, ↓fixed_ite, fixed_fold, ite_self, implies_true, ↓State.raise_fixed, ↓foldl_fixed] | rw [foldl_fixed] | split | intro _
theorem State.takeGroup_fixed (s : State) : (State.takeGroup s).fixed = s.fixed := by
  unfold State.takeGroup
  repeat' first | rfl | simp only [↓fixed_mk, ↓fixed_ite, fixed_fold, ite_self, implies_true, ↓foldl_fixed] | rw [foldl_fixed] | split | intro _
theorem State.releaseGroup_fixed (s : State) : (State.releaseGroup s).fixed = s.fixed := by
  unfold State.releaseGroup
  repeat' first | rfl | simp only [↓fixed_mk, ↓fixed_ite, fixed_fold, ite_self, implies_true, ↓foldl_fixed] | rw [foldl_fixed] | split | intro _
theorem State.seatTakes_fixed (s : State) (k : ℕ) (r : Role) : (State.seatTakes s k r).fixed = s.fixed := by
  unfold State.seatTakes
  repeat' first | rfl | simp only [↓fixed_mk, ↓fixed_ite, fixed_fold, ite_self, implies_true, ↓State.updView_fixed, ↓foldl_fixed] | rw [foldl_fixed] | split | intro _
theorem State.twoOwners_fixed (s : State) (other : ℕ) (r : Role) : (State.twoOwners s other r).fixed = s.fixed := by
  unfold State.twoOwners
  repeat' first | rfl | simp only [↓fixed_mk, ↓fixed_ite, fixed_fold, ite_self, implies_true, ↓State.raiseFor_fixed, ↓foldl_fixed] | rw [foldl_fixed] | split | intro _
theorem provisionalClaim_fixed (s : State) : (provisionalClaim s).fixed = s.fixed := by
  unfold provisionalClaim
  repeat' first | rfl | simp only [↓fixed_mk, ↓fixed_ite, fixed_fold, ite_self, implies_true, ↓State.sendClaim_fixed, ↓State.beginTurn_fixed, ↓State.takeGroup_fixed, ↓foldl_fixed] | rw [foldl_fixed] | split | intro _
theorem listenTimeout_fixed (s : State) : (listenTimeout s).fixed = s.fixed := by
  unfold listenTimeout
  repeat' first | rfl | simp only [↓fixed_mk, ↓fixed_ite, fixed_fold, ite_self, implies_true, ↓State.sendClaim_fixed, ↓State.raise_fixed, ↓State.beginTurn_fixed, ↓State.takeGroup_fixed, ↓foldl_fixed] | rw [foldl_fixed] | split | intro _
theorem election_fixed (s : State) : (election s).fixed = s.fixed := by
  unfold election
  repeat' first | rfl | simp only [↓fixed_mk, ↓fixed_ite, fixed_fold, ite_self, implies_true, ↓State.raise_fixed, ↓foldl_fixed] | rw [foldl_fixed] | split | intro _
theorem State.electedClaim_fixed (s : State) : (State.electedClaim s).fixed = s.fixed := by
  unfold State.electedClaim
  repeat' first | rfl | simp only [↓fixed_mk, ↓fixed_ite, fixed_fold, ite_self, implies_true, ↓State.sendClaim_fixed, ↓State.clear_fixed, ↓foldl_fixed] | rw [foldl_fixed] | split | intro _
theorem yieldSend_fixed (s : State) : (yieldSend s).fixed = s.fixed := by
  unfold yieldSend
  repeat' first | rfl | simp only [↓fixed_mk, ↓fixed_ite, fixed_fold, ite_self, implies_true, ↓State.sendYield_fixed, ↓foldl_fixed] | rw [foldl_fixed] | split | intro _
theorem State.yieldTest_fixed (s : State) : (State.yieldTest s).fixed = s.fixed := by
  unfold State.yieldTest
  repeat' first | rfl | simp only [↓fixed_mk, ↓fixed_ite, fixed_fold, ite_self, implies_true, ↓State.raise_fixed, ↓foldl_fixed] | rw [foldl_fixed] | split | intro _
theorem acceptClaim_fixed (s : State) : (acceptClaim s).fixed = s.fixed := by
  unfold acceptClaim
  repeat' first | rfl | simp only [↓fixed_mk, ↓fixed_ite, fixed_fold, ite_self, implies_true, ↓State.sendClaim_fixed, ↓foldl_fixed] | rw [foldl_fixed] | split | intro _
theorem State.yieldStitch63_fixed (s : State) : (State.yieldStitch63 s).fixed = s.fixed := by
  unfold State.yieldStitch63
  repeat' first | rfl | simp only [↓fixed_mk, ↓fixed_ite, fixed_fold, ite_self, implies_true, ↓State.takeGroup_fixed, ↓foldl_fixed] | rw [foldl_fixed] | split | intro _
theorem State.yieldRelease_fixed (s : State) : (State.yieldRelease s).fixed = s.fixed := by
  unfold State.yieldRelease
  repeat' first | rfl | simp only [↓fixed_mk, ↓fixed_ite, fixed_fold, ite_self, implies_true, ↓State.clear_fixed, ↓State.seatTakes_fixed, ↓State.releaseGroup_fixed, ↓State.otherTurn_fixed, ↓State.takeGroup_fixed, ↓State.beginTurn_fixed, ↓foldl_fixed] | rw [foldl_fixed] | split | intro _
theorem State.assertCut_fixed (s : State) (k : ℕ) (t : Ns) : (State.assertCut s k t).fixed = s.fixed := by
  unfold State.assertCut
  repeat' first | rfl | simp only [↓fixed_mk, ↓fixed_ite, fixed_fold, ite_self, implies_true, ↓State.raise_fixed, ↓foldl_fixed] | rw [foldl_fixed] | split | intro _
theorem State.releaseCut_fixed (s : State) : (State.releaseCut s).fixed = s.fixed := by
  unfold State.releaseCut
  repeat' first | rfl | simp only [↓fixed_mk, ↓fixed_ite, fixed_fold, ite_self, implies_true, ↓State.clearAll_fixed, ↓foldl_fixed] | rw [foldl_fixed] | split | intro _
theorem State.seenCut_fixed (s : State) (k : ℕ) (b : Beat) (t : Ns) : (State.seenCut s k b t).fixed = s.fixed := by
  unfold State.seenCut
  repeat' first | rfl | simp only [↓fixed_mk, ↓fixed_ite, fixed_fold, ite_self, implies_true, ↓foldl_fixed] | rw [foldl_fixed] | split | intro _
theorem ownerJudge_fixed (s : State) : (ownerJudge s).fixed = s.fixed := by
  unfold ownerJudge
  repeat' first | rfl | simp only [↓fixed_mk, ↓fixed_ite, fixed_fold, ite_self, implies_true, ↓State.assertCut_fixed, ↓foldl_fixed] | rw [foldl_fixed] | split | intro _
theorem tripDisagree_fixed (t : Ns) (s : State) : (tripDisagree t s).fixed = s.fixed := by
  unfold tripDisagree
  repeat' first | rfl | simp only [↓fixed_mk, ↓fixed_ite, fixed_fold, ite_self, implies_true, ↓State.assertCut_fixed, ↓State.at_fixed, ↓foldl_fixed] | rw [foldl_fixed] | split | intro _
theorem cutIn_fixed (t : Ns) (s : State) : (cutIn t s).fixed = s.fixed := by
  unfold cutIn
  repeat' first | rfl | simp only [↓fixed_mk, ↓fixed_ite, fixed_fold, ite_self, implies_true, ↓State.at_fixed, ↓State.raise_fixed, ↓State.releaseCut_fixed, ↓foldl_fixed] | rw [foldl_fixed] | split | intro _
theorem forcedClaim_fixed (s : State) : (forcedClaim s).fixed = s.fixed := by
  unfold forcedClaim
  repeat' first | rfl | simp only [↓fixed_mk, ↓fixed_ite, fixed_fold, ite_self, implies_true, ↓State.sendClaim_fixed, ↓foldl_fixed] | rw [foldl_fixed] | split | intro _
theorem forcedTakeoverDrive_fixed (t : Ns) (s : State) : (forcedTakeoverDrive t s).fixed = s.fixed := by
  unfold forcedTakeoverDrive
  repeat' first | rfl | simp only [↓fixed_mk, ↓fixed_ite, fixed_fold, ite_self, implies_true, ↓State.raiseFor_fixed, ↓State.at_fixed, ↓State.pathTakeover_fixed, ↓foldl_fixed] | rw [foldl_fixed] | split | intro _
theorem State.forcedStitch63_fixed (s : State) : (State.forcedStitch63 s).fixed = s.fixed := by
  unfold State.forcedStitch63
  repeat' first | rfl | simp only [↓fixed_mk, ↓fixed_ite, fixed_fold, ite_self, implies_true, ↓foldl_fixed] | rw [foldl_fixed] | split | intro _
theorem State.forcedRound_fixed (s : State) : (State.forcedRound s).fixed = s.fixed := by
  unfold State.forcedRound
  repeat' first | rfl | simp only [↓fixed_mk, ↓fixed_ite, fixed_fold, ite_self, implies_true, ↓State.clear_fixed, ↓State.takeGroup_fixed, ↓State.seatTakes_fixed, ↓foldl_fixed] | rw [foldl_fixed] | split | intro _
theorem State.judgePair_fixed (s : State) (a : ℕ) (b : ℕ) : (State.judgePair s a b).fixed = s.fixed := by
  unfold State.judgePair
  repeat' first | rfl | simp only [↓fixed_mk, ↓fixed_ite, fixed_fold, ite_self, implies_true, ↓State.judge_fixed, ↓foldl_fixed] | rw [foldl_fixed] | split | intro _
theorem ownerSelfCheck_fixed (passed : Bool) (s : State) : (ownerSelfCheck passed s).fixed = s.fixed := by
  unfold ownerSelfCheck
  repeat' first | rfl | simp only [↓fixed_mk, ↓fixed_ite, fixed_fold, ite_self, implies_true, ↓State.raise_fixed, ↓foldl_fixed] | rw [foldl_fixed] | split | intro _
theorem State.peerRound_fixed (s : State) : (State.peerRound s).fixed = s.fixed := by
  unfold State.peerRound
  repeat' first | rfl | simp only [↓fixed_mk, ↓fixed_ite, fixed_fold, ite_self, implies_true, ↓State.updView_fixed, ↓State.raise_fixed, ↓State.judgePair_fixed, ↓State.clear_fixed, ↓foldl_fixed] | rw [foldl_fixed] | split | intro _
theorem State.mirrorStitch_fixed (s : State) : (State.mirrorStitch s).fixed = s.fixed := by
  unfold State.mirrorStitch
  repeat' first | rfl | simp only [↓fixed_mk, ↓fixed_ite, fixed_fold, ite_self, implies_true, ↓State.sendItems_fixed, ↓foldl_fixed] | rw [foldl_fixed] | split | intro _
theorem State.relayRead_fixed (s : State) (x : ThreadRx) : (State.relayRead s x).fixed = s.fixed := by
  unfold State.relayRead
  repeat' first | rfl | simp only [↓fixed_mk, ↓fixed_ite, fixed_fold, ite_self, implies_true, ↓State.sendItems_fixed, ↓foldl_fixed] | rw [foldl_fixed] | split | intro _
theorem State.takeRelay_fixed (s : State) (origin : ℕ) (c : List Byte) : (State.takeRelay s origin c).fixed = s.fixed := by
  unfold State.takeRelay
  repeat' first | rfl | simp only [↓fixed_mk, ↓fixed_ite, fixed_fold, ite_self, implies_true, ↓State.markEnd_fixed, ↓State.acceptRead_fixed, ↓foldl_fixed] | rw [foldl_fixed] | split | intro _
theorem State.takeLedger_fixed (s : State) (c : List Byte) : (State.takeLedger s c).fixed = s.fixed := by
  unfold State.takeLedger
  repeat' first | rfl | simp only [↓fixed_mk, ↓fixed_ite, fixed_fold, ite_self, implies_true, ↓foldl_fixed] | rw [foldl_fixed] | split | intro _
theorem State.takeMaps_fixed (s : State) (c : List Byte) : (State.takeMaps s c).fixed = s.fixed := by
  unfold State.takeMaps
  repeat' first | rfl | simp only [↓fixed_mk, ↓fixed_ite, fixed_fold, ite_self, implies_true, ↓State.holdOut_fixed, ↓foldl_fixed] | rw [foldl_fixed] | split | intro _
theorem State.witnessPattern_fixed (s : State) : (State.witnessPattern s).fixed = s.fixed := by
  unfold State.witnessPattern
  repeat' first | rfl | simp only [↓fixed_mk, ↓fixed_ite, fixed_fold, ite_self, implies_true, ↓State.judge_fixed, ↓foldl_fixed] | rw [foldl_fixed] | split | intro _
theorem State.takeNodes_fixed (s : State) (origin : ℕ) (c : List Byte) : (State.takeNodes s origin c).fixed = s.fixed := by
  unfold State.takeNodes
  repeat' first | rfl | simp only [↓fixed_mk, ↓fixed_ite, fixed_fold, ite_self, implies_true, ↓State.updNode_fixed, ↓State.turnOver_fixed, ↓State.witnessPattern_fixed, ↓State.foreignCount_fixed, ↓State.recordCheck_fixed, ↓foldl_fixed] | rw [foldl_fixed] | split | intro _
theorem State.takePark_fixed (s : State) (c : List Byte) : (State.takePark s c).fixed = s.fixed := by
  unfold State.takePark
  repeat' first | rfl | simp only [↓fixed_mk, ↓fixed_ite, fixed_fold, ite_self, implies_true, ↓foldl_fixed] | rw [foldl_fixed] | split | intro _
theorem State.takeStreams_fixed (s : State) (c : List Byte) : (State.takeStreams s c).fixed = s.fixed := by
  unfold State.takeStreams
  repeat' first | rfl | simp only [↓fixed_mk, ↓fixed_ite, fixed_fold, ite_self, implies_true, ↓foldl_fixed] | rw [foldl_fixed] | split | intro _
theorem State.takeItem_fixed (s : State) (origin : ℕ) (type : ℕ) (c : List Byte) : (State.takeItem s origin type c).fixed = s.fixed := by
  unfold State.takeItem
  repeat' first | rfl | simp only [↓fixed_mk, ↓fixed_ite, fixed_fold, ite_self, implies_true, ↓State.takeRelay_fixed, ↓State.updRing_fixed, ↓State.takeLedger_fixed, ↓State.takeMaps_fixed, ↓State.takeNodes_fixed, ↓State.takePark_fixed, ↓State.takeStreams_fixed, ↓foldl_fixed] | rw [foldl_fixed] | split | intro _
theorem beatSend_fixed (t : Ns) (s : State) : (beatSend t s).fixed = s.fixed := by
  unfold beatSend
  repeat' first | rfl | simp only [↓fixed_mk, ↓fixed_ite, fixed_fold, ite_self, implies_true, ↓State.at_fixed, ↓State.peerSend_fixed, ↓foldl_fixed] | rw [foldl_fixed] | split | intro _
theorem State.turnsBy_fixed (s : State) (k : ℕ) (r : Role) : (State.turnsBy s k r).fixed = s.fixed := by
  unfold State.turnsBy
  repeat' first | rfl | simp only [↓fixed_mk, ↓fixed_ite, fixed_fold, ite_self, implies_true, ↓State.otherTurn_fixed, ↓State.turnOver_fixed, ↓foldl_fixed] | rw [foldl_fixed] | split | intro _
theorem State.takeBeat_fixed (s : State) (x : PeerRx) (f : PeerFrame) : (State.takeBeat s x f).fixed = s.fixed := by
  unfold State.takeBeat
  repeat' first | rfl | simp only [↓fixed_mk, ↓fixed_ite, fixed_fold, ite_self, implies_true, ↓State.clear_fixed, ↓State.updView_fixed, ↓State.seenCut_fixed, ↓State.turnsBy_fixed, ↓State.twoOwners_fixed, ↓State.steer_fixed, ↓State.align_fixed, ↓foldl_fixed] | rw [foldl_fixed] | split | intro _
theorem claimReceived_fixed (x : PeerRx) (s : State) : (claimReceived x s).fixed = s.fixed := by
  unfold claimReceived
  have h := State.peerAccept_fixed s 2 x
  split
  · rename_i s1 he; rw [he] at h; exact h
  · rename_i s1 f he; rw [he] at h
    rw [← (show s1.fixed = s.fixed from h)]
    repeat' first | rfl | simp only [↓fixed_mk, ↓fixed_ite, fixed_fold, ite_self, ↓State.otherTurn_fixed, ↓State.twoOwners_fixed, ↓State.seatTakes_fixed, ↓State.clear_fixed] | split
theorem yieldReceived_fixed (x : PeerRx) (s : State) : (yieldReceived x s).fixed = s.fixed := by
  unfold yieldReceived
  have h := State.peerAccept_fixed s 3 x
  split
  · rename_i s1 he; rw [he] at h; exact h
  · rename_i s1 f he; rw [he] at h
    rw [← (show s1.fixed = s.fixed from h)]
    repeat' first | rfl | simp only [↓fixed_mk, ↓fixed_ite, fixed_fold, ite_self] | split
theorem State.takeItems_fixed (origin n : Nat) (l : List Byte) (s : State) : (State.takeItems origin n l s).fixed = s.fixed := by
  induction n generalizing l s with
  | zero => rfl
  | succ n ih =>
    unfold State.takeItems
    split
    · rfl
    · rw [ih, State.takeItem_fixed]

theorem mirrorReceived_fixed (x : PeerRx) (s : State) : (mirrorReceived x s).fixed = s.fixed := by
  unfold mirrorReceived
  have h := State.peerAccept_fixed s 4 x
  split
  · rename_i s1 he; rw [he] at h; exact h
  · rename_i s1 f he; rw [he] at h; rw [State.takeItems_fixed]; exact h
theorem peerWindowEnd_fixed (s : State) : (peerWindowEnd s).fixed = s.fixed := by
  unfold peerWindowEnd
  repeat' first | rfl | simp only [↓fixed_mk, ↓fixed_ite, fixed_fold, ite_self, implies_true, ↓State.judge2_fixed, ↓foldl_fixed] | rw [foldl_fixed] | split | intro _
theorem State.markUnfit_fixed (s : State) : (State.markUnfit s).fixed = s.fixed := by
  unfold State.markUnfit
  repeat' first | rfl | simp only [↓fixed_mk, ↓fixed_ite, fixed_fold, ite_self, implies_true, ↓foldl_fixed] | rw [foldl_fixed] | split | intro _
theorem State.ownerStitch_fixed (s : State) : (State.ownerStitch s).fixed = s.fixed := by
  unfold State.ownerStitch
  repeat' first | rfl | simp only [↓fixed_mk, ↓fixed_ite, fixed_fold, ite_self, implies_true, ↓State.releaseGroup_fixed, ↓State.markUnfit_fixed, ↓State.mirrorStitch_fixed, ↓State.peerRound_fixed, ↓State.yieldTest_fixed, ↓State.electedClaim_fixed, ↓State.forcedStitch63_fixed, ↓State.yieldStitch63_fixed, ↓foldl_fixed] | rw [foldl_fixed] | split | intro _
theorem State.ownerRound_fixed (s : State) (silent : List CutSide) : (State.ownerRound s silent).fixed = s.fixed := by
  unfold State.ownerRound
  repeat' first | rfl | simp only [↓fixed_mk, ↓fixed_ite, fixed_fold, ite_self, implies_true, ↓State.releaseGroup_fixed, ↓State.forcedRound_fixed, ↓State.yieldRelease_fixed, ↓State.clear_fixed, ↓State.judge_fixed, ↓foldl_fixed] | rw [foldl_fixed] | split | intro _
theorem NonVol.putSeal_fuses (n : NonVol) (x : Option Seal) : (n.putSeal x).fuses = n.fuses := by
  unfold NonVol.putSeal; split <;> rfl

theorem State.startSeal_fixed (s0 : State) (kind : SealKind) (t : Ns) : (State.startSeal s0 kind t).fixed = s0.fixed := by
  unfold State.startSeal
  have h := State.cutWrites_fixed s0
  simp only [fixed_mk]
  rw [← h]
  split
  · rw [NonVol.putSeal_fuses]; rfl
  · rfl
theorem State.endSeal_fixed (s : State) : (State.endSeal s).fixed = s.fixed := by
  unfold State.endSeal
  simp only [fixed_mk]
  split
  · rw [NonVol.putSeal_fuses]; rfl
  · rfl
theorem State.restoreBoot_fixed (s : State) (cold : Bool) (t : Ns) : (State.restoreBoot s cold t).fixed = s.fixed := by
  unfold State.restoreBoot
  repeat' first | rfl | simp only [↓fixed_mk, ↓fixed_ite, fixed_fold, ite_self, implies_true, ↓State.freshStart_fixed, ↓State.raise_fixed, ↓State.cutBursts_fixed, ↓State.closeWindow_fixed, ↓foldl_fixed] | rw [foldl_fixed] | split | intro _
theorem State.restoreInPlace_fixed (s : State) (t : Ns) : (State.restoreInPlace s t).fixed = s.fixed := by
  unfold State.restoreInPlace
  repeat' first | rfl | simp only [↓fixed_mk, ↓fixed_ite, fixed_fold, ite_self, implies_true, ↓State.missedRounds_fixed, ↓foldl_fixed] | rw [foldl_fixed] | split | intro _
theorem State.judgeTaps_fixed (s : State) : (State.judgeTaps s).fixed = s.fixed := by
  unfold State.judgeTaps
  repeat' first | rfl | simp only [↓fixed_mk, ↓fixed_ite, fixed_fold, ite_self, implies_true, ↓State.judge_fixed, ↓State.judge2_fixed, ↓foldl_fixed] | rw [foldl_fixed] | split | intro _
theorem State.tapEvent_fixed (s : State) (k : TapId) (f : Tap → Tap) : (State.tapEvent s k f).fixed = s.fixed := by
  unfold State.tapEvent
  repeat' first | rfl | simp only [↓fixed_mk, ↓fixed_ite, fixed_fold, ite_self, implies_true, ↓State.judgeTaps_fixed, ↓foldl_fixed] | rw [foldl_fixed] | split | intro _
theorem tapPresent_fixed (k : TapId) (s : State) : (tapPresent k s).fixed = s.fixed := by
  unfold tapPresent
  repeat' first | rfl | simp only [↓fixed_mk, ↓fixed_ite, fixed_fold, ite_self, implies_true, ↓State.tapEvent_fixed, ↓foldl_fixed] | rw [foldl_fixed] | split | intro _
theorem tapAbsent_fixed (k : TapId) (s : State) : (tapAbsent k s).fixed = s.fixed := by
  unfold tapAbsent
  repeat' first | rfl | simp only [↓fixed_mk, ↓fixed_ite, fixed_fold, ite_self, implies_true, ↓State.tapEvent_fixed, ↓foldl_fixed] | rw [foldl_fixed] | split | intro _
theorem tapOvervoltage_fixed (k : TapId) (s : State) : (tapOvervoltage k s).fixed = s.fixed := by
  unfold tapOvervoltage
  repeat' first | rfl | simp only [↓fixed_mk, ↓fixed_ite, fixed_fold, ite_self, implies_true, ↓State.tapEvent_fixed, ↓foldl_fixed] | rw [foldl_fixed] | split | intro _
theorem tapOvervoltageEnd_fixed (k : TapId) (s : State) : (tapOvervoltageEnd k s).fixed = s.fixed := by
  unfold tapOvervoltageEnd
  repeat' first | rfl | simp only [↓fixed_mk, ↓fixed_ite, fixed_fold, ite_self, implies_true, ↓State.tapEvent_fixed, ↓foldl_fixed] | rw [foldl_fixed] | split | intro _
theorem tapReverseCurrent_fixed (k : TapId) (s : State) : (tapReverseCurrent k s).fixed = s.fixed := by
  unfold tapReverseCurrent
  repeat' first | rfl | simp only [↓fixed_mk, ↓fixed_ite, fixed_fold, ite_self, implies_true, ↓foldl_fixed] | rw [foldl_fixed] | split | intro _
theorem State.shareRound_fixed (s : State) (x : SnapLatch) : (State.shareRound s x).fixed = s.fixed := by
  unfold State.shareRound
  repeat' first | rfl | simp only [↓fixed_mk, ↓fixed_ite, fixed_fold, ite_self, implies_true, ↓foldl_fixed] | rw [foldl_fixed] | split | intro _
theorem sharingRun_fixed (deviates : Bool) (s : State) : (sharingRun deviates s).fixed = s.fixed := by
  unfold sharingRun
  repeat' first | rfl | simp only [↓fixed_mk, ↓fixed_ite, fixed_fold, ite_self, implies_true, ↓State.raise_fixed, ↓State.clear_fixed, ↓foldl_fixed] | rw [foldl_fixed] | split | intro _
theorem State.domainsDone_fixed (s : State) : (State.domainsDone s).fixed = s.fixed := by
  unfold State.domainsDone
  repeat' first | rfl | simp only [↓fixed_mk, ↓fixed_ite, fixed_fold, ite_self, implies_true, ↓State.clear_fixed, ↓foldl_fixed] | rw [foldl_fixed] | split | intro _
theorem domainSwitchOn_fixed (d : ℕ) (s : State) : (domainSwitchOn d s).fixed = s.fixed := by
  unfold domainSwitchOn
  repeat' first | rfl | simp only [↓fixed_mk, ↓fixed_ite, fixed_fold, ite_self, implies_true, ↓State.domainsDone_fixed, ↓foldl_fixed] | rw [foldl_fixed] | split | intro _
theorem domainSwitchTimeout_fixed (d : ℕ) (s : State) : (domainSwitchTimeout d s).fixed = s.fixed := by
  unfold domainSwitchTimeout
  repeat' first | rfl | simp only [↓fixed_mk, ↓fixed_ite, fixed_fold, ite_self, implies_true, ↓State.domainsDone_fixed, ↓State.raiseHigh_fixed, ↓State.raise_fixed, ↓foldl_fixed] | rw [foldl_fixed] | split | intro _
theorem pgGood_fixed (l : PgLine) (s : State) : (pgGood l s).fixed = s.fixed := by
  unfold pgGood
  repeat' first | rfl | simp only [↓fixed_mk, ↓fixed_ite, fixed_fold, ite_self, implies_true, ↓State.setPins_fixed, ↓State.clear_fixed, ↓foldl_fixed] | rw [foldl_fixed] | split | intro _
theorem State.dropRails_fixed (s : State) : (State.dropRails s).fixed = s.fixed := by
  unfold State.dropRails
  repeat' first | rfl | simp only [↓fixed_mk, ↓fixed_ite, fixed_fold, ite_self, implies_true, ↓State.loseMemory_fixed, ↓foldl_fixed] | rw [foldl_fixed] | split | intro _
theorem State.failAttempt_fixed (s : State) : (State.failAttempt s).fixed = s.fixed := by
  unfold State.failAttempt
  repeat' first | rfl | simp only [↓fixed_mk, ↓fixed_ite, fixed_fold, ite_self, implies_true, ↓State.dropRails_fixed, ↓State.setPins_fixed, ↓State.raise_fixed, ↓foldl_fixed] | rw [foldl_fixed] | split | intro _
theorem pmicTimeout_fixed (s : State) : (pmicTimeout s).fixed = s.fixed := by
  unfold pmicTimeout
  repeat' first | rfl | simp only [↓fixed_mk, ↓fixed_ite, fixed_fold, ite_self, implies_true, ↓State.failAttempt_fixed, ↓foldl_fixed] | rw [foldl_fixed] | split | intro _
theorem pmicRetry_fixed (s : State) : (pmicRetry s).fixed = s.fixed := by
  unfold pmicRetry
  repeat' first | rfl | simp only [↓fixed_mk, ↓fixed_ite, fixed_fold, ite_self, implies_true, ↓foldl_fixed] | rw [foldl_fixed] | split | intro _
theorem State.abandonCkpt_fixed (s : State) : (State.abandonCkpt s).fixed = s.fixed := by
  unfold State.abandonCkpt
  repeat' first | rfl | simp only [↓fixed_mk, ↓fixed_ite, fixed_fold, ite_self, implies_true, ↓State.failCkpt_fixed, ↓foldl_fixed] | rw [foldl_fixed] | split | intro _
theorem State.emergency_fixed (s : State) (t : Ns) : (State.emergency s t).fixed = s.fixed := by
  unfold State.emergency
  repeat' first | rfl | simp only [↓fixed_mk, ↓fixed_ite, fixed_fold, ite_self, implies_true, ↓State.abandonCkpt_fixed, ↓State.startSeal_fixed, ↓foldl_fixed] | rw [foldl_fixed] | split | intro _
theorem railLoss_fixed (l : PgLine) (t : Ns) (s : State) : (railLoss l t s).fixed = s.fixed := by
  unfold railLoss
  repeat' first | rfl | simp only [↓fixed_mk, ↓fixed_ite, fixed_fold, ite_self, implies_true, ↓State.emergency_fixed, ↓State.at_fixed, ↓State.failAttempt_fixed, ↓foldl_fixed] | rw [foldl_fixed] | split | intro _
theorem pg2Loss_fixed (s : State) : (pg2Loss s).fixed = s.fixed := by
  unfold pg2Loss
  repeat' first | rfl | simp only [↓fixed_mk, ↓fixed_ite, fixed_fold, ite_self, implies_true, ↓State.abandonCkpt_fixed, ↓State.domainsDone_fixed, ↓State.raise_fixed, ↓State.unpick_fixed, ↓State.loseMemory_fixed, ↓foldl_fixed] | rw [foldl_fixed] | split | intro _
theorem pg2Return_fixed (s : State) : (pg2Return s).fixed = s.fixed := by
  unfold pg2Return
  repeat' first | rfl | simp only [↓fixed_mk, ↓fixed_ite, fixed_fold, ite_self, implies_true, ↓State.domainsDone_fixed, ↓foldl_fixed] | rw [foldl_fixed] | split | intro _
theorem State.enterGrace_fixed (s : State) (kind : ShutKind) (t : Ns) : (State.enterGrace s kind t).fixed = s.fixed := by
  unfold State.enterGrace
  repeat' first | rfl | simp only [↓fixed_mk, ↓fixed_ite, fixed_fold, ite_self, implies_true, ↓State.at_fixed, ↓State.unpick_fixed, ↓foldl_fixed] | rw [foldl_fixed] | split | intro _
theorem State.updShut_fixed (s : State) (f : Shutdown → Shutdown) : (State.updShut s f).fixed = s.fixed := by
  unfold State.updShut
  repeat' first | rfl | simp only [↓fixed_mk, ↓fixed_ite, fixed_fold, ite_self, implies_true, ↓foldl_fixed] | rw [foldl_fixed] | split | intro _
theorem State.abortGrace_fixed (s : State) (counts : Bool) (t : Ns) : (State.abortGrace s counts t).fixed = s.fixed := by
  unfold State.abortGrace
  repeat' first | rfl | simp only [↓fixed_mk, ↓fixed_ite, fixed_fold, ite_self, implies_true, ↓State.abandonCkpt_fixed, ↓State.at_fixed, ↓State.raise_fixed, ↓foldl_fixed] | rw [foldl_fixed] | split | intro _
theorem supplyLoss_fixed (t : Ns) (s : State) : (supplyLoss t s).fixed = s.fixed := by
  unfold supplyLoss
  repeat' first | rfl | simp only [↓fixed_mk, ↓fixed_ite, fixed_fold, ite_self, implies_true, ↓State.shedDomains_fixed, ↓State.enterGrace_fixed, ↓State.updShut_fixed, ↓State.abortTests_fixed, ↓State.abandonCkpt_fixed, ↓foldl_fixed] | rw [foldl_fixed] | split | intro _
theorem graceEnd_fixed (t : Ns) (s : State) : (graceEnd t s).fixed = s.fixed := by
  unfold graceEnd
  repeat' first | rfl | simp only [↓fixed_mk, ↓fixed_ite, fixed_fold, ite_self, implies_true, ↓State.shedDomains_fixed, ↓State.updShut_fixed, ↓State.at_fixed, ↓foldl_fixed] | rw [foldl_fixed] | split | intro _
theorem freeze_fixed (t : Ns) (s : State) : (freeze t s).fixed = s.fixed := by
  unfold freeze
  repeat' first | rfl | simp only [↓fixed_mk, ↓fixed_ite, fixed_fold, ite_self, implies_true, ↓State.at_fixed, ↓State.writeSealBuf_fixed, ↓State.abortGrace_fixed, ↓State.startSeal_fixed, ↓foldl_fixed] | rw [foldl_fixed] | split | intro _
theorem State.powerDown_fixed (s : State) : (State.powerDown s).fixed = s.fixed := by
  unfold State.powerDown
  repeat' first | rfl | simp only [↓fixed_mk, ↓fixed_ite, fixed_fold, ite_self, implies_true, ↓State.dropRails_fixed, ↓State.setPins_fixed, ↓foldl_fixed] | rw [foldl_fixed] | split | intro _
theorem State.enterPark_fixed (s : State) (wake : Option WakeCause) (t : Ns) : (State.enterPark s wake t).fixed = s.fixed := by
  unfold State.enterPark
  repeat' first | rfl | simp only [↓fixed_mk, ↓fixed_ite, fixed_fold, ite_self, implies_true, ↓State.parkPins_fixed, ↓State.releaseCut_fixed, ↓foldl_fixed] | rw [foldl_fixed] | split | intro _
theorem State.enterShip_fixed (s : State) (wake : Option WakeCause) : (State.enterShip s wake).fixed = s.fixed := by
  unfold State.enterShip
  repeat' first | rfl | simp only [↓fixed_mk, ↓fixed_ite, fixed_fold, ite_self, implies_true, ↓State.releaseCut_fixed, ↓foldl_fixed] | rw [foldl_fixed] | split | intro _
theorem State.afterRail_fixed (s : State) (fromCheck : Bool) (wake : Option WakeCause) (t : Ns) : (State.afterRail s fromCheck wake t).fixed = s.fixed := by
  unfold State.afterRail
  repeat' first | rfl | simp only [↓fixed_mk, ↓fixed_ite, fixed_fold, ite_self, implies_true, ↓State.setPins_fixed, ↓State.raise_fixed, ↓State.enterPark_fixed, ↓foldl_fixed] | rw [foldl_fixed] | split | intro _
theorem State.resumeHere_fixed (s : State) (t : Ns) : (State.resumeHere s t).fixed = s.fixed := by
  unfold State.resumeHere
  repeat' first | rfl | simp only [↓fixed_mk, ↓fixed_ite, fixed_fold, ite_self, implies_true, ↓State.restoreInPlace_fixed, ↓foldl_fixed] | rw [foldl_fixed] | split | intro _
theorem sealComplete_fixed (t : Ns) (s : State) : (sealComplete t s).fixed = s.fixed := by
  unfold sealComplete
  repeat' first | rfl | simp only [↓fixed_mk, ↓fixed_ite, fixed_fold, ite_self, implies_true, ↓State.endSeal_fixed, ↓State.at_fixed, ↓State.resumeHere_fixed, ↓State.powerDown_fixed, ↓State.enterPark_fixed, ↓State.enterShip_fixed, ↓State.afterRail_fixed, ↓foldl_fixed] | rw [foldl_fixed] | split | intro _
theorem bootSupplyLoss_fixed (s : State) : (bootSupplyLoss s).fixed = s.fixed := by
  unfold bootSupplyLoss
  repeat' first | rfl | simp only [↓fixed_mk, ↓fixed_ite, fixed_fold, ite_self, implies_true, ↓State.dropRails_fixed, ↓foldl_fixed] | rw [foldl_fixed] | split | intro _
theorem supplyReturn_fixed (t : Ns) (s : State) : (supplyReturn t s).fixed = s.fixed := by
  unfold supplyReturn
  repeat' first | rfl | simp only [↓fixed_mk, ↓fixed_ite, fixed_fold, ite_self, implies_true, ↓State.updShut_fixed, ↓State.at_fixed, ↓State.abortGrace_fixed, ↓foldl_fixed] | rw [foldl_fixed] | split | intro _
theorem abortDampingEnd_fixed (s : State) : (abortDampingEnd s).fixed = s.fixed := by
  unfold abortDampingEnd
  repeat' first | rfl | simp only [↓fixed_mk, ↓fixed_ite, fixed_fold, ite_self, implies_true, ↓State.domainsDone_fixed, ↓foldl_fixed] | rw [foldl_fixed] | split | intro _
theorem State.fallbackWrite_fixed (s : State) : (State.fallbackWrite s).fixed = s.fixed := by
  unfold State.fallbackWrite
  repeat' first | rfl | simp only [↓fixed_mk, ↓fixed_ite, fixed_fold, ite_self, implies_true, ↓State.judgeCopies_fixed, ↓State.inWindow_fixed, ↓State.writeFallback_fixed, ↓foldl_fixed] | rw [foldl_fixed] | split | intro _
theorem State.parkTest_fixed (s : State) : (State.parkTest s).fixed = s.fixed := by
  unfold State.parkTest
  repeat' first | rfl | simp only [↓fixed_mk, ↓fixed_ite, fixed_fold, ite_self, implies_true, ↓State.startTests_fixed, ↓foldl_fixed] | rw [foldl_fixed] | split | intro _
theorem State.parkStitch_fixed (s : State) : (State.parkStitch s).fixed = s.fixed := by
  unfold State.parkStitch
  repeat' first | rfl | simp only [↓fixed_mk, ↓fixed_ite, fixed_fold, ite_self, implies_true, ↓foldl_fixed] | rw [foldl_fixed] | split | intro _
theorem State.shipGrace_fixed (s : State) (t : Ns) : (State.shipGrace s t).fixed = s.fixed := by
  unfold State.shipGrace
  repeat' first | rfl | simp only [↓fixed_mk, ↓fixed_ite, fixed_fold, ite_self, implies_true, ↓State.enterGrace_fixed, ↓State.graceCkpt_fixed, ↓State.parkTest_fixed, ↓foldl_fixed] | rw [foldl_fixed] | split | intro _
theorem wakeCause_fixed (c : WakeCause) (t : Ns) (s : State) : (wakeCause c t s).fixed = s.fixed := by
  unfold wakeCause
  repeat' first | rfl | simp only [↓fixed_mk, ↓fixed_ite, fixed_fold, ite_self, implies_true, ↓State.updShut_fixed, ↓State.at_fixed, ↓State.abortTests_fixed, ↓State.abortGrace_fixed, ↓foldl_fixed] | rw [foldl_fixed] | split | intro _
theorem parkTimer_fixed (t : Ns) (s : State) : (parkTimer t s).fixed = s.fixed := by
  unfold parkTimer
  repeat' first | rfl | simp only [↓fixed_mk, ↓fixed_ite, fixed_fold, ite_self, implies_true, ↓State.at_fixed, ↓foldl_fixed] | rw [foldl_fixed] | split | intro _
theorem parkCheckEnd_fixed (t : Ns) (s : State) : (parkCheckEnd t s).fixed = s.fixed := by
  unfold parkCheckEnd
  repeat' first | rfl | simp only [↓fixed_mk, ↓fixed_ite, fixed_fold, ite_self, implies_true, ↓State.enterGrace_fixed, ↓foldl_fixed] | rw [foldl_fixed] | split | intro _
theorem shipNHigh_fixed (s : State) : (shipNHigh s).fixed = s.fixed := by
  unfold shipNHigh
  repeat' first | rfl | simp only [↓fixed_mk, ↓fixed_ite, fixed_fold, ite_self, implies_true, ↓foldl_fixed] | rw [foldl_fixed] | split | intro _
theorem shipCriterion_fixed (t : Ns) (s : State) : (shipCriterion t s).fixed = s.fixed := by
  unfold shipCriterion
  repeat' first | rfl | simp only [↓fixed_mk, ↓fixed_ite, fixed_fold, ite_self, implies_true, ↓State.shipGrace_fixed, ↓State.startSeal_fixed, ↓foldl_fixed] | rw [foldl_fixed] | split | intro _
theorem shipExit_fixed (t : Ns) (s : State) : (shipExit t s).fixed = s.fixed := by
  unfold shipExit
  repeat' first | rfl | simp only [↓fixed_mk, ↓fixed_ite, fixed_fold, ite_self, implies_true, ↓State.at_fixed, ↓foldl_fixed] | rw [foldl_fixed] | split | intro _
theorem State.raiseCodes_fixed (s : State) : (State.raiseCodes s).fixed = s.fixed := by
  unfold State.raiseCodes
  repeat' first | rfl | simp only [↓fixed_mk, ↓fixed_ite, fixed_fold, ite_self, implies_true, ↓State.raise_fixed, ↓foldl_fixed] | rw [foldl_fixed] | split | intro _
theorem startupSelfTest_fixed (x : SelfTestIn) (s : State) : (startupSelfTest x s).fixed = s.fixed := by
  unfold startupSelfTest
  repeat' first | rfl | simp only [↓fixed_mk, ↓fixed_ite, fixed_fold, ite_self, implies_true, ↓State.raise_fixed, ↓foldl_fixed] | rw [foldl_fixed] | split | intro _
theorem State.updBuf_fixed (s : State) (b : Bool) (second : Bool) (f : CanBuf → CanBuf) : (State.updBuf s b second f).fixed = s.fixed := by
  unfold State.updBuf
  repeat' first | rfl | simp only [↓fixed_mk, ↓fixed_ite, fixed_fold, ite_self, implies_true, ↓foldl_fixed] | rw [foldl_fixed] | split | intro _
theorem State.updChan_fixed (s : State) (b : Bool) (f : CanChan → CanChan) : (State.updChan s b f).fixed = s.fixed := by
  unfold State.updChan
  repeat' first | rfl | simp only [↓fixed_mk, ↓fixed_ite, fixed_fold, ite_self, implies_true, ↓foldl_fixed] | rw [foldl_fixed] | split | intro _
theorem State.queueFrame_fixed (s : State) (b : Bool) (second : Bool) (kind : ℕ) (role : ℕ) (word : BitVec 24) (round : Round) (payload : List Byte) : (State.queueFrame s b second kind role word round payload).fixed = s.fixed := by
  unfold State.queueFrame
  repeat' first | rfl | simp only [↓fixed_mk, ↓fixed_ite, fixed_fold, ite_self, implies_true, ↓State.updBuf_fixed, ↓State.raise_fixed, ↓foldl_fixed] | rw [foldl_fixed] | split | intro _
theorem State.beginSending_fixed (s : State) (b : Bool) (began : Bool × Bool) : (State.beginSending s b began).fixed = s.fixed := by
  unfold State.beginSending
  repeat' first | rfl | simp only [↓fixed_mk, ↓fixed_ite, fixed_fold, ite_self, implies_true, ↓State.updChan_fixed, ↓foldl_fixed] | rw [foldl_fixed] | split | intro _
theorem State.sendSummary_fixed (s : State) : (State.sendSummary s).fixed = s.fixed := by
  unfold State.sendSummary
  repeat' first | rfl | simp only [↓fixed_mk, ↓fixed_ite, fixed_fold, ite_self, implies_true, ↓State.queueFrame_fixed, ↓foldl_fixed] | rw [foldl_fixed] | split | intro _
theorem State.sendFault_fixed (s : State) : (State.sendFault s).fixed = s.fixed := by
  unfold State.sendFault
  repeat' first | rfl | simp only [↓fixed_mk, ↓fixed_ite, fixed_fold, ite_self, implies_true, ↓State.queueFrame_fixed, ↓foldl_fixed] | rw [foldl_fixed] | split | intro _
theorem State.sendCanA_fixed (s0 : State) (began : Bool × Bool) : (State.sendCanA s0 began).fixed = s0.fixed := by
  unfold State.sendCanA
  repeat' first | rfl | simp only [↓fixed_mk, ↓fixed_ite, fixed_fold, ite_self, implies_true, ↓State.beginSending_fixed, ↓State.sendSummary_fixed, ↓State.sendFault_fixed, ↓foldl_fixed] | rw [foldl_fixed] | split | intro _
theorem State.queueRound_fixed (s : State) : (State.queueRound s).fixed = s.fixed := by
  unfold State.queueRound
  repeat' first | rfl | simp only [↓fixed_mk, ↓fixed_ite, fixed_fold, ite_self, implies_true, ↓foldl_fixed] | rw [foldl_fixed] | split | intro _
theorem roundSend_fixed (t : Ns) (s : State) : (roundSend t s).fixed = s.fixed := by
  unfold roundSend
  repeat' first | rfl | simp only [↓fixed_mk, ↓fixed_ite, fixed_fold, ite_self, implies_true, ↓State.at_fixed, ↓foldl_fixed] | rw [foldl_fixed] | split | intro _
theorem roundPageDrop_fixed (s : State) : (roundPageDrop s).fixed = s.fixed := by
  unfold roundPageDrop
  repeat' first | rfl | simp only [↓fixed_mk, ↓fixed_ite, fixed_fold, ite_self, implies_true, ↓State.raiseFor_fixed, ↓foldl_fixed] | rw [foldl_fixed] | split | intro _
theorem State.sendCanB_fixed (s0 : State) (began : Bool × Bool) : (State.sendCanB s0 began).fixed = s0.fixed := by
  unfold State.sendCanB
  repeat' first | rfl | simp only [↓fixed_mk, ↓fixed_ite, fixed_fold, ite_self, implies_true, ↓State.beginSending_fixed, ↓State.queueFrame_fixed, ↓foldl_fixed] | rw [foldl_fixed] | split | intro _
theorem capLatch_fixed (began : Bool × Bool) (t : Ns) (s : State) : (capLatch began t s).fixed = s.fixed := by
  unfold capLatch
  repeat' first | rfl | simp only [↓fixed_mk, ↓fixed_ite, fixed_fold, ite_self, implies_true, ↓State.at_fixed, ↓State.sendCanB_fixed, ↓State.latchCaps_fixed, ↓foldl_fixed] | rw [foldl_fixed] | split | intro _
theorem canTxComplete_fixed (b : Bool) (second : Bool) (active : Bool) (t : Ns) (s : State) : (canTxComplete b second active t s).fixed = s.fixed := by
  unfold canTxComplete
  repeat' first | rfl | simp only [↓fixed_mk, ↓fixed_ite, fixed_fold, ite_self, implies_true, ↓State.updBuf_fixed, ↓State.at_fixed, ↓State.updChan_fixed, ↓foldl_fixed] | rw [foldl_fixed] | split | intro _
theorem canErrorPassive_fixed (b : Bool) (s : State) : (canErrorPassive b s).fixed = s.fixed := by
  unfold canErrorPassive
  repeat' first | rfl | simp only [↓fixed_mk, ↓fixed_ite, fixed_fold, ite_self, implies_true, ↓State.raise_fixed, ↓State.updChan_fixed, ↓foldl_fixed] | rw [foldl_fixed] | split | intro _
theorem canBusOff_fixed (b : Bool) (s : State) : (canBusOff b s).fixed = s.fixed := by
  unfold canBusOff
  repeat' first | rfl | simp only [↓fixed_mk, ↓fixed_ite, fixed_fold, ite_self, implies_true, ↓State.raise_fixed, ↓State.updChan_fixed, ↓foldl_fixed] | rw [foldl_fixed] | split | intro _
theorem canBusOffRecovery_fixed (b : Bool) (s : State) : (canBusOffRecovery b s).fixed = s.fixed := by
  unfold canBusOffRecovery
  repeat' first | rfl | simp only [↓fixed_mk, ↓fixed_ite, fixed_fold, ite_self, implies_true, ↓State.updChan_fixed, ↓foldl_fixed] | rw [foldl_fixed] | split | intro _
theorem sgmiiLinkChange_fixed (up : Bool) (s : State) : (sgmiiLinkChange up s).fixed = s.fixed := by
  unfold sgmiiLinkChange
  repeat' first | rfl | simp only [↓fixed_mk, ↓fixed_ite, fixed_fold, ite_self, implies_true, ↓foldl_fixed] | rw [foldl_fixed] | split | intro _
theorem phyResetRelease_fixed (s : State) : (phyResetRelease s).fixed = s.fixed := by
  unfold phyResetRelease
  repeat' first | rfl | simp only [↓fixed_mk, ↓fixed_ite, fixed_fold, ite_self, implies_true, ↓foldl_fixed] | rw [foldl_fixed] | split | intro _
theorem State.outputRound_fixed (s : State) : (State.outputRound s).fixed = s.fixed := by
  unfold State.outputRound
  repeat' first | rfl | simp only [↓fixed_mk, ↓fixed_ite, fixed_fold, ite_self, implies_true, ↓State.clear_fixed, ↓State.judge2_fixed, ↓foldl_fixed] | rw [foldl_fixed] | split | intro _
theorem State.judgeStrap_fixed (s : State) (k : Strap) : (State.judgeStrap s k).fixed = s.fixed := by
  unfold State.judgeStrap
  repeat' first | rfl | simp only [↓fixed_mk, ↓fixed_ite, fixed_fold, ite_self, implies_true, ↓State.judge2_fixed, ↓foldl_fixed] | rw [foldl_fixed] | split | intro _
theorem strapResample_fixed (x : StrapLevels) (s : State) : (strapResample x s).fixed = s.fixed := by
  unfold strapResample
  repeat' first | rfl | simp only [↓fixed_mk, ↓fixed_ite, fixed_fold, ite_self, implies_true, ↓State.judgeStrap_fixed, ↓foldl_fixed] | rw [foldl_fixed] | split | intro _
theorem codeReread_fixed (i : ℕ) (sum : ℕ) (s : State) : (codeReread i sum s).fixed = s.fixed := by
  unfold codeReread
  repeat' first | rfl | simp only [↓fixed_mk, ↓fixed_ite, fixed_fold, ite_self, implies_true, ↓State.judge2_fixed, ↓foldl_fixed] | rw [foldl_fixed] | split | intro _
theorem maintChange_fixed (s : State) : (maintChange s).fixed = s.fixed := by
  unfold maintChange
  repeat' first | rfl | simp only [↓fixed_mk, ↓fixed_ite, fixed_fold, ite_self, implies_true, ↓foldl_fixed] | rw [foldl_fixed] | split | intro _
theorem State.pairFails_fixed (s : State) (p : CorePair) (code : ℕ) (detail : ℕ) : (State.pairFails s p code detail).fixed = s.fixed := by
  unfold State.pairFails
  repeat' first | rfl | simp only [↓fixed_mk, ↓fixed_ite, fixed_fold, ite_self, implies_true, ↓State.raise_fixed, ↓foldl_fixed] | rw [foldl_fixed] | split | intro _
theorem lockstepMismatch_fixed (p : CorePair) (s : State) : (lockstepMismatch p s).fixed = s.fixed := by
  unfold lockstepMismatch
  repeat' first | rfl | simp only [↓fixed_mk, ↓fixed_ite, fixed_fold, ite_self, implies_true, ↓State.pairFails_fixed, ↓foldl_fixed] | rw [foldl_fixed] | split | intro _
theorem heartbeatMiss_fixed (p : CorePair) (s : State) : (heartbeatMiss p s).fixed = s.fixed := by
  unfold heartbeatMiss
  repeat' first | rfl | simp only [↓fixed_mk, ↓fixed_ite, fixed_fold, ite_self, implies_true, ↓State.pairFails_fixed, ↓foldl_fixed] | rw [foldl_fixed] | split | intro _
theorem State.recordLost_fixed (s : State) (id : CellId) : (State.recordLost s id).fixed = s.fixed := by
  unfold State.recordLost
  repeat' first | rfl | simp only [↓fixed_mk, ↓fixed_ite, fixed_fold, ite_self, implies_true, ↓State.raise_fixed, ↓State.basteStore_fixed, ↓State.bastePack_fixed, ↓State.updS_fixed, ↓foldl_fixed] | rw [foldl_fixed] | split | intro _
theorem tcmError_fixed (x : TcmError) (s : State) : (tcmError x s).fixed = s.fixed := by
  unfold tcmError
  repeat' first | rfl | simp only [↓fixed_mk, ↓fixed_ite, fixed_fold, ite_self, implies_true, ↓State.recordLost_fixed, ↓State.pairFails_fixed, ↓foldl_fixed] | rw [foldl_fixed] | split | intro _
theorem pinKeeperExpiry_fixed (s : State) : (pinKeeperExpiry s).fixed = s.fixed := by
  unfold pinKeeperExpiry
  repeat' first | rfl | simp only [↓fixed_mk, ↓fixed_ite, fixed_fold, ite_self, implies_true, ↓foldl_fixed] | rw [foldl_fixed] | split | intro _
theorem fastClockLoss_fixed (t : Ns) (s : State) : (fastClockLoss t s).fixed = s.fixed := by
  unfold fastClockLoss
  repeat' first | rfl | simp only [↓fixed_mk, ↓fixed_ite, fixed_fold, ite_self, implies_true, ↓cutIn_fixed, ↓State.raise_fixed, ↓foldl_fixed] | rw [foldl_fixed] | split | intro _
theorem crystalFail_fixed (s : State) : (crystalFail s).fixed = s.fixed := by
  unfold crystalFail
  repeat' first | rfl | simp only [↓fixed_mk, ↓fixed_ite, fixed_fold, ite_self, implies_true, ↓State.raise_fixed, ↓foldl_fixed] | rw [foldl_fixed] | split | intro _
theorem capLatchMissing_fixed (s : State) : (capLatchMissing s).fixed = s.fixed := by
  unfold capLatchMissing
  repeat' first | rfl | simp only [↓fixed_mk, ↓fixed_ite, fixed_fold, ite_self, implies_true, ↓State.raiseFor_fixed, ↓foldl_fixed] | rw [foldl_fixed] | split | intro _
theorem dieOvertemp_fixed (s : State) : (dieOvertemp s).fixed = s.fixed := by
  unfold dieOvertemp
  repeat' first | rfl | simp only [↓fixed_mk, ↓fixed_ite, fixed_fold, ite_self, implies_true, ↓State.raiseFor_fixed, ↓foldl_fixed] | rw [foldl_fixed] | split | intro _
theorem pacePllFail_fixed (s : State) : (pacePllFail s).fixed = s.fixed := by
  unfold pacePllFail
  repeat' first | rfl | simp only [↓fixed_mk, ↓fixed_ite, fixed_fold, ite_self, implies_true, ↓State.raise_fixed, ↓foldl_fixed] | rw [foldl_fixed] | split | intro _
theorem State.tapData_fixed (s : State) (v : ℕ) : (State.tapData s v).fixed = s.fixed := by
  unfold State.tapData
  repeat' first | rfl | simp only [↓fixed_mk, ↓fixed_ite, fixed_fold, ite_self, implies_true, ↓foldl_fixed] | rw [foldl_fixed] | split | intro _
theorem State.tapStatus_fixed (s : State) (fails : Bool) : (State.tapStatus s fails).fixed = s.fixed := by
  unfold State.tapStatus
  repeat' first | rfl | simp only [↓fixed_mk, ↓fixed_ite, fixed_fold, ite_self, implies_true, ↓foldl_fixed] | rw [foldl_fixed] | split | intro _
theorem State.tap_fixed (s : State) (i : TapInstr) (f : State → State) (h : ∀ u, (f u).fixed = u.fixed) : (s.tap i f).fixed = s.fixed := by
  unfold State.tap
  split
  · rfl
  · split
    · rw [h]; rfl
    · rfl

theorem tapBypass_fixed (s : State) : (tapBypass s).fixed = s.fixed := by
  exact State.tap_fixed _ _ _ fun u => rfl
theorem tapIdcode_fixed (s : State) : (tapIdcode s).fixed = s.fixed := by
  exact State.tap_fixed _ _ _ fun u => rfl
theorem tapSample_fixed (pins : ℕ) (scan : ℕ) (s : State) : (tapSample pins scan s).fixed = s.fixed := by
  exact State.tap_fixed _ _ _ fun u => rfl
theorem tapExtest_fixed (i : TapInstr) (scan : ℕ) (s : State) : (tapExtest i scan s).fixed = s.fixed := by
  exact State.tap_fixed _ _ _ fun u => rfl
theorem tapClamp_fixed (s : State) : (tapClamp s).fixed = s.fixed := by
  exact State.tap_fixed _ _ _ fun u => rfl
theorem tapHighz_fixed (s : State) : (tapHighz s).fixed = s.fixed := by
  exact State.tap_fixed _ _ _ fun u => rfl
theorem tapLbResult_fixed (s : State) : (tapLbResult s).fixed = s.fixed := by
  exact State.tap_fixed _ _ _ fun u => rfl
theorem tapBistResult_fixed (s : State) : (tapBistResult s).fixed = s.fixed := by
  exact State.tap_fixed _ _ _ fun u => rfl
theorem fuseRead_fixed (item : FuseItem) (s : State) : (fuseRead item s).fixed = s.fixed := by
  exact State.tap_fixed _ _ _ fun u => rfl
theorem returnHoldEnd_fixed (s : State) : (returnHoldEnd s).fixed = s.fixed := by
  unfold returnHoldEnd
  repeat' first | rfl | simp only [↓fixed_mk, ↓fixed_ite, fixed_fold, ite_self, implies_true, ↓foldl_fixed] | rw [foldl_fixed] | split | intro _
theorem loopbackPhase_fixed (runs : List LbRun) (s : State) : (loopbackPhase runs s).fixed = s.fixed := by
  unfold loopbackPhase
  repeat' first | rfl | simp only [↓fixed_mk, ↓fixed_ite, fixed_fold, ite_self, implies_true, ↓State.setPins_fixed, ↓foldl_fixed] | rw [foldl_fixed] | split | intro _
theorem productionBist_fixed (result : BitVec 128) (allRun : Bool) (passed : Bool) (s : State) : (productionBist result allRun passed s).fixed = s.fixed := by
  unfold productionBist
  repeat' first | rfl | simp only [↓fixed_mk, ↓fixed_ite, fixed_fold, ite_self, implies_true, ↓State.setPins_fixed, ↓foldl_fixed] | rw [foldl_fixed] | split | intro _
theorem paceEdge_fixed (x : PaceChange) (s : State) : (paceEdge x s).fixed = s.fixed := by
  unfold paceEdge
  repeat' first | rfl | simp only [↓fixed_mk, ↓fixed_ite, fixed_fold, ite_self, implies_true, ↓State.at_fixed, ↓foldl_fixed] | rw [foldl_fixed] | split | intro _
theorem paceLoss_fixed (t : Ns) (s : State) : (paceLoss t s).fixed = s.fixed := by
  unfold paceLoss
  repeat' first | rfl | simp only [↓fixed_mk, ↓fixed_ite, fixed_fold, ite_self, implies_true, ↓State.at_fixed, ↓foldl_fixed] | rw [foldl_fixed] | split | intro _
theorem holdoverEnd_fixed (s : State) : (holdoverEnd s).fixed = s.fixed := by
  unfold holdoverEnd
  repeat' first | rfl | simp only [↓fixed_mk, ↓fixed_ite, fixed_fold, ite_self, implies_true, ↓foldl_fixed] | rw [foldl_fixed] | split | intro _
theorem State.paceFaults_fixed (s : State) (before : Round) : (State.paceFaults s before).fixed = s.fixed := by
  unfold State.paceFaults
  repeat' first | rfl | simp only [↓fixed_mk, ↓fixed_ite, fixed_fold, ite_self, implies_true, ↓State.judge2_fixed, ↓foldl_fixed] | rw [foldl_fixed] | split | intro _
theorem State.eachStitch_fixed (s : State) (x : StitchLevels) (t : Ns) : (State.eachStitch s x t).fixed = s.fixed := by
  unfold State.eachStitch
  repeat' first | rfl | simp only [↓fixed_mk, ↓fixed_ite, fixed_fold, ite_self, implies_true, ↓State.parkStitch_fixed, ↓State.storeStitch_fixed, ↓foldl_fixed] | rw [foldl_fixed] | split | intro _
theorem State.raiseStanding_fixed (s : State) (cold : Bool) : (State.raiseStanding s cold).fixed = s.fixed := by
  unfold State.raiseStanding
  repeat' first | rfl | simp only [↓fixed_mk, ↓fixed_ite, fixed_fold, ite_self, implies_true, ↓State.raise_fixed, ↓State.raiseHigh_fixed, ↓State.judgeTaps_fixed, ↓State.raiseCodes_fixed, ↓State.raiseInst_fixed, ↓State.judgeCopies_fixed, ↓foldl_fixed] | rw [foldl_fixed] | split | intro _
theorem State.logBoot_fixed (s : State) : (State.logBoot s).fixed = s.fixed := by
  unfold State.logBoot
  repeat' first | rfl | simp only [↓fixed_mk, ↓fixed_ite, fixed_fold, ite_self, implies_true, ↓foldl_fixed] | rw [foldl_fixed] | split | intro _
theorem State.beginRounds_fixed (s : State) (cold : Bool) (t : Ns) : (State.beginRounds s cold t).fixed = s.fixed := by
  unfold State.beginRounds
  repeat' first | rfl | simp only [↓fixed_mk, ↓fixed_ite, fixed_fold, ite_self, implies_true, ↓State.at_fixed, ↓foldl_fixed] | rw [foldl_fixed] | split | intro _
theorem State.storeSwapped_fixed (s : State) : (State.storeSwapped s).fixed = s.fixed := by
  unfold State.storeSwapped
  repeat' first | rfl | simp only [↓fixed_mk, ↓fixed_ite, fixed_fold, ite_self, implies_true, ↓State.storeChange_fixed, ↓foldl_fixed] | rw [foldl_fixed] | split | intro _
theorem roundZero_fixed (t : Ns) (x : ZeroIn) (s : State) : (roundZero t x s).fixed = s.fixed := by
  unfold roundZero
  repeat' first | rfl | simp only [↓fixed_mk, ↓fixed_ite, fixed_fold, ite_self, implies_true, ↓State.acqLatch_fixed, ↓State.restoreBoot_fixed, ↓State.beginRounds_fixed, ↓State.storeSwapped_fixed, ↓State.raiseStanding_fixed, ↓State.eachStitch_fixed, ↓State.logBoot_fixed, ↓State.parkPins_fixed, ↓State.setPins_fixed, ↓foldl_fixed] | rw [foldl_fixed] | split | intro _
theorem State.runtimeTest_fixed (s : State) (passed : Bool) : (State.runtimeTest s passed).fixed = s.fixed := by
  unfold State.runtimeTest
  repeat' first | rfl | simp only [↓fixed_mk, ↓fixed_ite, fixed_fold, ite_self, implies_true, ↓State.raise_fixed, ↓foldl_fixed] | rw [foldl_fixed] | split | intro _
theorem State.nextRound_fixed (s : State) (x : PllTick) : (State.nextRound s x).fixed = s.fixed := by
  unfold State.nextRound
  repeat' first | rfl | simp only [↓fixed_mk, ↓fixed_ite, fixed_fold, ite_self, implies_true, ↓State.at_fixed, ↓foldl_fixed] | rw [foldl_fixed] | split | intro _
theorem State.runTime_fixed (s : State) : (State.runTime s).fixed = s.fixed := by
  unfold State.runTime
  repeat' first | rfl | simp only [↓fixed_mk, ↓fixed_ite, fixed_fold, ite_self, implies_true, ↓foldl_fixed] | rw [foldl_fixed] | split | intro _
theorem State.dieFaults_fixed (s : State) : (State.dieFaults s).fixed = s.fixed := by
  unfold State.dieFaults
  repeat' first | rfl | simp only [↓fixed_mk, ↓fixed_ite, fixed_fold, ite_self, implies_true, ↓State.judge2_fixed, ↓State.raiseFor_fixed, ↓foldl_fixed] | rw [foldl_fixed] | split | intro _
theorem State.tableRound_fixed (s : State) : (State.tableRound s).fixed = s.fixed := by
  unfold State.tableRound
  repeat' first | rfl | simp only [↓fixed_mk, ↓fixed_ite, fixed_fold, ite_self, implies_true, ↓State.clearAll_fixed, ↓foldl_fixed] | rw [foldl_fixed] | split | intro _
theorem State.abortOver_fixed (s : State) : (State.abortOver s).fixed = s.fixed := by
  unfold State.abortOver
  repeat' first | rfl | simp only [↓fixed_mk, ↓fixed_ite, fixed_fold, ite_self, implies_true, ↓State.clear_fixed, ↓foldl_fixed] | rw [foldl_fixed] | split | intro _
theorem State.checkRound_fixed (s : State) : (State.checkRound s).fixed = s.fixed := by
  unfold State.checkRound
  repeat' first | rfl | simp only [↓fixed_mk, ↓fixed_ite, fixed_fold, ite_self, implies_true, ↓foldl_fixed] | rw [foldl_fixed] | split | intro _
theorem State.maintRound_fixed (s : State) : (State.maintRound s).fixed = s.fixed := by
  unfold State.maintRound Straps.roundStart
  dsimp only
  split <;> rfl
theorem State.workRound_fixed (s : State) (x : RoundIn) : (State.workRound s x).fixed = s.fixed := by
  unfold State.workRound
  extract_lets b s1 s2 s3 s4 s5 late s6 s7 s8
  have h1 : s1.fixed = s.fixed := by
    simp only [s1, State.acqLatch_fixed, State.runTime_fixed, State.maintRound_fixed, State.joinRound_fixed, State.nextRound_fixed, State.acqClose_fixed, State.keepLate_fixed, State.latchWatch_fixed]
  have h2 : s2.fixed = s1.fixed := by simp only [s2, State.testRound_fixed, State.threadRound_fixed]
  have h3 : s3.fixed = s2.fixed := by simp only [s3, State.shedRound_fixed, State.trainRound_fixed, State.learnedRound_fixed]
  have h4 : s4.fixed = s3.fixed := by simp only [s4, State.releaseTrip_fixed, State.shareRound_fixed, State.storeRound_fixed]
  have h5 : s5.fixed = s4.fixed := by simp only [s5, State.outputRound_fixed, State.ownerRound_fixed]
  have h6 : s6.fixed = s5.fixed := by simp only [s6]; split <;> [exact State.raiseFor_fixed _ _ _ _; rfl]
  have h7 : s7.fixed = s6.fixed := by simp only [s7, State.runtimeTest_fixed, State.dieFaults_fixed, State.paceFaults_fixed]
  have h8 : s8.fixed = s7.fixed := by simp only [s8, State.eachStitch_fixed, State.checkRound_fixed, State.abortOver_fixed, State.tableRound_fixed]
  rw [State.pinsRound_fixed, State.holdsRound_fixed, h8, h7, h6, h5, h4, h3, h2, h1]
theorem roundStart_fixed (x : RoundIn) (s : State) : (roundStart x s).fixed = s.fixed := by
  unfold roundStart
  split
  · rfl
  · split
    · rw [State.workRound_fixed]; rfl
    · rw [State.workRound_fixed]; rfl
    · dsimp only; rw [State.paceFaults_fixed]; rfl
    · rfl
theorem stitchStart_fixed (x : StitchIn) (s : State) : (stitchStart x s).fixed = s.fixed := by
  unfold stitchStart
  repeat' first | rfl | simp only [↓fixed_mk, ↓fixed_ite, fixed_fold, ite_self, implies_true, ↓State.at_fixed, ↓State.eachStitch_fixed, ↓State.settleReads_fixed, ↓State.trainLate_fixed, ↓State.ownerStitch_fixed, ↓foldl_fixed] | rw [foldl_fixed] | split | intro _
theorem State.refillTable_fixed (n : Nat) (s : State) : (State.refillTable n s).fixed = s.fixed := by
  induction n generalizing s with
  | zero => rfl
  | succ n ih =>
    unfold State.refillTable
    split
    · rfl
    · split
      · rw [ih, State.reportRaise_fixed]; rfl
      · rfl

theorem publication_fixed (summaryBegan : Bool) (faultBegan : Bool) (s : State) : (publication summaryBegan faultBegan s).fixed = s.fixed := by
  unfold publication
  split
  · rfl
  · extract_lets s1 s2 s3 s4
    have h1 : s1.fixed = s.fixed := State.refillTable_fixed _ _
    have h2 : s2.fixed = s1.fixed := by simp only [s2]; split <;> [exact State.formPublished_fixed _; rfl]
    have h3 : s3.fixed = s2.fixed := State.sendCanA_fixed _ _
    have h4 : s4.fixed = s3.fixed := by simp only [s4]; split <;> [rw [State.writeSealBuf_fixed, State.queueRound_fixed]; rfl]
    rw [State.writeJournal_fixed, h4, h3, h2, h1]
theorem readFrame_fixed (x : ReadRx) (s : State) : (readFrame x s).fixed = s.fixed := by
  unfold readFrame
  repeat' first | rfl | simp only [↓fixed_mk, ↓fixed_ite, fixed_fold, ite_self, implies_true, ↓readReceived_fixed, ↓State.turnCheck_fixed, ↓State.relayRead_fixed, ↓foldl_fixed] | rw [foldl_fixed] | split | intro _
theorem tokenRound_fixed (s : State) : (tokenRound s).fixed = s.fixed := by
  unfold tokenRound
  repeat' first | rfl | simp only [↓fixed_mk, ↓fixed_ite, fixed_fold, ite_self, implies_true, ↓State.turnCheck_fixed, ↓tokenSend_fixed, ↓foldl_fixed] | rw [foldl_fixed] | split | intro _
theorem lostNode_fixed (id : NodeId) (s : State) : (lostNode id s).fixed = s.fixed := by
  unfold lostNode
  repeat' first | rfl | simp only [↓fixed_mk, ↓fixed_ite, fixed_fold, ite_self, implies_true, ↓nodeLost_fixed, ↓State.leaveActive_fixed, ↓foldl_fixed] | rw [foldl_fixed] | split | intro _
theorem identResponse_fixed (x : ThreadRx) (s : State) : (identResponse x s).fixed = s.fixed := by
  unfold identResponse
  repeat' first | rfl | simp only [↓fixed_mk, ↓fixed_ite, fixed_fold, ite_self, implies_true, ↓State.badFrame_fixed, ↓State.tokenOrder_fixed, ↓State.takeIdent_fixed, ↓State.turnCheck_fixed, ↓State.freshStart_fixed, ↓State.bastePack_fixed, ↓foldl_fixed] | rw [foldl_fixed] | split | intro _
theorem maintenanceRetest_fixed (s : State) : (maintenanceRetest s).fixed = s.fixed := by
  unfold maintenanceRetest
  repeat' first | rfl | simp only [↓fixed_mk, ↓fixed_ite, fixed_fold, ite_self, implies_true, ↓State.startTests_fixed, ↓foldl_fixed] | rw [foldl_fixed] | split | intro _
theorem installTest_fixed (s : State) : (installTest s).fixed = s.fixed := by
  unfold installTest
  repeat' first | rfl | simp only [↓fixed_mk, ↓fixed_ite, fixed_fold, ite_self, implies_true, ↓installationTest_fixed, ↓foldl_fixed] | rw [foldl_fixed] | split | intro _
theorem State.judgeVariant_fixed (s : State) (l : List (ℕ × VariantRec)) : (State.judgeVariant s l).fixed = s.fixed := by
  unfold State.judgeVariant
  repeat' first | rfl | simp only [↓fixed_mk, ↓fixed_ite, fixed_fold, ite_self, implies_true, ↓State.raise_fixed, ↓foldl_fixed] | rw [foldl_fixed] | split | intro _
end Sys2Proof.Machine
end

