-- ==== Sys2Proof/Laws/Fuses.lean ====
section
/-!
SUPPORT. The operations that change the fixed part of the state: what each leaves of the queue, and how the fuses move on.
-/
namespace Sys2Proof.Machine

/-! ### The fuses move on -/

theorem Kept.refl {α : Type} (x : Option α) : Kept x x := fun _ h => h

theorem Kept.trans {α : Type} {x y z : Option α} (h : Kept x y) (k : Kept y z) : Kept x z := fun v e => k v (h v e)

theorem Fuses.Forward.refl (f : Fuses) : f.Forward f :=
  ⟨le_refl _, Kept.refl _, Kept.refl _, fun _ => Kept.refl _, fun _ => Kept.refl _, fun _ _ h => h, Nat.min_le_right _ _⟩

/-- Two steps forward make one: a part that has left RETURN behind does not exist. -/
theorem Fuses.Forward.trans {f g h : Fuses} (a : f.Forward g) (b : g.Forward h) : f.Forward h := by
  have stay : h.lifecycle ≠ .return_ → g.lifecycle ≠ .return_ := by
    intro n e; have := b.lifecycle; rw [e] at this
    cases hl : h.lifecycle <;> simp_all [lifecycleRank]
  refine ⟨le_trans a.lifecycle b.lifecycle, a.dieId.trans b.dieId, a.returnHash.trans b.returnHash,
    fun n => (a.deviceKey (stay n)).trans (b.deviceKey n), fun n => (a.domainKey (stay n)).trans (b.domainKey n),
    fun k hk e => b.revoked k hk (a.revoked k hk e), ?_⟩
  have h1 := a.counter; have h2 := b.counter; omega

/-- What an operation may do to the fixed part: the queue stays, the fuses move on, and a keyless part stays keyless. -/
structure Onward (s t : State) : Prop where
  pending : t.pending = s.pending
  fuses : s.nv.fuses.Forward t.nv.fuses
  keyless : s.nv.fuses.keyless → t.nv.fuses.keyless

theorem Onward.of_fuses {s t : State} (hp : t.pending = s.pending) (hf : t.nv.fuses = s.nv.fuses) : Onward s t :=
  ⟨hp, hf ▸ Fuses.Forward.refl _, fun h => hf ▸ h⟩

theorem Onward.of_fixed {s t : State} (h : t.fixed = s.fixed) : Onward s t :=
  Onward.of_fuses (congrArg Fixed.pending h) (congrArg Fixed.fuses h)

theorem Onward.trans {s t u : State} (a : Onward s t) (b : Onward t u) : Onward s u :=
  ⟨b.pending.trans a.pending, a.fuses.trans b.fuses, fun h => b.keyless (a.keyless h)⟩

/-- The latched straps and codes are the same in both states. -/
def SameLatches (s t : State) : Prop := t.strap.latched = s.strap.latched ∧ t.code.levels = s.code.levels

/-- The latched straps and codes and the image fields are the same in both states. -/
def SameConfig (s t : State) : Prop := SameLatches s t ∧ t.img.f = s.img.f

theorem SameConfig.of_fixed {s t : State} (h : t.fixed = s.fixed) : SameConfig s t :=
  ⟨⟨congrArg Fixed.straps h, congrArg Fixed.codes h⟩, congrArg Fixed.fields h⟩

theorem SameConfig.trans {s t u : State} (a : SameConfig s t) (b : SameConfig t u) : SameConfig s u :=
  ⟨⟨b.1.1.trans a.1.1, b.1.2.trans a.1.2⟩, b.2.trans a.2⟩

/-! ### The journal's checks keep the fuses -/

@[simp] theorem NonVol.dieCheck_fuses (n : NonVol) : n.dieCheck.fuses = n.fuses := by
  unfold NonVol.dieCheck; dsimp only; split <;> split <;> rfl

@[simp] theorem NonVol.load_fuses (n : NonVol) : n.load.fuses = n.fuses := rfl

/-! ### Boots -/

theorem aonLost_onward (s : State) : Onward s (aonLost s) :=
  Onward.trans (Onward.of_fixed (State.cutWrites_fixed s)) (Onward.of_fuses rfl rfl)

theorem coldBoot_onward (c : Bool) (s : State) : Onward s (coldBoot c s) := by
  unfold coldBoot
  split
  · exact Onward.of_fixed rfl
  · dsimp only
    refine Onward.trans (Onward.trans ?_ (Onward.of_fixed (State.raise_fixed _ _ _))) (Onward.of_fixed (State.judgeCopies_fixed _))
    exact Onward.of_fuses rfl (by simp [State.dead])

theorem strapLatch_onward (x : StrapSamples) (s : State) : Onward s (strapLatch x s) := by
  unfold strapLatch
  split
  · exact Onward.of_fixed rfl
  · dsimp only
    refine Onward.trans ?_ (Onward.of_fixed (foldl_fixed _ (fun u k => ?_) _ _))
    · exact Onward.of_fuses rfl rfl
    rw [fixed_ite, State.raiseHigh_fixed, State.raise_fixed, ite_self]

theorem resistorCodeRead_onward (x : CodeReads) (s : State) : Onward s (resistorCodeRead x s) := by
  unfold resistorCodeRead
  split
  · exact Onward.of_fixed rfl
  · dsimp only
    refine Onward.trans ?_ (Onward.of_fixed (State.raiseCodes_fixed _))
    exact Onward.of_fuses rfl rfl

theorem warmResume_onward (c : Bool) (t : Ns) (s : State) : Onward s (warmResume c t s) := by
  unfold warmResume
  split
  · exact Onward.of_fixed rfl
  · exact Onward.of_fuses rfl (by simp [State.warmParts, State.at])

/-! ### Image selection -/

theorem foldl_raise_fixed (c : Nat) (f : Nat → Nat) (l : List Nat) (s : State) :
    (l.foldl (fun t i => t.raise c (f i)) s).fixed = s.fixed := foldl_fixed _ (fun _ _ => State.raise_fixed _ _ _) _ _

theorem State.useFields_onward (s : State) (v : Option (Variant × List Nat)) (r : List SlotRecord) (m : Env → ModelFields) :
    Onward s (s.useFields v r m) := by
  unfold State.useFields
  dsimp only
  have hif : ∀ (b : Bool) (c : Nat) (u : State), Onward s u → Onward s (if b = true then u.raise c 0 else u) := by
    intro b c u hu
    split
    · exact hu.trans (Onward.of_fixed (State.raise_fixed _ _ _))
    · exact hu
  refine hif _ 0x912 _ (hif _ 0x911 _ ?_)
  refine Onward.trans ?_ (Onward.of_fixed (foldl_raise_fixed 0x913 (fun d => d) _ _))
  refine Onward.trans ?_ (Onward.of_fixed (foldl_raise_fixed 0x910 (fun i => Nat.lor 0x8000 i) _ _))
  exact Onward.of_fuses rfl rfl

theorem State.runImage_onward (s : State) (k : Nat) (x : SlotImage) : Onward s (s.runImage k x) := by
  unfold State.runImage
  dsimp only
  have h : ∀ (r : Nat) (u : State), Onward s u → Onward s (if u.nv.rollbackFor == x.digest then u else
      { u with nv := { u.nv with rollback := 0, rollbackFor := x.digest, rotation := if u.nv.rollbackFor.isEmpty then u.nv.rotation else r } }) := by
    intro r u hu
    split
    · exact hu
    · exact hu.trans (Onward.of_fuses rfl rfl)
  have hb : ∀ u : State, Onward s u → Onward s (if u.budgetOk then u else
      ({ u with lrn := { u.lrn with disabled := true } } : State).raise 0x934 0) := by
    intro u hu
    split
    · exact hu
    · refine hu.trans (Onward.trans ?_ (Onward.of_fixed (State.raise_fixed _ _ _)))
      exact Onward.of_fuses rfl rfl
  refine hb _ (h 16 _ (Onward.trans (Onward.trans ?_ (Onward.of_fixed (State.judgeVariant_fixed _ _))) (State.useFields_onward _ _ _ _)))
  exact Onward.of_fuses rfl rfl

theorem State.runRom_onward (s : State) : Onward s s.runRom := by
  unfold State.runRom
  dsimp only
  have h1 : ∀ u : State, Onward s u → Onward s (u.raise 0x904 0) := fun u hu => hu.trans (Onward.of_fixed (State.raise_fixed _ _ _))
  split
  · refine Onward.trans (Onward.trans (h1 _ ?_) (Onward.of_fixed (State.judgeVariant_fixed _ _))) (State.useFields_onward _ _ _ _)
    exact Onward.of_fuses rfl rfl
  · have hn : ∀ u : State, Onward s u → Onward s { u with img := { u.img with storeServed := false, burstsOn := false } } :=
      fun u hu => hu.trans (Onward.of_fuses rfl rfl)
    refine hn _ (Onward.trans (Onward.trans (h1 _ ?_) (State.useFields_onward _ _ _ _)) (Onward.of_fixed (State.raise_fixed _ _ _)))
    exact Onward.of_fuses rfl rfl

theorem imageSelect_onward (a b : Option SlotImage) (s : State) : Onward s (imageSelect a b s) := by
  unfold imageSelect
  split
  · exact Onward.of_fixed rfl
  · extract_lets sl si sp s0 reject slot
    have h0 : Onward s s0 := Onward.of_fuses rfl rfl
    have hr : ∀ (t : State) (k r : Nat), Onward t (reject t k r) := by
      intro t k r
      simp only [reject]
      split
      · refine Onward.trans ?_ (Onward.of_fixed (State.raise_fixed _ _ _)); exact Onward.of_fuses rfl rfl
      · refine Onward.trans ?_ (Onward.of_fixed (State.raise_fixed _ _ _)); exact Onward.of_fuses rfl rfl
    clear_value s0 reject
    split
    dsimp only
    split
    · exact h0.trans (State.runImage_onward _ _ _)
    · split
      · exact (h0.trans (hr _ _ _)).trans ((State.runImage_onward _ _ _).trans (Onward.of_fixed (State.raise_fixed _ _ _)))
      · exact (h0.trans (hr _ _ _)).trans ((hr _ _ _).trans (State.runRom_onward _))

/-! ### The TAP -/

/-- An instruction of the TAP in a state that has the instruction, or none. -/
theorem State.tap_onward (s : State) (i : TapInstr) (f : State → State)
    (h : ∀ u, u.nv = s.nv → u.pending = s.pending → s.tapHas i = true → Onward s (f u)) : Onward s (s.tap i f) := by
  unfold State.tap
  split
  · exact Onward.of_fixed rfl
  · split
    · rename_i hi; exact h _ rfl rfl hi
    · exact Onward.of_fixed rfl

theorem Fuses.program_forward {f g : Fuses} {key : Nat} {i : KeyItem} (h : f.program key i = some g) :
    f.Forward g ∧ (f.lifecycle ≠ .return_ → f.keyless → g.keyless) := by
  cases i <;> simp only [Fuses.program] at h <;> split at h <;> cases h <;> rename_i hc <;>
    simp only [Bool.and_eq_true, beq_iff_eq, Option.isNone_iff_eq_none, decide_eq_true_eq] at hc <;>
    refine ⟨⟨le_refl _, ?_, ?_, ?_, ?_, fun _ _ e => e, Nat.min_le_right _ _⟩, ?_⟩ <;>
    first
      | exact Kept.refl _
      | (intro _; exact Kept.refl _)
      | (intro n _ e; simp_all; done)
      | (intro v e; simp_all)

theorem keyProg_onward (i : KeyItem) (s : State) : Onward s (keyProg i s) := by
  refine State.tap_onward s _ _ fun u hn hp hh => ?_
  have hl : s.nv.fuses.lifecycle ≠ .return_ := by
    intro e; simp [State.tapHas, e] at hh
  split
  · rename_i f hf
    rw [hn] at hf
    have hf' := Fuses.program_forward hf
    exact ⟨hp, hf'.1, hf'.2 hl⟩
  · exact Onward.of_fuses hp (by show u.nv.fuses = _; rw [hn])

theorem Fuses.advance_forward {f : Fuses} {l : Lifecycle} (h : f.advance = some l) :
    f.Forward { f with lifecycle := l } ∧ l ≠ .return_ := by
  have hl : lifecycleRank f.lifecycle ≤ lifecycleRank l ∧ l ≠ .return_ := by
    unfold Fuses.advance at h
    split at h
    · split at h <;> cases h; rename_i e _; rw [e]; decide
    · split at h <;> cases h; rename_i e _; rw [e]; decide
    · cases h
  exact ⟨⟨hl.1, Kept.refl _, Kept.refl _, fun _ => Kept.refl _, fun _ => Kept.refl _, fun _ _ e => e, Nat.min_le_right _ _⟩, hl.2⟩

theorem lcAdvance_onward (b : Bool) (s : State) : Onward s (lcAdvance b s) := by
  refine State.tap_onward s _ _ fun u hn hp _ => ?_
  split
  · rename_i l hl
    rw [hn] at hl
    have h := Fuses.advance_forward hl
    split
    · refine ⟨hp, ?_, fun _ e => absurd e h.2⟩
      show s.nv.fuses.Forward { u.nv.fuses with lifecycle := l }
      rw [hn]; exact h.1
    · exact Onward.of_fuses hp (by show u.nv.fuses = _; rw [hn])
  · exact Onward.of_fuses hp (by show u.nv.fuses = _; rw [hn])

theorem Fuses.destroyed_forward (f : Fuses) : f.Forward f.destroyed := by
  refine ⟨?_, Kept.refl _, Kept.refl _, fun n => absurd rfl n, fun n => absurd rfl n, ?_, Nat.min_le_right _ _⟩
  · cases h : f.lifecycle <;> simp [Fuses.destroyed, lifecycleRank]
  · intro k hk _
    have : k = 0 ∨ k = 1 ∨ k = 2 ∨ k = 3 := by omega
    rcases this with rfl | rfl | rfl | rfl <;> rfl

theorem tapAuth_onward (x : AuthIn) (s : State) : Onward s (tapAuth x s) := by
  refine State.tap_onward s _ _ fun u hn hp _ => ?_
  split
  · refine Onward.trans (t := { u with
          nv := ({ u.nv with fuses := u.nv.fuses.destroyed }.dieCheck).load
          tst := { u.tst with hold := false, authOk := true } }) ⟨hp, ?_, fun _ _ => ?_⟩ (Onward.of_fixed (State.judgeCopies_fixed _))
    · show s.nv.fuses.Forward (({ u.nv with fuses := u.nv.fuses.destroyed }.dieCheck).load).fuses
      simp only [NonVol.load_fuses, NonVol.dieCheck_fuses, hn]; exact Fuses.destroyed_forward _
    · show (({ u.nv with fuses := u.nv.fuses.destroyed }.dieCheck).load).fuses.deviceKey = none ∧ _
      simp [Fuses.destroyed]
  · exact Onward.of_fuses hp (by rw [hn])

/-! ### The park shut-down -/

theorem State.selfAdvance_onward (s : State) : Onward s s.selfAdvance := by
  unfold State.selfAdvance
  dsimp only
  split
  · rename_i h
    simp only [Bool.and_eq_true, beq_iff_eq] at h
    refine ⟨rfl, ⟨?_, Kept.refl _, Kept.refl _, fun _ => Kept.refl _, fun _ => Kept.refl _, fun _ _ e => e, Nat.min_le_right _ _⟩, ?_⟩
    · show lifecycleRank s.nv.fuses.lifecycle ≤ 2
      rw [h.1.1]; decide
    · intro _ e; cases e
  · exact Onward.of_fixed rfl

theorem State.rollbackCommit_onward (ok : Bool) (s : State) : Onward s (s.rollbackCommit ok) := by
  unfold State.rollbackCommit
  extract_lets due
  split
  · exact Onward.of_fixed rfl
  · split
    · exact Onward.of_fixed (State.raise_fixed _ _ _)
    · rename_i hd _
      simp only [due, Bool.not_eq_true, Bool.not_eq_false', Bool.and_eq_true, beq_iff_eq, decide_eq_true_eq] at hd
      refine Onward.trans (t := { s with nv := { s.nv with fuses := { s.nv.fuses with counter := min 64 s.img.rollback, revoked := s.revokedAfter } } })
        ⟨rfl, ⟨le_refl _, Kept.refl _, Kept.refl _, fun _ => Kept.refl _, fun _ => Kept.refl _, ?_, ?_⟩, ?_⟩ (Onward.of_fixed ?_)
      · intro k hk e
        show s.revokedAfter.getD k false = true
        simp only [State.revokedAfter]
        have : k = 0 ∨ k = 1 ∨ k = 2 ∨ k = 3 := by omega
        rcases this with rfl | rfl | rfl | rfl <;> simp [List.range, List.range.loop] <;> simp_all
      · show min 64 s.nv.fuses.counter ≤ min 64 s.img.rollback
        have := hd.1.2; omega
      · exact fun h e => h e
      · rw [State.log_fixed]; exact State.clear_fixed _ _ _

theorem State.parkGrace_onward (ok owner : Bool) (t : Ns) (s : State) : Onward s (s.parkGrace ok owner t) := by
  unfold State.parkGrace
  extract_lets s1 sup s2 rolled s3
  have h2 : Onward s s2 := Onward.of_fixed (State.enterGrace_fixed s .park t)
  have h3 : Onward s2 rolled := by
    simp only [rolled]; split
    · exact State.rollbackCommit_onward _ _
    · exact State.selfAdvance_onward _
  refine (h2.trans h3).trans (Onward.of_fixed ?_)
  simp only [s3, State.graceCkpt_fixed, State.parkTest_fixed, pairRecordWrite_fixed, State.fallbackWrite_fixed]

theorem parkCriterion_onward (ok : Bool) (t : Ns) (s : State) : Onward s (parkCriterion ok t s) := by
  unfold parkCriterion
  split
  · exact State.parkGrace_onward _ _ _ _
  · exact Onward.of_fixed rfl

theorem State.followPark_onward (o : Nat) (i : Intent) (s : State) : Onward s (s.followPark o i) := by
  unfold State.followPark
  split
  · exact Onward.of_fixed rfl
  · split
    · exact Onward.of_fixed rfl
    · refine Onward.trans ?_ (State.parkGrace_onward _ _ _ _)
      exact Onward.of_fuses rfl rfl
    · exact Onward.of_fixed (State.shipGrace_fixed _ _)

theorem beatTaken_onward (x : PeerRx) (s : State) : Onward s (beatTaken x s) := by
  unfold beatTaken
  have h := State.peerAccept_fixed s 1 x
  split
  · rename_i s1 f he; rw [he] at h
    refine Onward.trans (Onward.of_fixed ?_) (State.followPark_onward _ _ _)
    rw [State.takeBeat_fixed]; exact h
  · rename_i s1 he; rw [he] at h; exact Onward.of_fixed h

end Sys2Proof.Machine
end

