-- ==== Sys2Proof/Laws/State.lean ====
section
/-!
SUPPORT. What the operations on the fault table, the fault pins and the time base leave alone, field by field.
-/
namespace Sys2Proof.Machine

@[simp] theorem at_now (s : State) (t : Ns) : (s.at t).now = max s.now t := rfl
@[simp] theorem at_pending (s : State) (t : Ns) : (s.at t).pending = s.pending := rfl
@[simp] theorem at_bufs (s : State) (t : Ns) : (s.at t).bufs = s.bufs := rfl
@[simp] theorem at_sup (s : State) (t : Ns) : (s.at t).sup = s.sup := rfl
@[simp] theorem at_strap (s : State) (t : Ns) : (s.at t).strap = s.strap := rfl
@[simp] theorem at_code (s : State) (t : Ns) : (s.at t).code = s.code := rfl
@[simp] theorem at_img (s : State) (t : Ns) : (s.at t).img = s.img := rfl
@[simp] theorem at_pace (s : State) (t : Ns) : (s.at t).pace = s.pace := rfl
@[simp] theorem at_thr (s : State) (t : Ns) : (s.at t).thr = s.thr := rfl
@[simp] theorem at_pat (s : State) (t : Ns) : (s.at t).pat = s.pat := rfl
@[simp] theorem at_acq (s : State) (t : Ns) : (s.at t).acq = s.acq := rfl
@[simp] theorem at_cls (s : State) (t : Ns) : (s.at t).cls = s.cls := rfl
@[simp] theorem at_lrn (s : State) (t : Ns) : (s.at t).lrn = s.lrn := rfl
@[simp] theorem at_trn (s : State) (t : Ns) : (s.at t).trn = s.trn := rfl
@[simp] theorem at_seam (s : State) (t : Ns) : (s.at t).seam = s.seam := rfl
@[simp] theorem at_res (s : State) (t : Ns) : (s.at t).res = s.res := rfl
@[simp] theorem at_own (s : State) (t : Ns) : (s.at t).own = s.own := rfl
@[simp] theorem at_out (s : State) (t : Ns) : (s.at t).out = s.out := rfl
@[simp] theorem at_nv (s : State) (t : Ns) : (s.at t).nv = s.nv := rfl
@[simp] theorem at_flt (s : State) (t : Ns) : (s.at t).flt = s.flt := rfl
@[simp] theorem at_tst (s : State) (t : Ns) : (s.at t).tst = s.tst := rfl
@[simp] theorem at_pow (s : State) (t : Ns) : (s.at t).pow = s.pow := rfl
@[simp] theorem at_fast (s : State) (t : Ns) : (s.at t).fast = s.fast := rfl
@[simp] theorem at_freeCtr (s : State) (t : Ns) : (s.at t).freeCtr = s.freeCtr := rfl

/-- A fold of operations that change the fault state alone changes the fault state alone. -/
theorem foldl_flt {α : Type} (f : State → α → State) (h : ∀ s a, f s a = { s with flt := (f s a).flt }) (l : List α) (s : State) :
    l.foldl f s = { s with flt := (l.foldl f s).flt } := by
  induction l generalizing s with
  | nil => rfl
  | cons a l ih => rw [List.foldl_cons, ih, h s a]

theorem reportRaise_flt (s : State) (i : FaultInst) : s.reportRaise i = { s with flt := (s.reportRaise i).flt } := rfl
@[simp] theorem reportRaise_pending (s : State) (i : FaultInst) : (s.reportRaise i).pending = s.pending := by rw [reportRaise_flt]
@[simp] theorem reportRaise_now (s : State) (i : FaultInst) : (s.reportRaise i).now = s.now := by rw [reportRaise_flt]
@[simp] theorem reportRaise_bufs (s : State) (i : FaultInst) : (s.reportRaise i).bufs = s.bufs := by rw [reportRaise_flt]
@[simp] theorem reportRaise_sup (s : State) (i : FaultInst) : (s.reportRaise i).sup = s.sup := by rw [reportRaise_flt]
@[simp] theorem reportRaise_strap (s : State) (i : FaultInst) : (s.reportRaise i).strap = s.strap := by rw [reportRaise_flt]
@[simp] theorem reportRaise_code (s : State) (i : FaultInst) : (s.reportRaise i).code = s.code := by rw [reportRaise_flt]
@[simp] theorem reportRaise_img (s : State) (i : FaultInst) : (s.reportRaise i).img = s.img := by rw [reportRaise_flt]
@[simp] theorem reportRaise_pace (s : State) (i : FaultInst) : (s.reportRaise i).pace = s.pace := by rw [reportRaise_flt]
@[simp] theorem reportRaise_thr (s : State) (i : FaultInst) : (s.reportRaise i).thr = s.thr := by rw [reportRaise_flt]
@[simp] theorem reportRaise_pat (s : State) (i : FaultInst) : (s.reportRaise i).pat = s.pat := by rw [reportRaise_flt]
@[simp] theorem reportRaise_acq (s : State) (i : FaultInst) : (s.reportRaise i).acq = s.acq := by rw [reportRaise_flt]
@[simp] theorem reportRaise_cls (s : State) (i : FaultInst) : (s.reportRaise i).cls = s.cls := by rw [reportRaise_flt]
@[simp] theorem reportRaise_lrn (s : State) (i : FaultInst) : (s.reportRaise i).lrn = s.lrn := by rw [reportRaise_flt]
@[simp] theorem reportRaise_trn (s : State) (i : FaultInst) : (s.reportRaise i).trn = s.trn := by rw [reportRaise_flt]
@[simp] theorem reportRaise_seam (s : State) (i : FaultInst) : (s.reportRaise i).seam = s.seam := by rw [reportRaise_flt]
@[simp] theorem reportRaise_res (s : State) (i : FaultInst) : (s.reportRaise i).res = s.res := by rw [reportRaise_flt]
@[simp] theorem reportRaise_own (s : State) (i : FaultInst) : (s.reportRaise i).own = s.own := by rw [reportRaise_flt]
@[simp] theorem reportRaise_out (s : State) (i : FaultInst) : (s.reportRaise i).out = s.out := by rw [reportRaise_flt]
@[simp] theorem reportRaise_nv (s : State) (i : FaultInst) : (s.reportRaise i).nv = s.nv := by rw [reportRaise_flt]
@[simp] theorem reportRaise_tst (s : State) (i : FaultInst) : (s.reportRaise i).tst = s.tst := by rw [reportRaise_flt]
@[simp] theorem reportRaise_pow (s : State) (i : FaultInst) : (s.reportRaise i).pow = s.pow := by rw [reportRaise_flt]
@[simp] theorem reportRaise_fast (s : State) (i : FaultInst) : (s.reportRaise i).fast = s.fast := by rw [reportRaise_flt]
@[simp] theorem reportRaise_freeCtr (s : State) (i : FaultInst) : (s.reportRaise i).freeCtr = s.freeCtr := by rw [reportRaise_flt]

theorem reportClear_flt (s : State) (i : FaultInst) : s.reportClear i = { s with flt := (s.reportClear i).flt } := rfl
@[simp] theorem reportClear_pending (s : State) (i : FaultInst) : (s.reportClear i).pending = s.pending := by rw [reportClear_flt]
@[simp] theorem reportClear_now (s : State) (i : FaultInst) : (s.reportClear i).now = s.now := by rw [reportClear_flt]
@[simp] theorem reportClear_bufs (s : State) (i : FaultInst) : (s.reportClear i).bufs = s.bufs := by rw [reportClear_flt]
@[simp] theorem reportClear_sup (s : State) (i : FaultInst) : (s.reportClear i).sup = s.sup := by rw [reportClear_flt]
@[simp] theorem reportClear_strap (s : State) (i : FaultInst) : (s.reportClear i).strap = s.strap := by rw [reportClear_flt]
@[simp] theorem reportClear_code (s : State) (i : FaultInst) : (s.reportClear i).code = s.code := by rw [reportClear_flt]
@[simp] theorem reportClear_img (s : State) (i : FaultInst) : (s.reportClear i).img = s.img := by rw [reportClear_flt]
@[simp] theorem reportClear_pace (s : State) (i : FaultInst) : (s.reportClear i).pace = s.pace := by rw [reportClear_flt]
@[simp] theorem reportClear_thr (s : State) (i : FaultInst) : (s.reportClear i).thr = s.thr := by rw [reportClear_flt]
@[simp] theorem reportClear_pat (s : State) (i : FaultInst) : (s.reportClear i).pat = s.pat := by rw [reportClear_flt]
@[simp] theorem reportClear_acq (s : State) (i : FaultInst) : (s.reportClear i).acq = s.acq := by rw [reportClear_flt]
@[simp] theorem reportClear_cls (s : State) (i : FaultInst) : (s.reportClear i).cls = s.cls := by rw [reportClear_flt]
@[simp] theorem reportClear_lrn (s : State) (i : FaultInst) : (s.reportClear i).lrn = s.lrn := by rw [reportClear_flt]
@[simp] theorem reportClear_trn (s : State) (i : FaultInst) : (s.reportClear i).trn = s.trn := by rw [reportClear_flt]
@[simp] theorem reportClear_seam (s : State) (i : FaultInst) : (s.reportClear i).seam = s.seam := by rw [reportClear_flt]
@[simp] theorem reportClear_res (s : State) (i : FaultInst) : (s.reportClear i).res = s.res := by rw [reportClear_flt]
@[simp] theorem reportClear_own (s : State) (i : FaultInst) : (s.reportClear i).own = s.own := by rw [reportClear_flt]
@[simp] theorem reportClear_out (s : State) (i : FaultInst) : (s.reportClear i).out = s.out := by rw [reportClear_flt]
@[simp] theorem reportClear_nv (s : State) (i : FaultInst) : (s.reportClear i).nv = s.nv := by rw [reportClear_flt]
@[simp] theorem reportClear_tst (s : State) (i : FaultInst) : (s.reportClear i).tst = s.tst := by rw [reportClear_flt]
@[simp] theorem reportClear_pow (s : State) (i : FaultInst) : (s.reportClear i).pow = s.pow := by rw [reportClear_flt]
@[simp] theorem reportClear_fast (s : State) (i : FaultInst) : (s.reportClear i).fast = s.fast := by rw [reportClear_flt]
@[simp] theorem reportClear_freeCtr (s : State) (i : FaultInst) : (s.reportClear i).freeCtr = s.freeCtr := by rw [reportClear_flt]

theorem log_flt (s : State) (kind : Nat) (payload : List Byte) : s.log kind payload = { s with flt := (s.log kind payload).flt } := rfl
@[simp] theorem log_pending (s : State) (kind : Nat) (payload : List Byte) : (s.log kind payload).pending = s.pending := by rw [log_flt]
@[simp] theorem log_now (s : State) (kind : Nat) (payload : List Byte) : (s.log kind payload).now = s.now := by rw [log_flt]
@[simp] theorem log_bufs (s : State) (kind : Nat) (payload : List Byte) : (s.log kind payload).bufs = s.bufs := by rw [log_flt]
@[simp] theorem log_sup (s : State) (kind : Nat) (payload : List Byte) : (s.log kind payload).sup = s.sup := by rw [log_flt]
@[simp] theorem log_strap (s : State) (kind : Nat) (payload : List Byte) : (s.log kind payload).strap = s.strap := by rw [log_flt]
@[simp] theorem log_code (s : State) (kind : Nat) (payload : List Byte) : (s.log kind payload).code = s.code := by rw [log_flt]
@[simp] theorem log_img (s : State) (kind : Nat) (payload : List Byte) : (s.log kind payload).img = s.img := by rw [log_flt]
@[simp] theorem log_pace (s : State) (kind : Nat) (payload : List Byte) : (s.log kind payload).pace = s.pace := by rw [log_flt]
@[simp] theorem log_thr (s : State) (kind : Nat) (payload : List Byte) : (s.log kind payload).thr = s.thr := by rw [log_flt]
@[simp] theorem log_pat (s : State) (kind : Nat) (payload : List Byte) : (s.log kind payload).pat = s.pat := by rw [log_flt]
@[simp] theorem log_acq (s : State) (kind : Nat) (payload : List Byte) : (s.log kind payload).acq = s.acq := by rw [log_flt]
@[simp] theorem log_cls (s : State) (kind : Nat) (payload : List Byte) : (s.log kind payload).cls = s.cls := by rw [log_flt]
@[simp] theorem log_lrn (s : State) (kind : Nat) (payload : List Byte) : (s.log kind payload).lrn = s.lrn := by rw [log_flt]
@[simp] theorem log_trn (s : State) (kind : Nat) (payload : List Byte) : (s.log kind payload).trn = s.trn := by rw [log_flt]
@[simp] theorem log_seam (s : State) (kind : Nat) (payload : List Byte) : (s.log kind payload).seam = s.seam := by rw [log_flt]
@[simp] theorem log_res (s : State) (kind : Nat) (payload : List Byte) : (s.log kind payload).res = s.res := by rw [log_flt]
@[simp] theorem log_own (s : State) (kind : Nat) (payload : List Byte) : (s.log kind payload).own = s.own := by rw [log_flt]
@[simp] theorem log_out (s : State) (kind : Nat) (payload : List Byte) : (s.log kind payload).out = s.out := by rw [log_flt]
@[simp] theorem log_nv (s : State) (kind : Nat) (payload : List Byte) : (s.log kind payload).nv = s.nv := by rw [log_flt]
@[simp] theorem log_tst (s : State) (kind : Nat) (payload : List Byte) : (s.log kind payload).tst = s.tst := by rw [log_flt]
@[simp] theorem log_pow (s : State) (kind : Nat) (payload : List Byte) : (s.log kind payload).pow = s.pow := by rw [log_flt]
@[simp] theorem log_fast (s : State) (kind : Nat) (payload : List Byte) : (s.log kind payload).fast = s.fast := by rw [log_flt]
@[simp] theorem log_freeCtr (s : State) (kind : Nat) (payload : List Byte) : (s.log kind payload).freeCtr = s.freeCtr := by rw [log_flt]

theorem setPins_flt (s : State) (safe : Bool) (level : BitVec 3) : s.setPins safe level = { s with flt := (s.setPins safe level).flt } := rfl
@[simp] theorem setPins_pending (s : State) (safe : Bool) (level : BitVec 3) : (s.setPins safe level).pending = s.pending := by rw [setPins_flt]
@[simp] theorem setPins_now (s : State) (safe : Bool) (level : BitVec 3) : (s.setPins safe level).now = s.now := by rw [setPins_flt]
@[simp] theorem setPins_bufs (s : State) (safe : Bool) (level : BitVec 3) : (s.setPins safe level).bufs = s.bufs := by rw [setPins_flt]
@[simp] theorem setPins_sup (s : State) (safe : Bool) (level : BitVec 3) : (s.setPins safe level).sup = s.sup := by rw [setPins_flt]
@[simp] theorem setPins_strap (s : State) (safe : Bool) (level : BitVec 3) : (s.setPins safe level).strap = s.strap := by rw [setPins_flt]
@[simp] theorem setPins_code (s : State) (safe : Bool) (level : BitVec 3) : (s.setPins safe level).code = s.code := by rw [setPins_flt]
@[simp] theorem setPins_img (s : State) (safe : Bool) (level : BitVec 3) : (s.setPins safe level).img = s.img := by rw [setPins_flt]
@[simp] theorem setPins_pace (s : State) (safe : Bool) (level : BitVec 3) : (s.setPins safe level).pace = s.pace := by rw [setPins_flt]
@[simp] theorem setPins_thr (s : State) (safe : Bool) (level : BitVec 3) : (s.setPins safe level).thr = s.thr := by rw [setPins_flt]
@[simp] theorem setPins_pat (s : State) (safe : Bool) (level : BitVec 3) : (s.setPins safe level).pat = s.pat := by rw [setPins_flt]
@[simp] theorem setPins_acq (s : State) (safe : Bool) (level : BitVec 3) : (s.setPins safe level).acq = s.acq := by rw [setPins_flt]
@[simp] theorem setPins_cls (s : State) (safe : Bool) (level : BitVec 3) : (s.setPins safe level).cls = s.cls := by rw [setPins_flt]
@[simp] theorem setPins_lrn (s : State) (safe : Bool) (level : BitVec 3) : (s.setPins safe level).lrn = s.lrn := by rw [setPins_flt]
@[simp] theorem setPins_trn (s : State) (safe : Bool) (level : BitVec 3) : (s.setPins safe level).trn = s.trn := by rw [setPins_flt]
@[simp] theorem setPins_seam (s : State) (safe : Bool) (level : BitVec 3) : (s.setPins safe level).seam = s.seam := by rw [setPins_flt]
@[simp] theorem setPins_res (s : State) (safe : Bool) (level : BitVec 3) : (s.setPins safe level).res = s.res := by rw [setPins_flt]
@[simp] theorem setPins_own (s : State) (safe : Bool) (level : BitVec 3) : (s.setPins safe level).own = s.own := by rw [setPins_flt]
@[simp] theorem setPins_out (s : State) (safe : Bool) (level : BitVec 3) : (s.setPins safe level).out = s.out := by rw [setPins_flt]
@[simp] theorem setPins_nv (s : State) (safe : Bool) (level : BitVec 3) : (s.setPins safe level).nv = s.nv := by rw [setPins_flt]
@[simp] theorem setPins_tst (s : State) (safe : Bool) (level : BitVec 3) : (s.setPins safe level).tst = s.tst := by rw [setPins_flt]
@[simp] theorem setPins_pow (s : State) (safe : Bool) (level : BitVec 3) : (s.setPins safe level).pow = s.pow := by rw [setPins_flt]
@[simp] theorem setPins_fast (s : State) (safe : Bool) (level : BitVec 3) : (s.setPins safe level).fast = s.fast := by rw [setPins_flt]
@[simp] theorem setPins_freeCtr (s : State) (safe : Bool) (level : BitVec 3) : (s.setPins safe level).freeCtr = s.freeCtr := by rw [setPins_flt]

theorem parkPins_flt (s : State) : s.parkPins = { s with flt := (s.parkPins).flt } := rfl
@[simp] theorem parkPins_pending (s : State) : (s.parkPins).pending = s.pending := by rw [parkPins_flt]
@[simp] theorem parkPins_now (s : State) : (s.parkPins).now = s.now := by rw [parkPins_flt]
@[simp] theorem parkPins_bufs (s : State) : (s.parkPins).bufs = s.bufs := by rw [parkPins_flt]
@[simp] theorem parkPins_sup (s : State) : (s.parkPins).sup = s.sup := by rw [parkPins_flt]
@[simp] theorem parkPins_strap (s : State) : (s.parkPins).strap = s.strap := by rw [parkPins_flt]
@[simp] theorem parkPins_code (s : State) : (s.parkPins).code = s.code := by rw [parkPins_flt]
@[simp] theorem parkPins_img (s : State) : (s.parkPins).img = s.img := by rw [parkPins_flt]
@[simp] theorem parkPins_pace (s : State) : (s.parkPins).pace = s.pace := by rw [parkPins_flt]
@[simp] theorem parkPins_thr (s : State) : (s.parkPins).thr = s.thr := by rw [parkPins_flt]
@[simp] theorem parkPins_pat (s : State) : (s.parkPins).pat = s.pat := by rw [parkPins_flt]
@[simp] theorem parkPins_acq (s : State) : (s.parkPins).acq = s.acq := by rw [parkPins_flt]
@[simp] theorem parkPins_cls (s : State) : (s.parkPins).cls = s.cls := by rw [parkPins_flt]
@[simp] theorem parkPins_lrn (s : State) : (s.parkPins).lrn = s.lrn := by rw [parkPins_flt]
@[simp] theorem parkPins_trn (s : State) : (s.parkPins).trn = s.trn := by rw [parkPins_flt]
@[simp] theorem parkPins_seam (s : State) : (s.parkPins).seam = s.seam := by rw [parkPins_flt]
@[simp] theorem parkPins_res (s : State) : (s.parkPins).res = s.res := by rw [parkPins_flt]
@[simp] theorem parkPins_own (s : State) : (s.parkPins).own = s.own := by rw [parkPins_flt]
@[simp] theorem parkPins_out (s : State) : (s.parkPins).out = s.out := by rw [parkPins_flt]
@[simp] theorem parkPins_nv (s : State) : (s.parkPins).nv = s.nv := by rw [parkPins_flt]
@[simp] theorem parkPins_tst (s : State) : (s.parkPins).tst = s.tst := by rw [parkPins_flt]
@[simp] theorem parkPins_pow (s : State) : (s.parkPins).pow = s.pow := by rw [parkPins_flt]
@[simp] theorem parkPins_fast (s : State) : (s.parkPins).fast = s.fast := by rw [parkPins_flt]
@[simp] theorem parkPins_freeCtr (s : State) : (s.parkPins).freeCtr = s.freeCtr := by rw [parkPins_flt]

theorem pinsUp_flt (s : State) : s.pinsUp = { s with flt := (s.pinsUp).flt } := by
  unfold State.pinsUp; split
  · rfl
  · split <;> rfl
@[simp] theorem pinsUp_pending (s : State) : (s.pinsUp).pending = s.pending := by rw [pinsUp_flt]
@[simp] theorem pinsUp_now (s : State) : (s.pinsUp).now = s.now := by rw [pinsUp_flt]
@[simp] theorem pinsUp_bufs (s : State) : (s.pinsUp).bufs = s.bufs := by rw [pinsUp_flt]
@[simp] theorem pinsUp_sup (s : State) : (s.pinsUp).sup = s.sup := by rw [pinsUp_flt]
@[simp] theorem pinsUp_strap (s : State) : (s.pinsUp).strap = s.strap := by rw [pinsUp_flt]
@[simp] theorem pinsUp_code (s : State) : (s.pinsUp).code = s.code := by rw [pinsUp_flt]
@[simp] theorem pinsUp_img (s : State) : (s.pinsUp).img = s.img := by rw [pinsUp_flt]
@[simp] theorem pinsUp_pace (s : State) : (s.pinsUp).pace = s.pace := by rw [pinsUp_flt]
@[simp] theorem pinsUp_thr (s : State) : (s.pinsUp).thr = s.thr := by rw [pinsUp_flt]
@[simp] theorem pinsUp_pat (s : State) : (s.pinsUp).pat = s.pat := by rw [pinsUp_flt]
@[simp] theorem pinsUp_acq (s : State) : (s.pinsUp).acq = s.acq := by rw [pinsUp_flt]
@[simp] theorem pinsUp_cls (s : State) : (s.pinsUp).cls = s.cls := by rw [pinsUp_flt]
@[simp] theorem pinsUp_lrn (s : State) : (s.pinsUp).lrn = s.lrn := by rw [pinsUp_flt]
@[simp] theorem pinsUp_trn (s : State) : (s.pinsUp).trn = s.trn := by rw [pinsUp_flt]
@[simp] theorem pinsUp_seam (s : State) : (s.pinsUp).seam = s.seam := by rw [pinsUp_flt]
@[simp] theorem pinsUp_res (s : State) : (s.pinsUp).res = s.res := by rw [pinsUp_flt]
@[simp] theorem pinsUp_own (s : State) : (s.pinsUp).own = s.own := by rw [pinsUp_flt]
@[simp] theorem pinsUp_out (s : State) : (s.pinsUp).out = s.out := by rw [pinsUp_flt]
@[simp] theorem pinsUp_nv (s : State) : (s.pinsUp).nv = s.nv := by rw [pinsUp_flt]
@[simp] theorem pinsUp_tst (s : State) : (s.pinsUp).tst = s.tst := by rw [pinsUp_flt]
@[simp] theorem pinsUp_pow (s : State) : (s.pinsUp).pow = s.pow := by rw [pinsUp_flt]
@[simp] theorem pinsUp_fast (s : State) : (s.pinsUp).fast = s.fast := by rw [pinsUp_flt]
@[simp] theorem pinsUp_freeCtr (s : State) : (s.pinsUp).freeCtr = s.freeCtr := by rw [pinsUp_flt]

theorem pinsRound_flt (s : State) : s.pinsRound = { s with flt := (s.pinsRound).flt } := by
  unfold State.pinsRound; split
  · rfl
  · split <;> rfl
@[simp] theorem pinsRound_pending (s : State) : (s.pinsRound).pending = s.pending := by rw [pinsRound_flt]
@[simp] theorem pinsRound_now (s : State) : (s.pinsRound).now = s.now := by rw [pinsRound_flt]
@[simp] theorem pinsRound_bufs (s : State) : (s.pinsRound).bufs = s.bufs := by rw [pinsRound_flt]
@[simp] theorem pinsRound_sup (s : State) : (s.pinsRound).sup = s.sup := by rw [pinsRound_flt]
@[simp] theorem pinsRound_strap (s : State) : (s.pinsRound).strap = s.strap := by rw [pinsRound_flt]
@[simp] theorem pinsRound_code (s : State) : (s.pinsRound).code = s.code := by rw [pinsRound_flt]
@[simp] theorem pinsRound_img (s : State) : (s.pinsRound).img = s.img := by rw [pinsRound_flt]
@[simp] theorem pinsRound_pace (s : State) : (s.pinsRound).pace = s.pace := by rw [pinsRound_flt]
@[simp] theorem pinsRound_thr (s : State) : (s.pinsRound).thr = s.thr := by rw [pinsRound_flt]
@[simp] theorem pinsRound_pat (s : State) : (s.pinsRound).pat = s.pat := by rw [pinsRound_flt]
@[simp] theorem pinsRound_acq (s : State) : (s.pinsRound).acq = s.acq := by rw [pinsRound_flt]
@[simp] theorem pinsRound_cls (s : State) : (s.pinsRound).cls = s.cls := by rw [pinsRound_flt]
@[simp] theorem pinsRound_lrn (s : State) : (s.pinsRound).lrn = s.lrn := by rw [pinsRound_flt]
@[simp] theorem pinsRound_trn (s : State) : (s.pinsRound).trn = s.trn := by rw [pinsRound_flt]
@[simp] theorem pinsRound_seam (s : State) : (s.pinsRound).seam = s.seam := by rw [pinsRound_flt]
@[simp] theorem pinsRound_res (s : State) : (s.pinsRound).res = s.res := by rw [pinsRound_flt]
@[simp] theorem pinsRound_own (s : State) : (s.pinsRound).own = s.own := by rw [pinsRound_flt]
@[simp] theorem pinsRound_out (s : State) : (s.pinsRound).out = s.out := by rw [pinsRound_flt]
@[simp] theorem pinsRound_nv (s : State) : (s.pinsRound).nv = s.nv := by rw [pinsRound_flt]
@[simp] theorem pinsRound_tst (s : State) : (s.pinsRound).tst = s.tst := by rw [pinsRound_flt]
@[simp] theorem pinsRound_pow (s : State) : (s.pinsRound).pow = s.pow := by rw [pinsRound_flt]
@[simp] theorem pinsRound_fast (s : State) : (s.pinsRound).fast = s.fast := by rw [pinsRound_flt]
@[simp] theorem pinsRound_freeCtr (s : State) : (s.pinsRound).freeCtr = s.freeCtr := by rw [pinsRound_flt]

theorem raiseOverflow_flt (s : State) (c : Nat) : s.raiseOverflow c = { s with flt := (s.raiseOverflow c).flt } := by
  unfold State.raiseOverflow; split <;> rfl
@[simp] theorem raiseOverflow_pending (s : State) (c : Nat) : (s.raiseOverflow c).pending = s.pending := by rw [raiseOverflow_flt]
@[simp] theorem raiseOverflow_now (s : State) (c : Nat) : (s.raiseOverflow c).now = s.now := by rw [raiseOverflow_flt]
@[simp] theorem raiseOverflow_bufs (s : State) (c : Nat) : (s.raiseOverflow c).bufs = s.bufs := by rw [raiseOverflow_flt]
@[simp] theorem raiseOverflow_sup (s : State) (c : Nat) : (s.raiseOverflow c).sup = s.sup := by rw [raiseOverflow_flt]
@[simp] theorem raiseOverflow_strap (s : State) (c : Nat) : (s.raiseOverflow c).strap = s.strap := by rw [raiseOverflow_flt]
@[simp] theorem raiseOverflow_code (s : State) (c : Nat) : (s.raiseOverflow c).code = s.code := by rw [raiseOverflow_flt]
@[simp] theorem raiseOverflow_img (s : State) (c : Nat) : (s.raiseOverflow c).img = s.img := by rw [raiseOverflow_flt]
@[simp] theorem raiseOverflow_pace (s : State) (c : Nat) : (s.raiseOverflow c).pace = s.pace := by rw [raiseOverflow_flt]
@[simp] theorem raiseOverflow_thr (s : State) (c : Nat) : (s.raiseOverflow c).thr = s.thr := by rw [raiseOverflow_flt]
@[simp] theorem raiseOverflow_pat (s : State) (c : Nat) : (s.raiseOverflow c).pat = s.pat := by rw [raiseOverflow_flt]
@[simp] theorem raiseOverflow_acq (s : State) (c : Nat) : (s.raiseOverflow c).acq = s.acq := by rw [raiseOverflow_flt]
@[simp] theorem raiseOverflow_cls (s : State) (c : Nat) : (s.raiseOverflow c).cls = s.cls := by rw [raiseOverflow_flt]
@[simp] theorem raiseOverflow_lrn (s : State) (c : Nat) : (s.raiseOverflow c).lrn = s.lrn := by rw [raiseOverflow_flt]
@[simp] theorem raiseOverflow_trn (s : State) (c : Nat) : (s.raiseOverflow c).trn = s.trn := by rw [raiseOverflow_flt]
@[simp] theorem raiseOverflow_seam (s : State) (c : Nat) : (s.raiseOverflow c).seam = s.seam := by rw [raiseOverflow_flt]
@[simp] theorem raiseOverflow_res (s : State) (c : Nat) : (s.raiseOverflow c).res = s.res := by rw [raiseOverflow_flt]
@[simp] theorem raiseOverflow_own (s : State) (c : Nat) : (s.raiseOverflow c).own = s.own := by rw [raiseOverflow_flt]
@[simp] theorem raiseOverflow_out (s : State) (c : Nat) : (s.raiseOverflow c).out = s.out := by rw [raiseOverflow_flt]
@[simp] theorem raiseOverflow_nv (s : State) (c : Nat) : (s.raiseOverflow c).nv = s.nv := by rw [raiseOverflow_flt]
@[simp] theorem raiseOverflow_tst (s : State) (c : Nat) : (s.raiseOverflow c).tst = s.tst := by rw [raiseOverflow_flt]
@[simp] theorem raiseOverflow_pow (s : State) (c : Nat) : (s.raiseOverflow c).pow = s.pow := by rw [raiseOverflow_flt]
@[simp] theorem raiseOverflow_fast (s : State) (c : Nat) : (s.raiseOverflow c).fast = s.fast := by rw [raiseOverflow_flt]
@[simp] theorem raiseOverflow_freeCtr (s : State) (c : Nat) : (s.raiseOverflow c).freeCtr = s.freeCtr := by rw [raiseOverflow_flt]

theorem raiseInst_flt (s : State) (i : FaultInst) : s.raiseInst i = { s with flt := (s.raiseInst i).flt } := by
  unfold State.raiseInst; split
  · rfl
  · split
    · rw [pinsUp_flt, reportRaise_flt]
    · rw [pinsUp_flt, raiseOverflow_flt]
@[simp] theorem raiseInst_pending (s : State) (i : FaultInst) : (s.raiseInst i).pending = s.pending := by rw [raiseInst_flt]
@[simp] theorem raiseInst_now (s : State) (i : FaultInst) : (s.raiseInst i).now = s.now := by rw [raiseInst_flt]
@[simp] theorem raiseInst_bufs (s : State) (i : FaultInst) : (s.raiseInst i).bufs = s.bufs := by rw [raiseInst_flt]
@[simp] theorem raiseInst_sup (s : State) (i : FaultInst) : (s.raiseInst i).sup = s.sup := by rw [raiseInst_flt]
@[simp] theorem raiseInst_strap (s : State) (i : FaultInst) : (s.raiseInst i).strap = s.strap := by rw [raiseInst_flt]
@[simp] theorem raiseInst_code (s : State) (i : FaultInst) : (s.raiseInst i).code = s.code := by rw [raiseInst_flt]
@[simp] theorem raiseInst_img (s : State) (i : FaultInst) : (s.raiseInst i).img = s.img := by rw [raiseInst_flt]
@[simp] theorem raiseInst_pace (s : State) (i : FaultInst) : (s.raiseInst i).pace = s.pace := by rw [raiseInst_flt]
@[simp] theorem raiseInst_thr (s : State) (i : FaultInst) : (s.raiseInst i).thr = s.thr := by rw [raiseInst_flt]
@[simp] theorem raiseInst_pat (s : State) (i : FaultInst) : (s.raiseInst i).pat = s.pat := by rw [raiseInst_flt]
@[simp] theorem raiseInst_acq (s : State) (i : FaultInst) : (s.raiseInst i).acq = s.acq := by rw [raiseInst_flt]
@[simp] theorem raiseInst_cls (s : State) (i : FaultInst) : (s.raiseInst i).cls = s.cls := by rw [raiseInst_flt]
@[simp] theorem raiseInst_lrn (s : State) (i : FaultInst) : (s.raiseInst i).lrn = s.lrn := by rw [raiseInst_flt]
@[simp] theorem raiseInst_trn (s : State) (i : FaultInst) : (s.raiseInst i).trn = s.trn := by rw [raiseInst_flt]
@[simp] theorem raiseInst_seam (s : State) (i : FaultInst) : (s.raiseInst i).seam = s.seam := by rw [raiseInst_flt]
@[simp] theorem raiseInst_res (s : State) (i : FaultInst) : (s.raiseInst i).res = s.res := by rw [raiseInst_flt]
@[simp] theorem raiseInst_own (s : State) (i : FaultInst) : (s.raiseInst i).own = s.own := by rw [raiseInst_flt]
@[simp] theorem raiseInst_out (s : State) (i : FaultInst) : (s.raiseInst i).out = s.out := by rw [raiseInst_flt]
@[simp] theorem raiseInst_nv (s : State) (i : FaultInst) : (s.raiseInst i).nv = s.nv := by rw [raiseInst_flt]
@[simp] theorem raiseInst_tst (s : State) (i : FaultInst) : (s.raiseInst i).tst = s.tst := by rw [raiseInst_flt]
@[simp] theorem raiseInst_pow (s : State) (i : FaultInst) : (s.raiseInst i).pow = s.pow := by rw [raiseInst_flt]
@[simp] theorem raiseInst_fast (s : State) (i : FaultInst) : (s.raiseInst i).fast = s.fast := by rw [raiseInst_flt]
@[simp] theorem raiseInst_freeCtr (s : State) (i : FaultInst) : (s.raiseInst i).freeCtr = s.freeCtr := by rw [raiseInst_flt]

theorem raise_flt (s : State) (c d : Nat) : s.raise c d = { s with flt := (s.raise c d).flt } := raiseInst_flt s _
@[simp] theorem raise_pending (s : State) (c d : Nat) : (s.raise c d).pending = s.pending := by rw [raise_flt]
@[simp] theorem raise_now (s : State) (c d : Nat) : (s.raise c d).now = s.now := by rw [raise_flt]
@[simp] theorem raise_bufs (s : State) (c d : Nat) : (s.raise c d).bufs = s.bufs := by rw [raise_flt]
@[simp] theorem raise_sup (s : State) (c d : Nat) : (s.raise c d).sup = s.sup := by rw [raise_flt]
@[simp] theorem raise_strap (s : State) (c d : Nat) : (s.raise c d).strap = s.strap := by rw [raise_flt]
@[simp] theorem raise_code (s : State) (c d : Nat) : (s.raise c d).code = s.code := by rw [raise_flt]
@[simp] theorem raise_img (s : State) (c d : Nat) : (s.raise c d).img = s.img := by rw [raise_flt]
@[simp] theorem raise_pace (s : State) (c d : Nat) : (s.raise c d).pace = s.pace := by rw [raise_flt]
@[simp] theorem raise_thr (s : State) (c d : Nat) : (s.raise c d).thr = s.thr := by rw [raise_flt]
@[simp] theorem raise_pat (s : State) (c d : Nat) : (s.raise c d).pat = s.pat := by rw [raise_flt]
@[simp] theorem raise_acq (s : State) (c d : Nat) : (s.raise c d).acq = s.acq := by rw [raise_flt]
@[simp] theorem raise_cls (s : State) (c d : Nat) : (s.raise c d).cls = s.cls := by rw [raise_flt]
@[simp] theorem raise_lrn (s : State) (c d : Nat) : (s.raise c d).lrn = s.lrn := by rw [raise_flt]
@[simp] theorem raise_trn (s : State) (c d : Nat) : (s.raise c d).trn = s.trn := by rw [raise_flt]
@[simp] theorem raise_seam (s : State) (c d : Nat) : (s.raise c d).seam = s.seam := by rw [raise_flt]
@[simp] theorem raise_res (s : State) (c d : Nat) : (s.raise c d).res = s.res := by rw [raise_flt]
@[simp] theorem raise_own (s : State) (c d : Nat) : (s.raise c d).own = s.own := by rw [raise_flt]
@[simp] theorem raise_out (s : State) (c d : Nat) : (s.raise c d).out = s.out := by rw [raise_flt]
@[simp] theorem raise_nv (s : State) (c d : Nat) : (s.raise c d).nv = s.nv := by rw [raise_flt]
@[simp] theorem raise_tst (s : State) (c d : Nat) : (s.raise c d).tst = s.tst := by rw [raise_flt]
@[simp] theorem raise_pow (s : State) (c d : Nat) : (s.raise c d).pow = s.pow := by rw [raise_flt]
@[simp] theorem raise_fast (s : State) (c d : Nat) : (s.raise c d).fast = s.fast := by rw [raise_flt]
@[simp] theorem raise_freeCtr (s : State) (c d : Nat) : (s.raise c d).freeCtr = s.freeCtr := by rw [raise_flt]

theorem raiseHigh_flt (s : State) (c d : Nat) : s.raiseHigh c d = { s with flt := (s.raiseHigh c d).flt } := raiseInst_flt s _
@[simp] theorem raiseHigh_pending (s : State) (c d : Nat) : (s.raiseHigh c d).pending = s.pending := by rw [raiseHigh_flt]
@[simp] theorem raiseHigh_now (s : State) (c d : Nat) : (s.raiseHigh c d).now = s.now := by rw [raiseHigh_flt]
@[simp] theorem raiseHigh_bufs (s : State) (c d : Nat) : (s.raiseHigh c d).bufs = s.bufs := by rw [raiseHigh_flt]
@[simp] theorem raiseHigh_sup (s : State) (c d : Nat) : (s.raiseHigh c d).sup = s.sup := by rw [raiseHigh_flt]
@[simp] theorem raiseHigh_strap (s : State) (c d : Nat) : (s.raiseHigh c d).strap = s.strap := by rw [raiseHigh_flt]
@[simp] theorem raiseHigh_code (s : State) (c d : Nat) : (s.raiseHigh c d).code = s.code := by rw [raiseHigh_flt]
@[simp] theorem raiseHigh_img (s : State) (c d : Nat) : (s.raiseHigh c d).img = s.img := by rw [raiseHigh_flt]
@[simp] theorem raiseHigh_pace (s : State) (c d : Nat) : (s.raiseHigh c d).pace = s.pace := by rw [raiseHigh_flt]
@[simp] theorem raiseHigh_thr (s : State) (c d : Nat) : (s.raiseHigh c d).thr = s.thr := by rw [raiseHigh_flt]
@[simp] theorem raiseHigh_pat (s : State) (c d : Nat) : (s.raiseHigh c d).pat = s.pat := by rw [raiseHigh_flt]
@[simp] theorem raiseHigh_acq (s : State) (c d : Nat) : (s.raiseHigh c d).acq = s.acq := by rw [raiseHigh_flt]
@[simp] theorem raiseHigh_cls (s : State) (c d : Nat) : (s.raiseHigh c d).cls = s.cls := by rw [raiseHigh_flt]
@[simp] theorem raiseHigh_lrn (s : State) (c d : Nat) : (s.raiseHigh c d).lrn = s.lrn := by rw [raiseHigh_flt]
@[simp] theorem raiseHigh_trn (s : State) (c d : Nat) : (s.raiseHigh c d).trn = s.trn := by rw [raiseHigh_flt]
@[simp] theorem raiseHigh_seam (s : State) (c d : Nat) : (s.raiseHigh c d).seam = s.seam := by rw [raiseHigh_flt]
@[simp] theorem raiseHigh_res (s : State) (c d : Nat) : (s.raiseHigh c d).res = s.res := by rw [raiseHigh_flt]
@[simp] theorem raiseHigh_own (s : State) (c d : Nat) : (s.raiseHigh c d).own = s.own := by rw [raiseHigh_flt]
@[simp] theorem raiseHigh_out (s : State) (c d : Nat) : (s.raiseHigh c d).out = s.out := by rw [raiseHigh_flt]
@[simp] theorem raiseHigh_nv (s : State) (c d : Nat) : (s.raiseHigh c d).nv = s.nv := by rw [raiseHigh_flt]
@[simp] theorem raiseHigh_tst (s : State) (c d : Nat) : (s.raiseHigh c d).tst = s.tst := by rw [raiseHigh_flt]
@[simp] theorem raiseHigh_pow (s : State) (c d : Nat) : (s.raiseHigh c d).pow = s.pow := by rw [raiseHigh_flt]
@[simp] theorem raiseHigh_fast (s : State) (c d : Nat) : (s.raiseHigh c d).fast = s.fast := by rw [raiseHigh_flt]
@[simp] theorem raiseHigh_freeCtr (s : State) (c d : Nat) : (s.raiseHigh c d).freeCtr = s.freeCtr := by rw [raiseHigh_flt]

theorem clear_flt (s : State) (c d : Nat) : s.clear c d = { s with flt := (s.clear c d).flt } := by
  unfold State.clear; dsimp only; split
  · rw [reportClear_flt]
  · split
    · rw [reportClear_flt]
    · rfl
@[simp] theorem clear_pending (s : State) (c d : Nat) : (s.clear c d).pending = s.pending := by rw [clear_flt]
@[simp] theorem clear_now (s : State) (c d : Nat) : (s.clear c d).now = s.now := by rw [clear_flt]
@[simp] theorem clear_bufs (s : State) (c d : Nat) : (s.clear c d).bufs = s.bufs := by rw [clear_flt]
@[simp] theorem clear_sup (s : State) (c d : Nat) : (s.clear c d).sup = s.sup := by rw [clear_flt]
@[simp] theorem clear_strap (s : State) (c d : Nat) : (s.clear c d).strap = s.strap := by rw [clear_flt]
@[simp] theorem clear_code (s : State) (c d : Nat) : (s.clear c d).code = s.code := by rw [clear_flt]
@[simp] theorem clear_img (s : State) (c d : Nat) : (s.clear c d).img = s.img := by rw [clear_flt]
@[simp] theorem clear_pace (s : State) (c d : Nat) : (s.clear c d).pace = s.pace := by rw [clear_flt]
@[simp] theorem clear_thr (s : State) (c d : Nat) : (s.clear c d).thr = s.thr := by rw [clear_flt]
@[simp] theorem clear_pat (s : State) (c d : Nat) : (s.clear c d).pat = s.pat := by rw [clear_flt]
@[simp] theorem clear_acq (s : State) (c d : Nat) : (s.clear c d).acq = s.acq := by rw [clear_flt]
@[simp] theorem clear_cls (s : State) (c d : Nat) : (s.clear c d).cls = s.cls := by rw [clear_flt]
@[simp] theorem clear_lrn (s : State) (c d : Nat) : (s.clear c d).lrn = s.lrn := by rw [clear_flt]
@[simp] theorem clear_trn (s : State) (c d : Nat) : (s.clear c d).trn = s.trn := by rw [clear_flt]
@[simp] theorem clear_seam (s : State) (c d : Nat) : (s.clear c d).seam = s.seam := by rw [clear_flt]
@[simp] theorem clear_res (s : State) (c d : Nat) : (s.clear c d).res = s.res := by rw [clear_flt]
@[simp] theorem clear_own (s : State) (c d : Nat) : (s.clear c d).own = s.own := by rw [clear_flt]
@[simp] theorem clear_out (s : State) (c d : Nat) : (s.clear c d).out = s.out := by rw [clear_flt]
@[simp] theorem clear_nv (s : State) (c d : Nat) : (s.clear c d).nv = s.nv := by rw [clear_flt]
@[simp] theorem clear_tst (s : State) (c d : Nat) : (s.clear c d).tst = s.tst := by rw [clear_flt]
@[simp] theorem clear_pow (s : State) (c d : Nat) : (s.clear c d).pow = s.pow := by rw [clear_flt]
@[simp] theorem clear_fast (s : State) (c d : Nat) : (s.clear c d).fast = s.fast := by rw [clear_flt]
@[simp] theorem clear_freeCtr (s : State) (c d : Nat) : (s.clear c d).freeCtr = s.freeCtr := by rw [clear_flt]

theorem judge_flt (s : State) (c d : Nat) (p : Bool) : s.judge c d p = { s with flt := (s.judge c d p).flt } := by
  unfold State.judge; split
  · exact raise_flt s c d
  · exact clear_flt s c d
@[simp] theorem judge_pending (s : State) (c d : Nat) (p : Bool) : (s.judge c d p).pending = s.pending := by rw [judge_flt]
@[simp] theorem judge_now (s : State) (c d : Nat) (p : Bool) : (s.judge c d p).now = s.now := by rw [judge_flt]
@[simp] theorem judge_bufs (s : State) (c d : Nat) (p : Bool) : (s.judge c d p).bufs = s.bufs := by rw [judge_flt]
@[simp] theorem judge_sup (s : State) (c d : Nat) (p : Bool) : (s.judge c d p).sup = s.sup := by rw [judge_flt]
@[simp] theorem judge_strap (s : State) (c d : Nat) (p : Bool) : (s.judge c d p).strap = s.strap := by rw [judge_flt]
@[simp] theorem judge_code (s : State) (c d : Nat) (p : Bool) : (s.judge c d p).code = s.code := by rw [judge_flt]
@[simp] theorem judge_img (s : State) (c d : Nat) (p : Bool) : (s.judge c d p).img = s.img := by rw [judge_flt]
@[simp] theorem judge_pace (s : State) (c d : Nat) (p : Bool) : (s.judge c d p).pace = s.pace := by rw [judge_flt]
@[simp] theorem judge_thr (s : State) (c d : Nat) (p : Bool) : (s.judge c d p).thr = s.thr := by rw [judge_flt]
@[simp] theorem judge_pat (s : State) (c d : Nat) (p : Bool) : (s.judge c d p).pat = s.pat := by rw [judge_flt]
@[simp] theorem judge_acq (s : State) (c d : Nat) (p : Bool) : (s.judge c d p).acq = s.acq := by rw [judge_flt]
@[simp] theorem judge_cls (s : State) (c d : Nat) (p : Bool) : (s.judge c d p).cls = s.cls := by rw [judge_flt]
@[simp] theorem judge_lrn (s : State) (c d : Nat) (p : Bool) : (s.judge c d p).lrn = s.lrn := by rw [judge_flt]
@[simp] theorem judge_trn (s : State) (c d : Nat) (p : Bool) : (s.judge c d p).trn = s.trn := by rw [judge_flt]
@[simp] theorem judge_seam (s : State) (c d : Nat) (p : Bool) : (s.judge c d p).seam = s.seam := by rw [judge_flt]
@[simp] theorem judge_res (s : State) (c d : Nat) (p : Bool) : (s.judge c d p).res = s.res := by rw [judge_flt]
@[simp] theorem judge_own (s : State) (c d : Nat) (p : Bool) : (s.judge c d p).own = s.own := by rw [judge_flt]
@[simp] theorem judge_out (s : State) (c d : Nat) (p : Bool) : (s.judge c d p).out = s.out := by rw [judge_flt]
@[simp] theorem judge_nv (s : State) (c d : Nat) (p : Bool) : (s.judge c d p).nv = s.nv := by rw [judge_flt]
@[simp] theorem judge_tst (s : State) (c d : Nat) (p : Bool) : (s.judge c d p).tst = s.tst := by rw [judge_flt]
@[simp] theorem judge_pow (s : State) (c d : Nat) (p : Bool) : (s.judge c d p).pow = s.pow := by rw [judge_flt]
@[simp] theorem judge_fast (s : State) (c d : Nat) (p : Bool) : (s.judge c d p).fast = s.fast := by rw [judge_flt]
@[simp] theorem judge_freeCtr (s : State) (c d : Nat) (p : Bool) : (s.judge c d p).freeCtr = s.freeCtr := by rw [judge_flt]

theorem judge2_flt (s : State) (c d : Nat) (p q : Bool) : s.judge2 c d p q = { s with flt := (s.judge2 c d p q).flt } := by
  unfold State.judge2; split
  · exact raise_flt s c d
  · split
    · exact clear_flt s c d
    · rfl
@[simp] theorem judge2_pending (s : State) (c d : Nat) (p q : Bool) : (s.judge2 c d p q).pending = s.pending := by rw [judge2_flt]
@[simp] theorem judge2_now (s : State) (c d : Nat) (p q : Bool) : (s.judge2 c d p q).now = s.now := by rw [judge2_flt]
@[simp] theorem judge2_bufs (s : State) (c d : Nat) (p q : Bool) : (s.judge2 c d p q).bufs = s.bufs := by rw [judge2_flt]
@[simp] theorem judge2_sup (s : State) (c d : Nat) (p q : Bool) : (s.judge2 c d p q).sup = s.sup := by rw [judge2_flt]
@[simp] theorem judge2_strap (s : State) (c d : Nat) (p q : Bool) : (s.judge2 c d p q).strap = s.strap := by rw [judge2_flt]
@[simp] theorem judge2_code (s : State) (c d : Nat) (p q : Bool) : (s.judge2 c d p q).code = s.code := by rw [judge2_flt]
@[simp] theorem judge2_img (s : State) (c d : Nat) (p q : Bool) : (s.judge2 c d p q).img = s.img := by rw [judge2_flt]
@[simp] theorem judge2_pace (s : State) (c d : Nat) (p q : Bool) : (s.judge2 c d p q).pace = s.pace := by rw [judge2_flt]
@[simp] theorem judge2_thr (s : State) (c d : Nat) (p q : Bool) : (s.judge2 c d p q).thr = s.thr := by rw [judge2_flt]
@[simp] theorem judge2_pat (s : State) (c d : Nat) (p q : Bool) : (s.judge2 c d p q).pat = s.pat := by rw [judge2_flt]
@[simp] theorem judge2_acq (s : State) (c d : Nat) (p q : Bool) : (s.judge2 c d p q).acq = s.acq := by rw [judge2_flt]
@[simp] theorem judge2_cls (s : State) (c d : Nat) (p q : Bool) : (s.judge2 c d p q).cls = s.cls := by rw [judge2_flt]
@[simp] theorem judge2_lrn (s : State) (c d : Nat) (p q : Bool) : (s.judge2 c d p q).lrn = s.lrn := by rw [judge2_flt]
@[simp] theorem judge2_trn (s : State) (c d : Nat) (p q : Bool) : (s.judge2 c d p q).trn = s.trn := by rw [judge2_flt]
@[simp] theorem judge2_seam (s : State) (c d : Nat) (p q : Bool) : (s.judge2 c d p q).seam = s.seam := by rw [judge2_flt]
@[simp] theorem judge2_res (s : State) (c d : Nat) (p q : Bool) : (s.judge2 c d p q).res = s.res := by rw [judge2_flt]
@[simp] theorem judge2_own (s : State) (c d : Nat) (p q : Bool) : (s.judge2 c d p q).own = s.own := by rw [judge2_flt]
@[simp] theorem judge2_out (s : State) (c d : Nat) (p q : Bool) : (s.judge2 c d p q).out = s.out := by rw [judge2_flt]
@[simp] theorem judge2_nv (s : State) (c d : Nat) (p q : Bool) : (s.judge2 c d p q).nv = s.nv := by rw [judge2_flt]
@[simp] theorem judge2_tst (s : State) (c d : Nat) (p q : Bool) : (s.judge2 c d p q).tst = s.tst := by rw [judge2_flt]
@[simp] theorem judge2_pow (s : State) (c d : Nat) (p q : Bool) : (s.judge2 c d p q).pow = s.pow := by rw [judge2_flt]
@[simp] theorem judge2_fast (s : State) (c d : Nat) (p q : Bool) : (s.judge2 c d p q).fast = s.fast := by rw [judge2_flt]
@[simp] theorem judge2_freeCtr (s : State) (c d : Nat) (p q : Bool) : (s.judge2 c d p q).freeCtr = s.freeCtr := by rw [judge2_flt]

theorem raiseFor_flt (s : State) (c d n : Nat) : s.raiseFor c d n = { s with flt := (s.raiseFor c d n).flt } := by
  unfold State.raiseFor; rw [raise_flt]
@[simp] theorem raiseFor_pending (s : State) (c d n : Nat) : (s.raiseFor c d n).pending = s.pending := by rw [raiseFor_flt]
@[simp] theorem raiseFor_now (s : State) (c d n : Nat) : (s.raiseFor c d n).now = s.now := by rw [raiseFor_flt]
@[simp] theorem raiseFor_bufs (s : State) (c d n : Nat) : (s.raiseFor c d n).bufs = s.bufs := by rw [raiseFor_flt]
@[simp] theorem raiseFor_sup (s : State) (c d n : Nat) : (s.raiseFor c d n).sup = s.sup := by rw [raiseFor_flt]
@[simp] theorem raiseFor_strap (s : State) (c d n : Nat) : (s.raiseFor c d n).strap = s.strap := by rw [raiseFor_flt]
@[simp] theorem raiseFor_code (s : State) (c d n : Nat) : (s.raiseFor c d n).code = s.code := by rw [raiseFor_flt]
@[simp] theorem raiseFor_img (s : State) (c d n : Nat) : (s.raiseFor c d n).img = s.img := by rw [raiseFor_flt]
@[simp] theorem raiseFor_pace (s : State) (c d n : Nat) : (s.raiseFor c d n).pace = s.pace := by rw [raiseFor_flt]
@[simp] theorem raiseFor_thr (s : State) (c d n : Nat) : (s.raiseFor c d n).thr = s.thr := by rw [raiseFor_flt]
@[simp] theorem raiseFor_pat (s : State) (c d n : Nat) : (s.raiseFor c d n).pat = s.pat := by rw [raiseFor_flt]
@[simp] theorem raiseFor_acq (s : State) (c d n : Nat) : (s.raiseFor c d n).acq = s.acq := by rw [raiseFor_flt]
@[simp] theorem raiseFor_cls (s : State) (c d n : Nat) : (s.raiseFor c d n).cls = s.cls := by rw [raiseFor_flt]
@[simp] theorem raiseFor_lrn (s : State) (c d n : Nat) : (s.raiseFor c d n).lrn = s.lrn := by rw [raiseFor_flt]
@[simp] theorem raiseFor_trn (s : State) (c d n : Nat) : (s.raiseFor c d n).trn = s.trn := by rw [raiseFor_flt]
@[simp] theorem raiseFor_seam (s : State) (c d n : Nat) : (s.raiseFor c d n).seam = s.seam := by rw [raiseFor_flt]
@[simp] theorem raiseFor_res (s : State) (c d n : Nat) : (s.raiseFor c d n).res = s.res := by rw [raiseFor_flt]
@[simp] theorem raiseFor_own (s : State) (c d n : Nat) : (s.raiseFor c d n).own = s.own := by rw [raiseFor_flt]
@[simp] theorem raiseFor_out (s : State) (c d n : Nat) : (s.raiseFor c d n).out = s.out := by rw [raiseFor_flt]
@[simp] theorem raiseFor_nv (s : State) (c d n : Nat) : (s.raiseFor c d n).nv = s.nv := by rw [raiseFor_flt]
@[simp] theorem raiseFor_tst (s : State) (c d n : Nat) : (s.raiseFor c d n).tst = s.tst := by rw [raiseFor_flt]
@[simp] theorem raiseFor_pow (s : State) (c d n : Nat) : (s.raiseFor c d n).pow = s.pow := by rw [raiseFor_flt]
@[simp] theorem raiseFor_fast (s : State) (c d n : Nat) : (s.raiseFor c d n).fast = s.fast := by rw [raiseFor_flt]
@[simp] theorem raiseFor_freeCtr (s : State) (c d n : Nat) : (s.raiseFor c d n).freeCtr = s.freeCtr := by rw [raiseFor_flt]

theorem clearAll_flt (s : State) (c : Nat) : s.clearAll c = { s with flt := (s.clearAll c).flt } := foldl_flt _ (fun s d => clear_flt s c d) _ s
@[simp] theorem clearAll_pending (s : State) (c : Nat) : (s.clearAll c).pending = s.pending := by rw [clearAll_flt]
@[simp] theorem clearAll_now (s : State) (c : Nat) : (s.clearAll c).now = s.now := by rw [clearAll_flt]
@[simp] theorem clearAll_bufs (s : State) (c : Nat) : (s.clearAll c).bufs = s.bufs := by rw [clearAll_flt]
@[simp] theorem clearAll_sup (s : State) (c : Nat) : (s.clearAll c).sup = s.sup := by rw [clearAll_flt]
@[simp] theorem clearAll_strap (s : State) (c : Nat) : (s.clearAll c).strap = s.strap := by rw [clearAll_flt]
@[simp] theorem clearAll_code (s : State) (c : Nat) : (s.clearAll c).code = s.code := by rw [clearAll_flt]
@[simp] theorem clearAll_img (s : State) (c : Nat) : (s.clearAll c).img = s.img := by rw [clearAll_flt]
@[simp] theorem clearAll_pace (s : State) (c : Nat) : (s.clearAll c).pace = s.pace := by rw [clearAll_flt]
@[simp] theorem clearAll_thr (s : State) (c : Nat) : (s.clearAll c).thr = s.thr := by rw [clearAll_flt]
@[simp] theorem clearAll_pat (s : State) (c : Nat) : (s.clearAll c).pat = s.pat := by rw [clearAll_flt]
@[simp] theorem clearAll_acq (s : State) (c : Nat) : (s.clearAll c).acq = s.acq := by rw [clearAll_flt]
@[simp] theorem clearAll_cls (s : State) (c : Nat) : (s.clearAll c).cls = s.cls := by rw [clearAll_flt]
@[simp] theorem clearAll_lrn (s : State) (c : Nat) : (s.clearAll c).lrn = s.lrn := by rw [clearAll_flt]
@[simp] theorem clearAll_trn (s : State) (c : Nat) : (s.clearAll c).trn = s.trn := by rw [clearAll_flt]
@[simp] theorem clearAll_seam (s : State) (c : Nat) : (s.clearAll c).seam = s.seam := by rw [clearAll_flt]
@[simp] theorem clearAll_res (s : State) (c : Nat) : (s.clearAll c).res = s.res := by rw [clearAll_flt]
@[simp] theorem clearAll_own (s : State) (c : Nat) : (s.clearAll c).own = s.own := by rw [clearAll_flt]
@[simp] theorem clearAll_out (s : State) (c : Nat) : (s.clearAll c).out = s.out := by rw [clearAll_flt]
@[simp] theorem clearAll_nv (s : State) (c : Nat) : (s.clearAll c).nv = s.nv := by rw [clearAll_flt]
@[simp] theorem clearAll_tst (s : State) (c : Nat) : (s.clearAll c).tst = s.tst := by rw [clearAll_flt]
@[simp] theorem clearAll_pow (s : State) (c : Nat) : (s.clearAll c).pow = s.pow := by rw [clearAll_flt]
@[simp] theorem clearAll_fast (s : State) (c : Nat) : (s.clearAll c).fast = s.fast := by rw [clearAll_flt]
@[simp] theorem clearAll_freeCtr (s : State) (c : Nat) : (s.clearAll c).freeCtr = s.freeCtr := by rw [clearAll_flt]

theorem holdsRound_flt (s : State) : s.holdsRound = { s with flt := (s.holdsRound).flt } := by
  unfold State.holdsRound; rw [foldl_flt _ (fun s h => clear_flt s h.code h.detail)]
@[simp] theorem holdsRound_pending (s : State) : (s.holdsRound).pending = s.pending := by rw [holdsRound_flt]
@[simp] theorem holdsRound_now (s : State) : (s.holdsRound).now = s.now := by rw [holdsRound_flt]
@[simp] theorem holdsRound_bufs (s : State) : (s.holdsRound).bufs = s.bufs := by rw [holdsRound_flt]
@[simp] theorem holdsRound_sup (s : State) : (s.holdsRound).sup = s.sup := by rw [holdsRound_flt]
@[simp] theorem holdsRound_strap (s : State) : (s.holdsRound).strap = s.strap := by rw [holdsRound_flt]
@[simp] theorem holdsRound_code (s : State) : (s.holdsRound).code = s.code := by rw [holdsRound_flt]
@[simp] theorem holdsRound_img (s : State) : (s.holdsRound).img = s.img := by rw [holdsRound_flt]
@[simp] theorem holdsRound_pace (s : State) : (s.holdsRound).pace = s.pace := by rw [holdsRound_flt]
@[simp] theorem holdsRound_thr (s : State) : (s.holdsRound).thr = s.thr := by rw [holdsRound_flt]
@[simp] theorem holdsRound_pat (s : State) : (s.holdsRound).pat = s.pat := by rw [holdsRound_flt]
@[simp] theorem holdsRound_acq (s : State) : (s.holdsRound).acq = s.acq := by rw [holdsRound_flt]
@[simp] theorem holdsRound_cls (s : State) : (s.holdsRound).cls = s.cls := by rw [holdsRound_flt]
@[simp] theorem holdsRound_lrn (s : State) : (s.holdsRound).lrn = s.lrn := by rw [holdsRound_flt]
@[simp] theorem holdsRound_trn (s : State) : (s.holdsRound).trn = s.trn := by rw [holdsRound_flt]
@[simp] theorem holdsRound_seam (s : State) : (s.holdsRound).seam = s.seam := by rw [holdsRound_flt]
@[simp] theorem holdsRound_res (s : State) : (s.holdsRound).res = s.res := by rw [holdsRound_flt]
@[simp] theorem holdsRound_own (s : State) : (s.holdsRound).own = s.own := by rw [holdsRound_flt]
@[simp] theorem holdsRound_out (s : State) : (s.holdsRound).out = s.out := by rw [holdsRound_flt]
@[simp] theorem holdsRound_nv (s : State) : (s.holdsRound).nv = s.nv := by rw [holdsRound_flt]
@[simp] theorem holdsRound_tst (s : State) : (s.holdsRound).tst = s.tst := by rw [holdsRound_flt]
@[simp] theorem holdsRound_pow (s : State) : (s.holdsRound).pow = s.pow := by rw [holdsRound_flt]
@[simp] theorem holdsRound_fast (s : State) : (s.holdsRound).fast = s.fast := by rw [holdsRound_flt]
@[simp] theorem holdsRound_freeCtr (s : State) : (s.holdsRound).freeCtr = s.freeCtr := by rw [holdsRound_flt]

/-! ### What stands -/

@[simp] theorem pinsUp_stands (s : State) (c d : Nat) : s.pinsUp.flt.stands c d = s.flt.stands c d := by
  unfold State.pinsUp; split
  · rfl
  · split <;> rfl

@[simp] theorem reportRaise_stands (s : State) (i : FaultInst) (c d : Nat) : (s.reportRaise i).flt.stands c d = s.flt.stands c d := rfl

@[simp] theorem reportClear_stands (s : State) (i : FaultInst) (c d : Nat) : (s.reportClear i).flt.stands c d = s.flt.stands c d := rfl

@[simp] theorem reportClear_unlisted (s : State) (i : FaultInst) : (s.reportClear i).flt.unlisted = s.flt.unlisted := rfl

@[simp] theorem reportClear_overflow (s : State) (i : FaultInst) : (s.reportClear i).flt.overflow = s.flt.overflow := rfl

@[simp] theorem log_stands (s : State) (k : Nat) (p : List Byte) (c d : Nat) : (s.log k p).flt.stands c d = s.flt.stands c d := rfl

@[simp] theorem setPins_stands (s : State) (v : Bool) (l : BitVec 3) (c d : Nat) : (s.setPins v l).flt.stands c d = s.flt.stands c d := rfl

@[simp] theorem parkPins_stands (s : State) (c d : Nat) : s.parkPins.flt.stands c d = s.flt.stands c d := rfl

/-- An instance of 0x542 takes nothing away. -/
theorem raiseOverflow_stands_of (s : State) (k c d : Nat) (h : s.flt.stands c d = true) : (s.raiseOverflow k).flt.stands c d = true := by
  unfold State.raiseOverflow; split
  · exact h
  · rw [reportRaise_stands]
    simp only [Faults.stands, Faults.all, List.any_append, List.map_append, Bool.or_eq_true] at h ⊢; tauto

/-- The class bitmap and the pins aside, a raised instance stands. -/
theorem raiseInst_stands (s : State) (i : FaultInst) : (s.raiseInst i).flt.stands i.code i.detail = true := by
  unfold State.raiseInst; split
  · assumption
  · split
    · rw [pinsUp_stands, reportRaise_stands]; simp [Faults.stands, Faults.all]
    · rw [pinsUp_stands]; exact raiseOverflow_stands_of _ _ _ _ (by simp [Faults.stands, Faults.all])

@[simp] theorem raise_stands (s : State) (c d : Nat) : (s.raise c d).flt.stands c d = true := raiseInst_stands s ⟨c, d, false⟩

@[simp] theorem raiseHigh_stands (s : State) (c d : Nat) : (s.raiseHigh c d).flt.stands c d = true := raiseInst_stands s ⟨c, d, true⟩

@[simp] theorem raiseFor_stands (s : State) (c d n : Nat) : (s.raiseFor c d n).flt.stands c d = true := raise_stands _ c d

/-- Raising another instance leaves what stands standing. -/
theorem raiseInst_stands_of (s : State) (i : FaultInst) (c d : Nat) (h : s.flt.stands c d = true) :
    (s.raiseInst i).flt.stands c d = true := by
  unfold State.raiseInst; split
  · exact h
  · split
    · rw [pinsUp_stands, reportRaise_stands]
      simp only [Faults.stands, Faults.all, List.any_append, Bool.or_eq_true] at h ⊢; tauto
    · rw [pinsUp_stands]
      refine raiseOverflow_stands_of _ _ _ _ ?_
      simp only [Faults.stands, Faults.all, List.any_append, Bool.or_eq_true] at h ⊢; tauto

/-- A cleared instance no longer stands, where no instance stands unlisted. -/
theorem clear_stands (s : State) (c d : Nat) (hu : s.flt.unlisted = []) (ho : c ≠ 0x542) : (s.clear c d).flt.stands c d = false := by
  unfold State.clear; dsimp only
  have hc : (c == 0x542) = false := by simpa using ho
  split
  · rw [reportClear_stands]
    simp only [Faults.stands, Faults.all, hu, List.append_nil, List.any_append, List.any_map, List.any_filter, Bool.or_eq_false_iff]
    refine ⟨?_, ?_⟩
    · rw [List.any_eq_false]; intro x _; simp; tauto
    · rw [List.any_eq_false]; intro x _; simp [Ne.symm ho]
  · rename_i h
    rw [if_neg (by simp [hc])]
    simp only [Faults.stands, Faults.all, hu, List.filter_nil, List.append_nil, List.any_append, List.any_map, Bool.or_eq_false_iff]
    refine ⟨?_, ?_⟩
    · rw [List.any_eq_false]; intro x hx; exact List.find?_eq_none.mp h x hx
    · rw [List.any_eq_false]; intro x _; simp [Ne.symm ho]

/-! ### One change of the fault table leaves the other instances alone -/

/-- No instance of this code and detail stands unlisted. -/
def Faults.free (f : Faults) (c d : Nat) : Prop := ∀ i ∈ f.unlisted, ¬ (i.code = c ∧ i.detail = d)

theorem Faults.free_of_listed {f : Faults} (h : f.unlisted = []) (c d : Nat) : f.free c d := by
  intro i hi; rw [h] at hi; cases hi

@[simp] theorem pinsUp_unlisted (s : State) : s.pinsUp.flt.unlisted = s.flt.unlisted := by
  unfold State.pinsUp; split
  · rfl
  · split <;> rfl

@[simp] theorem reportRaise_unlisted (s : State) (i : FaultInst) : (s.reportRaise i).flt.unlisted = s.flt.unlisted := rfl

@[simp] theorem raiseOverflow_unlisted (s : State) (c : Nat) : (s.raiseOverflow c).flt.unlisted = s.flt.unlisted := by
  unfold State.raiseOverflow; split <;> rfl

/-- Raising an instance leaves the others as they stand, but for 0x542. -/
theorem raiseInst_stands_ne (s : State) (i : FaultInst) (c d : Nat) (h : ¬ (i.code = c ∧ i.detail = d)) (hc : c ≠ 0x542) :
    (s.raiseInst i).flt.stands c d = s.flt.stands c d := by
  have hi : (i.code == c && i.detail == d) = false := by simpa using h
  unfold State.raiseInst; split
  · rfl
  · split
    · rw [pinsUp_stands, reportRaise_stands]
      simp [Faults.stands, Faults.all, hi]
    · rw [pinsUp_stands]
      unfold State.raiseOverflow; split
      · simp [Faults.stands, Faults.all, hi]
      · have h5 : (0x542 == c) = false := by simpa using Ne.symm hc
        rw [reportRaise_stands]; simp [Faults.stands, Faults.all, hi, h5]

theorem raiseInst_free (s : State) (i : FaultInst) (c d : Nat) (h : ¬ (i.code = c ∧ i.detail = d)) (hf : s.flt.free c d) :
    (s.raiseInst i).flt.free c d := by
  unfold State.raiseInst; split
  · exact hf
  · split
    · intro j hj; rw [pinsUp_unlisted] at hj; exact hf j hj
    · intro j hj; rw [pinsUp_unlisted, raiseOverflow_unlisted] at hj
      rcases List.mem_append.mp hj with h1 | h1
      · exact hf j h1
      · rw [List.mem_singleton.mp h1]; exact h

/-- Clearing an instance leaves the others as they stand. -/
theorem clear_stands_ne (s : State) (c d c' d' : Nat) (h : ¬ (c = c' ∧ d = d')) : (s.clear c d).flt.stands c' d' = s.flt.stands c' d' := by
  have key : ∀ l : List FaultInst, (l.filter fun j => !(j.code == c && j.detail == d)).any (fun i => i.code == c' && i.detail == d') =
      l.any fun i => i.code == c' && i.detail == d' := by
    intro l
    rw [List.any_filter]
    congr 1; funext j
    by_cases e : j.code = c' ∧ j.detail = d'
    · obtain ⟨rfl, rfl⟩ := e
      have : (j.code == c && j.detail == d) = false := by simp; intro a b; exact h ⟨a.symm, b.symm⟩
      simp [this]
    · have : (j.code == c' && j.detail == d') = false := by simpa using e
      simp [this]
  unfold State.clear; dsimp only
  split
  · rw [reportClear_stands]
    simp only [Faults.stands, Faults.all, List.any_append, key]
  · split
    · rename_i hc
      simp only [Bool.and_eq_true, beq_iff_eq] at hc
      rw [reportClear_stands]
      simp only [Faults.stands, Faults.all, List.any_append]
      congr 1
      rw [List.any_map, List.any_map, List.any_filter]
      congr 1; funext x
      by_cases e : x = d
      · subst e
        have : (0x542 == c' && x == d') = false := by simp; intro a b; exact h ⟨hc.1.trans a, b⟩
        simp [this]
      · simp [e]
    · simp only [Faults.stands, Faults.all, List.any_append, key]

theorem clear_free (s : State) (c d c' d' : Nat) (hf : s.flt.free c' d') : (s.clear c d).flt.free c' d' := by
  unfold State.clear; dsimp only
  split
  · exact hf
  · split
    · exact hf
    · intro j hj; exact hf j (List.mem_of_mem_filter hj)

/-- A cleared instance no longer stands, where it does not stand unlisted. -/
theorem clear_stands_free (s : State) (c d : Nat) (hf : s.flt.free c d) (ho : c ≠ 0x542) : (s.clear c d).flt.stands c d = false := by
  have hu : s.flt.unlisted.any (fun i => i.code == c && i.detail == d) = false := by
    rw [List.any_eq_false]; intro i hi; simpa using hf i hi
  unfold State.clear; dsimp only
  have hc : (c == 0x542) = false := by simpa using ho
  split
  · rw [reportClear_stands]
    simp only [Faults.stands, Faults.all, List.any_append, List.any_map, List.any_filter, Bool.or_eq_false_iff, hu, and_true]
    refine ⟨?_, ?_⟩
    · rw [List.any_eq_false]; intro x _; simp; tauto
    · rw [List.any_eq_false]; intro x _; simp [Ne.symm ho]
  · rename_i h
    rw [if_neg (by simp [hc])]
    simp only [Faults.stands, Faults.all, List.any_append, List.any_map, List.any_filter, Bool.or_eq_false_iff]
    refine ⟨⟨?_, ?_⟩, ?_⟩
    · rw [List.any_eq_false]; intro x hx; exact List.find?_eq_none.mp h x hx
    · rw [List.any_eq_false]; intro x _; simp; tauto
    · rw [List.any_eq_false]; intro x _; simp [Ne.symm ho]

/-- A judged instance stands exactly when its condition holds. -/
theorem judge_stands (s : State) (c d : Nat) (p : Bool) (hf : s.flt.free c d) (ho : c ≠ 0x542) : (s.judge c d p).flt.stands c d = p := by
  unfold State.judge; cases p
  · exact clear_stands_free s c d hf ho
  · exact raise_stands s c d

theorem judge_stands_ne (s : State) (c d : Nat) (p : Bool) (c' d' : Nat) (h : ¬ (c = c' ∧ d = d')) (hc : c' ≠ 0x542) :
    (s.judge c d p).flt.stands c' d' = s.flt.stands c' d' := by
  unfold State.judge; split
  · exact raiseInst_stands_ne s ⟨c, d, false⟩ c' d' h hc
  · exact clear_stands_ne s c d c' d' h

theorem judge_free (s : State) (c d : Nat) (p : Bool) (c' d' : Nat) (h : ¬ (c = c' ∧ d = d')) (hf : s.flt.free c' d') :
    (s.judge c d p).flt.free c' d' := by
  unfold State.judge; split
  · exact raiseInst_free s ⟨c, d, false⟩ c' d' h hf
  · exact clear_free s c d c' d' hf

end Sys2Proof.Machine
end

