-- ==== Sys2Proof/Machine/Pins.lean ====
section
/-!
DEFINITION. What every output pin of Table 2-2 shows, from the state: its domain (R28), the owner's gating (R29), the codes that leave it
unused (Table 2-7), test access (R470), and the chapter that owns its function.
-/
namespace Sys2Proof.Machine

/-- The output pins of Table 2-2, and the outputs among the bidirectional groups that have a reset state. -/
inductive Pin
  | dgate (t : TapId)
  | pmicEn
  | tdo
  | threadTx (p : Nat)
  | peerTx (x : CutSide)
  | cutOut (x : CutSide)
  | tbias
  | sb (k : Nat)
  | gate (p : Pair)
  | bgntN
  | refRes
  | tripN
  | cap (k : Nat)
  | safeN
  | fault (i : Nat)
  | canTx (b : Bool)
  | canStb (b : Bool)
  | sgTx
  | phyRstN
  | memoryReset
  | ospiCsN
  | ospiRstN
  | mramCsN
  | mramWpN
  deriving DecidableEq, Repr

/-- What a pin shows: high impedance, a level, a voltage in V, a gate driven as its controller says, a coded period, a link that carries
symbols, or what the boundary register holds for it. -/
inductive PinLevel
  | hiZ
  | low
  | high
  | volts (v : Rat)
  | gated (g : GateDrive)
  | tap (g : Dgate)
  | coded (c : CapCoding)
  | link
  | scanned
  deriving DecidableEq, Repr

/-- A level from a Bool; true is high. -/
def levelOf (b : Bool) : PinLevel := if b then .high else .low

/-- The pins that boundary scan covers (Table 19-3): A33, D33 and D18, the thread, PEER and SGMII pairs. -/
def Pin.scans : Pin → Bool
  | .dgate _ | .tdo | .tbias | .sb _ | .gate _ | .refRes | .memoryReset => false
  | _ => true

/-- The domain of a pin (Table 2-2). -/
def Pin.domain : Pin → Nat
  | .dgate _ | .pmicEn | .tdo | .cutOut _ | .safeN | .fault _ | .mramCsN | .mramWpN => 0
  | .sb _ | .gate _ | .bgntN | .refRes => 1
  | .tbias | .tripN | .cap _ => 2
  | .ospiCsN | .ospiRstN => 3
  | .threadTx p => if p < 4 then 4 else 5
  | .peerTx _ | .canTx _ | .canStb _ | .sgTx | .phyRstN => 6
  | .memoryReset => 7

/-- A domain is powered: P0 AON from its power-up, P1 from the codes to SHIP, the others as switched (R60, R61); P7 too in
self-refresh. -/
def State.powered (s : State) (d : Nat) : Bool :=
  match d with
  | 0 => !(s.sup.dev == DevState.off)
  | 1 => s.sup.p1
  | 7 => s.domainOn 7 || s.sup.p7SelfRefresh
  | _ => s.domainOn d

/-- This device transmits on a thread port: idles when it has nothing else to send, from a port of the variant once rounds run, or in
loop-back mode, and not with a cut latched (R29, R106, R475). -/
def State.threadDriven (s : State) (p : Nat) : Bool :=
  !s.own.cut &&
    ((s.pace.running && (s.portEnd p).isSome) || (s.tst.mode == TestMode.loopback && decide (1 ≤ s.tst.phase)))

/-- A pin's function is enabled, and shows this; before, its reset state (Table 2-2). -/
def State.pinFunction (s : State) : Pin → PinLevel
  | .dgate t =>
    let x := match t with | .a => s.sup.tapA | .b => s.sup.tapB | .c => s.sup.tapC
    .tap x.dgate
  | .pmicEn => levelOf s.sup.pmicEn
  | .tdo => .hiZ
  | .threadTx p => if s.threadDriven p then .link else .hiZ
  | .peerTx _ => if s.pace.running && s.peerOn && !s.flt.peerStopped then .link else .hiZ
  | .cutOut x =>
    let drawn := match s.own.cutting with | some c => (match x with | .up => c.up | .down => c.down) | none => false
    if drawn then .low else .hiZ
  | .tbias => if s.rounds && (decide (62 ≤ s.pace.stitch) || decide (s.pace.stitch ≤ 1)) then .volts (9 / 5) else .hiZ
  | .sb k => if s.sbPin k then .high else .low
  | .gate p => if s.drivesPath then .gated (match p with | .main => s.res.gateMain | .reserve => s.res.gateRes) else .hiZ
  | .bgntN =>
    let pulse := match s.res.pulseEnd with | some e => decide (s.now < e) | none => false
    if s.drivesPath then levelOf (!pulse) else .hiZ
  | .refRes => if s.drivesPath then .volts (if s.refHeld then 0 else s.res.ref) else .hiZ
  | .tripN => match s.tripN with | some b => levelOf b | none => .hiZ
  | .cap k =>
    match s.capPin k with
    | .undriven => .hiZ
    | .static => .low
    | c => .coded c
  | .safeN => levelOf s.flt.safeN
  | .fault i => levelOf (s.flt.pin.toNat.testBit i)
  | .canTx b =>
    let c := if b then s.out.canB else s.out.canA
    if !s.canStandby && !c.busOff && !(c.first.idle && c.second.idle) then .link else .high
  | .canStb _ => levelOf s.canStandby
  | .sgTx => if s.code.ethernet && s.out.phyOn then .link else .hiZ
  | .phyRstN => levelOf s.out.phyOn
  | .memoryReset => levelOf s.lrn.ddr
  | .ospiCsN => levelOf (decide (s.lrn.norHeld = 0))
  | .ospiRstN => levelOf (!(s.sup.dev == DevState.boot) || s.sup.bootStep == BootStep.imageRun)
  | .mramCsN => levelOf (s.nv.writing.isNone && s.bufs.writing.isNone)
  | .mramWpN => levelOf (s.nv.writing.isSome || s.bufs.writing.isSome)

/-- What a pin shows: high impedance with its domain off (R28); under an EXTEST-class instruction or HIGHZ, what the TAP makes of the pins it
covers (R470). -/
def State.pinLevel (s : State) (p : Pin) : PinLevel :=
  if !s.powered p.domain then .hiZ
  else if p.scans && s.tst.pinsBy == PinControl.highz then .hiZ
  else if p.scans && s.tst.pinsBy == PinControl.scan then .scanned
  else s.pinFunction p

end Sys2Proof.Machine
end

