-- ==== Sys2Proof/Tests/Slice0.lean ====
section
/-!
SUPPORT. Tests: ill-formed operands are refused by WellFormed; for every statement of the certificates a state and operands that meet
its hypotheses, clause by clause; and single steps on small states.
-/
namespace Sys2Proof.Tests

open Sys2Proof.Machine

set_option maxRecDepth 20000
set_option synthInstance.maxSize 4096
set_option synthInstance.maxHeartbeats 400000

/-! ### Ill-formed operands -/

theorem test_wf_straps : StrapSamples.wf ⟨[true], [], [], [], [], [], false, false⟩ = false := by decide
theorem test_wf_codes : CodeReads.wf ⟨[0], [0]⟩ = false ∧
    CodeReads.wf ⟨List.replicate 8 65521, List.replicate 8 0⟩ = false := by decide

/-- A snap in which every front-end reads zero. -/
def snap0 : SnapLatch :=
  { ishA := 0, ishB := 0, si := 0, vpkA := 0, vpkB := 0, vmain := 0, tclIn := 0, tclOut := 0, st1 := 0, st2 := 0
    sc := List.replicate 8 0, stack := 0, vcomb := 0, vtap := [0, 0, 0], itap := [0, 0, 0], die := [0, 0, 0, 0], vref := 0, refRes := 0 }

theorem test_wf_snap : snap0.wf = true ∧ SnapLatch.wf { snap0 with ishA := 8388608 } = false ∧
    SnapLatch.wf { snap0 with vmain := 65536 } = false ∧ SnapLatch.wf { snap0 with sc := [] } = false := by decide
theorem test_wf_samples : ShuntSample.wf ⟨8388608, 0, 0, 0⟩ = false ∧ SentFrame.wf ⟨0, 0, List.replicate 7 0, 0, 0⟩ = false := by decide

/-- The code groups of a frame between its start code group and EOF. -/
def frame (sof : CodeGroup) (l : List Byte) : List CodeGroup := [sof] ++ l.map CodeGroup.d ++ [eof]

/-- A node frame with its CRC-24 from a port. -/
def rx (port : Nat) (body : List Byte) (t : Ns) : ThreadRx := ⟨port, frame sofN (body ++ beBytes 3 (crc24 body)), t⟩

/-- The same frame with a code group in it that 8b/10b does not have. -/
def broken (x : ThreadRx) : ThreadRx := { x with groups := x.groups.take 1 ++ [.bad] ++ x.groups.drop 1 }

theorem test_wf_rx : (rx 8 [] 0).wf = false ∧ ThreadRx.wf ⟨0, [.k 32 0], 0⟩ = false := by decide

/-- Levels at which nothing is asked of the device. -/
def quiet : StitchLevels := ⟨0, false, false, true, [], false⟩
theorem test_wf_commands :
    ([.domainSwitchOn 1, .domainSwitchOn 18, .startupSelfTest ⟨[13], []⟩, .startupSelfTest ⟨[], [8]⟩, .codeReread 8 0, .codeReread 0 65521,
      .commandResend 256, .nodeLost 256, .ringReversal 8, .bert 8, .prbs31End ⟨8, .port .a, 0, 0, 0⟩, .bastingFormed 0, .warmupEnd 4105,
      .lpddr5EccError true (.weightsLive 17), .tcmEccError (.cell 0), .pinReadbackMismatch (.cap 6), .breqEdge 2 0,
      .stitchStart ⟨0, { quiet with vset := 16 }⟩, .keyProg (.imageSlot 4 0), .keyProg (.dieIdentity (2 ^ 64)), .keyProg (.returnHash (2 ^ 256)),
      .keyProg (.domainKey (2 ^ 128)), .fuseRead (.imageSlot 4)] : List Instr).all (fun c => !c.wf) = true := by decide

/-! ### A small device: one ring of one node between two seats, a pack of four groups and two store cells -/

/-- The node of the pattern. -/
def patNode : PatNode := ⟨7, 1, 4, 1, 0⟩

/-- The pattern variant. -/
def vari : Variant := ⟨true, [⟨0, [patNode]⟩], 0⟩

/-- Fields with the values that the statements need. -/
def fields : ImageFields :=
  { ImageFields.zero with
    store := { StoreFields.zero with cells := 2 }
    burst := { BurstFields.zero with power := [some 100, none], maxDuration := 100 }
    own := { OwnFields.zero with seats := 3, beatMiss := 3, listenMax := 100, healthGrace := 100 } }

/-- Seat 0 in RUN as owner, with every domain on. -/
def run : State :=
  { State.reset with
    sup := { Supply.cold with
      dev := .run, domains := [2, 3, 4, 5, 6, 7, 8, 9, 10, 11, 12, 13, 14, 15, 16, 17], p1 := true, pmicEn := true, pg0 := true, pg1 := true
      pg2 := true, pg3 := true, handshake := true, storeFn := true, bootStep := .imageRun }
    code := { Codes.cold with levels := [some 0, some 1, some 1, some 0, some 0, some 5, some 0, some 0] }
    img := { ImageRun.none_ with variant := some vari, storeServed := true, burstsOn := true, digest := List.replicate 32 1, slot := 0, f := fields }
    pace := { Pace.cold with enabled := true, running := true, round := 1000 }
    thr := vari.threads
    own := { Ownership.cold with role := .owner, caps := true, pins := true }
    lrn := { Learned.empty with ddr := true, loaded := true }
    tst := { TestPort.cold with passed := true } }

/-- The same device in a boot, its rails good. -/
def boot : State := { run with sup := { run.sup with dev := .boot }, pace := Pace.cold }

/-- The same device at a stitch. -/
def atStitch (k : Nat) : State := { run with pace := { run.pace with stitch := k } }

theorem test_run : run.rounds = true ∧ run.attached = true ∧ run.isHead = true ∧ run.twoSeats = true ∧ run.storeCells = 2 ∧
    run.learnedOn = true := by decide

/-! ### Steps, fuses and invariants -/

theorem witness_StepRunsTheFrontCommand : ({ run with pending := [.bypass, .idcode] } : State).pending = .bypass :: [.idcode] ∧
    run.pending = [] := by decide

/-- A part in RETURN. -/
def returned : State := { run with nv := { run.nv with fuses := run.nv.fuses.destroyed } }

theorem witness_ReturnHoldsNoKey : returned.nv.fuses.keyless ∧ returned.nv.fuses.lifecycle = .return_ ∧ step returned = .next returned :=
  ⟨fun _ => by decide, by decide, rfl⟩

/-- A seat that is cut. -/
def cutSeat : State := { run with own := { run.own with cut := true } }

theorem witness_CutLatchClearsOnlyAtADomainStart :
    (cutSeat.own.cut = true ∧ ¬ (cutSeat.sup.dev = .off)) ∧
    (({ State.reset with own := { Ownership.cold with cut := true } } : State).own.cut = true ∧ State.reset.sup.dev = .off) ∧
    ({ cutSeat with sup := { cutSeat.sup with dev := .park, resume := some .parkWake } } : State).sup.resume ≠ none := by decide

theorem witness_ConfigurationIsFixedInOperation : run.sup.dev ≠ .off ∧ run.sup.dev ≠ .boot ∧ run.sup.resume = none ∧
    Instr.bypass ≠ .aonLost := by decide

/-- The device in SHIP. -/
def ship : State := { State.reset with sup := { Supply.cold with dev := .ship } }

theorem witness_ShipEndsOnlyByTheCharger :
    (ship.sup.dev = .ship ∧ ship.sup.resume = none ∧ Instr.shipExit 0 ≠ .aonLost) ∧
    ({ ship with sup := { ship.sup with resume := some .ship } } : State).sup.resume = some .ship ∧
    ∃ u, exec .aonLost ship = .next u := ⟨by decide, by decide, _, rfl⟩

/-! ### Supply, boot and shut-down -/

theorem witness_TapsAreClassifiedAndShared : run.tapsWatched = true ∧ (∀ k : TapId, run.code.tapFitted k = true) ∧
    run.code.sharing = true ∧ run.pace.running = true ∧ run.allListed ∧
    (∃ t, exec (.tapAbsent .b) { run with sup := { run.sup with tapA := ⟨.present, false, .regulating⟩ } } = .next t ∧ t.tapsPresent = 1) ∧
    1000000000 ≤ ({ run.sup with shareA := 1000000000 } : Supply).shareA ∧ 1000000000 ≤ ({ run.sup with shareOk := 1000000000 } : Supply).shareOk ∧
    ¬ (1000000000 ≤ run.sup.shareA ∨ 1000000000 ≤ run.sup.shareB ∨ 1000000000 ≤ run.sup.shareC) ∧ run.sup.shareOk < 1000000000 :=
  ⟨by decide, by intro k; cases k <;> decide, by decide, by decide, by unfold State.allListed; decide, ⟨_, rfl, by decide⟩, by decide⟩

/-- A boot that waits for its rails. -/
def awaiting : State := { boot with sup := { boot.sup with bootStep := .codesRead, handshake := false, pg3 := false } }

theorem witness_PmicHandshakeEndsOrCounts :
    (awaiting.sup.pmicEn = true ∧ awaiting.sup.dev = .boot ∧ awaiting.sup.bootStep = .codesRead ∧ awaiting.sup.handshake = false ∧
      (awaiting.sup.setPg .pg3 true).allPg = true ∧ (awaiting.sup.setPg .pg2 true).allPg = false) ∧
    (awaiting.sup.attempts + 1 < 3 ∧ 3 ≤ ({ awaiting.sup with attempts := 2 } : Supply).attempts + 1) ∧
    (let s : State := { awaiting with sup := { awaiting.sup with pmicEn := false } }
     s.sup.pmicEn = false ∧ s.sup.held112 = false ∧ s.sup.bootLoss = false) := by decide

/-- A boot whose last domain is still off. -/
def oneLeft : State := { boot with sup := { boot.sup with bootStep := .pmicUp, domains := (List.range 15).map fun i => i + 2 } }

theorem witness_DomainsSwitchAndRailsAreLost :
    (oneLeft.sup.pmicEn = true ∧ oneLeft.sup.handshake = true ∧ 17 ∈ oneLeft.wantedDomains ∧ 17 ∉ oneLeft.sup.domains ∧
      (∀ e ∈ oneLeft.wantedDomains, e < 17 → e ∈ oneLeft.sup.domains) ∧ (∀ e ∈ oneLeft.wantedDomains, e ≠ 17 → e ∈ oneLeft.sup.domains) ∧
      oneLeft.sup.dev = .boot ∧ oneLeft.sup.bootStep = .pmicUp) ∧
    (let s : State := { boot with sup := { boot.sup with bootStep := .pmicUp, domains := [] } }
     2 ∈ s.wantedDomains ∧ 2 ∉ s.sup.domains ∧ (∀ e ∈ s.wantedDomains, e < 2 → e ∈ s.sup.domains) ∧
     (∃ e ∈ s.wantedDomains, e ≠ 2 ∧ e ∉ s.sup.domains)) ∧
    (boot.sup.dev = .boot ∧ boot.sup.bootKind ≠ .parkCheck ∧ boot.sup.parkCheck = false ∧ boot.sup.pg2Lost = false ∧ boot.trn.shed < 3 ∧
      boot.sup.damping = false) ∧
    (PgLine.pg0 ≠ .pg2 ∧ run.sup.dev = .run ∧ run.sup.handshake = true) ∧
    ({ run with sup := { run.sup with pg2Lost := true } } : State).sup.pg2Lost = true := by decide

/-- The start of a cold boot, with the straps latched. -/
def strapped : State := { boot with sup := { Supply.cold with dev := .boot, bootStep := .strapsLatched } }

theorem witness_ColdBootLatchesStrapsAndCodes :
    State.reset.sup.dev = .off ∧
    (let s : State := { State.reset with sup := { Supply.cold with dev := .boot } }
     s.sup.dev = .boot ∧ s.sup.bootStep = .aonUp ∧ s.sup.bootKind = .cold) ∧
    (let x : StrapSamples := ⟨[true, true, true, false, false], List.replicate 5 false, List.replicate 5 true, List.replicate 5 false,
        List.replicate 5 false, List.replicate 5 false, false, false⟩
     x.wf = true ∧ unanimous x.seat1 = false) ∧
    (strapped.sup.dev = .boot ∧ strapped.sup.bootStep = .strapsLatched ∧ strapped.tst.hold = false ∧
      strapped.nv.fuses.lifecycle ≠ .field ∧ latchCode 0 32000 0 = none) := by decide

/-- A boot that is to test itself, and one that is to select its image. -/
def toTest : State := { boot with sup := { boot.sup with bootStep := .domainsOn } }
@[inherit_doc toTest] def toSelect : State := { boot with sup := { boot.sup with bootStep := .selfTested } }

theorem witness_StartUpTestsAndMemory :
    (toTest.sup.dev = .boot ∧ toTest.sup.bootStep = .domainsOn) ∧
    (run.domainOn 7 = true ∧ 9 * run.regions.sum ≤ 8 * (⟨true, 2 ^ 40⟩ : DdrInit).installed ∧
      8 * (⟨true, 0⟩ : DdrInit).installed < 9 * run.regions.sum ∧ (⟨false, 0⟩ : DdrInit).ok = false) ∧
    (let s : State := { run with lrn := { run.lrn with loaded := false } }
     s.lrn.ddr = true ∧ s.lrn.loaded = false ∧ s.lrn.disabled = false ∧ s.lrn.disabledCold = false ∧ s.matchingCkpt = none ∧
     s.nv.ckpt0 = none) := by decide

theorem witness_ImageSelectTakesTheFirstSoundSlot :
    toSelect.sup.dev = .boot ∧ toSelect.sup.bootStep = .selfTested ∧ toSelect.tst.mode = .none_ ∧ toSelect.slotReason none ≠ 0 := by decide

theorem witness_RoundZeroAndWarmResume :
    (boot.sup.dev = .boot ∧ boot.sup.bootStep = .imageRun ∧ boot.tst.mode = .none_) ∧
    (({ run with sup := { run.sup with dev := .park, resume := some .parkWake } } : State).sup.resume = some .parkWake) ∧
    (let s : State := { boot with sup := { boot.sup with bootLoss := true, tapA := ⟨.present, false, .regulating⟩ } }
     s.sup.dev = .boot ∧ s.codesLatched = true ∧ s.sup.held112 = false ∧ s.sup.bootLoss = true ∧ 1 ≤ s.tapsPresent) := by decide

/-- A shut-down in progress. -/
def shut (k : ShutKind) (over_ frozen returned : Bool) : Shutdown := ⟨k, 0, over_, frozen, returned, none, false, false⟩

/-- In GRACE with a shut-down. -/
def inGrace (h : Shutdown) : State := { run with sup := { run.sup with dev := .grace, shut := some h } }

theorem witness_GraceBeginsAndEnds : run.sup.dev = .run ∧
    (∀ k : ShutKind, (inGrace (shut k false false false)).sup.dev = .grace ∧
      (inGrace (shut k false false false)).sup.shut = some (shut k false false false)) ∧
    (let s := inGrace (shut .park false false false)
     s.lrn.staging = none ∧ s.pat.testing = none ∧ 0 + s.img.f.supply.grace * 1000000 ≤ 5) :=
  ⟨by decide, by intro k; cases k <;> decide, by decide⟩

/-- A seal buffer and a seal. -/
def sealBuf0 : SealBuf :=
  { round := 0, t := 0, cells := [], store := [], display := none, displayStore := none, restFrom := none, restFromStore := none, tackFrom := 0
    tackFromStore := 0, tacked := [], anchored := [], packCount := 0, storeCount := 0, tier := .shunt, cohorts := [], packSplit := ⟨0, 0⟩ }
@[inherit_doc sealBuf0] def seal0 : Seal := ⟨.supply, .down, 1, 0, 0, 0, 0, [], [], false, sealBuf0⟩

/-- In SEAL with a shut-down. -/
def inSeal (h : Shutdown) : State :=
  { run with sup := { run.sup with dev := .seal, shut := some h }, bufs := ⟨some sealBuf0, none, false, some seal0⟩ }

theorem witness_SealIsWrittenAndPowersDown :
    (let s := inGrace (shut .supply true true true)
     s.sup.dev = .grace ∧ s.sup.shut = some (shut .supply true true true)) ∧
    (let s := inSeal (shut .supply true true true)
     s.sup.dev = .seal ∧ s.bufs.writing = some seal0 ∧ s.sup.corePg = true) ∧
    ({ (shut .rail true true false) with lateLoss := true } : Shutdown).lateLoss = true ∧
    (let s := inSeal (shut .rail true true false)
     s.sup.railLosses.length < 3 ∧ 3 ≤ ({ s.sup with railLosses := [1, 2, 3] } : Supply).railLosses.length) := by decide

theorem witness_SupplyReturnAndAonLoss :
    (let s := inGrace (shut .supply false false false)
     let u : State := { s with sup := { s.sup with tapA := ⟨.present, false, .regulating⟩ } }
     u.sup.dev = .grace ∧ u.sup.shut = some (shut .supply false false false) ∧ 1 ≤ u.tapsPresent) ∧
    (let s := inSeal (shut .supply true true false)
     let u : State := { s with sup := { s.sup with tapA := ⟨.present, false, .regulating⟩ } }
     u.sup.dev = .seal ∧ u.sup.shut = some (shut .supply true true false) ∧ 1 ≤ u.tapsPresent) ∧
    (let s : State := { run with sup := { run.sup with damping := true } }
     s.sup.dev ≠ .off ∧ s.sup.damping = true ∧ s.domainOn 17 = true ∧ s.nextDomain = none) ∧ run.nv.writing = none := by decide

/-- On the idle pace with the path supplied by the vehicle bus. -/
def parked : State := { run with sup := { run.sup with parkFrom := some 0 }, res := { run.res with path := .vehicle }, img := { run.img with f := { fields with acq := AcqFields.zero } } }

theorem witness_ParkAndShipBeginTheirShutDowns :
    (parked.sup.dev = .run ∧ parked.rounds = true ∧ parked.sup.parkCheck = false ∧ parked.decides = true ∧ parked.pace.lock = .idle ∧
      parked.shuntsBelow parked.img.f.supply.parkIMax = true ∧ parked.res.ledger = [] ∧ parked.strap.maint = false ∧
      parked.sup.vchg = false ∧ parked.res.path = .vehicle ∧ parked.sup.parkFrom = some 0 ∧
      0 + parked.img.f.supply.parkDwell * 1000000000 ≤ 0) ∧
    (let s : State := { parked with sup := { parked.sup with shipSeenHigh := true } }
     s.sup.shipSeenHigh = true ∧ s.sup.dev = .run ∧ s.rounds = true ∧ s.decides = true ∧ s.pace.lock = .idle ∧ s.res.ledger = []) ∧
    (let s : State := { parked with sup := { parked.sup with shipSeenHigh := true, dev := .park } }
     s.sup.dev = .park ∧ s.sup.dev ≠ .off ∧ s.sup.dev ≠ .ship) := by decide

theorem witness_WakesAndParkChecks :
    (let s : State := { run with sup := { run.sup with dev := .park, parkOwner := true } }
     s.sup.dev = .park ∧ s.sup.parkOwner = true ∧ s.sup.resume = none ∧
     s.sup.parkTimerFrom + s.img.f.supply.checkInterval * 3600000000000 ≤ 0) ∧
    (inSeal (shut .park true true false)).sup.dev = .seal ∧ (inGrace (shut .park false false false)).sup.dev = .grace ∧
    (let s : State := { run with sup := { run.sup with parkCheck := true } }
     s.sup.dev = .run ∧ s.sup.parkCheck = true ∧ s.sup.checkRounds = 0 ∧ s.sup.checkWake = false) := by decide

/-! ### Pace, rounds and checks -/

theorem witness_PaceInputIsJudged :
    (let s : State := { run with pace := { run.pace with
        opening := false, lastQualified := some 0, lastValid := some 0, lock := .lock, source := some .mains, periodPs := 20000000000 } }
     s.paceIn = true ∧ s.pace.tracking = true ∧ s.pace.opening = false ∧ s.pace.lastQualified = some 0 ∧ s.pace.lastValid = some 0 ∧
     20000000 - 0 < 25000000 ∧ (paceBand ((20000000 - 0) * 1000)).any (paceAdmits s.code.pace) = true ∧
     (3 * s.pace.periodPs ≤ 4 * ((20000000 - 0) * 1000) ∧ 4 * ((20000000 - 0) * 1000) ≤ 5 * s.pace.periodPs) ∧
     ¬ (3 * s.pace.periodPs ≤ 4 * ((10000000 - 0) * 1000)) ∧ 3 * s.pace.periodPs ≤ 2 * ((30000000 - 0) * 1000)) ∧
    (let s : State := { run with pace := { run.pace with lock := .hold, holdLeft := 0 } }
     s.pace.lock = .hold ∧ s.pace.holdLeft = 0 ∧ s.pace.resumePending = false) := by decide

theorem witness_RoundsAndStitchesFollow :
    ((atStitch 63).pace.running = true ∧ (atStitch 63).pace.stitch = 63 ∧ (atStitch 63).sup.dev = .run ∧ ∀ v ∈ run.own.views, v.heard = false) ∧
    (let s : State := { inSeal (shut .supply true true false) with pace := (atStitch 63).pace }
     s.pace.running = true ∧ s.pace.stitch = 63 ∧ s.sup.dev = .seal) ∧
    (run.pace.lock = .idle ∧ run.pace.heldEnd = none ∧ run.pace.idleAdjust = 0) ∧
    ((atStitch 62).rounds = true ∧ (atStitch 62).pace.stitch < 63) := by decide

theorem witness_StrapsAndCodesAreChecked :
    (let s : State := { run with pace := { run.pace with round := 1999 }, strap := { run.strap with seat1 := ⟨1, 0⟩, seat0 := ⟨0, 1⟩ } }
     s.rounds = true ∧ s.pace.round % 1000 = 999 ∧ 2 ≤ (s.strap.resample ⟨true, false, false, false, false, false⟩).seat1.differ ∧
     2 ≤ (s.strap.resample ⟨true, false, false, false, false, false⟩).seat0.agree) ∧
    (run.rounds = true ∧ run.pace.round % 1000 = 125 * 0 ∧ run.code.level 0 = some 0) ∧
    (let s : State := { run with strap := { run.strap with maintRun := 64, maintLast := true } }
     64 ≤ s.strap.maintRun ∧ s.strap.maintLast ≠ s.strap.maint) := by decide

/-! ### Threads and wiring -/

/-- The tail: S1 with the role of listener. -/
def tail : State :=
  { run with own := { run.own with role := .listener, caps := false, pins := false }, strap := { run.strap with latched := ⟨false, true, false, false, false, false⟩ } }

/-- S0 as listener. -/
def listener : State := { run with own := { run.own with role := .listener, caps := false, pins := false } }

/-- A SNAP for round 1000 from the B end. -/
def snapRx : ThreadRx := ⟨0, frame sofS (snapFrame .b 1000 none), 0⟩

/-- S0 as listener in the other seat's turn, two SNAPs with no hops received. -/
def listening : State :=
  { listener with pat := { listener.pat with turn := some 1 }
                  thr := { listener.thr with rings := [{ Ring.fresh 0 with hopsRun := 2, hopsLast := 0 }] } }

theorem witness_SnapsLeaveAndAreJudged :
    ((atStitch 61).rounds = true ∧ 61 ≤ (atStitch 61).pace.stitch ∧ (run.thr.rings.map fun r => r.port).Nodup ∧
      (∃ r ∈ run.thr.rings, r.snapFor ≠ some ((atStitch 61).pace.round + 1) ∧ (atStitch 61).sendsSnap r .a = true)) ∧
    (run.portEnd 0 = some (0, .a) ∧ run.threadOn 0 = true ∧ snapValid snapRx = true ∧ run.rounds = true ∧
      decide (128 ≤ byteAt (rxBytes snapRx) 0) = (RingEnd.a == RingEnd.a) ∧ run.acts = true ∧ RingEnd.a = run.headEnd ∧ run.split 0 = false) ∧
    (listener.portEnd 0 = some (0, .a) ∧ listener.acts = false ∧ (listener.ring 0).isSome = true ∧ listener.split 0 = false) ∧
    (listening.rounds = true ∧ listening.threadOn 0 = true ∧ listening.pat.turn.isSome = true ∧ 0 ≠ listening.ringLen 0 ∧
     ∃ t, exec (.snapReceived snapRx) listening = .next t ∧ (t.ring 0).map (fun r => r.hopsRun) = some 3) ∧
    (let s : State := { listener with nv := { listener.nv with mapOuts := [(0, 0, 0)] } }
     s.split 0 = true ∧ s.rounds = true ∧ s.threadOn 0 = true ∧ s.portEnd 0 = some (0, .a)) ∧
    (snapValid (broken snapRx) = false ∧
      countsAsError sofS (broken snapRx) (!(rxFramed sofS (broken snapRx) && decide ((rxBytes (broken snapRx)).length = 9))) = true) := by
  refine ⟨by decide, by decide, by decide, ⟨by decide, by decide, by decide, by decide, _, rfl, by decide⟩, by decide, by decide⟩

/-- A READ of node T0.N0 in round 1000, and one with the flag of group 0 set. -/
def readRx (flags : Byte) : ThreadRx := rx 0 ([0, 232, 0x10, 0, 0, 0, flags] ++ List.replicate 33 0) 0

/-- The node with changes. -/
def nodeWith (f : Node → Node) : State := { run with thr := { run.thr with nodes := [f (Node.fresh 0)] } }

theorem witness_TokensAndReads :
    (let s : State := { tail with pace := (atStitch 1).pace }
     s.rounds = true ∧ s.attached = true ∧ s.pace.stitch = 1 ∧ s.isHead = false ∧ s.pat.turn ≠ some s.seat ∧
     (∀ r ∈ s.thr.rings, r.outToken = false ∧ r.returnToken = false ∧
      ¬ (r.inWindow = true ∨ s.threadOn r.port = false ∨ s.own.cut = true ∨ s.own.unaligned = true))) ∧
    (let s : State := { run with pace := { (atStitch 1).pace with lock := .hold, heldPs := 100, dt := 1 } }
     s.rounds = true ∧ s.isHead = true ∧ s.pace.stitch = 1 ∧ s.commandRound (s.ringLen 0) = false) ∧
    (let s := atStitch 40
     s.portEnd 0 = some (0, .a) ∧ s.threadOn 0 = true ∧ rxValid (readRx 0) 43 = true ∧ byteAt (rxBytes (readRx 0)) 0 / 64 = 0 ∧
     byteAt (rxBytes (readRx 0)) 0 % 32 < s.ringLen 0 ∧ s.blocked 0 0 .a = false ∧
     (s.node 0).map (fun n => (n.copyA, n.copyB, n.differed, n.heard)) = some (none, none, false, false) ∧ (s.ring 0).isSome = true ∧
     0 < s.pace.stitch ∧ s.pace.stitch ≤ 40 ∧ inOrder .a none 0 = true ∧ byteAt (rxBytes (readRx 0)) 1 = s.pace.round % 256) ∧
    (let s := nodeWith fun n => { n with copyB := some ((rxBytes (readRx 0)).take 40) }
     ∃ o, (s.node 0).map (fun n => n.copyB) = some (some o) ∧ readBody o = readBody ((rxBytes (readRx 0)).take 40)) ∧
    (readBody ((rxBytes (readRx 1)).take 40) ≠ readBody ((rxBytes (readRx 0)).take 40)) ∧
    ((atStitch 0).pace.stitch = 0 ∧ 40 < (atStitch 41).pace.stitch ∧
      rxValid (broken (readRx 0)) (rxBytes (broken (readRx 0))).length = false ∧
      countsAsError sofN (broken (readRx 0)) (crcRight (rxBytes (broken (readRx 0)))) = true) :=
  ⟨by decide, by decide, by decide, ⟨_, rfl, rfl⟩, by decide, by decide⟩

/-- A command whose retries are spent. -/
def spentCmd : Cmd := ⟨.ident, 1, 2, 100, 0, false, false, true⟩

theorem witness_CommandsNodesAndRings :
    (let s := nodeWith fun n => { n with cmd := some spentCmd }
     (s.node 0).map (fun n => (n.cmd, n.identCmd)) = some (some spentCmd, none) ∧
     spentCmd.spent s.img.f.thread.cmdRetries s.pace = true ∧ s.acts = true ∧ (s.thr.nodes.map fun m => m.id).Nodup) ∧
    (let s := nodeWith fun n => { n with spent := [spentCmd] }
     (s.node 0).map (fun n => (n.spent, n.cmd, n.identCmd)) = some (spentCmd :: [], none, none) ∧ spentCmd.due = false ∧ s.acts = true ∧
     spentCmd.sentRound + 100 ≤ s.pace.round ∧ spentCmd ∉ ([] : List Cmd)) ∧
    (let s := nodeWith fun n => { n with missed := 3 }
     (s.node 0).map (fun n => (n.missed, n.lost)) = some (3, false) ∧ s.img.variant = some vari) ∧
    ((tail.ring 0).map (fun r => (r.reversed, r.headSeen, r.inWindow)) = some (false, false, false) ∧ tail.rounds = true ∧
      tail.attached = true ∧ tail.acts = false) ∧
    (let s : State := { tail with thr := { tail.thr with rings := [{ Ring.fresh 0 with reversed := true, headRun := 16 }] } }
     (s.ring 0).map (fun r => (r.reversed, r.headRun)) = some (true, 16) ∧ ∀ m ∈ s.nv.mapOuts, m.1 ≠ 0) ∧
    ((run.thr.ports.map fun p => p.port).Nodup ∧ run.thr.window ≠ run.pace.round / 1000) := by decide

/-- An IDENT response of the node of the pattern. -/
def identRx : ThreadRx := rx 0 ([64, 0, 0, 0, 0, 0, 0, 0, 0, 7, 0, 1, 0, 0, 0x13]) 0

/-- The ring with an ECHO under way. -/
def echoing : State := { run with thr := { run.thr with rings := [{ Ring.fresh 0 with echoOut := some (0, .a, 5, 100) }] } }

theorem witness_NodesAreIdentifiedAndTimed :
    (run.identFrame identRx = some 0 ∧ (run.node 0).isSome = true ∧ run.patNode 0 = some patNode) ∧
    (let s := nodeWith fun n => { n with identSent := some 997 }
     (s.node 0).map (fun n => n.identSent) = some (some 997) ∧ 997 + 3 ≤ s.pace.round ∧ s.pat.turn = none ∧
     ({ s with pat := { s.pat with turn := some 0 } } : State).pat.turn ≠ none) ∧
    (let s := atStitch 41
     (s.ring 0).map (fun r => (r.inWindow, r.echoOut, r.echoCount, s.echoTurn r)) = some (false, none, 0, some 0) ∧
     s.ownEnds.contains .a = true ∧ s.acts = true ∧ s.rounds = true ∧ s.own.cut = false ∧ s.blocked 0 0 .a = false ∧ s.threadOn 0 = true ∧
     (s.node 0).map (fun n => n.quarantined) = some false ∧ s.pat.turn = none ∧ RingEnd.a = s.headEnd) ∧
    (let s : State := { atStitch 60 with pat := { run.pat with turn := some 0, turnStart := 997 } }
     s.pat.turn = some s.seat ∧ s.pat.turnStart + 3 ≤ s.pace.round ∧
     (s.node 0).map (fun n => ((n.echo .a).done, (n.echo .a).failed, (n.echo .a).sent)) = some (false, false, 0)) ∧
    (let x := rx 0 [128, 0, 5] 45100
     echoing.portEnd 0 = some (0, .a) ∧ rxValid x 6 = true ∧ byteAt (rxBytes x) 0 / 64 = 2 ∧
     (echoing.ring 0).map (fun r => r.echoOut) = some (some (0, .a, 5, 100)) ∧ byteAt (rxBytes x) 0 % 32 = nodePos 0 ∧ echoing.blocked 0 0 .a = false ∧ nodePort 0 = 0 ∧
     byteAt (rxBytes x) 1 * 256 + byteAt (rxBytes x) 2 = 5 ∧ x.t ≤ 100 + 45000 ∧ echoing.pat.turn = none) ∧
    100 + 45000 ≤ 45100 := by decide

/-- A ring under test. -/
def testing (x : LinkTest) : State :=
  { atStitch 41 with
    thr := { run.thr with rings := [{ Ring.fresh 0 with test := some x }] }, pat := { run.pat with testing := some .installation } }

/-- A test window, before its first BERT and with an interval that runs. -/
def win0 : LinkTest := ⟨.installation, 900, 100, 0, [], 0, [], false, none⟩
@[inherit_doc win0] def win1 : LinkTest := ⟨.installation, 900, 100, 2, [.port .b], 0, [], false, none⟩

theorem witness_LinkTestsRunAndFallDue :
    (let s : State := { run with pat := { run.pat with testing := some .installation } }
     s.rounds = true ∧ s.attached = true ∧ (s.ring 0).map (fun r => r.test) = some none ∧ s.pat.testing = some .installation) ∧
    (let s : State := { inGrace (shut .park false false false) with pat := { run.pat with periodicDue := true } }
     s.pat.testing = none ∧ s.periodicNow = true ∧ s.rounds = true ∧ s.attached = true) ∧
    (let s := testing win0
     (s.ring 0).map (fun r => r.test) = some (some win0) ∧ s.acts = true ∧ s.rounds = true ∧ s.threadOn 0 = true ∧ 41 ≤ s.pace.stitch ∧
     s.pace.stitch ≤ 60 ∧ win0.start + win0.berts < s.pace.round ∧ win0.berts < 2 * s.ringLen 0 ∧ win0.closeRound = none ∧
     win0.interrupted = false ∧ s.own.cut = false ∧ (s.node (nodeId 0 (bertTarget (s.ringLen 0) 0).1)).isSome = true) ∧
    (let s := testing win1
     2 * s.ringLen 0 ≤ win1.berts ∧ RingEnd.a = s.headEnd ∧ s.ownEnds.contains .a = true ∧ win1.running.contains (.port .a) = false ∧
     win1.running.contains (.port .b) = true) ∧
    (let s := testing win1
     let x := rx 0 ([192, 0] ++ List.replicate 8 0) 0
     s.portEnd 0 = some (0, .a) ∧ rxValid x 13 = true ∧ byteAt (rxBytes x) 0 / 64 = 3 ∧ win1.closeRound = none ∧
     (∀ z ∈ win1.results, (z.1, z.2.1) ≠ checkerOf 1 (.node 0 .a)) ∧ inOrder .a none (byteAt (rxBytes x) 0 % 32) = true) ∧
    (let s : State := { run with strap := { run.strap with latched := ⟨false, false, false, true, false, false⟩ }, pat := { run.pat with turnsDone := [0, 1] } }
     s.installHonoured = true ∧ s.attached = true ∧ s.sup.bootKind = .cold ∧ s.pat.installDone = false ∧
     s.turnsOver = true ∧ s.rounds = true) ∧
    2 * (run.img.f.pattern.periodicInterval * hourTicks) ≤ run.pat.runTicks ∧
    (let s : State := { run with strap := { run.strap with maint := true } }
     s.rounds = true ∧ s.sup.dev = .run ∧ s.attached = true ∧ s.strap.maint = true ∧ s.pat.retestDone = false ∧ s.pat.testing = none ∧
     s.pace.lock = .idle ∧ s.shuntsBelow s.img.f.supply.parkIMax = true ∧ s.res.ledger = []) := by decide

/-! ### Acquisition -/

/-- Fields with shunts and a SENT sensor. -/
def sensing : State :=
  { run with img := { run.img with f := { fields with acq := { AcqFields.zero with rA := 50, rB := 50, sentRole := 1, sentTick := 1, sentNibbles := 0, sentIdMsg := 1 } } } }

theorem witness_ShuntsCountAndSaturate :
    (sensing.domainOn 2 = true ∧ sensing.img.f.acq.rA ≠ 0 ∧ sensing.acq.ishA.counts 50 (fullScale 0) = true ∧
      sensing.acq.ishB.counts 50 (fullScale 8388607) = false ∧ sensing.sup.p1 = true ∧ State.reset.domainOn 2 = false) ∧
    (let x : Shunt := { Shunt.zero with rangeSince := some 7 }
     let s : State := { run with acq := { run.acq with ishA := x, ishB := x, store := x } }
     7 + 10000000 ≤ 10000007 ∧ s.acq.ishA.rangeSince = some 7 ∧ s.acq.ishB.rangeSince = some 7 ∧ s.acq.store.rangeSince = some 7) := by decide

/-- Bits 3 and 2 of the status nibbles of a short serial message, the newest frame first. -/
def serial (id v : Nat) : List (Bool × Bool) :=
  let b (n w : Nat) : List Bool := (List.range n).map fun k => w.testBit (n - 1 - k)
  let l := b 4 id ++ b 8 v ++ b 4 (sentCrc false [id, v / 16, v % 16])
  ((List.range 16).map fun i => (i == 0, l.getD i false)).reverse

theorem witness_SentFramesAreStampedOrDiscarded :
    (sensing.img.f.acq.sentRole ≠ 0 ∧ sensing.domainOn 2 = true ∧ sensing.sentValid ⟨56000, 12, [], 17, 0⟩ = true ∧
      sensing.sentValid ⟨56000, 12, [], 16, 0⟩ = false ∧ 10 ≤ ({ sensing.acq.sent with discarded := 10 } : Sent).discarded ∧
      sensing.acq.sent.discarded < 10) ∧
    (slowMessage false (serial 1 3) = some (1, 3) ∧ 3 ≠ sensing.img.f.acq.sentIdValue ∧ slowMessage false (serial 1 0) = some (1, 0) ∧
      sensing.img.f.acq.sentIdMsg = 1 ∧ sensing.img.f.acq.sentIdValue = 0) ∧
    (let s : State := { sensing with acq := { sensing.acq with sent := { sensing.acq.sent with firstValid := some 0 } } }
     s.acq.sent.firstValid = some 0 ∧ s.acq.sent.idSeen = false ∧ 0 + 2000000000 ≤ 2000000000) ∧
    sensing.acq.sent.lastValid.getD 0 + 50000000 ≤ 50000000 := by decide

theorem witness_PackChecksAndStoreBalancing :
    (let s : State := { atStitch 41 with acq := { run.acq with latch := some snap0 } }
     s.rounds = true ∧ s.tc1Up = true ∧ 41 ≤ s.pace.stitch ∧ s.pace.stitch ≤ 61 ∧ s.pow.capRound ≠ some s.pace.round ∧
     s.acq.latch = some snap0 ∧ s.acq.formed ≠ some s.pace.round ∧ s.own.streams = none) ∧
    (let s : State := { run with res := { run.res with path := .vehicle } }
     s.sup.p1 = true ∧ s.sup.dev = .run ∧ s.sup.parkCheck = false ∧ s.res.path = .vehicle ∧ s.res.changing = false) ∧
    run.res.path ≠ .vehicle := by decide
/-! ### The classical path and the seam -/

/-- A cell whose basting window is full of unusable records. -/
def cell1 : Cell := { Cell.new EstFields.zero 1 with basting := some ⟨List.replicate 64 none⟩ }

/-- The device with one pack cell. -/
def oneCell : State :=
  { run with
    cls := { Classical.empty with pack := { Estimator.empty with cells := [cell1], tackFrom := 0 }, updated := some 1000 }, now := 1000000 }

theorem witness_ClassicalUpdateAndRecords :
    (let s := atStitch 8
     s.rounds = true ∧ s.tc0Up = true ∧ 8 ≤ s.pace.stitch ∧ s.pace.stitch ≤ 60 ∧ s.cls.updated ≠ some s.pace.round ∧
     oneCell.cls.updated = some oneCell.pace.round) ∧
    (1 ≤ 4096 ∧ (oneCell.cls.pack.cells.find? fun c => c.id == 1) = some cell1 ∧
      cell1.formBasting oneCell.img.f.est oneCell.cls.pack.restAge (oneCell.ocvTemp 1) = some ({ cell1 with basting := some ⟨[]⟩ }, [])) ∧
    (oneCell.cls.pack.cells ≠ [] ∧ oneCell.cls.pack.isOverdue oneCell.img.f.est oneCell.now = true) ∧
    ((atStitch 62).journalWindow = true ∧ (atStitch 61).journalWindow = false) := by decide +kernel

/-- A graph that weights its one feature, and has no scan. -/
def graph0 : Graph :=
  { inits := [⟨[1], .f32⟩], ops := [⟨.bin .mul, [.features, .init 0], [1]⟩], outputs := [some (.node 0)], operators := 1, features := [0]
    adapterSize := 0, adapterInit := [], plan := ⟨[.delta], [.weight 0], [⟨0, 0, .f32, false⟩], []⟩, weights := [0] }

/-- A result record without values. -/
def result0 : Result := ⟨999, none, none, none, none, none, none, false, false, false, false⟩

/-- A learned cell with a step due. -/
def lcell1 : LCell := { LCell.fresh graph0 0 true 0 (LCell.new 1 0 0) with due := some 999, resident := true, result := some result0 }

/-- The device with the learned path of one cell. -/
def learned (c : LCell) : State :=
  { oneCell with
    img := { run.img with f := { fields with
      model := { ModelFields.zero with cohorts := [some graph0], cohortMap := [0] }, numeric := { NumericFields.zero with replayPeriod := 2 } } }
    lrn := { run.lrn with cells := [c], weights := List.replicate 17 ⟨[], [], false⟩ }
    acq := { run.acq with prevGroups := [⟨400000, 0, 999, 0, 0⟩] }
    seam := { Seam.empty with cells := [⟨1, .open_, 0, 0, none, 0, false, none, none⟩] } }

theorem witness_SeamDecidesAndCloses :
    (let s := learned lcell1
     s.tc0Up = true ∧ s.cls.updated = some s.pace.round ∧ s.seam.closedFor ≠ some s.pace.round ∧ (s.seamCell 1).isSome = true ∧
     s.clsCell 1 = some cell1 ∧ s.seamRecord 1 = some result0 ∧ (s.seamCell 1).map (fun q => q.decided) = some none ∧ s.pace.stitch ≤ 61) ∧
    (let s : State := { learned lcell1 with pace := { run.pace with stitch := 61 } }
     s.rounds = true ∧ s.tc0Up = true ∧ s.pace.stitch = 61 ∧ s.cls.updated = some s.pace.round ∧ s.seam.closedFor ≠ some s.pace.round ∧
     ∀ q ∈ s.seam.cells, (s.clsCell q.id).isSome = true) ∧
    (run.rounds = true ∧ run.tc1Up = true ∧ run.seam.window ≠ run.pace.round / 1000) := by decide +kernel

theorem witness_PublicationAtStitch62 : (atStitch 62).rounds = true ∧ (atStitch 62).pace.stitch = 62 ∧ (atStitch 62).isFrozen = false ∧
    (atStitch 62).published = false ∧ (atStitch 62).tc0Up = true ∧ (atStitch 62).tc1Up = true ∧
    (atStitch 62).own.since ≠ (atStitch 62).pace.round := by decide

/-! ### The learned path and training -/

theorem witness_LearnedStepsAndTheirEnds :
    (let s : State := { learned lcell1 with pace := { run.pace with stitch := 8 } }
     let x := s.stepIn graph0 lcell1
     s.lcell 1 = some lcell1 ∧ s.graph lcell1.cohort = some graph0 ∧ lcell1.due = some 999 ∧ s.learnedOn = true ∧ lcell1.resident = true ∧
     lcell1.restoring = false ∧ lcell1.reloading = false ∧ s.fenced .scheduler = false ∧ s.fenced .scan = false ∧ lcell1.warmLeft = 0 ∧
     s.stepAhead lcell1 = false ∧ s.pace.round ≤ 999 + 1 ∧ 8 ≤ s.pace.stitch ∧
     poisonedState (liveStep graph0 (s.halves lcell1).1 (x.features.map fun p => p.1) (s.halves lcell1).2
      ((999 + 1) % s.img.f.numeric.renormInterval == 0) 1 999 lcell1.state).state = false) ∧
    (let c : LCell := { lcell1 with openRun := 1 }
     (learned c).lcell 1 = some c ∧ (learned c).img.f.model.openLoopMax < c.openRun ∧ c.result = some result0) ∧
    (let c : LCell := { lcell1 with due := some 998 }
     let s : State := { learned c with pace := { run.pace with stitch := 8 } }
     s.lcell 1 = some c ∧ 998 + 1 < s.pace.round ∧ 8 ≤ s.pace.stitch) := by decide +kernel

/-- A checkpoint that holds the cell. -/
def ckpt0 : Ckpt := ⟨3, [], [], 900, 0, 0, [], [⟨1, 0, 900, 0, [], []⟩], 0⟩

/-- The device with a replay of the cell. -/
def replaying (r : Replay) (c : LCell) : State := { learned c with lrn := { (learned c).lrn with replay := r } }

theorem witness_ReplayAndRestore :
    (let c : LCell := { lcell1 with restoring := true }
     let s : State := { learned c with nv := { run.nv with ckpt0 := some ckpt0 } }
     s.lcell 1 = some c ∧ c.restoring = true ∧ c.reloading = false ∧ (s.ckptCell 1).isSome = true ∧ s.tc1Up = true) ∧
    (let c : LCell := { lcell1 with reloading := true }
     (learned c).lcell 1 = some c ∧ c.reloading = true ∧ (learned c).ckptCell 1 = none ∧ (learned c).tc1Up = true) ∧
    (let r : Replay := { Replay.idle with cell := some 1 }
     let c : LCell := { lcell1 with due := none, stepped := some 999 }
     let s := replaying r c
     s.lrn.replay.cell = some 1 ∧ s.lcell 1 = some c ∧ s.graph c.cohort = some graph0 ∧ s.stepsQueued = false ∧ s.replayQueued = true ∧
     s.fenced .scan = false) ∧
    (let c : LCell := { lcell1 with stepped := some 998 }
     let r : Replay := { Replay.idle with cell := some 1, seeded := true, stepped := some 998, ref := [List.replicate 32 0], aborts := 2, done := 2 }
     let s := replaying r c
     s.lrn.replay.seeded = true ∧ c.stepped = some 998 ∧ s.lrn.replay.stepped = some 998 ∧ s.lrn.replay.compared ≠ some 998 ∧
     frayRatio s.img.f.numeric.betaOrd s.img.f.numeric.betaLined c.state s.lrn.replay.ref ≤ 1 ∧ poisonedState c.state = false ∧
     c.vPred = none ∧ s.lrn.replay.suspended = false ∧ s.lrn.replay.stepped ≠ some (s.pace.round - 1) ∧ 2 ≤ s.lrn.replay.aborts ∧
     s.img.f.numeric.replayPeriod ≤ s.lrn.replay.done) ∧ 61 ≤ (atStitch 61).pace.stitch := by decide +kernel

theorem witness_MemoryErrorsAreCounted : run.domainOn 3 = true ∧ run.fittedCells.contains 1 = true ∧ run.fittedCells.contains 4098 = true ∧
    (let s : State := { run with lrn := { run.lrn with ddrCe := 1, bobCe := 1, scrubTicks := 1 }, flt := { run.flt with tcmCe := 17 } }
     s.rounds = true ∧ s.lrn.eccWindow ≠ s.pace.round / 1000 ∧ s.img.f.numeric.ceLimit < s.lrn.ddrCe ∧
     s.img.f.numeric.ceLimit < s.lrn.bobCe ∧ 16 < s.flt.tcmCe ∧ s.fenced .scrubber = false ∧
     2 * s.img.f.numeric.scrubPeriod * hourTicks < s.lrn.scrubTicks) := by decide

theorem witness_ArbitrationFencesItsHolder :
    (let s : State := { run with lrn := { run.lrn with fences := [⟨.scan, 1, true⟩] } }
     (∃ f ∈ s.lrn.fences, f.req = .scan ∧ s.pace.round < f.round + 1000) ∧ s.tc1Up = true ∧ s.pace.stitch = 0 ∧
     (∀ f ∈ s.lrn.fences, f.req = .scan → f.round ≠ s.pace.round)) ∧ run.lrn.ddr = true := by decide

/-- A trainable graph, and the device with a cycle in a phase. -/
def cycling (p : Phase) : State :=
  { learned { lcell1 with stepped := some 999 } with
    trn := { Training.idle with
      phase := p, cohort := 0, first := 999
      cells := [⟨1, true, false, false, [], [], none, [], [], [], [], 0, 0⟩] } }

theorem witness_TrainingCyclesStepAndUpdate :
    (let s0 := learned lcell1
     let s : State := { s0 with img := { s0.img with f := { s0.img.f with train := { TrainFields.zero with enable := true, activeCells := 4 } } } }
     s.tc1Up = true ∧ s.learnedOn = true ∧ s.cycleOn = false ∧ s.trn.shed = 0 ∧ s.img.f.train.enable = true ∧ s.trn.again = false ∧
     s.nextCohort = some 0 ∧ s.activeSet 0 = [1]) ∧
    ((cycling .warm).trn.phase = .warm ∧ (cycling .warm).img.f.train.warm ≤ (cycling .warm).trn.snaps) ∧
    ((cycling .epoch).trn.phase = .epoch ∧ (cycling .epoch).img.f.train.epoch ≤ (cycling .epoch).trn.snaps ∧
      ((cycling .epoch).trn.update + 1) * (cycling .epoch).img.f.train.updateInterval ≤ (cycling .epoch).trn.snaps ∧
      (cycling .epoch).graph (cycling .epoch).trn.cohort = some graph0) ∧
    (let s := cycling .warm
     (s.trn.cells.find? fun a => a.id == 1).map (fun a => (a.active, a.pending)) = some (true, none) ∧ (s.lcell 1).isSome = true ∧
     (s.lcell 1).map (fun c => (s.graph c.cohort, c.stepped)) = some (some graph0, some 999) ∧ s.stepsQueued = false ∧
     s.replayQueued = false ∧ s.learnedOn = true ∧ s.cycleOn = true ∧ s.trn.first ≤ 999) := by decide +kernel

theorem witness_PromotionAndShedding :
    (let s : State := { cycling .fit with pace := { run.pace with stitch := 61 } }
     s.tc1Up = true ∧ s.trn.phase = .fit ∧ s.img.f.train.fit ≤ s.trn.snaps ∧ 61 ≤ s.pace.stitch ∧ s.fitReason = 0) ∧
    (let s : State := { cycling .decision with trn := { (cycling .decision).trn with promote := true } }
     s.trn.promote = true ∧ s.trn.copied = false) ∧
    (let s : State := { cycling .decision with trn := { (cycling .decision).trn with promote := true, copied := true } }
     s.trn.promote = true ∧ s.trn.copied = true ∧ s.pace.stitch = 0 ∧ (s.lrn.weights[s.trn.cohort]?).isSome = true) ∧
    (let s : State := { run with trn := { run.trn with coolFrom := some 0, shed := 3 } }
     s.trn.coolFrom = some 0 ∧ 0 < s.trn.shed ∧ 0 + 60000000000 ≤ 60000000000) := by decide +kernel

/-- A staged checkpoint, and its staging. -/
def staging0 : Staging := ⟨.interval, 900, 0, [], none⟩
@[inherit_doc staging0] def staging1 : Staging := ⟨.interval, 900, 0, [], some { ckpt0 with seq := 4 }⟩

theorem witness_CheckpointsAreStagedAndWritten :
    (run.tc1Up = true ∧ run.learnedOn = true ∧ run.lrn.staging = none ∧ run.flt.bit 0x933 = false ∧
      run.img.f.train.ckptInterval * 6000000000 ≤ run.lrn.ckptTicks ∧ run.sup.dev = .run ∧
      ({ run with trn := { run.trn with promoted := some 1000 } } : State).trn.promoted = some run.pace.round) ∧
    (let s : State := { run with lrn := { run.lrn with staging := some staging0 } }
     s.lrn.staging = some staging0 ∧ staging0.staged = none ∧ (s.lrn.cells.all fun c => staging0.cells.any fun e => e.id == c.id) = true) ∧
    (let s : State := { run with lrn := { run.lrn with staging := some staging1, norHeld := 4 }, nv := { run.nv with ckpt0 := some ckpt0 } }
     s.lrn.staging = some staging1 ∧ staging1.staged = some { ckpt0 with seq := 4 } ∧ s.tc1Up = true ∧ s.fenced .ckptPort = false ∧
     s.nv.newestCkpt = some (false, ckpt0) ∧ ckpt0.seq < 4 ∧ s.sup.dev ≠ .grace ∧ 4 ≤ s.lrn.norHeld) ∧
    (let st : Staging := { staging1 with cause := .park }
     let s := inGrace (shut .park false false false)
     let u : State := { s with lrn := { s.lrn with staging := some st } }
     u.lrn.staging = some st ∧ st.cause = .park ∧ u.tc1Up = true ∧ u.fenced .ckptPort = false ∧ u.sup.dev = .grace ∧
     u.sup.shut = some (shut .park false false false)) := by decide +kernel
theorem run_allListed : run.allListed := by unfold State.allListed; decide

/-! ### Power limits, the fast path and the power path -/

/-- A consumer, and a device that drives one CAP pin for it. -/
def cons0 : Consumer := ⟨.discharge, some 10, ⟨0, 1, 10⟩, ⟨0, 1, 10⟩, 100⟩
@[inherit_doc cons0] def driving : State :=
  { run with
    img := { run.img with f := { run.img.f with consumers := [cons0] } }
    pow := { run.pow with caps := [(5, 0)], capRound := some 1000, latchMissing := true } }

/-- The same with TC0 down and no published set. -/
def staleSet : State := { driving with flt := { driving.flt with tcDown := [0] } }

theorem witness_CapsAreLatchedAtStitch63 :
    let s : State := { driving with pace := { driving.pace with stitch := 63 } }
    let late : State := { s with pow := { s.pow with capRound := none } }
    let stale : State := { staleSet with pace := s.pace }
    (s.rounds = true ∧ s.tc1Up = true ∧ s.pace.stitch = 63 ∧ s.pow.capRound = some s.pace.round ∧ s.stalePub = false ∧ s.pow.zeroD = false ∧
      s.pow.zeroC = false) ∧
    (late.rounds = true ∧ late.tc1Up = true ∧ late.pow.capRound ≠ some late.pace.round) ∧
    (stale.rounds = true ∧ stale.tc1Up = true ∧ stale.stalePub = true ∧ stale.pow.caps = [(5, 0)]) := by decide +kernel

theorem witness_MissingLatchCodesPlainZero :
    (let s : State := { driving with pow := { driving.pow with latchMisses := 1, latchAt := none }, pace := { driving.pace with stitch := 63 } }
     s.rounds = true ∧ s.drivesCaps = true ∧ 2 ≤ s.pow.latchMisses + (if s.pace.stitch = 63 ∧ s.pow.latchAt ≠ some s.pace.round then 1 else 0) ∧
     s.domainOn 2 = true ∧ 0 < s.code.capPins ∧ s.img.f.consumers[0]? = some cons0 ∧ s.forced cons0.pinDir = false ∧ s.tc1Up = true ∧
     s.pow.capRound = some s.pace.round ∧ s.stalePub = false ∧ s.pow.frozen = false) ∧
    ({ driving with fast := { driving.fast with forcedD := true } } : State).forced cons0.pinDir = true := by decide +kernel

/-- A node that answers its READs. -/
def armed : State :=
  { run with
    img := { run.img with f := { run.img.f with acq := { run.img.f.acq with rA := 1 } } }
    thr := { run.thr with nodes := [{ Node.fresh 0 with confAccepted := confItems, epoch := some 1, lastEpoch := some 1 }] } }

theorem witness_FastEventsForceZeroOrTrip :
    (armed.domainOn 2 = true ∧ ShuntId.a = .a ∧ armed.img.f.acq.rA ≠ 0) ∧
    ((armed.limitRead (readRx 1)).map (fun r => (r.1, r.2.1)) = some (0, 1) ∧ armed.img.variant = some vari ∧
      0 < (vari.nodeCells 0).length ∧ (1 : BitVec 16).getLsbD 0 = true ∧
      (armed.limitRead (readRx 0)).map (fun r => (r.1, r.2.1)) = some (0, 0)) := by decide +kernel

/-- A standing cause. -/
def caused (e : FastEvent) : State := { run with fast := { run.fast with causes := [⟨e, 1, some (0, 0)⟩] } }

theorem witness_FastCausesAreReleased :
    ((caused .disOver).fast.causes.find? fun c => c.event == .disOver) = some ⟨.disOver, 1, some (0, 0)⟩ ∧
    (caused .disOver).causeClear ⟨.disOver, 1, some (0, 0)⟩ 0 = true ∧
    (caused .request).causeClear ⟨.request, 1, some (0, 0)⟩ 0 = true ∧ (caused .cellOv).causeClear ⟨.cellOv, 1, some (0, 0)⟩ 0 = true ∧
    run.img.f.fast.release = false ∧ run.tripN.isSome = true ∧ run.capPin 3 ≠ .undriven := by
  decide +kernel

/-- A path in a state. -/
def onPath (p : PathState) : State := { run with res := { run.res with path := p } }

/-- A path in which VMAIN has been good since reset. -/
def goodPath (p : PathState) : State := { run with res := { run.res with path := p, good := true } }

/-- What the path hardware senses, with nothing qualified and the gates down. -/
def calm (t : Ns) : PathSense := ⟨t, false, false, false, false, false⟩

theorem witness_VmainIsLostAndTakenUp :
    ((onPath .vehicle).sup.p1 = true ∧ (onPath .vehicle).res.path = .vehicle ∧ ((onPath .vehicle).sense (calm 0)).storeOk = true ∧
      ((onPath .vehicle).sense { calm 0 with stackLow := true }).storeOk = false ∧
      (onPath .handback).res.path = .handback ∧
      3 ≤ (5 :: (({ run.res with aborts := [3, 4] } : Reserve).aborts.filter fun a => decide (5 < a + 10000000000))).length) ∧
    ((goodPath .down).res.isStable 60000000000 = true ∧ (goodPath .down).sup.storeFn = true ∧ (goodPath .down).sup.p1 = true ∧
      ({ (goodPath .reserve).res with dwellMet := true } : Reserve).isStable 60000000000 = true ∧
      ({ (goodPath .down).sup with storeFn := false } : Supply).p1 = true) ∧
    ((onPath .reserve).res.path = .reserve ∧ (onPath .reserve).res.isStable 0 = false ∧
      (((onPath .reserve).res.since : Nat) : Rat) + (onPath .reserve).img.f.path.dwellMin * 1000000 ≤ ((0 : Nat) : Rat)) := by
  decide +kernel

theorem witness_PairsRampAndGatesAreWatched :
    (({ run.res with path := .handover, gateRes := .waiting } : Reserve).since + 3000 ≤ 3000 ∧
      ({ run.res with path := .handback, gateMain := .waiting } : Reserve).gateMain = .waiting ∧
      (onPath .rampM).res.path = .rampM ∧ (onPath .rampM).res.since ≤ 0 ∧
      ({ run.res with path := .handover, gateRes := .ramping } : Reserve).gateRes = .ramping) ∧
    (run.sup.p1 = true ∧ (calm 0).short = false ∧ ({ run.res with cellLow := true } : Reserve).cellLow = true ∧ run.sup.dev ≠ .park ∧
      (onPath .reserve).res.path ≠ .handover ∧ ({ run.res with damping := true, path := .vehicle } : Reserve).since + 60000000000 ≤ 60000000000 ∧
      ({ run.res with gateMain := .waiting } : Reserve).since + 13000 ≤ 13000 ∧ run.res.gateMain = .off ∧
      run.res.gateRes = .off) := by decide +kernel

theorem witness_ShortsCoolAndLatch :
    (({ run.res with path := .vehicle, gateMain := .full } : Reserve).pairOn = true ∧
      3 ≤ ({ run.res with shorts := 3 } : Reserve).shorts) ∧
    ((onPath .cool).res.path = .cool ∧
      (((onPath .cool).res.since : Nat) : Rat) + (onPath .cool).img.f.path.shortCool * 1000000 ≤ ((0 : Nat) : Rat)) ∧
    ((onPath .reserve).res.path = .reserve ∧ (onPath .reserve).res.since + 10000000000 ≤ 10000000000) ∧
    ((goodPath .latched).res.path = .latched ∧ (goodPath .latched).res.since ≤ (goodPath .latched).res.goodFrom ∧ (goodPath .latched).res.isStable 60000000000 = true) := by decide +kernel

theorem witness_StorePresence :
    (run.storeCells ≠ 0 ∧ run.res.absent = false ∧ 10 ≤ ({ run.res with presRuns := ⟨10, 0⟩ } : Reserve).presRuns.bad) ∧
    (({ run.res with absent := true } : Reserve).absent = true ∧ ({ run.sup with dev := .park } : Supply).dev = .park) ∧
    (run.sup.dev ≠ .park ∧ 10 ≤ ({ run.res with absent := true, presRuns := ⟨0, 10⟩ } : Reserve).presRuns.good) := by
  decide +kernel

/-- An open burst of line 0. -/
def entry0 : LedgerEntry := ⟨0, 1000, 0, 100, 100, 0, 0⟩

/-- A published set with energy to spare. -/
def pub0 : PubSet :=
  { snap := 999, t := 0, cells := [], store := [], pack := aggregate [] 0, storeVals := aggregate [] 0
    display := none, displayStore := none, hem := ⟨1000, 1000, 0, 0, 0, true, 0⟩, eMan := 0, tMan := 0, committed := 0, invalidMan := false
    provisional := false, damped := false }

/-- A device that has published. -/
def published : State := { onPath .vehicle with seam := { run.seam with pub := some pub0 } }

/-- A device with the open burst. -/
def bursting : State := { run with res := { run.res with ledger := [entry0] } }

theorem witness_BurstsAreGrantedAndClosed :
    (run.breqOn 0 = true ∧ (((bursting.at 0).ledgerAt 0).burst 0).isSome = true ∧
      ((published.at 0).ledgerAt 0).burst 0 = none ∧ ((published.at 0).ledgerAt 0).admits 0 = some 100 ∧
      published.breqOn 0 = true ∧ ((run.at 0).ledgerAt 0).burst 0 = none ∧ ((run.at 0).ledgerAt 0).admits 0 = none) ∧
    (bursting.burst 0 = some entry0 ∧ entry0.t + 1000000 * entry0.duration ≤ 100000000) ∧
    (({ run.res with answers := [(10, 0)] } : Reserve).answers = (10, 0) :: [] ∧ run.drivesPath = true ∧ run.res.pulseEnd = none ∧ 0 < 1 ∧
      run.tc1Up = true) := by
  decide +kernel

/-! ### Seats -/

/-- A BEAT that shows every condition met. -/
def beat0 : Beat :=
  { round := 1000, die := 5, role := .listener, lock := 0, cut := false, trip := false, safeN := true, path := 0, intent := .none_
    pending := false, refRes := 0, codeWord := 0, digest := List.replicate 32 1, elig := 511, sof := 0, uDep := 0, uArr := 0, dDep := 0
    dArr := 0, sum := ⟨0, 0, 0, 0, 0, 0, 0, false, false, false⟩ }

/-- A seat whose frames with nonce 7 are fresh. -/
def view0 (k : Nat) : SeatView := { SeatView.fresh k with nonce := some 7, nonces := [7], beat := some beat0 }

/-- A seat of two, with the domain key, that knows the other. -/
def paired (k : Nat) (r : Role) : State :=
  { run with
    nv := { run.nv with fuses := { run.nv.fuses with domainKey := some 1 } }
    strap := { run.strap with latched := ⟨false, decide (k = 1), false, false, false, false⟩ }
    own := { run.own with role := r, views := [view0 (1 - k)] } }

/-- The header of a frame of the other seat in round 1000. -/
def peerHeader (from_ type len : Nat) : List Byte :=
  beBytes 1 (type + 16 * from_) ++ [0, 0, 0, 0, 0, 0, 0, 7, 0, 0, 0, 0, 3, 232, 1] ++ beBytes 2 len

/-- Its frame. -/
def peerRx (from_ type : Nat) (p : List Byte) : PeerRx :=
  ⟨.up, peerHeader from_ type p.length ++ p ++ peerTag 1 1000 (peerHeader from_ type p.length) p, true, 0, 0⟩

theorem peerTag_length (k r : Nat) (h p : List Byte) : (peerTag k r h p).length = 8 := rfl

theorem byteAt_head (h l : List Byte) (i : Nat) (hi : i < h.length) : byteAt (h ++ l) i = byteAt h i := by
  simp [byteAt, List.getElem?_append_left hi]

theorem natAt_head (h l : List Byte) (i n : Nat) (hi : i + n ≤ h.length) : natAt (h ++ l) i n = natAt h i n := by
  unfold natAt
  rw [List.drop_append_of_le_length (by omega), List.take_append_of_le_length (by simp; omega)]

/-- Where the frame itself is in order, the other seat's frame is accepted. -/
theorem paired_accepts (s : State) (o type : Nat) (p : List Byte) (v w : SeatView) (hon : s.peerOn = true)
    (hh : byteAt (peerHeader o type p.length) 0 % 16 = type ∧ byteAt (peerHeader o type p.length) 0 / 16 % 4 = o ∧
      natAt (peerHeader o type p.length) 16 2 = p.length ∧ natAt (peerHeader o type p.length) 9 6 = 1000)
    (hp : lengthOk type p = true) (ho : o ≠ s.seat) (hf : s.fitted.contains o = true) (hk : s.nv.fuses.domainKey = some 1)
    (hr : s.pace.round = 1000) (hv : s.view o = some v)
    (hw : v.freshness (type == 1) (natAt (peerHeader o type p.length) 5 4) 1000 (byteAt (peerHeader o type p.length) 15) = .fresh w) :
    ∃ f, s.peerAccept type (peerRx o type p) = ((((s.updView o fun _ => w).forward (peerRx o type p) o).at 0), some f) ∧
      f.origin = o ∧ f.payload = p ∧ f.round = 1000 := by
  have hl : (peerHeader o type p.length).length = 18 := rfl
  generalize hH : peerHeader o type p.length = H at *
  obtain ⟨h1, h2, h3, h4⟩ := hh
  have ht := peerTag_length 1 1000 H p
  have hB : (peerRx o type p).bytes = H ++ (p ++ peerTag 1 1000 H p) := by simp [peerRx, hH]
  have e0 : ∀ i, i < 18 → byteAt (H ++ (p ++ peerTag 1 1000 H p)) i = byteAt H i := fun i hi => byteAt_head _ _ _ (by omega)
  have e1 : ∀ i n, i + n ≤ 18 → natAt (H ++ (p ++ peerTag 1 1000 H p)) i n = natAt H i n := fun i n hi => natAt_head _ _ _ _ (by omega)
  have e2 : (H ++ (p ++ peerTag 1 1000 H p)).length - 8 = H.length + p.length := by simp [ht]; omega
  have e3 : ((H ++ (p ++ peerTag 1 1000 H p)).take (H.length + p.length)).drop 18 = p := by
    rw [← List.append_assoc, List.take_append_of_le_length (by simp), List.take_of_length_le (by simp), ← hl, List.drop_left]
  have e4 : (H ++ (p ++ peerTag 1 1000 H p)).drop (H.length + p.length) = peerTag 1 1000 H p := by
    rw [← List.append_assoc, ← List.length_append, List.drop_left]
  have e5 : (H ++ (p ++ peerTag 1 1000 H p)).take 18 = H := by rw [← hl, List.take_left]
  have e6 : 26 ≤ (H ++ (p ++ peerTag 1 1000 H p)).length := by simp [ht, hl]; omega
  refine ⟨⟨o, byteAt (H ++ (p ++ peerTag 1 1000 H p)) 1 % 4, natAt (H ++ (p ++ peerTag 1 1000 H p)) 2 3, 1000, p⟩, ?_, rfl, rfl, rfl⟩
  have hx : (peerRx o type p).framed = true := rfl
  have ht' : (peerRx o type p).t = 0 := rfl
  unfold State.peerAccept
  simp only [hB, e2, e3, e4, e5, hon, hp, hf, hk, hr, hv, hx, ht', h1, h2, h3, h4, ho, e0 0 (by omega), e0 15 (by omega), e1 16 2 (by omega),
    e1 9 6 (by omega), e1 5 4 (by omega), Option.getD_some, hw, Nat.not_lt.mpr e6]
  simp

/-- The frame of the other of two seats is accepted. -/
theorem pair_accepts (k : Nat) (hk : k = 0 ∨ k = 1) (r : Role) (type : Nat) (p : List Byte)
    (hh : byteAt (peerHeader (1 - k) type p.length) 0 % 16 = type ∧ byteAt (peerHeader (1 - k) type p.length) 0 / 16 % 4 = 1 - k ∧
      natAt (peerHeader (1 - k) type p.length) 16 2 = p.length ∧ natAt (peerHeader (1 - k) type p.length) 9 6 = 1000)
    (hp : lengthOk type p = true) :
    ∃ f, (paired k r).peerAccept type (peerRx (1 - k) type p) =
      (((((paired k r).updView (1 - k) fun _ => { view0 (1 - k) with kept := [(1000, 1)] }).forward (peerRx (1 - k) type p) (1 - k)).at 0), some f) ∧
      f.origin = 1 - k ∧ f.payload = p ∧ f.round = 1000 := by
  rcases hk with rfl | rfl <;> cases r <;>
  exact paired_accepts _ _ _ _ (view0 _) _ (by decide) hh hp (by decide) (by decide) rfl rfl rfl rfl

/-- A BEAT of the owner with nothing else set. -/
def beatBytes : List Byte := List.replicate 108 0

theorem witness_BeatsAreSentAndTaken :
    ((atStitch 2).rounds = true ∧ (atStitch 2).pace.stitch = 2 ∧ (atStitch 2).tc1Up = true ∧ (paired 0 .owner).peerOn = true ∧
      (paired 0 .owner).flt.peerStopped = false ∧ run.peerOn = false) ∧
    (∃ s1 f, (paired 1 .owner).peerAccept 1 (peerRx 0 1 beatBytes) = (s1, some f) ∧ (readBeat f.round f.payload).intent = .none_ ∧
      (readBeat f.round f.payload).role ≠ .listener ∧ (readBeat f.round f.payload).role ≠ .witness ∧ (paired 1 .owner).acts = true ∧
      f.origin < (paired 1 .owner).seat) ∧
    ((paired 0 .owner).peerOn = true ∧ byteAt ({ peerRx 1 1 [] with bytes := [17], framed := false } : PeerRx).bytes 0 % 16 = 1 ∧
      byteAt ({ peerRx 1 1 [] with bytes := [16], framed := false } : PeerRx).bytes 0 % 16 = 0 ∧ 5 ≤ byteAt ({ peerRx 1 1 [] with bytes := [21] } : PeerRx).bytes 0 % 16) ∧
    (run.own.window ≠ run.pace.round / 1000 ∧ run.rounds = true ∧ ({ run.own with linkU := { run.own.linkU with fails := 1 } } : Ownership).linkU.fails > run.img.f.own.authLimit) ∧
    (4 ≤ ({ run.own with alignRuns := ⟨4, 0⟩ } : Ownership).alignRuns.bad ∧ (paired 1 .listener).own.unaligned = false ∧
      ({ listener with own := { listener.own with views := [{ view0 1 with role := .owner }] } } : State).gridSeat ≠ listener.seat) ∧
    (({ run.own with checkFrom := some 0 } : Ownership).checkFrom = some 0 ∧ 0 + 8 ≤ run.pace.round ∧ run.own.role = .owner) := by
  refine ⟨by decide, ?_, by decide, by decide, by decide, by decide⟩
  obtain ⟨f, h, ho, hp, hr⟩ := pair_accepts 1 (.inr rfl) .owner 1 beatBytes (by decide) (by decide)
  refine ⟨_, f, h, ?_⟩
  rw [hp, hr, ho]
  decide

theorem witness_PeerFramesMoveTheRoles :
    (∃ s1 f, (paired 1 .owner).peerAccept 2 (peerRx 0 2 (beBytes 1 0 ++ beBytes 6 1000)) = (s1, some f) ∧ byteAt f.payload 0 = 0 ∧
      (paired 1 .owner).acts = true ∧ f.origin < (paired 1 .owner).seat ∧ (paired 1 .owner).attached = true ∧
      (paired 1 .owner).pat.turn = none ∧ f.origin ∉ (paired 1 .owner).pat.turnsDone) ∧
    (∃ s1 f, (paired 0 .owner).peerAccept 2 (peerRx 1 2 (beBytes 1 2 ++ beBytes 6 1000)) = (s1, some f) ∧ byteAt f.payload 0 = 2) ∧
    (∃ s1 f, (paired 1 .listener).peerAccept 2 (peerRx 0 2 (beBytes 1 3 ++ beBytes 6 1000)) = (s1, some f) ∧ byteAt f.payload 0 = 3 ∧
      f.origin < (paired 1 .listener).seat ∧ f.origin ∈ (paired 1 .listener).attachedSeats ∧ s1.seatEligible f.origin = true) ∧
    (∃ s1 f, (paired 0 .owner).peerAccept 3 (peerRx 1 3 (beBytes 1 0 ++ beBytes 1 0 ++ beBytes 6 1002)) = (s1, some f) ∧
      byteAt f.payload 1 = 0) ∧
    (∃ s1 f r, (paired 1 .listener).peerAccept 4 (peerRx 0 4 (mirrorItem 2 (beBytes 1 0 ++ [1, 2]))) = (s1, some f) ∧ r.port < 256 ∧
      f.payload = mirrorItem 2 (beBytes 1 r.port ++ [1, 2]) ∧ (paired 1 .listener).ring r.port = some r ∧
      (paired 1 .listener).attached = true ∧ (paired 1 .listener).acts = false) := by
  refine ⟨?_, ?_, ?_, ?_, ?_⟩
  · obtain ⟨f, h, ho, hp, -⟩ := pair_accepts 1 (.inr rfl) .owner 2 (beBytes 1 0 ++ beBytes 6 1000) (by decide) (by decide)
    exact ⟨_, f, h, by rw [hp]; decide, by decide, by rw [ho]; decide, by decide, by decide, by rw [ho]; decide⟩
  · obtain ⟨f, h, ho, hp, -⟩ := pair_accepts 0 (.inl rfl) .owner 2 (beBytes 1 2 ++ beBytes 6 1000) (by decide) (by decide)
    exact ⟨_, f, h, by rw [hp]; decide⟩
  · obtain ⟨f, h, ho, hp, -⟩ := pair_accepts 1 (.inr rfl) .listener 2 (beBytes 1 3 ++ beBytes 6 1000) (by decide) (by decide)
    exact ⟨_, f, h, by rw [hp]; decide, by rw [ho]; decide, by rw [ho]; decide, by rw [ho]; rfl⟩
  · obtain ⟨f, h, ho, hp, -⟩ := pair_accepts 0 (.inl rfl) .owner 3 (beBytes 1 0 ++ beBytes 1 0 ++ beBytes 6 1002) (by decide) (by decide)
    exact ⟨_, f, h, by rw [hp]; decide⟩
  · obtain ⟨f, h, ho, hp, -⟩ := pair_accepts 1 (.inr rfl) .listener 4 (mirrorItem 2 (beBytes 1 0 ++ [1, 2])) (by decide) (by decide)
    exact ⟨_, f, Ring.fresh 0, h, by decide, hp, by decide⟩

/-- A listener at a stitch, eligible for ownership. -/
def fit (k : Nat) (r : Role) (n : Nat) : State :=
  let s := paired k r
  { s with
    pace := { s.pace with stitch := n }, pat := { s.pat with passed := true }, flt := { s.flt with safeN := true }
    own := { s.own with since := 1000 } }

theorem witness_OwnershipIsClaimedElectedAndYielded :
    (let s := fit 0 .listener 5
     s.rounds = true ∧ s.tc1Up = true ∧ s.own.role = .listener ∧ s.img.rom = false ∧ s.img.digest.length = 32 ∧ s.tst.passed = true ∧
     s.pat.ownTurnDone = false ∧ s.seat = 0 ∧ s.pace.round = s.own.since ∧ s.pace.stitch = 5) ∧
    (let s : State := { fit 1 .listener 5 with own := { (fit 1 .listener 5).own with views := [], since := 0 } }
     s.seat = 1 ∧ 1 ∈ s.attachedSeats ∧ s.ownerSeat = none ∧ (∀ v ∈ s.own.views, v.seat ≠ 0 ∨ v.beat = none) ∧
     s.own.since + s.img.f.own.listenMax ≤ s.pace.round ∧ s.img.rom = false ∧ s.tst.passed = true ∧ s.pace.stitch = 5) ∧
    (let ready (s : State) : State :=
       { s with pat := { s.pat with turnsDone := [0, 1] }, pace := { s.pace with stitch := 3 } }
     let ok (s : State) : Bool :=
       s.rounds && s.tc1Up && !s.own.elected && s.pat.turn.isNone && s.pat.testing.isNone && s.turnsOver && !s.installAwaited &&
       decide (s.pace.stitch = 3)
     ok (ready (fit 0 .provisional 3)) = true ∧
     (ready (fit 0 .provisional 3)).lowestEligible (fun _ => true) = some (fit 0 .provisional 3).seat ∧
     ok (ready (paired 1 .provisional)) = true ∧
     (ready (paired 1 .provisional)).lowestEligible (fun _ => true) = some 0 ∧ (paired 1 .listener).seat ≠ 0 ∧
     ok (ready run) = true ∧ (ready run).lowestEligible (fun _ => true) = none) ∧
    (let s : State := { fit 0 .provisional 5 with own := { (fit 0 .provisional 5).own with electedSeat := some 1 } }
     s.own.yielding = none ∧ s.own.abandoned = none ∧ s.own.role = .provisional ∧ s.own.electedSeat = some 1 ∧ 1 ≠ s.seat ∧
     s.rounds = true ∧ s.pace.stitch = 5) ∧
    (let s : State := { fit 0 .owner 5 with own := { (fit 0 .owner 5).own with unfit := some 999 }, tst := { run.tst with passed := false } }
     s.own.role = .owner ∧ s.own.cut = false ∧ s.ownEligible = false ∧ s.own.unfit = some 999 ∧ 999 < s.pace.round ∧
     s.lowestEligible (fun j => !decide (j = s.seat)) = some 1) ∧
    (let y : Yield := ⟨1, 0, 1001, 1, 0, false, false⟩
     y.succ = (fit 0 .listener 5).seat ∧ y.accepted = false ∧ (fit 0 .listener 5).pace.round + 1 = y.h) := by decide

/-- The eligible seat 1 as it watches an owner that has missed BEATs. -/
def watching (n : Nat) : State :=
  { fit 0 .listener n with own := { (fit 0 .listener n).own with views := [{ view0 1 with role := .owner, missed := 3 }] } }

/-- What it asserts. -/
def plan0 : CutPlan := ⟨1, true, true, 0, none, false, false⟩

theorem witness_CutAndForcedTakeover :
    ((watching 3).seatIn .owner = some 1 ∧ (watching 3).tc1Up = true ∧ (watching 3).view 1 = some { view0 1 with role := .owner, missed := 3 } ∧ (watching 3).rounds = true ∧
      (watching 3).judges 1 = true ∧ (watching 3).own.cutting = none ∧ (watching 3).img.f.own.beatMiss ≤ 3 ∧
      ((watching 3).lowestEligible fun j => !decide (j = 1)).isSome = true) ∧
    (let s : State := { fit 0 .listener 3 with own := { (fit 0 .listener 3).own with views := [{ view0 1 with role := .owner }] } }
     s.seatIn .owner = some 1 ∧ s.judges 1 = true ∧ ¬ s.img.f.own.beatMiss ≤ 0 ∧ ¬ s.img.f.own.healthGrace ≤ 0 ∧ s.isOutvoted 1 = false) ∧
    ((watching 3).judges 1 = true ∧ ({ (watching 3).fast with trip := true } : FastPath).trip = true ∧ (watching 3).domainOn 2 = true ∧
      (((watching 3).fast.tripAt : Nat) : Rat) + (watching 3).img.f.own.tripDisagree * 1000 ≤ ((0 : Nat) : Rat) ∧ (watching 3).sup.dev ≠ .off) ∧
    (let s : State := { watching 5 with own := { (watching 5).own with cutting := some plan0 }, pace := { (watching 5).pace with stitchAt := 10 ^ 9 } }
     s.own.cutting = some plan0 ∧ s.rounds = true ∧ s.pace.stitch = 5 ∧ plan0.claimed = none ∧ plan0.barred = false ∧
     plan0.at_ * 1000 + 2 * (s.pace.lengthPs / 64) ≤ s.pace.stitchAt * 1000 + 1000 ∧
     s.attached = true ∧ s.lowestEligible (fun k => !decide (k = plan0.seat)) = some s.seat) ∧
    (let c : CutPlan := { plan0 with claimed := some 1000 }
     c.claimed = some (watching 6).pace.round ∧ (watching 6).pace.stitch = 6 ∧ c.barred = false ∧ c.driven = false ∧
     (watching 6).own.cut = false) ∧
    (let c : CutPlan := plan0
     ({ (watching 6).own with cutting := some c } : Ownership).cutting = some c ∧ (watching 6).allListed) := by
  refine ⟨by decide, by decide, by decide +kernel, by decide, by decide, rfl, ?_⟩
  unfold State.allListed
  decide

/-! ### Output links -/

/-- A channel whose two buffers hold a frame, the second's begun. -/
def chan0 : CanChan := { CanChan.empty with first := { CanBuf.empty with queued := some [] }, second := { CanBuf.empty with sending := some [] } }

/-- A device that has them, and a page of the round. -/
def sending : State :=
  { run with out := { run.out with
      canA := chan0, canB := { chan0 with busOff := true }, pages := [(1000, []), (999, [])], linkUp := true, phyOn := true } }

theorem witness_CanChannelsSendAndFail :
    sending.out.canA.busOff = false ∧ sending.domainOn 6 = true ∧ sending.out.canA.first.queued.isSome = true ∧
    sending.out.canA.second.sending.isSome = true ∧ sending.out.canB.busOff = true := by decide

theorem witness_RoundPagesLeaveOrAreDropped :
    (let s : State := { sending with out := { sending.out with pages := [(1000, []), (999, [])] } }
     s.out.pages = (1000, []) :: [(999, [])] ∧
     (∀ q ∈ s.out.pages, ¬ (q.1 + 1 < s.pace.round ∨ (q.1 + 1 = s.pace.round ∧ 62 ≤ s.pace.stitch))) ∧
     s.out.linkUp = true ∧ s.out.phyOn = true ∧ s.domainOn 6 = true) ∧
    (({ sending.out with phyOn := false } : Output).phyOn = false) ∧
    (let s := atStitch 62
     s.rounds = true ∧ ∃ p ∈ [(999, ([] : List Byte))], p.1 + 1 < s.pace.round ∨ (p.1 + 1 = s.pace.round ∧ 62 ≤ s.pace.stitch)) ∧
    sending.sup.pg1 = true ∧ sending.code.ethernet = true := by decide

/-! ### Monitors, test access and production tests -/

theorem witness_MonitorsReact :
    (4 ≤ ({ run.flt with keepMiss := 4 } : Faults).keepMiss ∧ run.pace.running = true) ∧
    (run.domainOn 3 = true ∧ 0 ∉ run.flt.tcDown ∧ 1 ∉ run.flt.tcDown ∧ 2 ≤ ({ run.flt with beatMiss0 := 2 } : Faults).beatMiss0 ∧
      2 ≤ ({ run.flt with beatMiss1 := 2 } : Faults).beatMiss1 ∧ 0 ∈ staleSet.flt.tcDown ∧ 1 ∉ staleSet.flt.tcDown ∧
      ({ run.flt with tcDown := [1] } : Faults).tcDown = [1]) ∧
    (run.domainOn 2 = true ∧ run.sup.dev ≠ .off ∧ run.rounds = true ∧ 10 ≤ ({ run.acq with dieHot := 10 } : Acq).dieHot) ∧
    (run.sup.dev = .run ∧ (fit 0 .listener 0).pace.round = (fit 0 .listener 0).own.since) ∧
    (boot.sup.dev = .boot ∧ boot.sup.bootStep = .imageRun) := by decide

/-- A part in the FACTORY state with its die identity, device key and return hash, held for a return. -/
def held : State :=
  { boot with
    nv := { run.nv with fuses := { run.nv.fuses with dieId := some 1, deviceKey := some 2, returnHash := some 3 } }
    tst := { run.tst with hold := true } }

theorem witness_TestAccessDrivesPinsAndData :
    (run.sup.dev ≠ .off ∧ run.tst.hold = false ∧ run.nv.fuses.lifecycle = .factory) ∧
    (({ run.nv.fuses with lifecycle := .field } : Fuses).lifecycle ≠ .factory ∧
      ({ run.nv.fuses with lifecycle := .field } : Fuses).lifecycle ≠ .production) := by decide

/-- A public key as it is presented. -/
def publicKey0 : List Byte := 0x04#8 :: List.replicate 64 0

theorem witness_FusesAreProgrammedReadAndAdvanced :
    (run.sup.dev ≠ .off ∧ run.tst.hold = false ∧ run.nv.fuses.lifecycle = .factory ∧ run.nv.fuses.dieId = none ∧
      ({ run.nv.fuses with lifecycle := .production } : Fuses).lifecycle = .production ∧
      ({ run.nv.fuses with slots := [some 1, none, none, none] } : Fuses).slots.any Option.isSome = true) ∧
    (held.sup.dev ≠ .off ∧ held.tst.hold = true ∧ (⟨1, publicKey0, true⟩ : AuthIn).verifies = true ∧ held.nv.fuses.dieId = some 1 ∧
      held.nv.fuses.deviceKey ≠ none ∧ held.nv.fuses.returnHash ≠ none ∧
      ∃ h, ({ held.nv.fuses with returnHash := keyHash publicKey0 } : Fuses).returnHash = some h ∧ keyHash publicKey0 = some h) :=
  ⟨by decide, by decide, by decide, by decide, by decide, by decide, by decide, _, rfl, rfl⟩

/-- A part in loop-back mode, and in production BIST. -/
def onTest (m : TestMode) : State :=
  { boot with sup := { boot.sup with bootStep := .selfTested }, tst := { boot.tst with mode := m, phase := 4 } }

theorem witness_LoopbackAndProductionTests :
    ((onTest .loopback).sup.dev = .boot ∧ (onTest .loopback).tst.mode = .loopback ∧ (onTest .loopback).sup.bootStep = .selfTested ∧
      (onTest .loopback).tst.phase < 5 ∧ (onTest .loopback).tst.lb.length = 49 ∧
      (onTest .loopback).depthRuns 40 = (onTest .loopback).code.ethernet ∧ (onTest .loopback).tst.phase = 4) ∧
    ((onTest .bist).tst.mode = .bist ∧ (onTest .bist).sup.bootStep = .selfTested ∧ (onTest .bist).tst.bistDone = false) := by decide

/-! ### Worked examples of the spec -/

/-- Chapter 02: the levels 0, 1, 2, 0, 0, 7, 1, 0 of codes 0 to 7 make the code word 0x0001700210. -/
theorem test_code_word :
    ({ Codes.cold with levels := [some 0, some 1, some 2, some 0, some 0, some 7, some 1, some 0] } : Codes).word = 0x0001700210 := by
  decide +kernel

/-- A published cell of the chapter 12 example. -/
def pubCell (id : Nat) (s lo hi cap : Rat) : PubCell :=
  { id := id, soc := s, lo := lo, hi := hi, cap := cap, res := 0, anomaly := none, ocv := none, state := .closed, srcL := true
    resid := false, hold := false, absentL := false, warmup := false, degraded := false, openLoop := false, nonfinite := false
    basted := false, loaded := false, overdue := false, tier := .shunt, gap := false, clsCap := cap, uC := 2, clsRes := 0, capL := true
    resL := true, volt := none, flags := 0, temp := 255, cohort := 0, balancing := false }

/-- Chapter 12: two positions of 147.0 A·h and 149.0 A·h give a pack of 142.83 A·h at 56.60 %, bracket [55.77 %, 57.43 %]. -/
theorem test_pack_example :
    (let g := aggregate [pubCell 1 55 (271 / 5) (279 / 5) 147, pubCell 2 (292 / 5) (288 / 5) (296 / 5) 149] 0
     ((g.cap * 100).floor, (g.soc * 100).floor, (g.lo * 100).floor, (g.hi * 100).floor, g.posDis, g.posChg)) =
    (14283, 5660, 5577, 5743, 1, 2) := by decide +kernel

/-- Chapter 17: 55.77 % in a frame is the code 28,885. -/
theorem test_frame_code : codeOf 65533 (nearest ((5577 / 100 + 2) * 500 : Rat)) = 28885 := by decide +kernel

/-- The estimator fields of the chapter 08 example. -/
def estFields : EstFields := { EstFields.zero with capNominal := 150, gainShunt := 1 / 2, capStepMax := 2, capUMin := 1, minDelta := 20 }

/-- Chapter 08: 85.00 A·h of charge and 0.30 A·h of balancing between 90.00 % and 32.18 % measure 147.53 A·h (147.527). -/
theorem test_capacity_example :
    ((({ Cell.new estFields 1 with cap := 148, uC := 2, bal := 3 / 10 } : Cell).measure estFields
      ⟨.tack, 90, 3 / 5, 0, 0, 0⟩ ⟨.tack, 1609 / 50, 49 / 50, 306000000000000, 21600000000000, 1⟩).1 * 100).floor = 14752 := by decide +kernel

/-- One cell of the store of the chapter 08 example. -/
def storeCell (lo cap : Rat) : Cell := { Cell.new EstFields.zero 1 with lo := lo, cap := cap, r := 4000 }

/-- An open-circuit curve over the SoC in steps of 5 %, at three temperatures. -/
def storeFields : EstFields :=
  let c : List Rat := [1900, 1950, 2050, 2100, 2150, 2200, 2240, 2255, 2265, 2275, 2290, 2300, 2310, 2320, 2330, 2340, 2350, 2360, 2370, 2380, 2400]
  { EstFields.zero with ocvT := [0, 25, 50], ocvV := [c, c, c] }

/-- Chapter 08, the hem channel of K-6: E_avail = 69.7 W·h and E_full = 121.3 W·h. -/
theorem test_store_example :
    (let h := hemCompute ⟨180, 57 / 5, 5⟩ storeFields 1800 25
       [storeCell 63 (99 / 10), storeCell 63 (99 / 10), storeCell 63 (99 / 10), storeCell 61 (48 / 5), storeCell 63 (99 / 10), storeCell 63 (99 / 10)]
       true ⟨0, 0, 0, 0, 0, false, 0⟩
     ((h.avail * 10).floor, (h.full * 10).floor)) = (697, 1213) := by decide +kernel

/-- Chapter 07: samples −1 to 3 at 180 A and 4 to 7 at −60 A, the last of which ends 40 µs after the boundary, make 69,600 µC. -/
theorem test_shunt_charge :
    (let feed (x : Shunt) (snap : Nat) (l : List (Nat × Int)) : Shunt := l.foldl (fun x p => x.sample snap p.2 false p.1) x
     let a := feed { Acq.zero.ishA with open_ := true } 1000000 ((List.range 5).map fun k => (1040000 + 125000 * k, 180000))
     let b := feed a 1000000 ((List.range 3).map fun k => (1040000 + 125000 * (5 + k), -60000))
     (feed { b with open_ := true } 2000000 [(2040000, -60000)]).charge) = 69600 := by decide +kernel

/-- Chapter 13: the apportionment gives each share its floor and no more than its request. -/
theorem test_apportion :
    ((apportion [⟨0, 8, 160⟩, ⟨3, 0, 3⟩, ⟨0, 0, 0⟩, ⟨2, 1, 8⟩] (4497 / 25)).1) = [160, 3, 0, 8] := by decide +kernel

/-- Chapter 13: the codes of 160 of 200 kW, 3 of 4 kW and 8 of 10 kW on a scale of 50,000 steps. -/
theorem test_cap_code : [capCode 50000 200 160, capCode 50000 4 3, capCode 50000 10 8] = [40000, 37500, 40000] := by decide +kernel

/-- Chapter 04: a carrier of 10 kHz is divided by 10, and mains of 50 Hz are multiplied by 20. -/
theorem test_ratio : chooseRatio 500 100000000 = some ⟨.divide, 10⟩ ∧ chooseRatio 500 20000000000 = some ⟨.multiply, 20⟩ := by decide +kernel

/-- The operators of the chapter 09 example by their cost: products with the weights of an initializer, elementwise operators and nonlinear
ones, and one layer of them. -/
def mulOp (w n : Nat) : GateNode := ⟨.matmul false, [.features, .init w], [n]⟩
@[inherit_doc mulOp] def addOp (n : Nat) : GateNode := ⟨.bin .add, [.features, .features], [n]⟩
@[inherit_doc mulOp] def sigOp (n : Nat) : GateNode := ⟨.un .sigmoid, [.features], [n]⟩
@[inherit_doc mulOp] def layerOps (w : Nat) : List GateNode :=
  List.replicate 4 (mulOp w 128) ++ [mulOp 1 128] ++ List.replicate 6 (addOp 128) ++
  [sigOp 128, sigOp 128, ⟨.scan 3 .softplus (List.replicate 4 false) 0, [.features, .features, .features, .features], [128]⟩]

/-- The graph of the chapter 09 example. -/
def exampleGraph : Graph :=
  { graph0 with
    inits := [⟨[16, 128], .bf16⟩, ⟨[128, 128], .bf16⟩, ⟨[128, 6], .bf16⟩, ⟨[128], .f32⟩], features := List.range 16
    ops := [addOp 16, addOp 16] ++ layerOps 0 ++ layerOps 1 ++ layerOps 1 ++ [mulOp 2 6, addOp 6, addOp 6, sigOp 6] }

/-- Chapter 09: a cell takes 1,786 gate cycles and 12 lane-cycles, and 126 cells a gate time of 28,576 ns and a scan time of 384 ns. -/
theorem test_gate_cost : exampleGraph.gateCycles = 1786 ∧ exampleGraph.laneCycles = 12 ∧
    dealt 8 [List.replicate 126 1786] = 28576 ∧ dealt 4 [List.replicate 126 12] = 384 := by decide +kernel

end Sys2Proof.Tests
end

section
/-!
SUPPORT. The steps and the commands of the scope chapter (R3, R5): which commands may move the fixed part of the state, and why none of them
reconfigures a device in operation.
-/
namespace Sys2Proof.Machine

/-! ### A step -/

theorem step_of_pending_cons {s : State} {c : Instr} {rest : List Instr} (h : s.pending = c :: rest) :
    step s = exec c { s with pending := rest } := by
  unfold step; rw [h]

theorem step_of_pending_nil {s : State} (h : s.pending = []) : step s = .next s := by
  unfold step; rw [h]

/-- Settles O1: the two branches of the step on the queue. -/
theorem stepRunsTheFrontCommand : Obligations.StepRunsTheFrontCommand :=
  ⟨fun _ _ _ h => step_of_pending_cons h, fun _ h => step_of_pending_nil h⟩

/-! ### Commands that leave the fixed part alone -/

theorem Completes.imp {c : Instr} {s : State} {P Q : State → Prop} (h : Completes c s P) (hPQ : ∀ t, P t → Q t) : Completes c s Q := by
  obtain ⟨t, ht, hP⟩ := h
  exact ⟨t, ht, hPQ t hP⟩

/-- The commands that may move the fixed part: the start of a domain and the boot, which bring the straps, codes and fields (R33, R41, R65,
R401); the loss of P0 AON; and those that write fuses (R399, R466 to R468, R471), a received BEAT among them, for a non-owner follows its
owner into PARK (R389). -/
inductive MovesFixed : Instr → Prop
  | coldBoot (cutsHigh : Bool) : MovesFixed (.coldBoot cutsHigh)
  | strapLatch (x : StrapSamples) : MovesFixed (.strapLatch x)
  | resistorCodeRead (x : CodeReads) : MovesFixed (.resistorCodeRead x)
  | imageSelect (a b : Option SlotImage) : MovesFixed (.imageSelect a b)
  | warmResume (cutsHigh : Bool) (t : Ns) : MovesFixed (.warmResume cutsHigh t)
  | aonLost : MovesFixed .aonLost
  | parkCriterion (fusesOk : Bool) (t : Ns) : MovesFixed (.parkCriterion fusesOk t)
  | beatReceived (x : PeerRx) : MovesFixed (.beatReceived x)
  | keyProg (item : KeyItem) : MovesFixed (.keyProg item)
  | lcAdvance (readBack : Bool) : MovesFixed (.lcAdvance readBack)
  | auth (x : AuthIn) : MovesFixed (.auth x)

/-- Every other command completes with the fixed part as it was: its operation's frame lemma, one for each row of the opcode table. -/
theorem movesFixed_or_completes_fixed : ∀ (c : Instr) (s : State), MovesFixed c ∨ Completes c s (fun t => t.fixed = s.fixed)
  | .coldBoot _, _ => .inl (.coldBoot _)
  | .strapLatch _, _ => .inl (.strapLatch _)
  | .resistorCodeRead _, _ => .inl (.resistorCodeRead _)
  | .pgGood _, _ => .inr ⟨_, rfl, pgGood_fixed _ _⟩
  | .pmicHandshakeTimeout, _ => .inr ⟨_, rfl, pmicTimeout_fixed _⟩
  | .pmicRetry, _ => .inr ⟨_, rfl, pmicRetry_fixed _⟩
  | .domainSwitchOn _, _ => .inr ⟨_, rfl, domainSwitchOn_fixed _ _⟩
  | .domainSwitchTimeout _, _ => .inr ⟨_, rfl, domainSwitchTimeout_fixed _ _⟩
  | .startupSelfTest _, _ => .inr ⟨_, rfl, startupSelfTest_fixed _ _⟩
  | .lpddr5InitComplete _, _ => .inr ⟨_, rfl, ddrInit_fixed _ _⟩
  | .imageSelect _ _, _ => .inl (.imageSelect _ _)
  | .roundZero _ _, _ => .inr ⟨_, rfl, roundZero_fixed _ _ _⟩
  | .checkpointLoad, _ => .inr ⟨_, rfl, checkpointLoad_fixed _⟩
  | .warmResume _ _, _ => .inl (.warmResume _ _)
  | .bootSupplyLoss, _ => .inr ⟨_, rfl, bootSupplyLoss_fixed _⟩
  | .tapPresent _, _ => .inr ⟨_, rfl, tapPresent_fixed _ _⟩
  | .tapAbsent _, _ => .inr ⟨_, rfl, tapAbsent_fixed _ _⟩
  | .tapOvervoltage _, _ => .inr ⟨_, rfl, tapOvervoltage_fixed _ _⟩
  | .tapOvervoltageEnd _, _ => .inr ⟨_, rfl, tapOvervoltageEnd_fixed _ _⟩
  | .tapReverseCurrent _, _ => .inr ⟨_, rfl, tapReverseCurrent_fixed _ _⟩
  | .sharingRunComplete _, _ => .inr ⟨_, rfl, sharingRun_fixed _ _⟩
  | .railLoss _ _, _ => .inr ⟨_, rfl, railLoss_fixed _ _ _⟩
  | .pg2Loss, _ => .inr ⟨_, rfl, pg2Loss_fixed _⟩
  | .pg2Return, _ => .inr ⟨_, rfl, pg2Return_fixed _⟩
  | .supplyLossTrigger _, _ => .inr ⟨_, rfl, supplyLoss_fixed _ _⟩
  | .graceEnd _, _ => .inr ⟨_, rfl, graceEnd_fixed _ _⟩
  | .freeze _, _ => .inr ⟨_, rfl, freeze_fixed _ _⟩
  | .sealComplete _, _ => .inr ⟨_, rfl, sealComplete_fixed _ _⟩
  | .supplyReturn _, _ => .inr ⟨_, rfl, supplyReturn_fixed _ _⟩
  | .abortDampingEnd, _ => .inr ⟨_, rfl, abortDampingEnd_fixed _⟩
  | .aonLost, _ => .inl .aonLost
  | .parkCriterion _ _, _ => .inl (.parkCriterion _ _)
  | .wakeCause _ _, _ => .inr ⟨_, rfl, wakeCause_fixed _ _ _⟩
  | .parkTimer _, _ => .inr ⟨_, rfl, parkTimer_fixed _ _⟩
  | .parkCheckEnd _, _ => .inr ⟨_, rfl, parkCheckEnd_fixed _ _⟩
  | .shipCriterion _, _ => .inr ⟨_, rfl, shipCriterion_fixed _ _⟩
  | .shipExit _, _ => .inr ⟨_, rfl, shipExit_fixed _ _⟩
  | .paceEdge _, _ => .inr ⟨_, rfl, paceEdge_fixed _ _⟩
  | .paceLoss _, _ => .inr ⟨_, rfl, paceLoss_fixed _ _⟩
  | .holdoverEnd, _ => .inr ⟨_, rfl, holdoverEnd_fixed _⟩
  | .snapSend, _ => .inr ⟨_, rfl, snapSend_fixed _⟩
  | .roundStart _, _ => .inr ⟨_, rfl, roundStart_fixed _ _⟩
  | .stitchStart _, _ => .inr ⟨_, rfl, stitchStart_fixed _ _⟩
  | .maintChange, _ => .inr ⟨_, rfl, maintChange_fixed _⟩
  | .strapResample _, _ => .inr ⟨_, rfl, strapResample_fixed _ _⟩
  | .codeReread _ _, _ => .inr ⟨_, rfl, codeReread_fixed _ _ _⟩
  | .tokenSend, _ => .inr ⟨_, rfl, tokenRound_fixed _⟩
  | .readReceived _, _ => .inr ⟨_, rfl, readFrame_fixed _ _⟩
  | .commandRetriesSpent _, _ => .inr ⟨_, rfl, retriesSpent_fixed _ _⟩
  | .commandResend _, _ => .inr ⟨_, rfl, commandResend_fixed _ _⟩
  | .nodeLost _, _ => .inr ⟨_, rfl, lostNode_fixed _ _⟩
  | .ringReversal _, _ => .inr ⟨_, rfl, ringReversal_fixed _ _⟩
  | .reversalEnd _, _ => .inr ⟨_, rfl, reversalEnd_fixed _ _⟩
  | .violationWindowEnd, _ => .inr ⟨_, rfl, violationWindowEnd_fixed _⟩
  | .identResponse _, _ => .inr ⟨_, rfl, identResponse_fixed _ _⟩
  | .identTimeout _, _ => .inr ⟨_, rfl, identTimeout_fixed _ _⟩
  | .echo _, _ => .inr ⟨_, rfl, echoSend_fixed _ _⟩
  | .echoReply _, _ => .inr ⟨_, rfl, echoReply_fixed _ _⟩
  | .echoTimeout _ _, _ => .inr ⟨_, rfl, echoTimeout_fixed _ _ _⟩
  | .linkTestStart _ _, _ => .inr ⟨_, rfl, linkTestStart_fixed _ _ _⟩
  | .bert _, _ => .inr ⟨_, rfl, bertSend_fixed _ _⟩
  | .prbs31Start _ _, _ => .inr ⟨_, rfl, prbsStart_fixed _ _ _⟩
  | .prbs31End _, _ => .inr ⟨_, rfl, prbsEnd_fixed _ _⟩
  | .bertReport _, _ => .inr ⟨_, rfl, bertReport_fixed _ _⟩
  | .installationTest, _ => .inr ⟨_, rfl, installTest_fixed _⟩
  | .periodicTestDue, _ => .inr ⟨_, rfl, periodicDue_fixed _⟩
  | .periodicTestOverdue, _ => .inr ⟨_, rfl, periodicOverdue_fixed _⟩
  | .maintenanceRetest, _ => .inr ⟨_, rfl, maintenanceRetest_fixed _⟩
  | .shuntSample _, _ => .inr ⟨_, rfl, shuntSample_fixed _ _⟩
  | .shuntRangeSensor _ _, _ => .inr ⟨_, rfl, shuntRangeSensor_fixed _ _ _⟩
  | .sentFrame _, _ => .inr ⟨_, rfl, sentFrame_fixed _ _⟩
  | .sentIdTimeout _, _ => .inr ⟨_, rfl, sentIdTimeout_fixed _ _⟩
  | .sentLoss _, _ => .inr ⟨_, rfl, sentLoss_fixed _ _⟩
  | .sbSnapBlank, _ => .inr ⟨_, rfl, sbBlank_fixed _⟩
  | .sbRestore, _ => .inr ⟨_, rfl, sbRestore_fixed _⟩
  | .packChecks _, _ => .inr ⟨_, rfl, packChecks_fixed _ _⟩
  | .classicalUpdate, _ => .inr ⟨_, rfl, classicalUpdate_fixed _⟩
  | .bastingFormed _, _ => .inr ⟨_, rfl, bastingFormed_fixed _ _⟩
  | .tackOverdue, _ => .inr ⟨_, rfl, tackOverdue_fixed _⟩
  | .pairRecordWrite, _ => .inr ⟨_, rfl, pairRecordWrite_fixed _⟩
  | .stateBlockFetch _, _ => .inr ⟨_, rfl, stateBlockFetch_fixed _ _⟩
  | .learnedResultWritten _ _, _ => .inr ⟨_, rfl, learnedResult_fixed _ _ _⟩
  | .openLoopLimit _, _ => .inr ⟨_, rfl, openLoopLimit_fixed _ _⟩
  | .warmupEnd _, _ => .inr ⟨_, rfl, warmupEnd_fixed _ _⟩
  | .replayStep _, _ => .inr ⟨_, rfl, replayStep_fixed _ _⟩
  | .replayCompare, _ => .inr ⟨_, rfl, replayCompare_fixed _⟩
  | .replayAbort, _ => .inr ⟨_, rfl, replayAbort_fixed _⟩
  | .replayPeriodEnd, _ => .inr ⟨_, rfl, replayPeriodEnd_fixed _⟩
  | .stepAbandon _, _ => .inr ⟨_, rfl, stepAbandon_fixed _ _⟩
  | .cellRestore _, _ => .inr ⟨_, rfl, cellRestore_fixed _ _⟩
  | .lpddr5EccError _ _, _ => .inr ⟨_, rfl, ddrEcc_fixed _ _ _⟩
  | .bobbinEccError _ _ _, _ => .inr ⟨_, rfl, bobbinEcc_fixed _ _ _ _⟩
  | .tcmEccError _, _ => .inr ⟨_, rfl, tcmError_fixed _ _⟩
  | .eccWindowEnd, _ => .inr ⟨_, rfl, eccWindowEnd_fixed _⟩
  | .scrubPass, _ => .inr ⟨_, rfl, scrubPass_fixed _⟩
  | .scrubOverdue, _ => .inr ⟨_, rfl, scrubOverdue_fixed _⟩
  | .arbitrationRevoke _, _ => .inr ⟨_, rfl, arbitrationRevoke_fixed _ _⟩
  | .portUnfence _, _ => .inr ⟨_, rfl, portUnfence_fixed _ _⟩
  | .refreshRateRead _, _ => .inr ⟨_, rfl, refreshRateRead_fixed _ _⟩
  | .cycleStart, _ => .inr ⟨_, rfl, cycleStart_fixed _⟩
  | .shadowStep _ _, _ => .inr ⟨_, rfl, shadowStep_fixed _ _ _⟩
  | .warmPhaseEnd, _ => .inr ⟨_, rfl, warmPhaseEnd_fixed _⟩
  | .shadowUpdate, _ => .inr ⟨_, rfl, shadowUpdate_fixed _⟩
  | .epochEnd, _ => .inr ⟨_, rfl, epochEnd_fixed _⟩
  | .fitDecision, _ => .inr ⟨_, rfl, fitDecision_fixed _⟩
  | .adapterCopy, _ => .inr ⟨_, rfl, adapterCopy_fixed _⟩
  | .promotion, _ => .inr ⟨_, rfl, promotion_fixed _⟩
  | .shedLower _, _ => .inr ⟨_, rfl, shedLower_fixed _ _⟩
  | .checkpointTrigger _, _ => .inr ⟨_, rfl, checkpointTrigger_fixed _ _⟩
  | .checkpointStaged, _ => .inr ⟨_, rfl, checkpointStaged_fixed _⟩
  | .checkpointWrite _, _ => .inr ⟨_, rfl, checkpointWrite_fixed _ _⟩
  | .norBusRevoke, _ => .inr ⟨_, rfl, norBusRevoke_fixed _⟩
  | .seamDecision _, _ => .inr ⟨_, rfl, seamDecision_fixed _ _⟩
  | .seamDeadline, _ => .inr ⟨_, rfl, seamDeadline_fixed _⟩
  | .publication _ _, _ => .inr ⟨_, rfl, publication_fixed _ _ _⟩
  | .roundPage _, _ => .inr ⟨_, rfl, roundSend_fixed _ _⟩
  | .roundPageDrop, _ => .inr ⟨_, rfl, roundPageDrop_fixed _⟩
  | .seamWindowEnd, _ => .inr ⟨_, rfl, seamWindowEnd_fixed _⟩
  | .capLatch _ _ _, _ => .inr ⟨_, rfl, capLatch_fixed _ _ _⟩
  | .capLatchMissing, _ => .inr ⟨_, rfl, capLatchMissing_fixed _⟩
  | .comparatorEvent _, _ => .inr ⟨_, rfl, comparatorEvent_fixed _ _⟩
  | .cellLimitFlag _, _ => .inr ⟨_, rfl, cellLimitFlag_fixed _ _⟩
  | .fastPathRelease _ _, _ => .inr ⟨_, rfl, fastPathRelease_fixed _ _ _⟩
  | .pinReadbackMismatch _, _ => .inr ⟨_, rfl, pinReadbackMismatch_fixed _ _⟩
  | .storeAbsent, _ => .inr ⟨_, rfl, storeAbsent_fixed _⟩
  | .storePresent, _ => .inr ⟨_, rfl, storePresent_fixed _⟩
  | .vmainFail _, _ => .inr ⟨_, rfl, vmainFail_fixed _ _⟩
  | .reservePrecharge _ _, _ => .inr ⟨_, rfl, reservePrecharge_fixed _ _ _⟩
  | .stableReached _, _ => .inr ⟨_, rfl, stableReached_fixed _ _⟩
  | .pathDwellEnd _, _ => .inr ⟨_, rfl, pathDwellEnd_fixed _ _⟩
  | .rampComplete _, _ => .inr ⟨_, rfl, rampComplete_fixed _ _⟩
  | .shortDetected _, _ => .inr ⟨_, rfl, shortDetected_fixed _ _⟩
  | .coolEnd _, _ => .inr ⟨_, rfl, coolEnd_fixed _ _⟩
  | .shortCountReset _, _ => .inr ⟨_, rfl, shortCountReset_fixed _ _⟩
  | .latchedExit _, _ => .inr ⟨_, rfl, latchedExit_fixed _ _⟩
  | .floor _ _, _ => .inr ⟨_, rfl, floor__fixed _ _ _⟩
  | .dampingEnd _, _ => .inr ⟨_, rfl, dampingEnd_fixed _ _⟩
  | .gateInterlockTimeout _, _ => .inr ⟨_, rfl, gateInterlockTimeout_fixed _ _⟩
  | .gateMonitorFault _ _, _ => .inr ⟨_, rfl, gateMonitorFault_fixed _ _ _⟩
  | .breqEdge _ _, _ => .inr ⟨_, rfl, breqEdge_fixed _ _ _⟩
  | .burstRelease _ _, _ => .inr ⟨_, rfl, burstRelease_fixed _ _ _⟩
  | .burstDurationEnd _ _, _ => .inr ⟨_, rfl, burstDurationEnd_fixed _ _ _⟩
  | .bgntAnswer _, _ => .inr ⟨_, rfl, bgntAnswer_fixed _ _⟩
  | .beatSend _, _ => .inr ⟨_, rfl, beatSend_fixed _ _⟩
  | .beatReceived _, _ => .inl (.beatReceived _)
  | .claimReceived _, _ => .inr ⟨_, rfl, claimReceived_fixed _ _⟩
  | .yieldReceived _, _ => .inr ⟨_, rfl, yieldReceived_fixed _ _⟩
  | .mirrorReceived _, _ => .inr ⟨_, rfl, mirrorReceived_fixed _ _⟩
  | .peerWindowEnd, _ => .inr ⟨_, rfl, peerWindowEnd_fixed _⟩
  | .unaligned, _ => .inr ⟨_, rfl, unaligned_fixed _⟩
  | .provisionalClaim, _ => .inr ⟨_, rfl, provisionalClaim_fixed _⟩
  | .listenTimeout, _ => .inr ⟨_, rfl, listenTimeout_fixed _⟩
  | .election, _ => .inr ⟨_, rfl, election_fixed _⟩
  | .yieldSend, _ => .inr ⟨_, rfl, yieldSend_fixed _⟩
  | .acceptClaim, _ => .inr ⟨_, rfl, acceptClaim_fixed _⟩
  | .ownerJudge, _ => .inr ⟨_, rfl, ownerJudge_fixed _⟩
  | .tripDisagree _, _ => .inr ⟨_, rfl, tripDisagree_fixed _ _⟩
  | .cutIn _, _ => .inr ⟨_, rfl, cutIn_fixed _ _⟩
  | .forcedClaim, _ => .inr ⟨_, rfl, forcedClaim_fixed _⟩
  | .forcedTakeoverDrive _, _ => .inr ⟨_, rfl, forcedTakeoverDrive_fixed _ _⟩
  | .ownerSelfCheck _, _ => .inr ⟨_, rfl, ownerSelfCheck_fixed _ _⟩
  | .canTxComplete _ _ _ _, _ => .inr ⟨_, rfl, canTxComplete_fixed _ _ _ _ _⟩
  | .canErrorPassive _, _ => .inr ⟨_, rfl, canErrorPassive_fixed _ _⟩
  | .canBusOff _, _ => .inr ⟨_, rfl, canBusOff_fixed _ _⟩
  | .canBusOffRecovery _, _ => .inr ⟨_, rfl, canBusOffRecovery_fixed _ _⟩
  | .canFrameReceived _ _, _ => .inr ⟨_, rfl, rfl⟩
  | .sgmiiRxDiscard _, _ => .inr ⟨_, rfl, rfl⟩
  | .sgmiiLinkChange _, _ => .inr ⟨_, rfl, sgmiiLinkChange_fixed _ _⟩
  | .phyResetRelease, _ => .inr ⟨_, rfl, phyResetRelease_fixed _⟩
  | .pinKeeperExpiry, _ => .inr ⟨_, rfl, pinKeeperExpiry_fixed _⟩
  | .fastClockLoss _, _ => .inr ⟨_, rfl, fastClockLoss_fixed _ _⟩
  | .crystalFail, _ => .inr ⟨_, rfl, crystalFail_fixed _⟩
  | .lockstepMismatch _, _ => .inr ⟨_, rfl, lockstepMismatch_fixed _ _⟩
  | .heartbeatMiss _, _ => .inr ⟨_, rfl, heartbeatMiss_fixed _ _⟩
  | .dieOvertemp, _ => .inr ⟨_, rfl, dieOvertemp_fixed _⟩
  | .bypass, _ => .inr ⟨_, rfl, tapBypass_fixed _⟩
  | .idcode, _ => .inr ⟨_, rfl, tapIdcode_fixed _⟩
  | .samplePreload _ _, _ => .inr ⟨_, rfl, tapSample_fixed _ _ _⟩
  | .extest _, _ => .inr ⟨_, rfl, tapExtest_fixed _ _ _⟩
  | .clamp, _ => .inr ⟨_, rfl, tapClamp_fixed _⟩
  | .highz, _ => .inr ⟨_, rfl, tapHighz_fixed _⟩
  | .extestPulse _, _ => .inr ⟨_, rfl, tapExtest_fixed _ _ _⟩
  | .extestTrain _, _ => .inr ⟨_, rfl, tapExtest_fixed _ _ _⟩
  | .lbResult, _ => .inr ⟨_, rfl, tapLbResult_fixed _⟩
  | .bistResult, _ => .inr ⟨_, rfl, tapBistResult_fixed _⟩
  | .keyProg _, _ => .inl (.keyProg _)
  | .fuseRead _, _ => .inr ⟨_, rfl, fuseRead_fixed _ _⟩
  | .lcAdvance _, _ => .inl (.lcAdvance _)
  | .auth _, _ => .inl (.auth _)
  | .returnHoldEnd, _ => .inr ⟨_, rfl, returnHoldEnd_fixed _⟩
  | .loopbackPhase _, _ => .inr ⟨_, rfl, loopbackPhase_fixed _ _⟩
  | .productionBist _ _ _, _ => .inr ⟨_, rfl, productionBist_fixed _ _ _ _⟩
  | .pacePllFail, _ => .inr ⟨_, rfl, pacePllFail_fixed _⟩
  | .snapReceived _, _ => .inr ⟨_, rfl, snapReceived_fixed _ _⟩
  | .shipNHigh, _ => .inr ⟨_, rfl, shipNHigh_fixed _⟩
  | .goodChange _ _, _ => .inr ⟨_, rfl, goodChange_fixed _ _ _⟩
  | .mainPrecharge _ _, _ => .inr ⟨_, rfl, mainPrecharge_fixed _ _ _⟩

/-! ### Boot commands wait for a boot (R3) -/

theorem coldBoot_of_not_off {s : State} (h : s.sup.dev ≠ .off) (cutsHigh : Bool) : coldBoot cutsHigh s = s := by
  simp [coldBoot, h]

theorem strapLatch_of_not_boot {s : State} (h : s.sup.dev ≠ .boot) (x : StrapSamples) : strapLatch x s = s := by
  simp [strapLatch, h]

theorem resistorCodeRead_of_not_boot {s : State} (h : s.sup.dev ≠ .boot) (x : CodeReads) : resistorCodeRead x s = s := by
  simp [resistorCodeRead, h]

theorem imageSelect_of_not_boot {s : State} (h : s.sup.dev ≠ .boot) (a b : Option SlotImage) : imageSelect a b s = s := by
  simp [imageSelect, h]

theorem warmResume_of_not_due {s : State} (h : s.sup.resume = none) (cutsHigh : Bool) (t : Ns) : warmResume cutsHigh t s = s := by
  simp [warmResume, h]

/-! ### What writes fuses leaves the configuration (R5, R8) -/

theorem SameConfig.refl (s : State) : SameConfig s s := SameConfig.of_fixed rfl

theorem State.tap_sameConfig (s : State) (i : TapInstr) (f : State → State) (h : ∀ u, SameConfig u (f u)) : SameConfig s (s.tap i f) := by
  unfold State.tap
  split
  · exact SameConfig.refl s
  · split
    · refine SameConfig.trans ?_ (h _)
      exact ⟨⟨rfl, rfl⟩, rfl⟩
    · exact ⟨⟨rfl, rfl⟩, rfl⟩

theorem keyProg_sameConfig (i : KeyItem) (s : State) : SameConfig s (keyProg i s) := by
  refine State.tap_sameConfig s _ _ fun u => ?_
  split <;> exact ⟨⟨rfl, rfl⟩, rfl⟩

theorem lcAdvance_sameConfig (readBack : Bool) (s : State) : SameConfig s (lcAdvance readBack s) := by
  refine State.tap_sameConfig s _ _ fun u => ?_
  split
  · split <;> exact ⟨⟨rfl, rfl⟩, rfl⟩
  · exact ⟨⟨rfl, rfl⟩, rfl⟩

theorem tapAuth_sameConfig (x : AuthIn) (s : State) : SameConfig s (tapAuth x s) := by
  refine State.tap_sameConfig s _ _ fun u => ?_
  split
  · refine SameConfig.trans ?_ (SameConfig.of_fixed (State.judgeCopies_fixed _))
    exact ⟨⟨rfl, rfl⟩, rfl⟩
  · exact SameConfig.refl u

theorem State.selfAdvance_sameConfig (s : State) : SameConfig s s.selfAdvance := by
  unfold State.selfAdvance
  dsimp only
  split
  · exact ⟨⟨rfl, rfl⟩, rfl⟩
  · exact SameConfig.refl s

theorem State.rollbackCommit_sameConfig (s : State) (ok : Bool) : SameConfig s (s.rollbackCommit ok) := by
  unfold State.rollbackCommit
  dsimp only
  split
  · exact SameConfig.refl s
  · split
    · exact SameConfig.of_fixed (State.raise_fixed _ _ _)
    · refine SameConfig.trans ?_ (SameConfig.of_fixed ((State.log_fixed _ _ _).trans (State.clear_fixed _ _ _)))
      exact ⟨⟨rfl, rfl⟩, rfl⟩

/-! ### Park shut-downs leave the configuration (R5) -/

theorem State.parkGrace_sameConfig (s : State) (ok owner : Bool) (t : Ns) : SameConfig s (s.parkGrace ok owner t) := by
  unfold State.parkGrace
  extract_lets s1 sup s2 rolled s3
  have hentered : SameConfig s s2 := SameConfig.of_fixed (State.enterGrace_fixed s .park t)
  have hrolled : SameConfig s2 rolled := by
    simp only [rolled]; split
    · exact State.rollbackCommit_sameConfig _ _
    · exact State.selfAdvance_sameConfig _
  refine (hentered.trans hrolled).trans (SameConfig.of_fixed ?_)
  simp only [s3, State.graceCkpt_fixed, State.parkTest_fixed, pairRecordWrite_fixed, State.fallbackWrite_fixed]

theorem parkCriterion_sameConfig (ok : Bool) (t : Ns) (s : State) : SameConfig s (parkCriterion ok t s) := by
  unfold parkCriterion
  split
  · exact State.parkGrace_sameConfig _ _ _ _
  · exact SameConfig.refl s

theorem State.followPark_sameConfig (s : State) (origin : Nat) (i : Intent) : SameConfig s (s.followPark origin i) := by
  unfold State.followPark
  split
  · exact SameConfig.refl s
  · split
    · exact SameConfig.refl s
    · refine SameConfig.trans ?_ (State.parkGrace_sameConfig _ _ _ _)
      exact ⟨⟨rfl, rfl⟩, rfl⟩
    · exact SameConfig.of_fixed (State.shipGrace_fixed _ _)

theorem beatTaken_sameConfig (x : PeerRx) (s : State) : SameConfig s (beatTaken x s) := by
  have haccept : SameConfig s (s.peerAccept 1 x).1 := SameConfig.of_fixed (State.peerAccept_fixed s 1 x)
  unfold beatTaken
  split
  · rename_i s1 f he
    rw [he] at haccept
    refine SameConfig.trans ?_ (State.followPark_sameConfig _ _ _)
    exact haccept.trans (SameConfig.of_fixed (State.takeBeat_fixed s1 x f))
  · rename_i s1 he
    rwa [he] at haccept

/-! ### The configuration in operation -/

/-- A boot command finds no boot to act in, a resume finds none due, and what is left of the commands that move the fixed part moves the
fuses alone. -/
theorem completes_sameConfig_of_movesFixed {s : State} {c : Instr} (h : MovesFixed c) (hoff : s.sup.dev ≠ .off) (hboot : s.sup.dev ≠ .boot)
    (hres : s.sup.resume = none) (haon : c ≠ .aonLost) : Completes c s (SameConfig s) := by
  cases h with
  | coldBoot b => exact ⟨_, rfl, by rw [coldBoot_of_not_off hoff]; exact SameConfig.refl s⟩
  | strapLatch x => exact ⟨_, rfl, by rw [strapLatch_of_not_boot hboot]; exact SameConfig.refl s⟩
  | resistorCodeRead x => exact ⟨_, rfl, by rw [resistorCodeRead_of_not_boot hboot]; exact SameConfig.refl s⟩
  | imageSelect a b => exact ⟨_, rfl, by rw [imageSelect_of_not_boot hboot]; exact SameConfig.refl s⟩
  | warmResume b t => exact ⟨_, rfl, by rw [warmResume_of_not_due hres]; exact SameConfig.refl s⟩
  | aonLost => exact absurd rfl haon
  | parkCriterion ok t => exact ⟨_, rfl, parkCriterion_sameConfig ok t s⟩
  | beatReceived x => exact ⟨_, rfl, beatTaken_sameConfig x s⟩
  | keyProg i => exact ⟨_, rfl, keyProg_sameConfig i s⟩
  | lcAdvance b => exact ⟨_, rfl, lcAdvance_sameConfig b s⟩
  | auth x => exact ⟨_, rfl, tapAuth_sameConfig x s⟩

/-- Settles O6, by the commands that may move the fixed part and those that do not. -/
theorem configurationIsFixedInOperation : Obligations.ConfigurationIsFixedInOperation := by
  intro s c hoff hboot hres haon
  have hconfig : Completes c s (SameConfig s) := by
    rcases movesFixed_or_completes_fixed c s with hmoves | hfixed
    · exact completes_sameConfig_of_movesFixed hmoves hoff hboot hres haon
    · exact hfixed.imp fun _ h => SameConfig.of_fixed h
  exact hconfig.imp fun _ ⟨⟨hstraps, hcodes⟩, hfields⟩ => ⟨hstraps, hcodes, hfields⟩

end Sys2Proof.Machine
end

section
/-!
SUPPORT. The fault table across a change: which faults an operation leaves as they stand, said once as `SameFaults`, and what a raise keeps of
the fault state.
-/
namespace Sys2Proof.Machine

/-! ### Faults that stay as they stand -/

theorem SameFaults.of_stands {l : List Nat} {s t : State} (h : ∀ c d, t.flt.stands c d = s.flt.stands c d) : SameFaults l s t :=
  fun c d _ _ => h c d

theorem SameFaults.refl (l : List Nat) (s : State) : SameFaults l s s := SameFaults.of_stands fun _ _ => rfl

theorem SameFaults.trans {l : List Nat} {s t u : State} (h : SameFaults l s t) (k : SameFaults l t u) : SameFaults l s u :=
  fun c d hc ho => (k c d hc ho).trans (h c d hc ho)

theorem SameFaults.mono {l l' : List Nat} {s t : State} (h : SameFaults l s t) (hl : l ⊆ l') : SameFaults l' s t :=
  fun c d hc ho => h c d (fun hm => hc (hl hm)) ho

/-- A fold of operations that leave the other faults as they stand does so too. -/
theorem foldl_sameFaults {α : Type} {l : List Nat} {f : State → α → State} (h : ∀ s a, SameFaults l s (f s a)) (as : List α) (s : State) :
    SameFaults l s (as.foldl f s) := by
  induction as generalizing s with
  | nil => exact SameFaults.refl l s
  | cons a as ih => exact (h s a).trans (ih (f s a))

section
variable {l : List Nat} {c : Nat} (hc : c ∈ l) (s : State)
include hc

theorem raiseInst_sameFaults {i : FaultInst} (hi : i.code = c) : SameFaults l s (s.raiseInst i) := by
  intro c' d' hc' ho
  refine raiseInst_stands_ne s i c' d' (fun h => hc' ?_) ho
  rw [← h.1, hi]; exact hc

theorem raise_sameFaults (d : Nat) : SameFaults l s (s.raise c d) := raiseInst_sameFaults hc s rfl

theorem raiseFor_sameFaults (d n : Nat) : SameFaults l s (s.raiseFor c d n) :=
  (SameFaults.of_stands fun _ _ => rfl).trans (raise_sameFaults hc _ d)

theorem clear_sameFaults (d : Nat) : SameFaults l s (s.clear c d) :=
  fun c' d' hc' _ => clear_stands_ne s c d c' d' fun h => hc' (h.1 ▸ hc)

theorem clearAll_sameFaults : SameFaults l s (s.clearAll c) := foldl_sameFaults (fun u d => clear_sameFaults hc u d) _ s

end

/-! ### A raise leaves the core pairs held in reset -/

theorem pinsUp_tcDown (s : State) : s.pinsUp.flt.tcDown = s.flt.tcDown := by
  unfold State.pinsUp
  split
  · rfl
  · split <;> rfl

theorem raiseOverflow_tcDown (s : State) (c : Nat) : (s.raiseOverflow c).flt.tcDown = s.flt.tcDown := by
  unfold State.raiseOverflow
  split <;> rfl

theorem raise_tcDown (s : State) (c d : Nat) : (s.raise c d).flt.tcDown = s.flt.tcDown := by
  unfold State.raise State.raiseInst
  split
  · rfl
  · split
    · rw [pinsUp_tcDown]; rfl
    · rw [pinsUp_tcDown, raiseOverflow_tcDown]

end Sys2Proof.Machine
end

section
/-!
SUPPORT. The device's own monitors (chapter 18) and the ROUND pages (chapter 17): what each command does to the state, and statements O55 and
O56 from it.
-/
namespace Sys2Proof.Machine

/-! ### ROUND pages (R22, R436, R438) -/

/-- A page that is late, in the words of R438. -/
theorem pageLate_iff (s : State) (p : Round × List Byte) :
    s.pageLate p = true ↔ p.1 + 1 < s.pace.round ∨ (p.1 + 1 = s.pace.round ∧ 62 ≤ s.pace.stitch) := by
  simp [State.pageLate]

theorem roundSend_of_all_late {s : State} (h : ∀ q ∈ s.out.pages, s.pageLate q = true) (t : Ns) : roundSend t s = s := by
  have hnone : (s.out.pages.filter fun p => !s.pageLate p) = [] := by
    rw [List.filter_eq_nil_iff]; intro q hq; simp [h q hq]
  unfold roundSend
  rw [hnone]

section
variable {s : State} {n : Round} {p : List Byte} {rest : List (Round × List Byte)}
  (hp : s.out.pages = (n, p) :: rest) (h : ∀ q ∈ s.out.pages, s.pageLate q = false)
include hp h

theorem roundSend_of_none_late (t : Ns) :
    roundSend t s =
      if !(s.out.linkUp && s.out.phyOn && s.domainOn 6) then s
      else { s with
        now := max s.now t
        out := { s.out with
          pages := rest, ident := (s.out.ident + 1) % 65536, lastPage := some ((s.at t).ethernetFrame s.out.ident p) } } := by
  have hall : (s.out.pages.filter fun p => !s.pageLate p) = (n, p) :: rest := by
    rw [← hp, List.filter_eq_self]; intro q hq; simp [h q hq]
  have hnone : s.out.pages.filter s.pageLate = [] := by
    rw [List.filter_eq_nil_iff]; intro q hq; simp [h q hq]
  unfold roundSend
  simp only [hall, hnone]
  rfl

end

theorem roundPageDrop_of_late {s : State} (hr : s.rounds = true) (h : ∃ p ∈ s.out.pages, s.pageLate p = true) :
    roundPageDrop s =
      ({ s with out := { s.out with pages := s.out.pages.filter fun p => !s.pageLate p } } : State).raiseFor 0x674 0 1000 := by
  have hany : s.out.pages.any s.pageLate = true := List.any_eq_true.mpr h
  simp [roundPageDrop, hr, hany]

/-- Settles O55: a page leaves, or is dropped, by whether it is late. -/
theorem roundPagesLeaveOrAreDropped : Obligations.RoundPagesLeaveOrAreDropped := by
  intro s late
  have hlate (q : Round × List Byte) : late q ↔ s.pageLate q = true := (pageLate_iff s q).symm
  have hon (q : Round × List Byte) : ¬ late q ↔ s.pageLate q = false := by rw [hlate, Bool.not_eq_true]
  refine ⟨fun t n p rest hp h => ?_, fun t h => ⟨_, rfl, roundSend_of_all_late (fun q hq => (hlate q).mp (h q hq)) t⟩,
    fun hr h => ?_, fun up => ⟨_, rfl, rfl⟩, fun h6 hpg hcode => ⟨_, rfl, ?_⟩, fun _ => ⟨_, rfl, rfl⟩⟩
  · have hsend := roundSend_of_none_late hp (fun q hq => (hon q).mp (h q hq)) t
    refine ⟨fun hlink hphy h6 => ⟨_, rfl, ?_⟩, fun hoff => ⟨_, rfl, ?_⟩⟩
    · rw [hsend, if_neg (by simp [hlink, hphy, h6])]
    · rw [hsend, if_pos (by simpa [or_assoc] using hoff)]
  · have hdrop := roundPageDrop_of_late hr (h.imp fun q hq => ⟨hq.1, (hlate q).mp hq.2⟩)
    refine ⟨_, rfl, ?_⟩
    rw [hdrop]
    refine ⟨?_, fun p => ?_, ?_, raiseFor_stands _ _ _ _, raiseFor_sameFaults (by decide) _ 0 1000⟩
    · rw [raiseFor_flt]
    · simp [hon]
    · simp
  · simp [phyResetRelease, h6, hpg, hcode]

/-! ### Core pairs (R27, R455, R456) -/

/-- What the loss of a pair leaves: the pair is held in reset, and the fault stands where the other pair is up to raise it. -/
theorem pairFails_spec {s : State} {p : CorePair} (h3 : s.domainOn 3 = true) (hp : pairNum p ∉ s.flt.tcDown) (c d : Nat) :
    let t := s.pairFails p c d
    t = { s with flt := t.flt } ∧ t.flt.tcDown = s.flt.tcDown ++ [pairNum p] ∧
    (pairNum (otherPair p) ∉ s.flt.tcDown → t.flt.stands c d = true) ∧
    (pairNum (otherPair p) ∈ s.flt.tcDown → t.flt = { s.flt with tcDown := t.flt.tcDown }) ∧ SameFaults [c] s t := by
  have hup : s.pairUp p = true := by simpa [State.pairUp] using hp
  have hfails : s.pairFails p c d =
      if s.pairUp (otherPair p) then ({ s with flt := { s.flt with tcDown := s.flt.tcDown ++ [pairNum p] } } : State).raise c d
      else { s with flt := { s.flt with tcDown := s.flt.tcDown ++ [pairNum p] } } := by
    simp [State.pairFails, h3, hup]
  by_cases ho : pairNum (otherPair p) ∈ s.flt.tcDown
  · rw [hfails, if_neg (by simpa [State.pairUp] using ho)]
    exact ⟨rfl, rfl, fun h => absurd ho h, fun _ => rfl, SameFaults.of_stands fun _ _ => rfl⟩
  · rw [hfails, if_pos (by simpa [State.pairUp] using ho)]
    refine ⟨?_, raise_tcDown _ _ _, fun _ => raise_stands _ _ _, fun h => absurd h ho, ?_⟩
    · rw [raise_flt]
    · exact (SameFaults.of_stands fun _ _ => rfl).trans (raise_sameFaults (List.mem_singleton.mpr rfl) _ d)

theorem heartbeatMiss_of_two {s : State} {p : CorePair} (h : 2 ≤ s.flt.beatMiss p) :
    heartbeatMiss p s = s.pairFails p 0x532 (pairNum p) := if_neg (by omega)

/-! ### Clocks and temperature (R102, R457, R459) -/

theorem releaseCut_eq (s : State) :
    s.releaseCut = { s with own := { s.own with cutting := none }, flt := s.releaseCut.flt } := by
  unfold State.releaseCut
  rw [clearAll_flt]

theorem releaseCut_sameFaults (s : State) : SameFaults [0x821] s s.releaseCut :=
  (SameFaults.of_stands fun _ _ => rfl).trans (clearAll_sameFaults (by decide) _)

theorem stands_safeN (f : Faults) (b : Bool) (c d : Nat) : ({ f with safeN := b } : Faults).stands c d = f.stands c d := rfl

theorem cutIn_spec {s : State} (h : s.sup.dev ≠ .off) (t : Ns) :
    let u := cutIn t s
    u = { s with now := max s.now t, own := { s.own with cut := true, cutting := none, yielding := none }, flt := u.flt } ∧
    u.flt.stands 0x822 0 = true ∧ u.flt.safeN = false ∧ SameFaults [0x821, 0x822] s u := by
  let s0 : State := { s.releaseCut with own := { s.releaseCut.own with cut := true, yielding := none } }
  have hcut : cutIn t s = { (s0.raise 0x822 0).at t with flt := { (s0.raise 0x822 0).flt with safeN := false } } := by
    simp [cutIn, h, s0]
  have hs0 : s0 = { s with own := { s.own with cut := true, cutting := none, yielding := none }, flt := s0.flt } := by
    simp only [s0]; rw [releaseCut_eq]
  have hreleased : SameFaults [0x821, 0x822] s s0 := (releaseCut_sameFaults s).mono (by decide)
  clear_value s0
  have hraised : SameFaults [0x821, 0x822] s0 (s0.raise 0x822 0) := raise_sameFaults (by decide) s0 0
  rw [hcut]
  refine ⟨?_, ?_, rfl, ?_⟩
  · rw [raise_flt, hs0]; rfl
  · rw [stands_safeN]; exact raise_stands s0 0x822 0
  · intro c d hc ho
    rw [stands_safeN]; exact (hreleased.trans hraised) c d hc ho

/-- The loss of the fast clock raises its fault and latches the device's own cut. -/
theorem fastClockLoss_spec {s : State} (h2 : s.domainOn 2 = true) (h : s.sup.dev ≠ .off) (t : Ns) :
    let u := fastClockLoss t s
    u = { s with now := max s.now t, own := { s.own with cut := true, cutting := none, yielding := none }, flt := u.flt } ∧
    u.flt.stands 0x687 0 = true ∧ u.flt.stands 0x822 0 = true ∧ u.flt.safeN = false ∧ SameFaults [0x687, 0x821, 0x822] s u := by
  have hloss : fastClockLoss t s = cutIn t (s.raise 0x687 0) := if_pos h2
  obtain ⟨hframe, hcut, hsafe, hsame⟩ := cutIn_spec (s := s.raise 0x687 0) (by simpa using h) t
  rw [hloss]
  refine ⟨?_, ?_, hcut, hsafe, ?_⟩
  · rw [hframe, raise_flt]
  · rw [hsame 0x687 0 (by decide) (by decide)]; exact raise_stands s 0x687 0
  · exact (raise_sameFaults (by decide) s 0).trans (hsame.mono (by decide))

theorem pacePllFail_of_starting {s : State}
    (h : (s.sup.dev = .boot ∧ s.sup.bootStep = .imageRun) ∨ (s.sup.dev = .run ∧ s.pace.running = true ∧ s.pace.round = s.own.since)) :
    pacePllFail s = ({ s with tst := { s.tst with passed := false } } : State).raise 0x210 0 := by
  refine if_neg ?_
  simp only [Bool.not_eq_true, Bool.not_eq_false', Bool.or_eq_true, Bool.and_eq_true, beq_iff_eq]
  tauto

/-- Settles O56: each monitor by the spec of its command. -/
theorem monitorsReact : Obligations.MonitorsReact := by
  intro s
  refine ⟨fun hmiss hrun => ⟨_, rfl, ?_⟩, fun h3 => ?_, fun t h2 hoff => ⟨_, rfl, fastClockLoss_spec h2 hoff t⟩,
    fun hoff => ⟨_, rfl, ?_⟩, fun hr hhot => ⟨_, rfl, ?_⟩, fun hstart => ⟨_, rfl, ?_⟩⟩
  · exact if_neg (by simp [hrun, hmiss])
  · refine ⟨fun h0 => ⟨⟨_, rfl, pairFails_spec (p := .tc0) h3 h0 0x530 0⟩, fun hmiss => ⟨_, rfl, ?_⟩⟩,
      fun h1 => ⟨⟨_, rfl, pairFails_spec (p := .tc1) h3 h1 0x531 0⟩, fun hmiss => ⟨_, rfl, ?_⟩⟩⟩
    · rw [heartbeatMiss_of_two (p := .tc0) hmiss]; exact pairFails_spec (p := .tc0) h3 h0 0x532 0
    · rw [heartbeatMiss_of_two (p := .tc1) hmiss]; exact pairFails_spec (p := .tc1) h3 h1 0x532 1
  · rw [show crystalFail s = s.raise 0x125 0 from if_neg (by simpa using hoff)]
    exact ⟨raise_flt _ _ _, raise_stands _ _ _, raise_sameFaults (by decide) _ 0⟩
  · rw [show dieOvertemp s = s.raiseFor 0xA01 0 100 from if_pos (by simp [hr, hhot])]
    exact ⟨raiseFor_flt _ _ _ _, raiseFor_stands _ _ _ _, raiseFor_sameFaults (by decide) _ 0 100⟩
  · rw [pacePllFail_of_starting hstart]
    refine ⟨?_, raise_stands _ _ _, (SameFaults.of_stands fun _ _ => rfl).trans (raise_sameFaults (by decide) _ 0)⟩
    rw [raise_flt]

end Sys2Proof.Machine
end

section
/-!
SUPPORT. Checkpoints (chapters 11 and 16): the areas that a write erases and fills, and statement O40 from it.
-/
namespace Sys2Proof.Machine

/-! ### The areas (R417, R418) -/

theorem newestCkpt_of_areas {m n : NonVol} (h0 : m.ckpt0 = n.ckpt0) (h1 : m.ckpt1 = n.ckpt1) : m.newestCkpt = n.newestCkpt := by
  unfold NonVol.newestCkpt
  rw [h0, h1]

/-- Where the newest valid checkpoint is, if there is one. -/
theorem newestCkpt_cases (n : NonVol) :
    (n.newestCkpt = none ∧ n.ckpt0 = none ∧ n.ckpt1 = none) ∨ (∃ x, n.newestCkpt = some (false, x) ∧ n.ckpt0 = some x) ∨
      ∃ x, n.newestCkpt = some (true, x) ∧ n.ckpt1 = some x := by
  unfold NonVol.newestCkpt
  cases n.ckpt0 <;> cases n.ckpt1
  case some.some a b => by_cases h : a.seq < b.seq <;> simp [h]
  all_goals simp

/-- The area that the next write takes, C1 or not: the one that does not hold the newest valid checkpoint. -/
def NonVol.spare (n : NonVol) : Bool :=
  match n.newestCkpt with | some (true, _) => false | some (false, _) => true | none => false

/-- The spare area holds this, or nothing. -/
def NonVol.setSpare (n : NonVol) (k : Option Ckpt) : NonVol := if n.spare then { n with ckpt1 := k } else { n with ckpt0 := k }

/-- Without a checkpoint in the spare area, the newest one is as before. -/
theorem newestCkpt_setSpare_none (n : NonVol) : (n.setSpare none).newestCkpt = n.newestCkpt := by
  rcases newestCkpt_cases n with ⟨h, h0, h1⟩ | ⟨x, h, h0⟩ | ⟨x, h, h1⟩ <;> rw [h] <;> simp only [NonVol.setSpare, NonVol.spare, h]
  · simp [NonVol.newestCkpt, h1]
  · simp [NonVol.newestCkpt, h0]
  · simp [NonVol.newestCkpt, h1]

/-- A later checkpoint in the spare area is the newest one. -/
theorem newestCkpt_setSpare_some {n : NonVol} {k : Ckpt} (hk : ∀ b x, n.newestCkpt = some (b, x) → x.seq < k.seq) :
    (n.setSpare (some k)).newestCkpt = some (n.spare, k) := by
  rcases newestCkpt_cases n with ⟨h, h0, h1⟩ | ⟨x, h, h0⟩ | ⟨x, h, h1⟩ <;> simp only [NonVol.setSpare, NonVol.spare, h]
  · simp [NonVol.newestCkpt, h1]
  · simp [NonVol.newestCkpt, h0, hk _ _ h]
  · simp [NonVol.newestCkpt, h1, not_lt_of_gt (hk _ _ h)]

/-- The area of the next write is erased; beside it the erase counts change, and a fault tells of their limit. -/
theorem eraseArea_cases (s : State) (len : Nat) :
    ∃ e : State, (s.eraseArea len = (s.nv.spare, e) ∨ s.eraseArea len = (s.nv.spare, e.raise 0x933 0)) ∧
      e = { s with nv := e.nv } ∧ e.nv.newestCkpt = s.nv.newestCkpt := by
  unfold State.eraseArea
  extract_lets c1 _ e worst
  have hc1 : c1 = s.nv.spare := rfl
  refine ⟨e, ?_, ?_, ?_⟩
  · split
    · exact .inr (by rw [hc1])
    · exact .inl (by rw [hc1])
  · simp only [e]; split <;> rfl
  · rw [← newestCkpt_setSpare_none s.nv]
    simp only [e, hc1, NonVol.setSpare]
    split <;> exact newestCkpt_of_areas rfl rfl

/-- Erasing the area of the next write touches the store and the faults, and keeps the newest valid checkpoint. -/
theorem eraseArea_spec (s : State) (len : Nat) :
    let u := (s.eraseArea len).2
    (s.eraseArea len).1 = s.nv.spare ∧ u = { s with nv := u.nv, flt := u.flt } ∧ u.nv.newestCkpt = s.nv.newestCkpt ∧
    ∀ c d, c ≠ 0x933 → s.flt.free c d → u.flt.free c d := by
  obtain ⟨e, harea, hframe, hnewest⟩ := eraseArea_cases s len
  have hflt : e.flt = s.flt := by rw [hframe]
  rcases harea with h | h <;> rw [h]
  · exact ⟨rfl, by rw [hframe], hnewest, fun _ _ _ hf => hflt ▸ hf⟩
  · refine ⟨rfl, ?_, ?_, fun c d hc hf => ?_⟩
    · rw [raise_flt, hframe]
    · rw [raise_nv, hnewest]
    · exact raiseInst_free e _ c d (fun h => hc h.1.symm) (hflt ▸ hf)

/-! ### The end of a grace (R71, R286) -/

theorem graceCkpt_of_not_grace {s : State} (h : s.sup.dev ≠ .grace) (wanted : Bool) : s.graceCkpt wanted = s := by
  simp [State.graceCkpt, h]

/-- With no checkpoint to come, P8 to P17 go off in the grace of a park or ship shut-down. -/
theorem graceCkpt_of_done {s : State} {h : Shutdown} (hg : s.sup.dev = .grace) (hs : s.sup.shut = some h)
    (hk : h.kind = .park ∨ h.kind = .ship) (hn : s.lrn.staging = none) : s.graceCkpt false = s.shedDomains := by
  have hkind : (h.kind == ShutKind.park || h.kind == ShutKind.ship) = true := by simpa using hk
  simp [State.graceCkpt, hg, hs, hkind, hn]

/-! ### The end of a write (R286, R417) -/

/-- A write that is given up leaves its area without a checkpoint, and raises its fault. -/
theorem failCkpt_spec (s : State) (k : Ckpt) :
    let t := s.failCkpt k
    t.nv.newestCkpt.map (fun x => x.2) = s.nv.newestCkpt.map (fun x => x.2) ∧ t.lrn = { s.lrn with staging := none } ∧
    t.flt.stands 0x642 0 = true ∧ t.fixed = s.fixed ∧ t = { s with nv := t.nv, lrn := t.lrn, flt := t.flt } := by
  obtain ⟨-, hframe, hnewest, -⟩ := eraseArea_spec s k.length
  have hlrn : (s.eraseArea k.length).2.lrn = s.lrn := by rw [hframe]
  refine ⟨?_, ?_, raise_stands _ _ _, State.failCkpt_fixed s k, ?_⟩ <;> unfold State.failCkpt
  · simp [hnewest]
  · simp [hlrn]
  · rw [raise_flt]; dsimp only; rw [hframe]

/-- The faults that end with a completed write: 0x642 among them, where it is listed. -/
theorem ckptFaultsEnd_spec (s : State) (p : List Byte) :
    let s3 := ((s.clear 0x642 0).clear 0x931 0).clear 0x523 0
    let u := (if s3.nv.ckpt0.isSome && s3.nv.ckpt1.isSome then s3.clear 0x930 0 else s3).log 7 p
    u = { s with flt := u.flt } ∧ (s.flt.free 0x642 0 → u.flt.stands 0x642 0 = false) := by
  intro s3 u
  have hframe3 : s3 = { s with flt := s3.flt } := by simp only [s3]; rw [clear_flt, clear_flt, clear_flt]
  have hlater : SameFaults [0x931, 0x523, 0x930] (s.clear 0x642 0) s3 :=
    (clear_sameFaults (by decide) _ 0).trans (clear_sameFaults (by decide) _ 0)
  clear_value s3
  have hsame : SameFaults [0x931, 0x523, 0x930] s3 u := by
    simp only [u]
    split
    · exact (clear_sameFaults (by decide) s3 0).trans (SameFaults.of_stands fun _ _ => log_stands _ _ _ _ _)
    · exact SameFaults.of_stands fun _ _ => log_stands _ _ _ _ _
  refine ⟨?_, fun hfree => ?_⟩
  · simp only [u]
    split
    · rw [log_flt, clear_flt, hframe3]
    · rw [log_flt, hframe3]
  · rw [(hlater.trans hsame) 0x642 0 (by decide) (by decide)]
    exact clear_stands_free s 0x642 0 hfree (by decide)

/-- A write that completes puts the checkpoint in the spare area, and clears the faults that it ends. -/
theorem checkpointWrite_of_completed {s : State} {st : Staging} {k : Ckpt} (hst : s.lrn.staging = some st) (hk : st.staged = some k)
    (htc : s.tc1Up = true) (hf : s.fenced .ckptPort = false) :
    ∃ u : State, checkpointWrite true s = u.graceCkpt s.otherCkpt ∧
      u = { s with nv := u.nv, lrn := { s.lrn with staging := none, ckptTicks := 0 }, flt := u.flt } ∧
      ((∀ b x, s.nv.newestCkpt = some (b, x) → x.seq < k.seq) → u.nv.newestCkpt.map (fun x => x.2) = some k) ∧
      (s.allListed → u.flt.stands 0x642 0 = false) := by
  obtain ⟨hspare, hframe, hnewest, hfree⟩ := eraseArea_spec s k.length
  unfold checkpointWrite
  simp only [hst, Option.bind_some, hk, hf, htc, Bool.not_true, Bool.or_self, Bool.false_eq_true, if_false]
  generalize s.eraseArea k.length = e at *
  obtain ⟨c1, s1⟩ := e
  dsimp only at *
  let s2 : State := { s1 with
    nv := if c1 = true then { s1.nv with ckpt1 := some k } else { s1.nv with ckpt0 := some k }
    lrn := { s1.lrn with staging := none, ckptTicks := 0 } }
  have hs2 : s2 = { s with nv := s2.nv, lrn := { s.lrn with staging := none, ckptTicks := 0 }, flt := s2.flt } := by
    simp only [s2]; rw [hframe]
  have hnv : s2.nv = s1.nv.setSpare (some k) := by
    simp only [s2, NonVol.setSpare, NonVol.spare, hnewest, hspare]
  obtain ⟨hends, hcleared⟩ := ckptFaultsEnd_spec s2
    (beBytes 1 c1.toNat ++ beBytes 4 (k.seq % 2 ^ 32) ++ beBytes 6 (k.snap % 2 ^ 48) ++ beBytes 4 (k.length % 2 ^ 32))
  refine ⟨_, rfl, ?_, fun hseq => ?_, fun hl => hcleared (hfree 0x642 0 (by decide) (Faults.free_of_listed hl _ _))⟩
  · rw [hends, hs2]
  · rw [hends]
    show s2.nv.newestCkpt.map (fun x => x.2) = some k
    rw [hnv, newestCkpt_setSpare_some (by rw [hnewest]; exact hseq)]
    rfl

theorem checkpointWrite_of_failed {s : State} {st : Staging} {k : Ckpt} (hst : s.lrn.staging = some st) (hk : st.staged = some k)
    (hf : s.fenced .ckptPort = false) : checkpointWrite false s = (s.failCkpt k).graceCkpt s.otherCkpt := by
  simp [checkpointWrite, hst, hk, hf]

theorem norBusRevoke_of_held {s : State} {st : Staging} {k : Ckpt} (hst : s.lrn.staging = some st) (hk : st.staged = some k)
    (hn : 4 ≤ s.lrn.norHeld) : norBusRevoke s = (s.failCkpt k).graceCkpt s.otherCkpt := by
  simp [norBusRevoke, hst, hk, not_lt_of_ge hn]

/-! ### Staging (R285, R286) -/

/-- A complete checkpoint: of the snap, the running image and the live weights, the next in sequence. -/
theorem checkpointStaged_spec {s : State} {st : Staging} (hst : s.lrn.staging = some st) (hs : st.staged = none)
    (hall : (s.lrn.cells.all fun c => st.cells.any fun e => e.id == c.id) = true) :
    let t := checkpointStaged s
    t = { s with lrn := { s.lrn with staging := t.lrn.staging } } ∧
    ∃ k : Ckpt, t.lrn.staging = some { st with staged := some k } ∧ k.snap = st.snap ∧ k.model = s.img.modelDigest ∧
      k.weights = (s.lrn.weights.map fun w => w.live) ∧ (∀ b x, s.nv.newestCkpt = some (b, x) → k.seq = x.seq + 1) := by
  unfold checkpointStaged
  simp only [hst, hs, hall, Option.isSome_none, Bool.not_true, Bool.or_self, Bool.false_eq_true, if_false]
  refine ⟨trivial, _, rfl, rfl, rfl, rfl, fun b x hx => ?_⟩
  simp only [hx]

/-- Settles O40: the triggers and the staging by their conditions, and the end of a write by the areas. -/
theorem checkpointsAreStagedAndWritten : Obligations.CheckpointsAreStagedAndWritten := by
  refine ⟨fun s htc hl hst hbit hdue hrun => ⟨_, rfl, ?_⟩, fun s htc hl hbit hdue => ⟨_, rfl, ?_⟩,
    fun s st hst hs hall => ⟨_, rfl, checkpointStaged_spec hst hs hall⟩, fun s st k hst hk htc hf hseq hg => ⟨_, rfl, ?_⟩,
    fun s st k hst hk hf hg => ?_, fun s st k h hst hk hcause htc hf hg hshut hkind => ⟨_, rfl, ?_⟩⟩
  · simp [checkpointTrigger, htc, hl, hst, hbit, hdue, hrun]
  · simp [checkpointTrigger, htc, hl, hbit, hdue]
  · obtain ⟨u, hu, hframe, hnewest, hclear⟩ := checkpointWrite_of_completed hst hk htc hf
    have hend : checkpointWrite true s = u := by rw [hu]; exact graceCkpt_of_not_grace (by rw [hframe]; exact hg) _
    have hfixed : u.fixed = s.fixed := hend ▸ checkpointWrite_fixed true s
    rw [hend]
    have hlrn : u.lrn = { s.lrn with staging := none, ckptTicks := 0 } := by rw [hframe]
    exact ⟨hnewest hseq, hlrn, hclear, hfixed, by rw [hlrn]; exact hframe⟩
  · obtain ⟨-, -, -, -, hframe⟩ := failCkpt_spec s k
    have hend : (s.failCkpt k).graceCkpt s.otherCkpt = s.failCkpt k := graceCkpt_of_not_grace (by rw [hframe]; exact hg) _
    refine ⟨⟨_, rfl, ?_⟩, fun hn => ⟨_, rfl, ?_⟩⟩
    · rw [checkpointWrite_of_failed hst hk hf, hend]; exact failCkpt_spec s k
    · rw [norBusRevoke_of_held hst hk hn, hend]; exact failCkpt_spec s k
  · obtain ⟨u, hu, hframe, -, -⟩ := checkpointWrite_of_completed hst hk htc hf
    have hother : s.otherCkpt = false := by simp [State.otherCkpt, hst, hcause]
    have hend : checkpointWrite true s = u.shedDomains := by
      rw [hu, hother]
      exact graceCkpt_of_done (by rw [hframe]; exact hg) (by rw [hframe]; exact hshut) hkind (by rw [hframe])
    rw [hend, hframe]
    exact ⟨rfl, rfl⟩

end Sys2Proof.Machine
end

section
/-!
SUPPORT. The tour of reference replay (R255 to R259): its operations touch the replay, the fray counts and the faults of the tour alone.
-/
namespace Sys2Proof.Machine

/-- The two states differ in the replay, the fray counts and the faults alone, and of the faults in those named. -/
structure ReplayOnly (l : List Nat) (s t : State) : Prop where
  frame : t = { s with lrn := { s.lrn with fray := t.lrn.fray, replay := t.lrn.replay }, flt := t.flt }
  faults : SameFaults l s t

theorem ReplayOnly.refl (l : List Nat) (s : State) : ReplayOnly l s s := ⟨rfl, SameFaults.refl l s⟩

theorem ReplayOnly.trans {l : List Nat} {s t u : State} (h : ReplayOnly l s t) (k : ReplayOnly l t u) : ReplayOnly l s u :=
  ⟨by rw [k.frame, h.frame], h.faults.trans k.faults⟩

theorem ReplayOnly.mono {l l' : List Nat} {s t : State} (h : ReplayOnly l s t) (hl : l ⊆ l') : ReplayOnly l' s t :=
  ⟨h.frame, h.faults.mono hl⟩

theorem ReplayOnly.of_flt {l : List Nat} {s t : State} (h : t = { s with flt := t.flt }) (hf : SameFaults l s t) : ReplayOnly l s t :=
  ⟨by rw [h], hf⟩

theorem ReplayOnly.ite {l : List Nat} {s t u : State} {c : Prop} [Decidable c] (ht : ReplayOnly l s t) (hu : ReplayOnly l s u) :
    ReplayOnly l s (if c then t else u) := by
  split
  · exact ht
  · exact hu

theorem ReplayOnly.foldl {α : Type} {l : List Nat} {f : State → α → State} (h : ∀ s a, ReplayOnly l s (f s a)) (as : List α) (s : State) :
    ReplayOnly l s (as.foldl f s) := by
  induction as generalizing s with
  | nil => exact ReplayOnly.refl l s
  | cons a as ih => exact (h s a).trans (ih (f s a))

theorem ReplayOnly.cells {l : List Nat} {s t : State} (h : ReplayOnly l s t) : t.lrn.cells = s.lrn.cells := by rw [h.frame]

theorem updFray_replayOnly (l : List Nat) (s : State) (c : Nat) (f : Fray → Fray) : ReplayOnly l s (s.updFray c f) :=
  ⟨rfl, SameFaults.of_stands fun _ _ => rfl⟩

/-- The faults that the end of a tour judges. -/
def tourCodes : List Nat := [0x510, 0x511, 0x512]

theorem tourEnd_replayOnly (s : State) : ReplayOnly tourCodes s s.tourEnd := by
  unfold State.tourEnd
  extract_lets s1 s2 s3
  have h1 : ReplayOnly tourCodes s s1 :=
    ReplayOnly.ite (ReplayOnly.refl _ s) (ReplayOnly.of_flt (clear_flt _ _ _) (clear_sameFaults (by decide) s 0))
  have h2 : ReplayOnly tourCodes s1 s2 :=
    ReplayOnly.ite (ReplayOnly.refl _ s1) (ReplayOnly.of_flt (clearAll_flt _ _) (clearAll_sameFaults (by decide) s1))
  have h3 : ReplayOnly tourCodes s2 s3 := by
    refine ReplayOnly.foldl (fun u c => ?_) _ s2
    exact ReplayOnly.ite (ReplayOnly.of_flt (clear_flt u _ _) (clear_sameFaults (by decide) u _)) (ReplayOnly.refl _ u)
  refine ((h1.trans h2).trans h3).trans ?_
  clear_value s3
  exact ⟨rfl, SameFaults.of_stands fun _ _ => rfl⟩

theorem nextReplay_replayOnly (s : State) : ReplayOnly tourCodes s s.nextReplay := by
  unfold State.nextReplay
  extract_lets ids after s1 next
  have h1 : ReplayOnly tourCodes s s1 := ReplayOnly.ite (tourEnd_replayOnly s) (ReplayOnly.refl _ s)
  refine h1.trans ?_
  clear_value s1
  exact ⟨rfl, SameFaults.of_stands fun _ _ => rfl⟩

theorem abortReplay_replayOnly (s : State) : ReplayOnly (0x513 :: tourCodes) s s.abortReplay := by
  unfold State.abortReplay
  split
  · exact ReplayOnly.refl _ s
  · rename_i id _
    extract_lets n _ _ s1 s2
    have h1 : ReplayOnly (0x513 :: tourCodes) s s1 := ⟨rfl, SameFaults.of_stands fun _ _ => rfl⟩
    have h2 : ReplayOnly (0x513 :: tourCodes) s1 s2 := by
      simp only [s2]
      split
      · exact updFray_replayOnly _ s1 _ _
      · exact ReplayOnly.refl _ s1
    have h3 : ReplayOnly (0x513 :: tourCodes) s2 (if 3 ≤ n then s2.raise 0x513 0 else s2) :=
      ReplayOnly.ite (ReplayOnly.of_flt (raise_flt _ _ _) (raise_sameFaults (by decide) s2 0)) (ReplayOnly.refl _ s2)
    exact ((h1.trans h2).trans h3).trans ((nextReplay_replayOnly _).mono (List.subset_cons_self _ _))

end Sys2Proof.Machine
end

section
/-!
SUPPORT. The classical path (chapter 08): what its update leaves alone, the basting value of a cell, the tack age, and the pair records, with
statement O31 from them.
-/
namespace Sys2Proof.Machine

/-! ### What the parts of a classical update leave alone -/

/-- What the decisions of a snap leave as the two estimators' rounds left it: the round and the marks of the pack's count, and every part of
the device that the update has no business with. -/
structure UpdateKeeps (s t : State) : Prop where
  now : t.now = s.now
  sup : t.sup = s.sup
  pace : t.pace = s.pace
  own : t.own = s.own
  nv : t.nv = s.nv
  pow : t.pow = s.pow
  updated : t.cls.updated = s.cls.updated
  countAt : t.cls.pack.countAt = s.cls.pack.countAt
  lastAt : t.cls.pack.lastAt = s.cls.pack.lastAt

theorem UpdateKeeps.refl (s : State) : UpdateKeeps s s := by constructor <;> rfl

theorem UpdateKeeps.trans {s t u : State} (h : UpdateKeeps s t) (k : UpdateKeeps t u) : UpdateKeeps s u :=
  ⟨k.now.trans h.now, k.sup.trans h.sup, k.pace.trans h.pace, k.own.trans h.own, k.nv.trans h.nv, k.pow.trans h.pow,
    k.updated.trans h.updated, k.countAt.trans h.countAt, k.lastAt.trans h.lastAt⟩

theorem UpdateKeeps.of_flt {s t : State} (h : t = { s with flt := t.flt }) : UpdateKeeps s t := by
  rw [h]; constructor <;> rfl

theorem UpdateKeeps.foldl {α : Type} {f : State → α → State} (h : ∀ s a, UpdateKeeps s (f s a)) (l : List α) (s : State) :
    UpdateKeeps s (l.foldl f s) := by
  induction l generalizing s with
  | nil => exact UpdateKeeps.refl s
  | cons a l ih => exact (h s a).trans (ih (f s a))

/-- A choice of two states, each of which keeps them. -/
theorem UpdateKeeps.ite {s t u : State} {c : Prop} [Decidable c] (ht : UpdateKeeps s t) (hu : UpdateKeeps s u) :
    UpdateKeeps s (if c then t else u) := by
  split
  · exact ht
  · exact hu

theorem note_updateKeeps (s : State) (n : CellNote) : UpdateKeeps s (s.note n) := by
  cases n with
  | fault c d p => exact UpdateKeeps.of_flt (judge_flt s c d p)
  | soc | cap => constructor <;> rfl

theorem notes_updateKeeps (s : State) (l : List CellNote) : UpdateKeeps s (s.notes l) := UpdateKeeps.foldl note_updateKeeps l s

theorem nextReplay_updateKeeps (s : State) : UpdateKeeps s s.nextReplay := by
  rw [(nextReplay_replayOnly s).frame]
  constructor <;> rfl

theorem freshStart_updateKeeps (s : State) (sel : CellId → Bool) : UpdateKeeps s (s.freshStart sel) := by
  unfold State.freshStart
  extract_lets warm cells faults _ _ s1 s2 s3
  have h1 : UpdateKeeps s s1 := by constructor <;> rfl
  have h2 : UpdateKeeps s1 s2 := by
    refine UpdateKeeps.foldl (fun u id => ?_) _ s1
    exact (UpdateKeeps.of_flt (clear_flt u _ _)).trans (UpdateKeeps.of_flt (clear_flt _ _ _))
  have h3 : UpdateKeeps s2 s3 := by constructor <;> rfl
  refine ((h1.trans h2).trans h3).trans ?_
  split
  · exact UpdateKeeps.ite (nextReplay_updateKeeps s3) (UpdateKeeps.refl s3)
  · exact UpdateKeeps.refl s3

theorem basteStore_updateKeeps (s : State) (sel : CellId → Bool) : UpdateKeeps s (s.basteStore sel) := by
  unfold State.basteStore
  extract_lets _ u
  have hu : UpdateKeeps s u := by constructor <;> rfl
  refine hu.trans (UpdateKeeps.foldl (fun v id => ?_) _ u)
  exact UpdateKeeps.of_flt (clear_flt v _ _)

theorem storeChange_updateKeeps (s : State) : UpdateKeeps s s.storeChange := by
  unfold State.storeChange
  extract_lets u _ _ _ s1
  have hu : UpdateKeeps s u := basteStore_updateKeeps s _
  have h1 : UpdateKeeps u s1 := by
    refine UpdateKeeps.trans ?_ (UpdateKeeps.of_flt (raise_flt _ _ _))
    constructor <;> rfl
  exact (hu.trans h1).trans (freshStart_updateKeeps s1 _)

theorem storeRules_updateKeeps (s : State) (rest : Bool) : UpdateKeeps s (s.storeRules rest) := by
  unfold State.storeRules
  extract_lets st quiet jump rule3 rule2 _ _ s1
  have h1 : UpdateKeeps s s1 := by constructor <;> rfl
  exact h1.trans (UpdateKeeps.ite (storeChange_updateKeeps s1) (UpdateKeeps.refl s1))

theorem overdueEnds_updateKeeps (s : State) : UpdateKeeps s s.overdueEnds := by
  unfold State.overdueEnds
  extract_lets p q _ _ _ s1
  have h1 : UpdateKeeps s s1 := by constructor <;> rfl
  exact h1.trans (UpdateKeeps.ite (UpdateKeeps.refl s1) (UpdateKeeps.of_flt (clear_flt _ _ _)))

theorem balancePack_updateKeeps (s : State) : UpdateKeeps s s.balancePack := by
  unfold State.balancePack
  extract_lets cells _ _ s1
  have h1 : UpdateKeeps s s1 := by constructor <;> rfl
  split
  · exact h1
  · refine h1.trans (UpdateKeeps.foldl (fun u n => UpdateKeeps.ite (UpdateKeeps.refl u) ?_) _ s1)
    constructor <;> rfl

theorem balanceStore_updateKeeps (s : State) : UpdateKeeps s s.balanceStore := by constructor <;> rfl

theorem hemUpdate_updateKeeps (s : State) : UpdateKeeps s s.hemUpdate := by
  unfold State.hemUpdate
  refine UpdateKeeps.ite (UpdateKeeps.refl s) ?_
  refine UpdateKeeps.trans ?_ (UpdateKeeps.of_flt (judge2_flt _ _ _ _ _))
  constructor <;> rfl

/-! ### The update (R17, R191, R205) -/

/-- A round of an estimator ends with the charge count and the time of its snap. -/
theorem round_marks (f : EstFields) (x : EstIn) (e : Estimator) :
    (e.round f x).1.countAt = x.count ∧ (e.round f x).1.lastAt = x.t := ⟨rfl, rfl⟩

/-- An update that is due is the rounds of both estimators, then what the parts of the update keep. -/
theorem classicalUpdate_of_due {s : State} (hr : s.rounds = true) (htc : s.tc0Up = true) (h8 : 8 ≤ s.pace.stitch) (h60 : s.pace.stitch ≤ 60)
    (hu : s.cls.updated ≠ some s.pace.round) :
    ∃ s1 : State, UpdateKeeps s1 (classicalUpdate s) ∧
      s1 = { s with cls := s1.cls, trn := s1.trn } ∧ s1.cls.updated = some s.pace.round ∧
      s1.cls.pack = (s.cls.pack.round s.img.f.est s.packIn).1 := by
  have hnot : ¬ ((!s.rounds || !s.tc0Up || decide (s.pace.stitch < 8) || decide (60 < s.pace.stitch) ||
      s.cls.updated == some s.pace.round) = true) := by simp [hr, htc, hu, h8, h60]
  unfold classicalUpdate
  rw [if_neg hnot]
  extract_lets
  split
  rename_i p n1 hp
  split
  rename_i q n2 hq
  extract_lets s1 s2 s3
  refine ⟨s1, ?_, rfl, rfl, by rw [hp]⟩
  have h2 : UpdateKeeps s1 s2 := (notes_updateKeeps s1 n1).trans (notes_updateKeeps _ n2)
  have h3 : UpdateKeeps s2 s3 := UpdateKeeps.ite (UpdateKeeps.refl s2) (storeRules_updateKeeps s2 _)
  exact (h2.trans h3).trans ((overdueEnds_updateKeeps _).trans ((balancePack_updateKeeps _).trans
    ((balanceStore_updateKeeps _).trans (hemUpdate_updateKeeps _))))

theorem classicalUpdate_of_made {s : State} (h : s.cls.updated = some s.pace.round) : classicalUpdate s = s :=
  if_pos (by simp [h])

/-! ### Notes of a round -/

/-- Notes touch the targets of training and the faults. -/
theorem notes_frame (s : State) (l : List CellNote) :
    s.notes l = { s with trn := { s.trn with targets := (s.notes l).trn.targets }, flt := (s.notes l).flt } := by
  unfold State.notes
  induction l generalizing s with
  | nil => rfl
  | cons n l ih =>
    rw [List.foldl_cons, ih]
    cases n with
    | fault c d p => rw [show s.note (.fault c d p) = s.judge c d p from rfl, judge_flt]
    | soc | cap => rfl

/-- The notes of a basting value speak of the fault 0x624 of its cell alone. -/
theorem formBasting_notes {f : EstFields} {age : Option Rat} {temp : Rat} {c c1 : Cell} {l : List CellNote}
    (h : c.formBasting f age temp = some (c1, l)) : ∀ n ∈ l, ∃ up, n = .fault 0x624 c.id up := by
  unfold Cell.formBasting at h
  split at h
  · cases h
  · split at h
    · cases h
    · extract_lets us again vs mean curve formed at h
      have hset : ∀ v u loaded, some (formed v u loaded) = some (c1, l) → ∀ n ∈ l, ∃ up, n = .fault 0x624 c.id up := by
        intro v u loaded he n hn
        obtain ⟨-, rfl⟩ := Prod.mk.inj (Option.some.inj he)
        exact ⟨loaded, List.mem_singleton.mp hn⟩
      split at h
      · obtain ⟨-, rfl⟩ := Prod.mk.inj (Option.some.inj h)
        simp
      · cases age with
        | none => exact hset _ _ _ h
        | some a =>
          by_cases hage : 2 * f.restT1 ≤ a
          · simp only [hage, if_true] at h; exact hset _ _ _ h
          · simp only [hage, if_false] at h; exact hset _ _ _ h

/-- Notes of the fault 0x624 leave the other faults listed. -/
theorem notes_free {l : List CellNote} {id : CellId} (hl : ∀ n ∈ l, ∃ up, n = .fault 0x624 id up) {c d : Nat} (hc : c ≠ 0x624) {s : State}
    (hf : s.flt.free c d) : (s.notes l).flt.free c d := by
  unfold State.notes
  induction l generalizing s with
  | nil => exact hf
  | cons n l ih =>
    obtain ⟨up, rfl⟩ := hl n (List.mem_cons_self ..)
    exact ih (fun m hm => hl m (List.mem_cons_of_mem _ hm)) (judge_free s 0x624 id up c d (fun h => hc h.1.symm) hf)

/-! ### Basting (R204, R213) -/

/-- The value of a basted cell takes its place among the cells; the display aside, the estimator stays. -/
theorem form_of_formed {f : EstFields} {temp : Rat} {id : CellId} {e : Estimator} {c c1 : Cell} {l : List CellNote}
    (hc : (e.cells.find? fun c => c.id == id) = some c) (h : c.formBasting f e.restAge temp = some (c1, l)) :
    ∃ d, e.form f temp id = ({ e with cells := updWhere (fun c => c.id == id) (fun _ => c1) e.cells, display := d }, l) := by
  unfold Estimator.form
  simp only [hc, h]
  exact ⟨_, rfl⟩

theorem bastingFormed_of_pack {id : CellId} (h : id ≤ 4096) {s : State} {e : Estimator} {l : List CellNote}
    (hf : s.cls.pack.form s.img.f.est (s.ocvTemp id) id = (e, l)) :
    bastingFormed id s = (({ s with cls := { s.cls with pack := e } } : State).notes l).clear 0x533 id := by
  unfold bastingFormed
  rw [if_neg (not_lt_of_ge h), hf]

/-- What the basting value of a pack cell does. -/
theorem bastingFormed_spec {s : State} {id : CellId} {c c1 : Cell} {l : List CellNote} (hid : id ≤ 4096)
    (hc : (s.cls.pack.cells.find? fun c => c.id == id) = some c)
    (h : c.formBasting s.img.f.est s.cls.pack.restAge (s.ocvTemp id) = some (c1, l)) :
    let t := bastingFormed id s
    t.cls.pack.cells = updWhere (fun c => c.id == id) (fun _ => c1) s.cls.pack.cells ∧
      (s.allListed → t.flt.stands 0x533 id = false) ∧ t.fixed = s.fixed ∧
      t = { s with
        cls := { s.cls with pack := { s.cls.pack with cells := t.cls.pack.cells, display := t.cls.pack.display } }
        trn := { s.trn with targets := t.trn.targets }, flt := t.flt } := by
  obtain ⟨d, hform⟩ := form_of_formed hc h
  refine ⟨?_, fun hl => ?_, bastingFormed_fixed id s, ?_⟩ <;> rw [bastingFormed_of_pack hid hform]
  · rw [clear_cls, notes_frame]
  · refine clear_stands_free _ 0x533 id (notes_free (formBasting_notes h) (by decide) ?_) (by decide)
    exact Faults.free_of_listed hl _ _
  · rw [clear_flt, notes_frame]

theorem tackOverdue_spec {s : State} (hc : s.cls.pack.cells ≠ []) (ho : s.cls.pack.isOverdue s.img.f.est s.now = true) :
    let t := tackOverdue s
    t = { s with
      cls := { s.cls with
        pack := { s.cls.pack with overdue := true }, store := { s.cls.store with overdue := t.cls.store.overdue } }
      flt := t.flt } ∧
    t.flt.stands 0x623 0 = true ∧ SameFaults [0x623] s t := by
  have hp : (s.cls.pack.overdue || (!s.cls.pack.cells.isEmpty && s.cls.pack.isOverdue s.img.f.est s.now)) = true := by
    simp [hc, ho]
  unfold tackOverdue
  simp only [hp, Bool.true_or, if_true]
  exact ⟨by rw [raise_flt], raise_stands _ _ _, (SameFaults.of_stands fun _ _ => rfl).trans (raise_sameFaults (by decide) _ 0)⟩

/-! ### Pair records (R190, R413, R415) -/

/-- A region holds what was written to it last. -/
theorem content_write {α : Type} (c : Copies α) (x : α) : (c.write x).content = some x := by
  obtain ⟨_ | ⟨n, y⟩, _ | ⟨m, z⟩⟩ := c
  case some.some => by_cases h : n < m <;> simp [Copies.content, Copies.write, Copies.newest, h]
  all_goals simp [Copies.content, Copies.write, Copies.newest]

theorem inWindow_eq (s : State) (f : State → State) : ∃ w, s.inWindow f = { f s with nv := { (f s).nv with writing := w } } := by
  unfold State.inWindow
  extract_lets u
  split
  · exact ⟨_, rfl⟩
  · exact ⟨_, rfl⟩

theorem judgeCopies_flt (s : State) : s.judgeCopies = { s with flt := s.judgeCopies.flt } := by
  unfold State.judgeCopies
  rw [judge_flt, judge_flt]

/-- Settles O31: the parts of an update keep its marks; a basting value, the tack age and the pair records each by their spec. -/
theorem classicalUpdateAndRecords : Obligations.ClassicalUpdateAndRecords := by
  refine ⟨⟨fun s hr htc h8 h60 hu => ⟨_, rfl, ?_⟩, fun s hu => ⟨_, rfl, classicalUpdate_of_made hu⟩⟩,
    ⟨fun s id c c1 l hid hc h => ⟨_, rfl, bastingFormed_spec hid hc h⟩, fun s hc ho => ⟨_, rfl, tackOverdue_spec hc ho⟩⟩,
    fun s => ⟨fun hw => ⟨_, rfl, ?_⟩, fun hw => ⟨_, rfl, ?_⟩⟩⟩
  · obtain ⟨s1, hk, h1, hround, hpack⟩ := classicalUpdate_of_due hr htc h8 h60 hu
    obtain ⟨hcount, hlast⟩ := round_marks s.img.f.est s.packIn s.cls.pack
    refine ⟨hk.updated.trans hround, ?_, ?_, classicalUpdate_fixed s, ?_, ?_, ?_, ?_, ?_, ?_⟩
    · rw [hk.countAt, hpack, hcount]; rfl
    · rw [hk.lastAt, hpack, hlast]; rfl
    · rw [hk.now, h1]
    · rw [hk.pace, h1]
    · rw [hk.sup, h1]
    · rw [hk.nv, h1]
    · rw [hk.own, h1]
    · rw [hk.pow, h1]
  · obtain ⟨w, hin⟩ := inWindow_eq s State.writePairs
    have hwrite : pairRecordWrite s = ({ s.writePairs with nv := { s.writePairs.nv with writing := w } } : State).judgeCopies := by
      rw [← hin]; exact if_pos hw
    refine ⟨?_, ?_, ?_, ?_, pairRecordWrite_fixed s, ?_⟩ <;> rw [hwrite, judgeCopies_flt]
    · exact content_write _ _
    all_goals rfl
  · exact if_neg (by simp [hw])

end Sys2Proof.Machine
end

section
/-!
SUPPORT. The steps of the learned path (chapters 09 and 10): the cells of state memory, what follows a step or its abandonment, and statement
O34 from it.
-/
namespace Sys2Proof.Machine

/-! ### A cell of the learned path -/

/-- The entry that a search finds after a change is the changed one, where the change leaves what the search asks. -/
theorem find?_updWhere {α : Type} {p q : α → Bool} {f : α → α} (hq : ∀ x, p x = true → q (f x) = q x) (l : List α) :
    (updWhere p f l).find? q = (l.find? q).map fun x => if p x then f x else x := by
  unfold updWhere
  rw [List.find?_map]
  congr 2
  funext x
  by_cases hp : p x = true
  · simp [hp, hq x hp]
  · simp [hp]

theorem lcell_id {s : State} {id : CellId} {c : LCell} (h : s.lcell id = some c) : c.id = id := by
  simpa using List.find?_some h

theorem lcell_of_cells {s t : State} (h : t.lrn.cells = s.lrn.cells) (id : CellId) : t.lcell id = s.lcell id := by
  unfold State.lcell; rw [h]

/-- A change of a cell that keeps its position. -/
theorem lcell_updL {s : State} {id : CellId} {c : LCell} {f : LCell → LCell} (hf : ∀ x, x.id = id → (f x).id = id)
    (h : s.lcell id = some c) : (s.updL id f).lcell id = some (f c) := by
  have hfind : (s.updL id f).lcell id = (s.lcell id).map fun x => if x.id == id then f x else x := by
    refine find?_updWhere (fun x hx => ?_) s.lrn.cells
    have hid : x.id = id := by simpa using hx
    simp [hf x hid, hid]
  rw [hfind, h]
  simp [lcell_id h]

/-! ### What follows a step -/

/-- From one state to the other the staging, the replay, the shadows and the named faults may change; each cell keeps all but its shadow. -/
structure Settles (l : List Nat) (s t : State) : Prop where
  frame : t = { s with lrn := t.lrn, trn := { s.trn with copyDue := t.trn.copyDue }, flt := t.flt }
  lcell : ∀ id, ∃ sh : LCell → List Rat, t.lcell id = (s.lcell id).map fun c => { c with shadow := sh c }
  faults : SameFaults l s t

theorem Settles.of_cells {l : List Nat} {s t : State} (h : t = { s with lrn := t.lrn, flt := t.flt }) (hc : t.lrn.cells = s.lrn.cells)
    (hf : SameFaults l s t) : Settles l s t :=
  ⟨by rw [h], fun id => ⟨LCell.shadow, by rw [lcell_of_cells hc]; exact Option.map_id'.symm⟩, hf⟩

theorem Settles.refl (l : List Nat) (s : State) : Settles l s s := Settles.of_cells rfl rfl (SameFaults.refl l s)

theorem Settles.trans {l : List Nat} {s t u : State} (h : Settles l s t) (k : Settles l t u) : Settles l s u := by
  refine ⟨by rw [k.frame, h.frame], fun id => ?_, h.faults.trans k.faults⟩
  obtain ⟨sh, ht⟩ := h.lcell id
  obtain ⟨sh', hu⟩ := k.lcell id
  exact ⟨fun c => sh' { c with shadow := sh c }, by rw [hu, ht, Option.map_map]; rfl⟩

theorem Settles.of_flt {l : List Nat} {s t : State} (h : t = { s with flt := t.flt }) (hf : SameFaults l s t) : Settles l s t :=
  Settles.of_cells (by rw [h]) (by rw [h]) hf

theorem Settles.of_replayOnly {l : List Nat} {s t : State} (h : ReplayOnly l s t) : Settles l s t :=
  Settles.of_cells (by rw [h.frame]) h.cells h.faults

theorem Settles.ite {l : List Nat} {s t u : State} {c : Prop} [Decidable c] (ht : Settles l s t) (hu : Settles l s u) :
    Settles l s (if c then t else u) := by
  split
  · exact ht
  · exact hu

theorem stageCell_settles (l : List Nat) (s : State) (id : CellId) : Settles l s (s.stageCell id) := by
  unfold State.stageCell
  split
  · refine Settles.ite (Settles.refl l s) ?_
    exact Settles.of_cells rfl rfl (SameFaults.of_stands fun _ _ => rfl)
  · exact Settles.refl l s

theorem restoreShadow_settles (l : List Nat) (s : State) (cohort : Nat) : Settles l s (s.restoreShadow cohort) := by
  unfold State.restoreShadow
  refine Settles.ite ⟨rfl, fun id => ⟨LCell.shadow, Option.map_id'.symm⟩, SameFaults.of_stands fun _ _ => rfl⟩
    ⟨rfl, fun id => ⟨fun c => if c.cohort == cohort then c.adapter else c.shadow, ?_⟩, SameFaults.of_stands fun _ _ => rfl⟩
  dsimp only [State.lcell]
  rw [find?_updWhere (f := fun c : LCell => { c with shadow := c.adapter }) fun _ _ => rfl]
  congr 1
  funext c
  split <;> rfl

theorem settleShadow_settles (l : List Nat) (s : State) : Settles l s s.settleShadow := by
  unfold State.settleShadow
  split
  · exact Settles.ite (restoreShadow_settles l s _) (Settles.refl l s)
  · exact Settles.refl l s

theorem Settles.active {l : List Nat} {s t : State} (h : Settles l s t) : t.trn.cells = s.trn.cells := by rw [h.frame]

/-- What a cell's shadow does not enter is kept. -/
theorem Settles.map_lcell {α : Type} {l : List Nat} {s t : State} (h : Settles l s t) (f : LCell → α)
    (hf : ∀ c sh, f { c with shadow := sh } = f c) (id : CellId) : (t.lcell id).map f = (s.lcell id).map f := by
  obtain ⟨sh, ht⟩ := h.lcell id
  rw [ht, Option.map_map]
  congr 1
  funext c
  exact hf c (sh c)

/-! ### A step that completes (R221, R246, R260) -/

/-- The conditions of R17 and R260 let a due step complete: a late one before stitch 8, another from stitch 8 on. -/
theorem canStep_of_due {s : State} {c : LCell} {snap : Round} (hd : c.due = some snap) (hl : s.learnedOn = true) (hr : c.resident = true)
    (hs : c.restoring = false) (hw : c.reloading = false) (hf : s.fenced .scheduler = false) (hn : s.fenced .scan = false)
    (ha : s.stepAhead c = false)
    (ht : snap + 1 < s.pace.round ∧ s.pace.stitch < 8 ∨ s.pace.round ≤ snap + 1 ∧ 8 ≤ s.pace.stitch) : s.canStep c = true := by
  have hstitch : (if c.isLate s.pace.round then decide (s.pace.stitch < 8) else decide (8 ≤ s.pace.stitch)) = true := by
    rcases ht with ⟨hlate, h8⟩ | ⟨hlate, h8⟩
    · simp [LCell.isLate, hd, hlate, h8]
    · simp [LCell.isLate, hd, not_lt_of_ge hlate, h8]
  simp [State.canStep, LCell.queued, hd, hl, hr, hs, hw, hf, hn, ha, hstitch]

/-- A complete write flips the selector (R246): the state that the gate engine computed is the last complete one, and the one before it the
other copy. The cell waits for the snap that is due next, if one is. -/
theorem stepped_fields (late keep : Bool) (now : Round × Ns) (snap : Round) (x : StepIn) (st : List (List Block)) (vals : List (Option Rat))
    (run : Nat) (r : Result) (c : LCell) :
    let m := c.stepped_ late keep now snap x st vals run r
    m.id = c.id ∧ (m.state, m.other, m.selY, m.stepped) = (st, c.state, !c.selY, some snap) ∧
      (m.resident, m.due) = (false, if late then some now.1 else none) := by
  cases h : c.selY <;> simp [LCell.stepped_, LCell.write, LCell.state, LCell.other, h]

/-- A step that may complete writes its cell; what follows settles the staging and the shadows, and a poisoned state breaks the cell. -/
theorem learnedResult_of_canStep {s : State} {id : CellId} {c : LCell} {g : Graph} {snap : Round} (hc : s.lcell id = some c)
    (hg : s.graph c.cohort = some g) (hd : c.due = some snap) (h : s.canStep c = true) (t : Ns) :
    let x := c.late.getD (s.stepIn g c)
    let y := liveStep g (s.halves c).1 (x.features.map fun p => p.1) (s.halves c).2
      ((snap + id) % s.img.f.numeric.renormInterval == 0) id snap c.state
    ∃ (m : LCell) (u : State), learnedResult id t s = (if poisonedState y.state then u.poison id else u) ∧
      Settles [0x630, 0x631] ((s.at t).updL id fun _ => m) u ∧ m.id = id ∧
      (m.state, m.other, m.selY, m.stepped) = (y.state, c.state, !c.selY, some snap) ∧
      (m.resident, m.due) = (false, if snap + 1 < s.pace.round then some (s.pace.round - 1) else none) := by
  intro x y
  have hlate : c.isLate s.pace.round = decide (snap + 1 < s.pace.round) := by simp [LCell.isLate, hd]
  unfold learnedResult
  rw [hc]
  dsimp -zeta only
  rw [hg, hd]
  dsimp -zeta only
  rw [if_neg (by simp [h])]
  extract_lets late renorm h' y' vals nonf run corrupt hide r keep c1 s1 s2 s3 s4
  obtain ⟨hid, hcopies, hdue⟩ := stepped_fields late keep (s.pace.round - 1, s.acq.prevT) snap x y'.state vals run r c
  have h2 : Settles [0x630, 0x631] s1 s2 :=
    Settles.ite (Settles.of_flt (raise_flt _ _ _) (raise_sameFaults (by decide) s1 id)) (Settles.refl _ s1)
  have h3 : Settles [0x630, 0x631] s2 s3 :=
    Settles.ite (Settles.of_flt (clear_flt _ _ _) (clear_sameFaults (by decide) s2 id)) (Settles.refl _ s2)
  have h4 : Settles [0x630, 0x631] s3 s4 := by
    refine Settles.trans ?_ (settleShadow_settles _ _)
    split
    · exact Settles.ite (stageCell_settles _ s3 id) (Settles.refl _ s3)
    · exact Settles.refl _ s3
  refine ⟨c1, s4, rfl, (h2.trans h3).trans h4, hid.trans (lcell_id hc), hcopies, ?_⟩
  rw [hdue]
  simp only [late, hlate, decide_eq_true_eq]

/-! ### A poisoned state (R261) -/

/-- A re-seed writes its cell; beyond that it touches the replay and the faults of the tour alone. -/
theorem reseed_cases (s : State) (id : CellId) : s.reseed id = s ∨ ∃ f, ReplayOnly tourCodes (s.updL id f) (s.reseed id) := by
  unfold State.reseed
  split
  · exact .inl rfl
  split
  · exact .inl rfl
  rename_i c _ _ g _
  extract_lets snap s1 s2 _ _ s3 s4
  refine .inr ⟨fun c => c.write (reseedState g.layers id snap s.lrn.replay.ref), ?_⟩
  have h1 : ReplayOnly tourCodes (s.updL id fun c => c.write (reseedState g.layers id snap s.lrn.replay.ref)) s1 :=
    ReplayOnly.of_flt (raise_flt _ _ _) (raise_sameFaults (by decide) _ 0)
  have h2 : ReplayOnly tourCodes s1 s2 := updFray_replayOnly _ s1 _ _
  have h3 : ReplayOnly tourCodes s2 s3 := ⟨rfl, SameFaults.of_stands fun _ _ => rfl⟩
  have h4 : ReplayOnly tourCodes s3 s4 :=
    ReplayOnly.ite (ReplayOnly.of_flt (raise_flt _ _ _) (raise_sameFaults (by decide) s3 _)) (ReplayOnly.refl _ s3)
  refine (((h1.trans h2).trans h3).trans h4).trans (ReplayOnly.ite ?_ (ReplayOnly.refl _ s4))
  refine ReplayOnly.trans ?_ (nextReplay_replayOnly _)
  refine ReplayOnly.trans ?_ (ReplayOnly.of_flt (raise_flt _ _ _) (raise_sameFaults (by decide) _ id))
  exact ⟨rfl, SameFaults.of_stands fun _ _ => rfl⟩

/-- A poisoned block raises its fault, whatever restores the cell. -/
theorem poison_spec {s : State} {id : CellId} {c : LCell} (hc : s.lcell id = some c) :
    (s.poison id).pace = s.pace ∧ (s.poison id).cls = s.cls ∧ (s.poison id).flt.stands 0x514 id = true := by
  unfold State.poison
  rw [hc]
  dsimp -zeta only
  extract_lets s1
  have h1 : s1.pace = s.pace ∧ s1.cls = s.cls ∧ s1.flt.stands 0x514 id = true :=
    ⟨raiseFor_pace s 0x514 id 1000, raiseFor_cls s 0x514 id 1000, raiseFor_stands s 0x514 id 1000⟩
  obtain ⟨hpace, hcls, hstands⟩ := h1
  clear_value s1
  split
  · rcases reseed_cases s1 id with h | ⟨f, h⟩
    · rw [h]; exact ⟨hpace, hcls, hstands⟩
    · refine ⟨?_, ?_, (h.faults 0x514 id (by decide) (by decide)).trans hstands⟩ <;> rw [h.frame]
      · exact hpace
      · exact hcls
  · split
    · exact ⟨hpace, hcls, hstands⟩
    · split <;> exact ⟨hpace, hcls, hstands⟩

/-- A completed step: the copies and the selector of its cell, the fault of a poisoned state, and what stays. -/
theorem learnedResult_spec {s : State} {id : CellId} {c : LCell} {g : Graph} {snap : Round} (hc : s.lcell id = some c)
    (hg : s.graph c.cohort = some g) (hd : c.due = some snap) (hcan : s.canStep c = true) (at_ : Ns) :
    let x := c.late.getD (s.stepIn g c)
    let y := liveStep g (s.halves c).1 (x.features.map fun p => p.1) (s.halves c).2
      ((snap + id) % s.img.f.numeric.renormInterval == 0) id snap c.state
    let t := learnedResult id at_ s
    (poisonedState y.state = false →
      (t.lcell id).map (fun m => (m.state, m.other, m.selY, m.stepped)) = some (y.state, c.state, !c.selY, some snap) ∧
      (t.lcell id).map (fun m => (m.resident, m.due)) =
        some (false, if snap + 1 < s.pace.round then some (s.pace.round - 1) else none)) ∧
    (poisonedState y.state = false →
      t = { s with now := max s.now at_, lrn := t.lrn, trn := { s.trn with copyDue := t.trn.copyDue }, flt := t.flt } ∧
      SameFaults [0x630, 0x631] s t) ∧
    (poisonedState y.state = true → t.flt.stands 0x514 id = true) ∧ t.fixed = s.fixed ∧ t.pace = s.pace ∧ t.cls = s.cls := by
  intro x y t
  obtain ⟨m, u, hend, hsettles, hid, hcopies, hdue⟩ := learnedResult_of_canStep hc hg hd hcan at_
  have hm : ((s.at at_).updL id fun _ => m).lcell id = some m := lcell_updL (fun _ _ => hid) hc
  have hkeep {α : Type} (f : LCell → α) (hf : ∀ c sh, f { c with shadow := sh } = f c) : (u.lcell id).map f = some (f m) := by
    rw [hsettles.map_lcell f hf id, hm]; rfl
  obtain ⟨sh, hu⟩ := hsettles.lcell id
  rw [hm, Option.map_some] at hu
  obtain ⟨hpace, hcls, hstands⟩ := poison_spec hu
  have hupace : u.pace = s.pace := by rw [hsettles.frame]; rfl
  have hucls : u.cls = s.cls := by rw [hsettles.frame]; rfl
  have hfixed : t.fixed = s.fixed := learnedResult_fixed id at_ s
  by_cases hp : poisonedState y.state = true
  · have ht : t = u.poison id := hend.trans (if_pos hp)
    clear_value t
    subst ht
    exact ⟨fun hn => by simp [hp] at hn, fun hn => by simp [hp] at hn, fun _ => hstands, hfixed, hpace.trans hupace, hcls.trans hucls⟩
  · have ht : t = u := hend.trans (if_neg hp)
    clear_value t
    subst ht
    exact ⟨fun _ => ⟨(hkeep _ fun _ _ => rfl).trans (congrArg some hcopies), (hkeep _ fun _ _ => rfl).trans (congrArg some hdue)⟩,
      fun _ => ⟨hsettles.frame, hsettles.faults⟩, fun h => absurd h hp, hfixed, hupace, hucls⟩

/-! ### An abandoned step (R260) -/

/-- A cell whose late step is given up: the step of the present snap is due, and nothing of the one given up is kept. -/
def LCell.giveUp (r : Round) (t : Ns) (c : LCell) : LCell :=
  { c with due := some r, dueT := t, resident := false, late := none, bound := false }

theorem stepAbandon_of_late {s : State} {id : CellId} {c : LCell} {snap : Round} (hc : s.lcell id = some c) (hd : c.due = some snap)
    (hlate : snap + 1 < s.pace.round) (h8 : 8 ≤ s.pace.stitch) :
    ∃ s0 : State, Settles (0x513 :: tourCodes) s s0 ∧
      Settles (0x513 :: tourCodes) ((s0.updL id (LCell.giveUp (s.pace.round - 1) s.acq.prevT)).leaveActive fun j => j == id)
        (stepAbandon id s) := by
  unfold stepAbandon
  rw [hc]
  dsimp -zeta only
  rw [hd]
  dsimp -zeta only
  rw [if_pos (by simp [hlate, h8])]
  extract_lets s0 s1
  have h0 : Settles (0x513 :: tourCodes) s s0 := by
    simp only [s0]
    split
    · exact Settles.ite (stageCell_settles _ s id) (Settles.refl _ s)
    · exact Settles.refl _ s
  have h1 : Settles (0x513 :: tourCodes) s1 (if s1.lrn.replay.cell == some id then s1.abortReplay else s1) :=
    Settles.ite (Settles.of_replayOnly (abortReplay_replayOnly s1)) (Settles.refl _ s1)
  exact ⟨s0, h0, h1.trans (settleShadow_settles _ _)⟩

theorem leaveActive_inactive (s : State) (sel : CellId → Bool) : ∀ a ∈ (s.leaveActive sel).trn.cells, sel a.id = true → a.active = false := by
  intro a ha hsel
  obtain ⟨b, -, rfl⟩ := List.mem_map.mp ha
  split at hsel
  · rename_i hb; rw [if_pos hb]
  · rename_i hb; exact absurd hsel hb

theorem stepAbandon_spec {s : State} {id : CellId} {c : LCell} {snap : Round} (hc : s.lcell id = some c) (hd : c.due = some snap)
    (hlate : snap + 1 < s.pace.round) (h8 : 8 ≤ s.pace.stitch) :
    let t := stepAbandon id s
    (t.lcell id).map (fun m => (m.due, m.resident, m.x, m.y, m.selY, m.stepped)) =
      some (some (s.pace.round - 1), false, c.x, c.y, c.selY, c.stepped) ∧
    (∀ a ∈ t.trn.cells, a.id = id → a.active = false) ∧ t.fixed = s.fixed ∧
    t = { s with lrn := t.lrn, trn := { s.trn with cells := t.trn.cells, copyDue := t.trn.copyDue }, flt := t.flt } := by
  obtain ⟨s0, h0, h1⟩ := stepAbandon_of_late hc hd hlate h8
  obtain ⟨sh, hs0⟩ := h0.lcell id
  rw [hc, Option.map_some] at hs0
  refine ⟨?_, fun a ha hid => ?_, stepAbandon_fixed id s, ?_⟩
  · rw [h1.map_lcell _ (fun _ _ => rfl) id]
    show ((s0.updL id _).lcell id).map _ = _
    rw [lcell_updL (f := LCell.giveUp _ _) (fun _ hx => hx) hs0]
    rfl
  · rw [h1.active] at ha
    exact leaveActive_inactive _ _ a ha (by simp [hid])
  · rw [h1.frame, h0.frame]
    rfl

/-! ### Open loop (R227, R228) -/

/-- A cell whose results are cleared. -/
def LCell.hideResult (c : LCell) : LCell :=
  { c with result := c.result.map fun r => resultOf r.snap [] true r.degraded r.openLoop r.warmup r.nonfinite }

/-- Past the limit a cell's results are cleared; what describes them stays. -/
theorem openLoopLimit_spec {s : State} {id : CellId} {c : LCell} {r : Result} (hc : s.lcell id = some c)
    (hrun : s.img.f.model.openLoopMax < c.openRun) (hr : c.result = some r) :
    let t := openLoopLimit id s
    t = { s with lrn := { s.lrn with cells := t.lrn.cells }, flt := t.flt } ∧
      t.lcell id = some { c with result := some { r with
        vPred := none, soc := none, cap := none, res := none, ocv := none, anomaly := none } } ∧
      t.flt.stands 0x631 id = true ∧ SameFaults [0x631] s t := by
  have hlimit : openLoopLimit id s = (s.updL id LCell.hideResult).raise 0x631 id := by
    unfold openLoopLimit
    rw [hc]
    exact if_pos hrun
  rw [hlimit]
  refine ⟨?_, ?_, raise_stands _ _ _, (SameFaults.of_stands fun _ _ => rfl).trans (raise_sameFaults (by decide) _ id)⟩
  · rw [raise_flt]; rfl
  · rw [lcell_of_cells (s := s.updL id LCell.hideResult) (by rw [raise_lrn]),
      lcell_updL (f := LCell.hideResult) (fun _ hx => hx) hc, LCell.hideResult, hr]
    rfl

/-- Settles O34: the fetch, the end of warm-up and the limit by the cell they change, a step and its abandonment by what follows them. -/
theorem learnedStepsAndTheirEnds : Obligations.LearnedStepsAndTheirEnds := by
  refine ⟨⟨fun s id c hc hl hf hst => ⟨_, rfl, ?_⟩,
      fun s id t c g snap hc hg hd hl hr hs hw hf hn ha hst => ⟨_, rfl, ?_⟩, fun s id c hc hw => ⟨_, rfl, ?_⟩⟩,
    fun s id c r hc hrun hr => ⟨_, rfl, ?_⟩, fun s id c snap hc hd hlate h8 => ⟨_, rfl, ?_⟩⟩
  · rw [show stateBlockFetch id s = s.updL id fun c => { c with resident := c.due.isSome } from if_pos (by simp [hl, hf, hst])]
    exact ⟨rfl, lcell_updL (fun _ hx => hx) hc⟩
  · exact learnedResult_spec hc hg hd (canStep_of_due hd hl hr hs hw hf hn ha hst) t
  · refine ⟨rfl, ?_⟩
    rw [show warmupEnd id s = s.updL id fun c => if c.warmLeft = 0 then { c with warmup := false } else c from rfl,
      lcell_updL (fun x hx => by split <;> exact hx) hc, if_pos hw]
  · exact openLoopLimit_spec hc hrun hr
  · exact stepAbandon_spec hc hd hlate h8

end Sys2Proof.Machine
end

section
/-!
SUPPORT. The pace input (R82, R93): what an edge, a loss and the end of a holdover do to the pace part of the state, and statement O20 from it.
-/
namespace Sys2Proof.Machine

namespace Pace

/-! ### What no judgement of an edge moves -/

/-- The last qualified edge, the opening mark, the lock state and the place in the grid: an edge's judgement leaves them alone (R82). -/
def marks (p : Pace) : Option Ns × Bool × Lock × Round × Nat := (p.lastQualified, p.opening, p.lock, p.round, p.stitch)

theorem marks_ite {c : Prop} [Decidable c] {p q r : Pace} (hp : p.marks = r.marks) (hq : q.marks = r.marks) :
    (if c then p else q).marks = r.marks := by
  split
  · exact hp
  · exact hq

theorem breakAcq_marks (p : Pace) : p.breakAcq.marks = p.marks := marks_ite rfl rfl

theorem lockEdge_marks (p : Pace) (phi : Nat) (t : Ns) : (p.lockEdge phi t).marks = p.marks := marks_ite (marks_ite rfl rfl) rfl

theorem foreignPeriod_marks (p : Pace) (admits : PaceSource → Bool) (d : Ns) : (p.foreignPeriod admits d).marks = p.marks := by
  unfold foreignPeriod
  cases paceBand (d * 1000) with
  | none => rfl
  | some src => exact marks_ite rfl rfl

theorem trackEdge_marks (p : Pace) (admits : PaceSource → Bool) (phi : Nat) (t : Ns) : (p.trackEdge admits phi t).marks = p.marks := by
  unfold trackEdge
  cases p.lastValid with
  | none => rfl
  | some v => exact marks_ite (lockEdge_marks p phi t) rfl

theorem tryResume_marks (p : Pace) (phi : PaceSource → Nat) : (p.tryResume phi).marks = p.marks := by
  unfold tryResume
  cases p.acquired with
  | none => rfl
  | some a => exact marks_ite rfl rfl

theorem complete_marks (p : Pace) (roundMin : Nat) (phi : PaceSource → Nat) (src : PaceSource) (ps : Nat) (t : Ns) :
    (p.complete roundMin phi src ps t).marks = p.marks := by
  -- The choice is generalised before the definition is applied: the kernel would otherwise run `chooseRatio` on a variable.
  have heq : complete = complete := rfl
  conv_rhs at heq => delta complete
  rw [heq]
  generalize chooseRatio = choose
  dsimp only
  cases choose roundMin ps with
  | none => rfl
  | some r => exact tryResume_marks _ phi

theorem acquire_marks (p : Pace) (roundMin : Nat) (phi : PaceSource → Nat) (src : PaceSource) (d t : Ns) :
    (p.acquire roundMin phi src d t).marks = p.marks := by
  unfold acquire
  extract_lets searching near n sum q start
  have hs : searching.marks = p.marks := marks_ite rfl rfl
  refine marks_ite ?_ ?_
  · have hq : q.marks = p.marks := hs
    cases p.acquired with
    | none => exact marks_ite ((complete_marks q roundMin phi src _ t).trans hq) hq
    | some a => exact hq
  · have hq : start.marks = p.marks := (breakAcq_marks searching).trans hs
    exact marks_ite hq hq

theorem searchEdge_marks (p : Pace) (admits : PaceSource → Bool) (roundMin : Nat) (phi : PaceSource → Nat) (d t : Ns) :
    (p.searchEdge admits roundMin phi d t).marks = p.marks := by
  have hbad : p.badEdge.breakAcq.marks = p.marks := breakAcq_marks p.badEdge
  unfold searchEdge
  cases paceBand (d * 1000) with
  | none => exact hbad
  | some src => exact marks_ite (acquire_marks p roundMin phi src d t) hbad

/-- Every active edge becomes the last qualified one, and the opening is over (R82). -/
theorem edge_marks (p : Pace) (admits : PaceSource → Bool) (roundMin : Nat) (phi : PaceSource → Nat) (t : Ns) :
    (p.edge admits roundMin phi t).marks = (some t, false, p.lock, p.round, p.stitch) := by
  have hbreak : (p.breakAcq.lock, p.breakAcq.round, p.breakAcq.stitch) = (p.lock, p.round, p.stitch) :=
    congrArg (fun m => m.2.2) (breakAcq_marks p)
  unfold edge
  split
  · exact congrArg (fun m => (some t, false, m)) hbreak
  · next q hq =>
    have ho : p.opening = false := by
      by_contra h
      simp [h] at hq
    have hq : ({ p with lastQualified := some t } : Pace).marks = (some t, false, p.lock, p.round, p.stitch) := by rw [← ho]; rfl
    split
    · rw [← hq]
      exact congrArg (fun m => (some t, m)) (congrArg (fun m => m.2) (breakAcq_marks p))
    · dsimp only
      split
      · rw [trackEdge_marks, foreignPeriod_marks, hq]
      · rw [searchEdge_marks, foreignPeriod_marks, hq]

/-! ### A tracking PLL (R46, R82, R83) -/

/-- A period lies in an admitted band and within a quarter of the predicted one. -/
def goodPeriod (periodPs : Nat) (admits : PaceSource → Bool) (d : Nat) : Prop :=
  (paceBand d).any admits = true ∧ 3 * periodPs ≤ 4 * d ∧ 4 * d ≤ 5 * periodPs

theorem lockEdge_badWindow (p : Pace) (phi : Nat) (t : Ns) : (p.lockEdge phi t).badWindow = p.badWindow := by
  unfold lockEdge
  split
  · dsimp only
    split <;> rfl
  · rfl

/-- Counting a foreign period leaves what a tracking PLL judges by (R82, R102). -/
theorem foreignPeriod_frame (p : Pace) (admits : PaceSource → Bool) (d : Ns) :
    (p.foreignPeriod admits d).lastValid = p.lastValid ∧ (p.foreignPeriod admits d).badWindow = p.badWindow ∧
      (p.foreignPeriod admits d).periodPs = p.periodPs := by
  unfold foreignPeriod
  cases paceBand (d * 1000) with
  | none => exact ⟨rfl, rfl, rfl⟩
  | some src =>
    dsimp only
    split <;> exact ⟨rfl, rfl, rfl⟩

theorem trackEdge_eq {p : Pace} {admits : PaceSource → Bool} {v : Ns} (hv : p.lastValid = some v) (phi : Nat) (t : Ns) :
    (goodPeriod p.periodPs admits ((t - v) * 1000) → p.trackEdge admits phi t = { p.lockEdge phi t with lastValid := some t }) ∧
    (¬ goodPeriod p.periodPs admits ((t - v) * 1000) → p.trackEdge admits phi t = p.badEdge) := by
  unfold trackEdge
  rw [hv]
  refine ⟨fun ⟨hband, hlo, hhi⟩ => if_pos ⟨?_, hlo, hhi⟩, fun h => if_neg fun ⟨hband, hlo, hhi⟩ => h ⟨?_, hlo, hhi⟩⟩ <;>
    (generalize paceBand ((t - v) * 1000) = band at hband ⊢; cases band <;> exact hband)

/-- While the PLL tracks, an edge within 25 ms of the last qualified one is judged against the prediction (R82). -/
theorem edge_of_tracking {p : Pace} {q t v : Ns} (ho : p.opening = false) (hq : p.lastQualified = some q) (ht : t - q < 25000000)
    (htr : p.tracking = true) (hv : p.lastValid = some v) (admits : PaceSource → Bool) (roundMin : Nat) (phi : PaceSource → Nat) :
    let r := p.edge admits roundMin phi t
    (goodPeriod p.periodPs admits ((t - v) * 1000) → r.lastValid = some t ∧ r.badWindow = p.badWindow) ∧
    (¬ goodPeriod p.periodPs admits ((t - v) * 1000) → r.lastValid = some v ∧ r.badWindow = p.badWindow + 1 ∧ r.badRound = true) := by
  let counted := ({ p with lastQualified := some t } : Pace).foreignPeriod admits (t - q)
  have hedge : p.edge admits roundMin phi t = counted.trackEdge admits ((p.source.map phi).getD 0) t := by
    have hprev : (if p.opening = true then none else p.lastQualified) = some q := by rw [if_neg (by simp [ho]), hq]
    unfold edge
    rw [hprev]
    exact (if_neg (Nat.not_le.mpr ht)).trans (if_pos htr)
  obtain ⟨hvalid, hbad, hperiod⟩ : counted.lastValid = p.lastValid ∧ counted.badWindow = p.badWindow ∧ counted.periodPs = p.periodPs :=
    foreignPeriod_frame _ admits (t - q)
  clear_value counted
  obtain ⟨hgood, hnot⟩ := trackEdge_eq (admits := admits) (hvalid.trans hv) ((p.source.map phi).getD 0) t
  rw [hperiod] at hgood hnot
  dsimp only
  rw [hedge]
  refine ⟨fun h => ?_, fun h => ?_⟩
  · rw [hgood h]
    exact ⟨rfl, (lockEdge_badWindow counted _ t).trans hbad⟩
  · rw [hnot h]
    exact ⟨hvalid.trans hv, congrArg (· + 1) hbad, rfl⟩

/-! ### Loss and the end of a holdover (R93) -/

theorem lossDue_of_late {p : Pace} {t v : Ns} (htr : p.tracking = true) (hv : p.lastValid = some v)
    (h : 3 * p.periodPs ≤ 2 * ((t - v) * 1000)) : p.lossDue t = true := by
  simp [lossDue, htr, hv, h]

theorem endHold_of_held {p : Pace} (hl : p.lock = .hold) (h0 : p.holdLeft = 0) (hr : p.resumePending = false) :
    p.endHold = { p.toIdle with heldEnd := some (p.startPs + p.heldPs) } :=
  if_pos (by simp [hl, h0, hr])

end Pace

/-- Settles O20: an edge by what its judgement keeps and by the prediction, a loss and the end of a holdover by their conditions. The order of
HOLDOVER_END and the next boundary is log entry 44; that a loss withdraws a pending resumption is log entry 152. -/
theorem paceInputIsJudged : Obligations.PaceInputIsJudged := by
  refine ⟨fun s t hin => ⟨⟨_, rfl, ?_⟩, ⟨_, rfl, ?_⟩⟩, fun s t v hin htr hv hlate => ⟨_, rfl, ?_⟩,
    fun s hl h0 hr => ⟨_, rfl, ?_⟩⟩
  · have hedge : paceEdge ⟨s.code.paceRising, t⟩ s =
        { s with pace := s.pace.edge (paceAdmits s.code.pace) s.img.f.pace.roundMin s.phi t }.at t := if_neg (by simp [hin])
    have hmarks := Pace.edge_marks s.pace (paceAdmits s.code.pace) s.img.f.pace.roundMin s.phi t
    simp only [Pace.marks, Prod.mk.injEq] at hmarks
    obtain ⟨hq, ho, hlock, hround, hstitch⟩ := hmarks
    rw [hedge]
    exact ⟨rfl, hq, ho, hlock, hround, hstitch, fun q v ho hq ht htr hv =>
      Pace.edge_of_tracking ho hq ht htr hv (paceAdmits s.code.pace) s.img.f.pace.roundMin s.phi⟩
  · exact if_pos (by simp)
  · exact if_pos (by simp [hin, Pace.lossDue_of_late htr hv hlate])
  · show holdoverEnd s = _
    rw [holdoverEnd, Pace.endHold_of_held hl h0 hr, Pace.toIdle, ← h0, ← hr]

end Sys2Proof.Machine
end

section
/-!
SUPPORT. Straps, codes and MAINT in operation (R36, R37, R43): what a judgement with two thresholds does to the fault table, and statement O22
from it.
-/
namespace Sys2Proof.Machine

/-! ### A judgement with two thresholds -/

theorem judge2_sameFaults {l : List Nat} {c : Nat} (hc : c ∈ l) (s : State) (d : Nat) (up down : Bool) :
    SameFaults l s (s.judge2 c d up down) := by
  unfold State.judge2
  split
  · exact raise_sameFaults hc s d
  · split
    · exact clear_sameFaults hc s d
    · exact SameFaults.refl l s

theorem judge2_stands_of_up (s : State) (c d : Nat) (down : Bool) : (s.judge2 c d true down).flt.stands c d = true := raise_stands s c d

theorem judge2_stands_of_down {s : State} {c d : Nat} (hf : s.flt.free c d) (ho : c ≠ 0x542) :
    (s.judge2 c d false true).flt.stands c d = false := clear_stands_free s c d hf ho

section
variable {c d c' d' : Nat} (h : ¬ (c = c' ∧ d = d')) (s : State) (up down : Bool)
include h

theorem judge2_stands_ne (hc : c' ≠ 0x542) : (s.judge2 c d up down).flt.stands c' d' = s.flt.stands c' d' := by
  unfold State.judge2
  split
  · exact raiseInst_stands_ne s ⟨c, d, false⟩ c' d' h hc
  · split
    · exact clear_stands_ne s c d c' d' h
    · rfl

theorem judge2_free (hf : s.flt.free c' d') : (s.judge2 c d up down).flt.free c' d' := by
  unfold State.judge2
  split
  · exact raiseInst_free s ⟨c, d, false⟩ c' d' h hf
  · split
    · exact clear_free s c d c' d' hf
    · exact hf

end

/-! ### Streaks (R36, R43) -/

/-- A streak of differing results and one of agreeing results never stand at once after a step. -/
theorem Streak.step_zero (k : Streak) (agrees : Bool) : (k.step agrees).differ = 0 ∨ (k.step agrees).agree = 0 := by
  cases agrees
  · exact .inr rfl
  · exact .inl rfl

/-- A fault judged by a streak: two differing results raise it, two agreeing ones clear it. -/
theorem judge2_of_streak {s : State} {k : Streak} (hk : k.differ = 0 ∨ k.agree = 0) (c d : Nat) (ho : c ≠ 0x542) :
    let t := s.judge2 c d (decide (2 ≤ k.differ)) (decide (2 ≤ k.agree))
    (2 ≤ k.differ → t.flt.stands c d = true) ∧ (2 ≤ k.agree → s.flt.free c d → t.flt.stands c d = false) := by
  refine ⟨fun hd => ?_, fun ha hf => ?_⟩
  · rw [decide_eq_true hd]
    exact judge2_stands_of_up s c d _
  · rw [decide_eq_true ha, decide_eq_false (by omega)]
    exact judge2_stands_of_down hf ho

theorem resample_streak (x : Straps) (l : StrapLevels) (k : Strap) :
    (x.resample l).streak k = (x.streak k).step (l.get k == x.latched.get k) := by
  cases k <;> rfl

/-! ### The straps judged one after another (R36) -/

theorem strapDetail_injective : Function.Injective strapDetail := by
  intro j k
  cases j <;> cases k <;> decide

theorem judgeStrap_flt (s : State) (k : Strap) : s.judgeStrap k = { s with flt := (s.judgeStrap k).flt } := judge2_flt _ _ _ _ _

theorem foldl_judgeStrap_stands_of_not_mem {l : List Strap} {k : Strap} (hk : k ∉ l) (s : State) :
    (l.foldl State.judgeStrap s).flt.stands 0x961 (strapDetail k) = s.flt.stands 0x961 (strapDetail k) := by
  induction l generalizing s with
  | nil => rfl
  | cons j l ih =>
    obtain ⟨hj, hk⟩ := List.ne_and_not_mem_of_not_mem_cons hk
    rw [List.foldl_cons, ih hk]
    exact judge2_stands_ne (fun h => hj (strapDetail_injective h.2).symm) s _ _ (by decide)

/-- Each strap of the list has its fault as its own streak says: judging the others leaves it alone. -/
theorem foldl_judgeStrap_stands {l : List Strap} (hl : l.Nodup) {k : Strap} (hk : k ∈ l) {s : State}
    (h0 : (s.strap.streak k).differ = 0 ∨ (s.strap.streak k).agree = 0) :
    let t := l.foldl State.judgeStrap s
    (2 ≤ (s.strap.streak k).differ → t.flt.stands 0x961 (strapDetail k) = true) ∧
    (2 ≤ (s.strap.streak k).agree → s.flt.free 0x961 (strapDetail k) → t.flt.stands 0x961 (strapDetail k) = false) := by
  induction l generalizing s with
  | nil => cases hk
  | cons j l ih =>
    obtain ⟨hj, hl⟩ := List.nodup_cons.mp hl
    rw [List.foldl_cons]
    by_cases hjk : j = k
    · subst hjk
      dsimp only
      rw [foldl_judgeStrap_stands_of_not_mem hj]
      exact judge2_of_streak h0 0x961 _ (by decide)
    · have hstrap : (s.judgeStrap j).strap = s.strap := by rw [judgeStrap_flt]
      have hk : k ∈ l := (List.mem_cons.mp hk).resolve_left fun h => hjk h.symm
      rw [← hstrap] at h0
      obtain ⟨hup, hdown⟩ := ih hl hk h0
      rw [hstrap] at hup hdown
      exact ⟨hup, fun ha hf => hdown ha (judge2_free (fun h => hjk (strapDetail_injective h.2)) s _ _ hf)⟩

/-- Settles O22: a strap by the fold over all straps, a code by the one judgement of its streak, MAINT by its condition. -/
theorem strapsAndCodesAreChecked : Obligations.StrapsAndCodesAreChecked := by
  refine ⟨fun s x hr hround => ⟨_, rfl, ?_⟩, fun s i sum n hr hi hround hn => ?_, fun s hrun hlast => ⟨_, rfl, if_pos ?_⟩⟩
  · let s0 : State := { s with strap := s.strap.resample x }
    have hsample : strapResample x s = allStraps.foldl State.judgeStrap s0 := if_neg (by simp [hr, hround])
    have hframe := foldl_flt State.judgeStrap judgeStrap_flt allStraps s0
    have hstrap : (allStraps.foldl State.judgeStrap s0).strap = s0.strap := by rw [hframe]
    rw [hsample]
    refine ⟨hframe, ?_, fun k => ?_⟩
    · exact (SameFaults.of_stands fun _ _ => rfl).trans (foldl_sameFaults (fun u k => judge2_sameFaults (by decide) u _ _ _) allStraps s0)
    · have hk : k ∈ allStraps := by cases k <;> decide
      have h0 : (s0.strap.streak k).differ = 0 ∨ (s0.strap.streak k).agree = 0 := by
        show (((s.strap.resample x).streak k).differ = 0 ∨ _)
        rw [resample_streak]
        exact Streak.step_zero _ _
      obtain ⟨hup, hdown⟩ := foldl_judgeStrap_stands (by decide) hk h0
      rw [hstrap]
      exact ⟨hup, fun ha hlisted => hdown ha (Faults.free_of_listed hlisted _ _)⟩
  · intro k
    let s0 : State := { s with code := { s.code with streaks := s.code.streaks.set i k } }
    have hread : codeReread i sum s = s0.judge2 (0x950 + i) 0 (decide (2 ≤ k.differ)) (decide (2 ≤ k.agree)) := by
      unfold codeReread
      rw [hn]
      exact if_neg (by simp [hr, hi, hround])
    obtain ⟨hup, hdown⟩ := judge2_of_streak (s := s0) (Streak.step_zero _ _) (0x950 + i) 0 (by omega)
    refine ⟨_, rfl, ?_⟩
    rw [hread]
    refine ⟨judge2_flt _ _ _ _ _, ?_, hup, fun ha hlisted => hdown ha (Faults.free_of_listed hlisted _ _)⟩
    exact (SameFaults.of_stands fun _ _ => rfl).trans (judge2_sameFaults (List.mem_singleton.mpr rfl) s0 0 _ _)
  · simp [hrun, hlast]

end Sys2Proof.Machine
end

section
/-!
SUPPORT. The cut of an owner and the forced takeover (chapter 15): the CUT_OUT pins, the cut device, the bursts and gates of a path controller
that takes over, and statement O53 from it.
-/
namespace Sys2Proof.Machine

/-! ### The CUT_OUT pins (R377, R378) -/

/-- Cutting a seat asserts the pins that face it and raises its fault. -/
theorem assertCut_spec {s : State} (h : s.own.cutting = none) (k : Nat) (t : Ns) :
    let u := s.assertCut k t
    u = { s with own := { s.own with cutting := some ⟨k, s.upSeat == k, s.downSeat == k, t, none, false, false⟩ }, flt := u.flt } ∧
      u.flt.stands 0x821 (seatDetail k) = true ∧ SameFaults [0x821] s u := by
  have hcut : s.assertCut k t = ({ s with own := { s.own with
      cutting := some ⟨k, s.upSeat == k, s.downSeat == k, t, none, false, false⟩ } } : State).raise 0x821 (seatDetail k) := by
    unfold State.assertCut
    rw [h]
    simp
  rw [hcut]
  exact ⟨raise_flt _ _ _, raise_stands _ _ _, (SameFaults.of_stands fun _ _ => rfl).trans (raise_sameFaults (by decide) _ _)⟩

/-- An eligible neighbour judges the owner at stitch 3 where a criterion and a successor are there (R377). -/
theorem ownerJudge_eq {s : State} {k : Nat} {v : SeatView} (hk : s.seatIn .owner = some k) (hv : s.view k = some v) (hr : s.rounds = true)
    (h1 : s.tc1Up = true) (h3 : s.pace.stitch = 3) (hj : s.judges k = true) :
    let criterion := s.img.f.own.beatMiss ≤ v.missed ∨ s.img.f.own.healthGrace ≤ v.unmet ∧ s.own.yielding = none
    let succ := (s.lowestEligible fun j => !decide (j = k)).isSome = true
    (criterion → succ → ownerJudge s = s.assertCut k s.pace.stitchAt) ∧
    (¬ criterion ∧ s.isOutvoted k = false ∨ ¬ succ → ownerJudge s = s) := by
  unfold ownerJudge
  rw [hk]
  dsimp only
  rw [hv]
  refine ⟨fun hc hs => if_pos ?_, fun h => if_neg ?_⟩
  · rcases hc with hc | ⟨hc, hy⟩ <;> simp [*]
  · rcases h with ⟨hc, ho⟩ | hs
    · obtain ⟨hc1, hc2⟩ := not_or.mp hc
      have hc2 : (decide (s.img.f.own.healthGrace ≤ v.unmet) && s.own.yielding.isNone) = false := by
        simpa [← Option.isSome_iff_ne_none] using hc2
      simp [ho, hc1, hc2]
    · simp [hs]

/-! ### The cut device (R30, R378) -/

theorem foldl_clear_stands {c d : Nat} (hc : c ≠ 0x542) {l : List Nat} {s : State} (hf : s.flt.free c d)
    (h : s.flt.stands c d = true → d ∈ l) : (l.foldl (fun u e => u.clear c e) s).flt.stands c d = false := by
  induction l generalizing s with
  | nil => simpa using h
  | cons e l ih =>
    refine ih (clear_free s c e c d hf) fun hs => ?_
    by_cases he : e = d
    · subst he
      rw [clear_stands_free s c e hf hc] at hs
      cases hs
    · rw [clear_stands_ne s c e c d fun h => he h.2] at hs
      exact (List.mem_cons.mp (h hs)).resolve_left fun h => he h.symm

/-- After every fault of a code is cleared, none stands. -/
theorem clearAll_stands {c : Nat} (hc : c ≠ 0x542) {s : State} {d : Nat} (hf : s.flt.free c d) : (s.clearAll c).flt.stands c d = false := by
  refine foldl_clear_stands hc hf fun h => ?_
  obtain ⟨i, hi, h⟩ := List.any_eq_true.mp h
  simp only [Bool.and_eq_true, beq_iff_eq] at h
  obtain ⟨hcode, hdetail⟩ := h
  exact List.mem_map.mpr ⟨i, List.mem_filter.mpr ⟨hi, by simp [hcode]⟩, hdetail⟩

/-- A cut device releases every CUT_OUT pin: no fault 0x821 is left. -/
theorem cutIn_releases {s : State} (hoff : s.sup.dev ≠ .off) (hl : s.allListed) (t : Ns) (d : Nat) :
    (cutIn t s).flt.stands 0x821 d = false := by
  let s0 : State := { s.releaseCut with own := { s.releaseCut.own with cut := true, yielding := none } }
  have hcut : cutIn t s = { (s0.raise 0x822 0).at t with flt := { (s0.raise 0x822 0).flt with safeN := false } } := if_neg (by simpa using hoff)
  rw [hcut, stands_safeN]
  calc (s0.raise 0x822 0).flt.stands 0x821 d
    _ = s.releaseCut.flt.stands 0x821 d := raiseInst_stands_ne s0 ⟨0x822, 0, false⟩ 0x821 d (by simp) (by decide)
    _ = false := clearAll_stands (by decide) (Faults.free_of_listed hl _ _)

section
variable {s : State} (h : s.own.cut = true)
include h

theorem drives_of_cut : s.drives = false := by simp [State.drives, h]

theorem drivesCaps_of_cut : s.drivesCaps = false := by simp [State.drivesCaps, h]

theorem ownEligible_of_cut : s.ownEligible = false := by simp [State.ownEligible, State.conditions, h]

end

/-! ### The forced CLAIM (R380) -/

/-- What a seat sends does not depend on whom it cuts. -/
theorem peerSend_cutting (s : State) (c : Option CutPlan) (type : Nat) (payload : List Byte) :
    let u := ({ s with own := { s.own with cutting := c } } : State).peerSend type payload
    u = { s with own := { s.own with cutting := c, seq := u.own.seq, sent := (s.peerSend type payload).own.sent } } := by
  intro u
  by_cases h : (!s.peerOn || s.flt.peerStopped) = true
  · have hu : u = { s with own := { s.own with cutting := c } } := if_pos h
    have hs : s.peerSend type payload = s := if_pos h
    rw [hu, hs]
  · have hu := show u = _ from if_neg h
    have hs := show s.peerSend type payload = _ from if_neg h
    rw [hu, hs]
    rfl

theorem forcedClaim_of_due {s : State} {c : CutPlan} (hc : s.own.cutting = some c) (hr : s.rounds = true) (h1 : s.tc1Up = true)
    (h5 : s.pace.stitch = 5) (hcl : c.claimed = none) (hb : c.barred = false)
    (hp : c.at_ * 1000 + 2 * (s.pace.lengthPs / 64) ≤ s.pace.stitchAt * 1000 + 1000) (ha : s.attached = true)
    (hl : s.lowestEligible (fun k => !decide (k = c.seat)) = some s.seat) :
    forcedClaim s = ({ s with own := { s.own with cutting := some { c with claimed := some s.pace.round } } } : State).sendClaim 3
      (s.pace.round + 1) := by
  unfold forcedClaim
  rw [hc]
  exact if_pos (by simp [*])

/-! ### The path of a device that takes over (R348, R358) -/

/-- A change of the bursts and the faults, where the path and the gates stay as they are and 0x710 alone is raised. -/
structure CutsBursts (s t : State) : Prop where
  frame : t = { s with res := { s.res with ledger := t.res.ledger, closed := t.res.closed, answers := t.res.answers }, flt := t.flt }
  faults : SameFaults [0x710] s t

theorem CutsBursts.trans {s t u : State} (h : CutsBursts s t) (k : CutsBursts t u) : CutsBursts s u :=
  ⟨by rw [k.frame, h.frame], h.faults.trans k.faults⟩

theorem closeBurst_cutsBursts (s : State) (e : LedgerEntry) (k : BurstEnd) (t : Ns) : CutsBursts s (s.closeBurst e k t) :=
  ⟨rfl, SameFaults.of_stands fun _ _ => rfl⟩

theorem answer_cutsBursts (s : State) (us : Nat) (t : Ns) : CutsBursts s (s.answer us t) := by
  unfold State.answer
  split <;> exact ⟨rfl, SameFaults.of_stands fun _ _ => rfl⟩

theorem raise_cutsBursts (s : State) (d : Nat) : CutsBursts s (s.raise 0x710 d) :=
  ⟨by rw [raise_flt], raise_sameFaults (by decide) s d⟩

theorem cutBursts_cutsBursts (s : State) (t : Ns) : CutsBursts s (s.cutBursts t) := by
  have hfold (l : List LedgerEntry) (u : State) : CutsBursts u
      (l.foldl (fun u e => ((u.closeBurst e .cut t).answer (70 + 10 * e.line) t).raise 0x710 0) u) := by
    induction l generalizing u with
    | nil => exact ⟨rfl, SameFaults.refl _ u⟩
    | cons e l ih =>
      exact (((closeBurst_cutsBursts u e .cut t).trans (answer_cutsBursts _ _ t)).trans (raise_cutsBursts _ 0)).trans (ih _)
  exact hfold s.res.ledger s

/-- A path state is entered with its gates; bursts are cut with fault 0x710 alone. -/
theorem enterPath_spec (s : State) (p : PathState) (t : Ns) :
    let u := s.enterPath p t
    u = { s with res := u.res, flt := u.flt } ∧ SameFaults [0x710] s u ∧ u.res.path = p ∧ (u.res.gateMain, u.res.gateRes) = p.gates := by
  let s1 : State := { s with res := { s.res with
    path := p, since := t, dwellMet := false, gateMain := p.gates.1, gateRes := p.gates.2 } }
  have h0 : SameFaults [0x710] s s1 := SameFaults.of_stands fun _ _ => rfl
  by_cases hp : (p == PathState.down || p == PathState.cool || p == PathState.latched) = true
  · have henter : s.enterPath p t = s1.cutBursts t := if_pos hp
    obtain ⟨hframe, hfaults⟩ := cutBursts_cutsBursts s1 t
    rw [henter]
    exact ⟨by rw [hframe], h0.trans hfaults, by rw [hframe], by rw [hframe]⟩
  · have henter : s.enterPath p t = s1 := if_neg hp
    rw [henter]
    exact ⟨rfl, h0, rfl, rfl⟩

section
variable {s : State} (t : Ns)

theorem pathTakeover_of_main (h : s.res.path = .vehicle ∨ s.res.path = .rampM ∨ s.res.path = .handback) :
    s.pathTakeover t = s.enterPath .rampM t := by
  unfold State.pathTakeover
  rcases h with h | h | h <;> rw [h]

theorem pathTakeover_of_store (h : s.res.path = .reserve ∨ s.res.path = .handover) :
    s.pathTakeover t = s.enterPath (if s.storeOk then .handover else .down) t := by
  unfold State.pathTakeover
  rcases h with h | h <;> rw [h]

theorem pathTakeover_of_off (h : s.res.path = .down ∨ s.res.path = .cool ∨ s.res.path = .latched) : s.pathTakeover t = s := by
  unfold State.pathTakeover
  rcases h with h | h | h <;> rw [h]

end

/-- Whatever path it finds, a new owner's controller changes its reserve and may raise 0x710. -/
theorem pathTakeover_frame (s : State) (t : Ns) :
    let u := s.pathTakeover t
    u = { s with res := u.res, flt := u.flt } ∧ SameFaults [0x710] s u := by
  have henter (p : PathState) (h : s.pathTakeover t = s.enterPath p t) :
      let u := s.pathTakeover t
      u = { s with res := u.res, flt := u.flt } ∧ SameFaults [0x710] s u := by
    obtain ⟨hframe, hfaults, -⟩ := enterPath_spec s p t
    rw [h]
    exact ⟨hframe, hfaults⟩
  cases hp : s.res.path with
  | vehicle | rampM | handback => exact henter _ (pathTakeover_of_main t (by simp [hp]))
  | reserve | handover => exact henter _ (pathTakeover_of_store t (by simp [hp]))
  | down | cool | latched =>
    rw [pathTakeover_of_off t (by simp [hp])]
    exact ⟨rfl, SameFaults.refl _ s⟩

/-- A forced takeover in its stitch drives the pins and takes the path over, with fault 0x823 (R380). -/
theorem forcedTakeoverDrive_of_claimed {s : State} {c : CutPlan} (hc : s.own.cutting = some c) (hcl : c.claimed = some s.pace.round)
    (h6 : s.pace.stitch = 6) (hb : c.barred = false) (hd : c.driven = false) (hcut : s.own.cut = false) (t : Ns) :
    forcedTakeoverDrive t s = (((({ s with own := { s.own with pins := true, cutting := some { c with driven := true } }
                                           res := { s.res with answers := [] } } : State).pathTakeover t).at t).raiseFor 0x823 0 1000) := by
  unfold forcedTakeoverDrive
  rw [hc]
  exact if_pos ⟨hcl, h6, by simp [hb], by simp [hd], by simp [hcut]⟩

theorem forcedTakeoverDrive_spec {s : State} {c : CutPlan} (hc : s.own.cutting = some c) (hcl : c.claimed = some s.pace.round)
    (h6 : s.pace.stitch = 6) (hb : c.barred = false) (hd : c.driven = false) (hcut : s.own.cut = false) (at_ : Ns) :
    let p := s.res.path
    let t := forcedTakeoverDrive at_ s
    t.own = { s.own with pins := true, cutting := some { c with driven := true } } ∧
      t.flt.stands 0x823 0 = true ∧ SameFaults [0x710, 0x823] s t ∧
      (p = .vehicle ∨ p = .rampM ∨ p = .handback → t.res.path = .rampM ∧ t.res.gateMain = .ramping ∧ t.res.gateRes = .off) ∧
      (p = .reserve ∨ p = .handover → t.res.path = if s.storeOk = true then .handover else .down) ∧
      (p = .down ∨ p = .cool ∨ p = .latched → t.res = { s.res with answers := [] }) ∧
      t = { s with now := max s.now at_, res := t.res, own := t.own, flt := t.flt } := by
  rw [forcedTakeoverDrive_of_claimed hc hcl h6 hb hd hcut]
  let s1 : State := { s with own := { s.own with pins := true, cutting := some { c with driven := true } }, res := { s.res with answers := [] } }
  obtain ⟨hframe, hfaults⟩ := pathTakeover_frame s1 at_
  intro p t
  have hown : t.own = s1.own := (raiseFor_own _ _ _ _).trans (by rw [at_own, hframe])
  have hres : t.res = (s1.pathTakeover at_).res := raiseFor_res _ _ _ _
  refine ⟨?_, raiseFor_stands _ _ _ _, ?_, fun h => ?_, fun h => ?_, fun h => ?_, ?_⟩
  · exact hown
  · have h1 : SameFaults [0x710, 0x823] s s1 := SameFaults.of_stands fun _ _ => rfl
    have h2 : SameFaults [0x710, 0x823] (s1.pathTakeover at_) ((s1.pathTakeover at_).at at_) := SameFaults.of_stands fun _ _ => rfl
    exact ((h1.trans (hfaults.mono (by decide))).trans h2).trans (raiseFor_sameFaults (by decide) _ 0 1000)
  · obtain ⟨-, -, hpath, hgates⟩ := enterPath_spec s1 .rampM at_
    rw [hres, pathTakeover_of_main (s := s1) at_ h]
    exact ⟨hpath, congrArg Prod.fst hgates, congrArg Prod.snd hgates⟩
  · obtain ⟨-, -, hpath, -⟩ := enterPath_spec s1 (if s1.storeOk then .handover else .down) at_
    rw [hres, pathTakeover_of_store (s := s1) at_ h]
    exact hpath
  · rw [hres, pathTakeover_of_off (s := s1) at_ h]
  · have hrest (f : Faults) : ({ (s1.pathTakeover at_).at at_ with flt := f } : State) =
        { s with now := max s.now at_, res := (s1.pathTakeover at_).res, own := s1.own, flt := f } := by rw [hframe]; rfl
    refine (raiseFor_flt _ _ _ _).trans ?_
    rw [hres, hown]
    exact hrest _

/-- Settles O53: the judgement and the trip by the pins they assert, the cut by its latch, the CLAIM and the drive by what they send and take
over. The details of the faults and the round of the CLAIM are log entries 91 and 93; the third criterion's wait is log entry 95. -/
theorem cutAndForcedTakeover : Obligations.CutAndForcedTakeover := by
  refine ⟨fun s k v hk hv hr h1 h3 hj hcut => ?_, fun s k t hk hj hcut htrip hheld h2 => ⟨_, rfl, ?_⟩, fun s t hoff => ⟨_, rfl, ?_⟩,
    fun s c hc hr h1 h5 hcl hb hp ha hl => ⟨_, rfl, ?_⟩, fun s c t hc hcl h6 hb hd hcut => ⟨_, rfl, ?_⟩⟩
  · obtain ⟨hjudge, hnone⟩ := ownerJudge_eq hk hv hr h1 h3 hj
    refine ⟨fun hcrit hsucc => ⟨_, rfl, ?_⟩, fun h => ⟨_, rfl, hnone ?_⟩⟩
    · rw [hjudge hcrit hsucc]
      exact assertCut_spec hcut k s.pace.stitchAt
    · exact h.imp_left fun ⟨hc1, hc2, hout⟩ => ⟨not_or.mpr ⟨hc1, hc2⟩, hout⟩
  · have htd : tripDisagree t s = (s.at t).assertCut k t := by
      unfold tripDisagree
      rw [hk]
      exact if_pos (by simp [hj, htrip, hheld, h2])
    rw [htd]
    exact assertCut_spec (s := s.at t) hcut k t
  · obtain ⟨hframe, hstands, hsafe, hfaults⟩ := cutIn_spec hoff t
    have hcut : (cutIn t s).own.cut = true := by rw [hframe]
    exact ⟨hframe, hstands, hsafe, drives_of_cut hcut, drivesCaps_of_cut hcut, ownEligible_of_cut hcut,
      fun c _ hl => cutIn_releases hoff hl t _, hfaults⟩
  · rw [forcedClaim_of_due hc hr h1 h5 hcl hb hp ha hl]
    exact peerSend_cutting s _ 2 _
  · exact forcedTakeoverDrive_spec hc hcl h6 hb hd hcut t

end Sys2Proof.Machine
end

section
/-!
SUPPORT. The tokens of a round (chapter 05): nodes and rings under a change, and what TOKEN_SEND does to each ring.
-/
namespace Sys2Proof.Machine

/-! ### Nodes and rings under a change -/

/-- Among entries of distinct keys, the search for a key finds the entry that has it. -/
theorem find?_key_of_nodup {α : Type} {k : α → Nat} {l : List α} (hl : (l.map k).Nodup) {x : α} (hx : x ∈ l) :
    l.find? (fun y => k y == k x) = some x := by
  induction l with
  | nil => cases hx
  | cons y l ih =>
    obtain ⟨hy, hl⟩ := List.nodup_cons.mp hl
    rcases List.mem_cons.mp hx with rfl | hx
    · exact List.find?_cons_of_pos (by simp)
    · have hne : k y ≠ k x := fun h => hy (h ▸ List.mem_map_of_mem hx)
      rw [List.find?_cons_of_neg (by simpa using hne)]
      exact ih hl hx

theorem node_id {s : State} {id : NodeId} {n : Node} (h : s.node id = some n) : n.id = id := by simpa using List.find?_some h

theorem node_updNode {f : Node → Node} (hf : ∀ n, (f n).id = n.id) (s : State) (id : NodeId) :
    (s.updNode id f).node id = (s.node id).map f := by
  have h := find?_updWhere (p := fun n : Node => n.id == id) (q := fun n => n.id == id) (f := f) (fun n _ => by rw [hf]) s.thr.nodes
  refine h.trans (Option.map_congr fun n hn => ?_)
  exact if_pos (List.find?_some hn)

theorem node_updNode_some {f : Node → Node} {s : State} {id : NodeId} {n : Node} (hn : s.node id = some n)
    (hf : ∀ n, (f n).id = n.id := by intro; rfl) : (s.updNode id f).node id = some (f n) := by
  rw [node_updNode hf, hn]
  rfl

theorem ring_updRing {f : Ring → Ring} (hf : ∀ r, (f r).port = r.port) (s : State) (port : Nat) :
    (s.updRing port f).ring port = (s.ring port).map f := by
  have h := find?_updWhere (p := fun r : Ring => r.port == port) (q := fun r => r.port == port) (f := f) (fun r _ => by rw [hf]) s.thr.rings
  refine h.trans (Option.map_congr fun r hr => ?_)
  exact if_pos (List.find?_some hr)

theorem ring_updRing_some {f : Ring → Ring} {s : State} {port : Nat} {r : Ring} (hr : s.ring port = some r)
    (hf : ∀ r, (f r).port = r.port := by intro; rfl) :
    (s.updRing port f).ring port = some (f r) := by
  rw [ring_updRing hf, hr]
  rfl

theorem ring_updRing_ne {f : Ring → Ring} (hf : ∀ r, (f r).port = r.port) (s : State) {port p : Nat} (hp : p ≠ port) :
    (s.updRing port f).ring p = s.ring p := by
  have h := find?_updWhere (p := fun r : Ring => r.port == port) (q := fun r => r.port == p) (f := f) (fun r _ => by rw [hf]) s.thr.rings
  refine h.trans ((Option.map_congr fun r hr => ?_).trans Option.map_id')
  refine if_neg fun hport => hp ?_
  have h1 := List.find?_some hr
  simp only [beq_iff_eq] at h1 hport
  exact h1.symm.trans hport

theorem turnCheck_of_other {s : State} (h : s.pat.turn ≠ some s.seat) : s.turnCheck = s := if_neg (by simp [h])

/-! ### Tokens (R116, R117, R121, R383) -/

/-- The nodes alone change. -/
def NodesOnly (s t : State) : Prop := ∃ l, t = { s with thr := { s.thr with nodes := l } }

theorem NodesOnly.refl (s : State) : NodesOnly s s := ⟨s.thr.nodes, rfl⟩

theorem NodesOnly.trans {s t u : State} (h : NodesOnly s t) (k : NodesOnly t u) : NodesOnly s u := by
  obtain ⟨l, rfl⟩ := h
  obtain ⟨m, rfl⟩ := k
  exact ⟨m, rfl⟩

theorem updNode_nodesOnly (s : State) (id : NodeId) (f : Node → Node) : NodesOnly s (s.updNode id f) := ⟨_, rfl⟩

theorem recordConf_nodesOnly (s : State) (port : Nat) (l : List Byte) : NodesOnly s (s.recordConf port l) := by
  unfold State.recordConf
  split
  · exact updNode_nodesOnly s _ _
  · exact updNode_nodesOnly s _ _
  · exact NodesOnly.refl s

theorem CmdPick.send_nodesOnly (p : CmdPick) (n : Node) (c : Cmd) : NodesOnly p.state (p.send n c).state :=
  (updNode_nodesOnly p.state n.id _).trans (recordConf_nodesOnly _ _ _)

theorem CmdPick.visit_nodesOnly (ident : Bool) (p : CmdPick) (id : NodeId) : NodesOnly p.state (p.visit ident id).state := by
  unfold CmdPick.visit
  split
  · exact NodesOnly.refl _
  · dsimp only
    split
    · exact NodesOnly.refl _
    · split
      · split
        · exact CmdPick.send_nodesOnly p _ _
        · exact NodesOnly.refl _
      · split
        · exact CmdPick.send_nodesOnly p _ _
        · split
          · exact NodesOnly.refl _
          · split
            · exact NodesOnly.refl _
            · split
              · exact NodesOnly.refl _
              · exact (updNode_nodesOnly p.state id _).trans (CmdPick.send_nodesOnly _ _ _)

theorem pickCommands_nodesOnly (s : State) (port : Nat) : NodesOnly s (s.pickCommands port).state := by
  have hfold (ident : Bool) (l : List NodeId) (p : CmdPick) : NodesOnly p.state (l.foldl (CmdPick.visit ident) p).state := by
    induction l generalizing p with
    | nil => exact NodesOnly.refl _
    | cons id l ih => exact (CmdPick.visit_nodesOnly ident p id).trans (ih _)
  unfold State.pickCommands
  exact (hfold true _ ⟨36, true, [], [], s⟩).trans (hfold false _ _)

theorem relayed_nodesOnly (s : State) (port : Nat) (l : List (List Byte)) :
    NodesOnly s (l.foldl (fun u f => u.recordConf port f) s) := by
  induction l generalizing s with
  | nil => exact NodesOnly.refl s
  | cons f l ih => exact (recordConf_nodesOnly s port f).trans (ih _)

/-- What the tokens of one ring may change: that ring and the nodes. -/
structure TokenWork (port : Nat) (s t : State) : Prop where
  frame : ∃ rings nodes, t = { s with thr := { s.thr with rings := rings, nodes := nodes } }
  others : ∀ p, p ≠ port → t.ring p = s.ring p

theorem TokenWork.of_updRing {port : Nat} {s u : State} (h : NodesOnly s u) {f : Ring → Ring} (hf : ∀ r, (f r).port = r.port) :
    TokenWork port s (u.updRing port f) := by
  obtain ⟨l, rfl⟩ := h
  exact ⟨⟨_, _, rfl⟩, fun p hp => ring_updRing_ne hf _ hp⟩

theorem tokenRing_tokenWork (s : State) (r : Ring) : TokenWork r.port s (s.tokenRing r) := by
  unfold State.tokenRing
  split
  · exact ⟨⟨_, _, rfl⟩, fun _ _ => rfl⟩
  · split
    · exact TokenWork.of_updRing (NodesOnly.refl s) fun _ => rfl
    · split
      · split
        · exact TokenWork.of_updRing (pickCommands_nodesOnly s r.port) fun _ => rfl
        · exact TokenWork.of_updRing (NodesOnly.refl s) fun _ => rfl
      · exact TokenWork.of_updRing (relayed_nodesOnly s r.port r.relay) fun _ => rfl

theorem foldl_tokenRing_frame (l : List Ring) (s : State) :
    ∃ rings nodes, l.foldl State.tokenRing s = { s with thr := { s.thr with rings := rings, nodes := nodes } } := by
  induction l generalizing s with
  | nil => exact ⟨_, _, rfl⟩
  | cons r l ih =>
    obtain ⟨rings, nodes, hr⟩ := (tokenRing_tokenWork s r).frame
    obtain ⟨rings', nodes', hl⟩ := ih (s.tokenRing r)
    exact ⟨rings', nodes', by rw [List.foldl_cons, hl, hr]⟩

theorem foldl_tokenRing_others {p : Nat} {l : List Ring} (hp : p ∉ l.map fun r => r.port) (s : State) :
    (l.foldl State.tokenRing s).ring p = s.ring p := by
  induction l generalizing s with
  | nil => rfl
  | cons r l ih =>
    obtain ⟨hr, hl⟩ := List.ne_and_not_mem_of_not_mem_cons hp
    rw [List.foldl_cons, ih hl, (tokenRing_tokenWork s r).others p hr]

/-- Each ring is worked once, in a state in which it is still as it was and the threads alone have changed. -/
theorem foldl_tokenRing_ring {l : List Ring} (hl : (l.map fun r => r.port).Nodup) {r : Ring} (hr : r ∈ l) (s : State) :
    ∃ thr, let u : State := { s with thr := thr }
      u.ring r.port = s.ring r.port ∧ (l.foldl State.tokenRing s).ring r.port = (u.tokenRing r).ring r.port := by
  induction l generalizing s with
  | nil => cases hr
  | cons q l ih =>
    obtain ⟨hq, hl⟩ := List.nodup_cons.mp hl
    rcases List.mem_cons.mp hr with rfl | hr
    · exact ⟨s.thr, rfl, foldl_tokenRing_others hq _⟩
    · have hne : r.port ≠ q.port := fun h => hq (List.mem_map.mpr ⟨r, hr, h⟩)
      obtain ⟨thr, hring, hfold⟩ := ih hl hr (s.tokenRing q)
      obtain ⟨⟨_, _, hframe⟩, hothers⟩ := tokenRing_tokenWork s q
      rw [hothers _ hne] at hring
      rw [hframe] at hring hfold
      exact ⟨thr, hring, by rw [List.foldl_cons, hframe]; exact hfold⟩

/-- The round's tokens have no place on a ring in a test window, without its domain, or on a device that is cut or unaligned. -/
def State.tokenStopped (s : State) (r : Ring) : Prop :=
  r.inWindow = true ∨ s.threadOn r.port = false ∨ s.own.cut = true ∨ s.own.unaligned = true

/-- What TOKEN_SEND makes of a ring that has not had its tokens, where it sends no command of its own. -/
theorem tokenRing_spec {s : State} {r : Ring} (hr : s.ring r.port = some r) (ho : r.outToken = false) (ht : r.returnToken = false) :
    (s.tokenStopped r → (s.tokenRing r).ring r.port = some { r with sent := [] }) ∧
    (¬ s.tokenStopped r → s.isHead = false → (s.tokenRing r).ring r.port = some { r with sent := r.relay, relay := [], returnToken := true }) ∧
    (¬ s.tokenStopped r → s.isHead = true → s.commandRound (s.ringLen r.port) = false →
      (s.tokenRing r).ring r.port = some { r with sent := [], viaTail := [], outToken := true, returnToken := !s.twoSeats }) := by
  have hstop : s.tokenStopped r ↔ (r.inWindow || !s.threadOn r.port || s.own.cut || s.own.unaligned) = true := by
    simp [State.tokenStopped, or_assoc]
  unfold State.tokenRing
  rw [if_neg (by simp [ho, ht])]
  refine ⟨fun h => ?_, fun h hh => ?_, fun h hh hc => ?_⟩
  · rw [if_pos (hstop.mp h)]
    exact ring_updRing_some hr
  · obtain ⟨l, hl⟩ := relayed_nodesOnly s r.port r.relay
    rw [if_neg (mt hstop.mpr h), if_neg (by simp [hh]), hl]
    exact ring_updRing_some hr
  · rw [if_neg (mt hstop.mpr h), if_pos hh, if_neg (by simp [hc])]
    exact ring_updRing_some hr

theorem tokenRound_eq {s : State} (hr : s.rounds = true) (ha : s.attached = true) (h1 : s.pace.stitch = 1)
    (ht : s.pat.turn ≠ some s.seat) : tokenRound s = s.thr.rings.foldl State.tokenRing s := by
  have hsend : tokenSend s = s.thr.rings.foldl State.tokenRing s := if_pos (by simp [hr, ha, h1])
  obtain ⟨rings, nodes, hframe⟩ := foldl_tokenRing_frame s.thr.rings s
  unfold tokenRound
  rw [hsend]
  exact turnCheck_of_other (by rw [hframe]; exact ht)

end Sys2Proof.Machine
end

section
/-!
SUPPORT. The acceptance of a READ (R118, R119): what each part of it leaves of the node that sent the READ, and what the node is after a copy came.
-/
namespace Sys2Proof.Machine

/-! ### What acceptance leaves of a node (R118, R119) -/

/-- The copy that an end holds, and the one of the other end. -/
def Node.copy (n : Node) : RingEnd → Option (List Byte)
  | .a => n.copyA
  | .b => n.copyB

theorem copy_eq_ite (n : Node) (e : RingEnd) : (if e = .a then n.copyA else n.copyB) = n.copy e := by cases e <;> rfl

/-- What the rules of R119 decide of a node: its copies, whether it is heard, its missed rounds and its epoch. -/
def Node.accepted (n : Node) : Option (List Byte) × Option (List Byte) × Bool × Nat × Option Nat :=
  (n.copyA, n.copyB, n.heard, n.missed, n.epoch)

/-- A change of threads and faults that leaves what is accepted of a node as it is. -/
structure ReadKeeps (id : NodeId) (s t : State) : Prop where
  frame : t = { s with thr := t.thr, flt := t.flt }
  node : (t.node id).map Node.accepted = (s.node id).map Node.accepted

namespace ReadKeeps
variable {id : NodeId} {s t u : State}

theorem refl : ReadKeeps id s s := ⟨rfl, rfl⟩

theorem trans (h : ReadKeeps id s t) (k : ReadKeeps id t u) : ReadKeeps id s u := ⟨by rw [k.frame, h.frame], k.node.trans h.node⟩

theorem ite {c : Prop} [Decidable c] (ht : ReadKeeps id s t) (hu : ReadKeeps id s u) : ReadKeeps id s (if c then t else u) := by
  split
  · exact ht
  · exact hu

end ReadKeeps

theorem updNode_readKeeps (s : State) (id : NodeId) (f : Node → Node) (hid : ∀ n, (f n).id = n.id := by intro; rfl)
    (hf : ∀ n, (f n).accepted = n.accepted := by intro; rfl) : ReadKeeps id s (s.updNode id f) := by
  refine ⟨rfl, ?_⟩
  rw [node_updNode hid, Option.map_map]
  exact Option.map_congr fun n _ => hf n

theorem updRing_readKeeps (id : NodeId) (s : State) (port : Nat) (f : Ring → Ring) : ReadKeeps id s (s.updRing port f) := ⟨rfl, rfl⟩

theorem readKeeps_of_flt (id : NodeId) {s t : State} (h : t = { s with flt := t.flt }) : ReadKeeps id s t :=
  ⟨by rw [h], by rw [h]; rfl⟩

theorem raise_readKeeps (id : NodeId) (s : State) (c d : Nat) : ReadKeeps id s (s.raise c d) := readKeeps_of_flt id (raise_flt s c d)

theorem clear_readKeeps (id : NodeId) (s : State) (c d : Nat) : ReadKeeps id s (s.clear c d) := readKeeps_of_flt id (clear_flt s c d)

theorem violate_readKeeps (s : State) (id : NodeId) (code : Nat) : ReadKeeps id s (s.violate id code) := by
  unfold State.violate
  split
  · exact ReadKeeps.refl
  · have h1 := (updNode_readKeeps s id fun n => { n with violations := n.violations + 1 }).trans
      (updRing_readKeeps id _ (nodePort id) fun r => { r with naks := r.naks ++ [(nodePos id, code)] })
    exact ReadKeeps.ite ((h1.trans (updNode_readKeeps _ id _)).trans (raise_readKeeps id _ _ _)) h1

theorem setCmd_id (n : Node) (c : Cmd) (d : Option Cmd) : (n.setCmd c d).id = n.id := by
  unfold Node.setCmd
  split
  · rfl
  · split <;> rfl

theorem setCmd_accepted (n : Node) (c : Cmd) (d : Option Cmd) : (n.setCmd c d).accepted = n.accepted := by
  unfold Node.setCmd
  split
  · rfl
  · split <;> rfl

theorem setCmd_readKeeps (s : State) (id : NodeId) (c : Cmd) (d : Option Cmd) : ReadKeeps id s (s.updNode id fun n => n.setCmd c d) :=
  updNode_readKeeps s id _ (fun n => setCmd_id n c d) (fun n => setCmd_accepted n c d)

theorem dropCmd_readKeeps (s : State) (n : Node) (c : Cmd) : ReadKeeps n.id s (s.dropCmd n c) :=
  have h := setCmd_readKeeps s n.id c none
  ReadKeeps.ite (h.trans (clear_readKeeps n.id _ _ _)) h

theorem respCheck_readKeeps (s : State) (id : NodeId) (seq code : Nat) : ReadKeeps id s (s.respCheck id seq code) := by
  unfold State.respCheck
  split
  · exact ReadKeeps.refl
  · exact ReadKeeps.ite (violate_readKeeps s id _) ReadKeeps.refl

theorem markConf_readKeeps (s : State) (id : NodeId) (seq code : Nat) : ReadKeeps id s (s.updNode id fun n => n.markConf seq code) := by
  have hmark (n : Node) : (n.markConf seq code).id = n.id ∧ (n.markConf seq code).accepted = n.accepted := by
    unfold Node.markConf
    split
    · split <;> exact ⟨rfl, rfl⟩
    · exact ⟨rfl, rfl⟩
  exact updNode_readKeeps s id _ (fun n => (hmark n).1) (fun n => (hmark n).2)

theorem ackCheck_readKeeps (s : State) (id : NodeId) (seq code epoch : Nat) : ReadKeeps id s (s.ackCheck id seq code epoch) := by
  unfold State.ackCheck
  split
  · exact ReadKeeps.refl
  · next n hn =>
    have hid := node_id hn
    subst hid
    refine ReadKeeps.ite ReadKeeps.refl ?_
    split
    · exact ReadKeeps.ite ((updNode_readKeeps s n.id _).trans (violate_readKeeps _ n.id _)) ReadKeeps.refl
    · next c _ =>
      refine ReadKeeps.ite ?_ (ReadKeeps.ite ?_ (ReadKeeps.ite ?_ ?_))
      · refine ReadKeeps.trans ?_ (dropCmd_readKeeps _ n c)
        split
        · exact updNode_readKeeps s n.id _
        · exact ReadKeeps.refl
      · exact setCmd_readKeeps s n.id c _
      · have h9 : ReadKeeps n.id s (if (code == 9) = true then s.updNode n.id fun n => { n with confDue := confItems, balDue := true } else s) :=
          ReadKeeps.ite (updNode_readKeeps s n.id _) ReadKeeps.refl
        exact ReadKeeps.ite (h9.trans (setCmd_readKeeps _ n.id c _)) h9
      · have hdrop := dropCmd_readKeeps s n c
        exact ReadKeeps.ite (hdrop.trans (violate_readKeeps _ n.id _)) hdrop

theorem reported_readKeeps (s : State) (id : NodeId) (seq code : Nat) : ReadKeeps id s (s.reported id seq code) :=
  have h := updNode_readKeeps s id _
  ReadKeeps.ite (h.trans (updRing_readKeeps id _ (nodePort id) _)) h

theorem updNode_unless_readKeeps (s : State) (id : NodeId) (skip : Node → Bool) (f : Node → Node) (hid : ∀ n, (f n).id = n.id := by intro; rfl)
    (hf : ∀ n, (f n).accepted = n.accepted := by intro; rfl) : ReadKeeps id s (s.updNode id fun n => if skip n then n else f n) := by
  refine updNode_readKeeps s id _ (fun n => ?_) (fun n => ?_)
  · split
    · rfl
    · exact hid n
  · split
    · rfl
    · exact hf n

theorem takeSamples_readKeeps (s : State) (id : NodeId) (l : List Byte) : ReadKeeps id s (s.takeSamples id l) := by
  unfold State.takeSamples
  refine ReadKeeps.ite ?_ (ReadKeeps.trans ?_ (violate_readKeeps _ id _)) <;> exact updNode_unless_readKeeps s id Node.quarantined _

/-! ### A READ that stands (R119, R138) -/

/-- A change of threads and faults after which what is accepted of the node is as in `m`. -/
structure ReadLeaves (id : NodeId) (m : Node) (s t : State) : Prop where
  frame : t = { s with thr := t.thr, flt := t.flt }
  node : (t.node id).map Node.accepted = some m.accepted

theorem ReadLeaves.trans {id : NodeId} {m : Node} {s t u : State} (h : ReadLeaves id m s t) (k : ReadKeeps id t u) : ReadLeaves id m s u :=
  ⟨by rw [k.frame, h.frame], k.node.trans h.node⟩

theorem ReadLeaves.after {id : NodeId} {m : Node} {s t u : State} (h : t = { s with thr := t.thr, flt := t.flt }) (k : ReadLeaves id m t u) :
    ReadLeaves id m s u := ⟨by rw [k.frame, h], k.node⟩

theorem updNode_readLeaves {s : State} {id : NodeId} {n m : Node} (hn : s.node id = some n) (f : Node → Node)
    (hid : ∀ n, (f n).id = n.id := by intro; rfl) (hm : (f n).accepted = m.accepted := by rfl) : ReadLeaves id m s (s.updNode id f) :=
  ⟨rfl, by rw [node_updNode hid, hn]; exact congrArg some hm⟩

theorem epochCheck_readLeaves {s : State} {id : NodeId} {n : Node} (hn : s.node id = some n) (e : Nat) :
    ReadLeaves id { n with epoch := some e } s (s.epochCheck id e) := by
  unfold State.epochCheck
  rw [hn]
  dsimp only
  split
  · exact updNode_readLeaves hn _
  · split
    · exact updNode_readLeaves hn _
    · split
      · exact ReadLeaves.trans (updNode_readLeaves hn _) (violate_readKeeps _ id _)
      · exact updNode_readLeaves hn _

/-- A READ that stands makes its node heard, ends its absence and brings its epoch. -/
theorem settleRead_readLeaves {s : State} {id : NodeId} {n : Node} (hn : s.node id = some n) (l : List Byte) :
    ReadLeaves id { n with heard := true, missed := 0, epoch := some (byteAt l 2 / 16) } s (s.settleRead id l) := by
  obtain ⟨hframe, hnode⟩ := epochCheck_readLeaves hn (byteAt l 2 / 16)
  obtain ⟨m, hm, hacc⟩ := Option.map_eq_some_iff.mp hnode
  unfold State.settleRead
  rw [hn]
  dsimp -zeta only
  extract_lets back s1 s2 s3 s4 s5 s6 s7
  have h2 : ReadLeaves id { n with heard := true, missed := 0, epoch := some (byteAt l 2 / 16) } s s2 := by
    simp only [Node.accepted, Prod.mk.injEq] at hacc
    obtain ⟨hA, hB, -, -, hE⟩ := hacc
    exact ReadLeaves.after hframe (updNode_readLeaves (s := s1) hm _ (hm := by simp only [Node.accepted, hA, hB, hE]))
  have h4 : ReadKeeps id s2 s4 := (((clear_readKeeps id s2 _ _).trans (respCheck_readKeeps s3 id _ _)).trans (markConf_readKeeps _ id _ _)).trans
    (ackCheck_readKeeps _ id _ _ _)
  have h7 : ReadKeeps id s4 s7 := ((reported_readKeeps s4 id _ _).trans (takeSamples_readKeeps s5 id l)).trans (updNode_readKeeps s6 id _)
  refine h2.trans ((h4.trans h7).trans ?_)
  split
  · exact ReadKeeps.ite (clear_readKeeps id s7 _ _) ReadKeeps.refl
  · exact ReadKeeps.refl

/-! ### The two copies of a READ (R119) -/

/-- The copy of the end that did not receive this READ. -/
def Node.otherCopy (n : Node) (e : RingEnd) : Option (List Byte) := if e == RingEnd.a then n.copyB else n.copyA

/-- The node with a copy of its READ kept for an end. -/
def Node.keepCopy (n : Node) (e : RingEnd) (l : List Byte) : Node :=
  if e == RingEnd.a then { n with copyA := some l } else { n with copyB := some l }

theorem keepCopy_copy (n : Node) (e : RingEnd) (l : List Byte) : (n.keepCopy e l).copy e = some l := by cases e <;> rfl

theorem keepCopy_id (n : Node) (e : RingEnd) (l : List Byte) : (n.keepCopy e l).id = n.id := by cases e <;> rfl

theorem keepCopy_heard (n : Node) (e : RingEnd) (l : List Byte) : (n.keepCopy e l).heard = n.heard := by cases e <;> rfl

theorem keepCopy_epoch (n : Node) (e : RingEnd) (l : List Byte) : (n.keepCopy e l).epoch = n.epoch := by cases e <;> rfl

theorem keepCopy_violations (n : Node) (e : RingEnd) (l : List Byte) : (n.keepCopy e l).violations = n.violations := by cases e <;> rfl

/-- What a node is after the copy of an end came, by what the other end holds. -/
structure ReadTaken (e : RingEnd) (l : List Byte) (n m : Node) : Prop where
  copy : m.copy e = some l
  first : n.otherCopy e = none → m.heard = n.heard ∧ m.epoch = n.epoch
  equal : ∀ o, n.otherCopy e = some o → readBody o = readBody l → n.heard = false → n.differed = false →
    m.heard = true ∧ m.missed = 0 ∧ m.epoch = some (byteAt l 2 / 16)
  differ : ∀ o, n.otherCopy e = some o → readBody o ≠ readBody l → m.heard = false ∧ m.differed = true ∧ m.violations = n.violations + 1

theorem violate_node {s : State} {id : NodeId} {n : Node} (hn : s.node id = some n) (code : Nat) :
    ∃ quarNext, (s.violate id code).node id = some { n with violations := n.violations + 1, quarNext := quarNext } := by
  let s1 := (s.updNode id fun n => { n with violations := n.violations + 1 }).updRing (nodePort id)
      fun r => { r with naks := r.naks ++ [(nodePos id, code)] }
  have h1 : s1.node id = some { n with violations := n.violations + 1 } := node_updNode_some hn
  have hraise (u : State) (c d : Nat) : (u.raise c d).node id = u.node id := by rw [raise_flt]; rfl
  unfold State.violate
  rw [hn]
  dsimp only
  split
  · exact ⟨true, (hraise _ _ _).trans (node_updNode_some h1)⟩
  · exact ⟨n.quarNext, h1⟩

section
variable {s : State} {id : NodeId} {n : Node} (hn : s.node id = some n) {e : RingEnd} (l : List Byte)
include hn

theorem acceptRead_of_first (ho : n.otherCopy e = none) : s.acceptRead id e l = s.updNode id fun n => n.keepCopy e l := by
  replace ho : (if e == RingEnd.a then n.copyB else n.copyA) = none := ho
  unfold State.acceptRead
  rw [hn]
  dsimp only
  rw [ho]
  rfl

variable {o : List Byte} (ho : n.otherCopy e = some o)
include ho

theorem acceptRead_of_equal (hb : readBody o = readBody l) :
    s.acceptRead id e l =
      if n.heard || n.differed then s.updNode id fun n => n.keepCopy e l else (s.updNode id fun n => n.keepCopy e l).settleRead id l := by
  replace ho : (if e == RingEnd.a then n.copyB else n.copyA) = some o := ho
  unfold State.acceptRead
  rw [hn]
  dsimp only
  rw [ho]
  exact if_pos (by simpa using hb)

theorem acceptRead_of_differing (hb : readBody o ≠ readBody l) :
    ∃ f : Node → Node, s.acceptRead id e l = ((s.updNode id fun n => n.keepCopy e l).updNode id f).violate id 0x2B ∧
      ∀ m, ∃ r lim, f m = { m with differed := true, heard := false, sampleRound := r, limit := lim } := by
  replace ho : (if e == RingEnd.a then n.copyB else n.copyA) = some o := ho
  unfold State.acceptRead
  rw [hn]
  dsimp only
  rw [ho]
  exact ⟨_, if_neg (by simpa using hb), fun _ => ⟨_, _, rfl⟩⟩

end

/-- The first copy is kept, a second one equal to it lets the READ stand, and one that differs discards both. -/
theorem acceptRead_taken {s : State} {id : NodeId} {n : Node} (hn : s.node id = some n) (e : RingEnd) (l : List Byte) :
    let t := s.acceptRead id e l
    t = { s with thr := t.thr, flt := t.flt } ∧ ∃ m, t.node id = some m ∧ ReadTaken e l n m := by
  let s1 := s.updNode id fun n => n.keepCopy e l
  have h1 : s1.node id = some (n.keepCopy e l) := node_updNode_some hn fun n => keepCopy_id n e l
  cases ho : n.otherCopy e with
  | none =>
    rw [acceptRead_of_first hn l ho]
    exact ⟨rfl, _, h1, keepCopy_copy n e l, fun _ => ⟨keepCopy_heard n e l, keepCopy_epoch n e l⟩,
      fun o h => (by cases ho.symm.trans h), fun o h => (by cases ho.symm.trans h)⟩
  | some o =>
    have hnone : n.otherCopy e ≠ none := by simp [ho]
    have hsome {o' : List Byte} (h : n.otherCopy e = some o') : o' = o := Option.some.inj (h.symm.trans ho)
    by_cases hb : readBody o = readBody l
    · have hdiffer (o' : List Byte) (h : n.otherCopy e = some o') : ¬ readBody o' ≠ readBody l := by rw [hsome h]; exact not_not_intro hb
      rw [acceptRead_of_equal hn l ho hb]
      by_cases hused : (n.heard || n.differed) = true
      · rw [if_pos hused]
        exact ⟨rfl, _, h1, keepCopy_copy n e l, fun h => absurd h hnone, fun _ _ _ hh hd => (by simp [hh, hd] at hused),
          fun o' h hne => absurd hne (hdiffer o' h)⟩
      · rw [if_neg hused]
        obtain ⟨hframe, hnode⟩ := settleRead_readLeaves h1 l
        obtain ⟨m, hm, hacc⟩ := Option.map_eq_some_iff.mp hnode
        simp only [Node.accepted, Prod.mk.injEq] at hacc
        obtain ⟨hA, hB, hheard, hmissed, hepoch⟩ := hacc
        have hcopy : m.copy e = (n.keepCopy e l).copy e := by cases e <;> assumption
        exact ⟨hframe, m, hm, hcopy.trans (keepCopy_copy n e l), fun h => absurd h hnone, fun _ _ _ _ _ => ⟨hheard, hmissed, hepoch⟩,
          fun o' h hne => absurd hne (hdiffer o' h)⟩
    · obtain ⟨f, haccept, hf⟩ := acceptRead_of_differing hn l ho hb
      have hfid (m : Node) : (f m).id = m.id := by
        obtain ⟨r, lim, h⟩ := hf m
        rw [h]
      obtain ⟨r, lim, hfn⟩ := hf (n.keepCopy e l)
      have h2 := node_updNode_some h1 hfid
      obtain ⟨q, hviolate⟩ := violate_node h2 0x2B
      rw [haccept]
      refine ⟨(violate_readKeeps _ id 0x2B).frame, _, hviolate, ?_⟩
      rw [hfn]
      exact ⟨(by rw [← keepCopy_copy n e l]; cases e <;> rfl), fun h => absurd h hnone, fun o' h hb' => absurd (hsome h ▸ hb') hb,
        fun _ _ _ => ⟨rfl, rfl, congrArg (· + 1) (keepCopy_violations n e l)⟩⟩

end Sys2Proof.Machine
end

section
/-!
SUPPORT. READ_RECEIVED as a whole (R118, R134, R382), and statement O24 from it and from the tokens.
-/
namespace Sys2Proof.Machine

/-! ### READ_RECEIVED (R118, R134) -/

theorem byteAt_take {l : List Byte} {i k : Nat} (h : i < k) : byteAt (l.take k) i = byteAt l i := by simp [byteAt, h]

theorem rxBytes_length {x : ThreadRx} {n : Nat} (h : rxValid x n = true) : (rxBytes x).length = n := by
  simp only [rxValid, frameValid, Bool.and_eq_true, beq_iff_eq] at h
  exact h.1.2

/-- A READ frame of a position that its ring has and that reaches this end. -/
def State.soundRead (s : State) (x : ThreadRx) (port : Nat) (e : RingEnd) : Prop :=
  rxValid x 43 = true ∧ byteAt (rxBytes x) 0 / 64 = 0 ∧ byteAt (rxBytes x) 0 % 32 < s.ringLen port ∧
    s.blocked port (byteAt (rxBytes x) 0 % 32) e = false

/-- What a READ that comes alone does: one that fails its CRC counts at the port, one outside stitches 1 to 40 is late, and one in time, in
order and of the present round is accepted. -/
theorem readReceived_spec {x : ReadRx} {s : State} {port : Nat} {e : RingEnd} (hp : s.portEnd x.rx.port = some (port, e))
    (hr : s.rounds = true) (hd : s.threadOn x.rx.port = true) (hs : x.skippedAt = none) (ha : x.abortedAt = none) (hc : x.commands = []) :
    let l := rxBytes x.rx
    (rxValid x.rx l.length = false → countsAsError sofN x.rx (crcRight l) = true → readReceived x s = s.portError x.rx.port) ∧
    (s.soundRead x.rx port e → s.pace.stitch = 0 ∨ 40 < s.pace.stitch → readReceived x s =
      (s.updPort x.rx.port fun p => { p with lateRound := some s.pace.round }).raise 0x307 (portDetail x.rx.port)) ∧
    (∀ r, s.soundRead x.rx port e → s.ring port = some r → 0 < s.pace.stitch → s.pace.stitch ≤ 40 →
      inOrder e (if e = .a then r.lastAtA else r.lastAtB) (byteAt l 0 % 32) = true → byteAt l 1 = s.pace.round % 256 →
      ∃ f, readReceived x s =
        ((s.updRing port f).acceptRead (nodeId port (byteAt l 0 % 32)) e (l.take 40)).markEnd port (byteAt l 0)) := by
  intro l
  have hquiet : s.flowMarks port x = s := by simp [State.flowMarks, hs, ha]
  unfold readReceived
  rw [hp]
  dsimp only
  rw [if_neg (by simp [hr, hd]), hc, hquiet, List.foldl_nil]
  refine ⟨fun hv he => ?_, fun ⟨hv, h0, hpos, hb⟩ ht => ?_, fun r ⟨hv, h0, hpos, hb⟩ hring hlo hhi ho htag => ?_⟩
  · rw [if_pos (by simpa using hv), if_pos he]
  · have hlen := rxBytes_length hv
    rw [if_neg (by simp [hlen, hv]), if_neg (by simp [hlen, h0]), if_neg (by simp [hb]; omega), if_pos (by simpa using ht)]
  · have hlen := rxBytes_length hv
    have hlast : ((s.ring port).bind fun r => if e == RingEnd.a then r.lastAtA else r.lastAtB) = if e = .a then r.lastAtA else r.lastAtB := by
      rw [hring]
      cases e <;> rfl
    rw [if_neg (by simp [hlen, hv]), if_neg (by simp [hlen, h0]), if_neg (by simp [hb]; omega), if_neg (by simp; omega), hlast,
      if_neg (by simpa using ho)]
    exact ⟨_, if_pos htag⟩

theorem portError_spec (s : State) (port : Nat) :
    let t := s.portError port
    t = { s with thr := { s.thr with ports := updWhere (fun p => p.port == port) (fun p => { p with crc := p.crc + 1 }) s.thr.ports }
                 flt := t.flt } ∧ SameFaults [0x309] s t := by
  have hcount : SameFaults [0x309] s (s.updPort port fun p => { p with crc := p.crc + 1 }) := SameFaults.of_stands fun _ _ => rfl
  unfold State.portError
  dsimp only
  split
  · split
    · exact ⟨by rw [raise_flt]; rfl, hcount.trans (raise_sameFaults (by decide) _ _)⟩
    · exact ⟨rfl, hcount⟩
  · exact ⟨rfl, hcount⟩

/-! ### The relay of a READ (R382) -/

/-- What the seat sends and knows of the others alone changes. -/
def OwnOnly (s t : State) : Prop := ∃ o, t = { s with own := o }

theorem OwnOnly.refl (s : State) : OwnOnly s s := ⟨s.own, rfl⟩

theorem OwnOnly.trans {s t u : State} (h : OwnOnly s t) (k : OwnOnly t u) : OwnOnly s u := by
  obtain ⟨o, rfl⟩ := h
  obtain ⟨o', rfl⟩ := k
  exact ⟨o', rfl⟩

theorem peerSend_ownOnly (s : State) (type : Nat) (payload : List Byte) : OwnOnly s (s.peerSend type payload) := by
  unfold State.peerSend
  split
  · exact OwnOnly.refl s
  · exact ⟨_, rfl⟩

theorem sendItems_ownOnly (s : State) (items : List (List Byte)) : OwnOnly s (s.sendItems items) := by
  have hfold (l : List (List Byte)) (a : State × List Byte) : OwnOnly a.1 (l.foldl (fun (a : State × List Byte) i =>
      if a.2.isEmpty then (a.1, i)
      else if 1024 < a.2.length + i.length then (a.1.peerSend 4 a.2, i) else (a.1, a.2 ++ i)) a).1 := by
    induction l generalizing a with
    | nil => exact OwnOnly.refl _
    | cons i l ih =>
      rw [List.foldl_cons]
      refine OwnOnly.trans ?_ (ih _)
      split
      · exact OwnOnly.refl _
      · split
        · exact peerSend_ownOnly _ _ _
        · exact OwnOnly.refl _
  have h := hfold items (s, [])
  unfold State.sendItems
  dsimp only
  split
  · exact h
  · exact h.trans (peerSend_ownOnly _ _ _)

theorem relayRead_ownOnly (s : State) (x : ThreadRx) : OwnOnly s (s.relayRead x) := by
  unfold State.relayRead
  dsimp only
  split
  · exact sendItems_ownOnly s _
  · exact OwnOnly.refl s

/-! ### A READ as a whole (R118, R382) -/

/-- After a READ is judged, it may be passed on; nothing else follows while no turn of this seat runs. -/
theorem readFrame_ownOnly {x : ReadRx} {s : State} (ht : (readReceived x s).pat.turn ≠ some (readReceived x s).seat) :
    OwnOnly (readReceived x s) (readFrame x s) := by
  unfold readFrame
  extract_lets s1 taken
  have hrelay : OwnOnly s1 (if taken then s1.relayRead x.rx else s1) := by
    split
    · exact relayRead_ownOnly s1 x.rx
    · exact OwnOnly.refl s1
  obtain ⟨o, ho⟩ := hrelay
  rw [ho]
  exact ⟨o, turnCheck_of_other ht⟩

theorem turn_ne_of_frame {s t : State} (h : s.pat.turn ≠ some s.seat) (hpat : t.pat = s.pat) (hstrap : t.strap = s.strap) :
    t.pat.turn ≠ some t.seat := by
  unfold State.seat
  rw [hpat, hstrap]
  exact h

theorem markEnd_eq (s : State) (port b : Nat) : s.markEnd port b = { s with thr := (s.markEnd port b).thr } := rfl

section
variable {x : ReadRx} {s : State} {port : Nat} {e : RingEnd} (hp : s.portEnd x.rx.port = some (port, e)) (ht : s.pat.turn ≠ some s.seat)
include hp ht

/-- A frame that leaves the nodes alone is not passed on. -/
theorem readFrame_of_untaken {u : State} (hu : readReceived x s = u) (hnodes : u.thr.nodes = s.thr.nodes) (hpat : u.pat = s.pat)
    (hstrap : u.strap = s.strap) : readFrame x s = u := by
  have hcopy (id : NodeId) : u.copyAt id e = s.copyAt id e := by
    unfold State.copyAt State.node
    rw [hnodes]
  unfold readFrame
  rw [hp, hu]
  dsimp only
  rw [hcopy, if_neg (by cases s.copyAt _ e <;> simp), turnCheck_of_other (turn_ne_of_frame ht hpat hstrap)]

/-- A READ in time is kept as the copy of its end, and what R119 says follows. -/
theorem readFrame_of_timely (hr : s.rounds = true) (hd : s.threadOn x.rx.port = true) (hs : x.skippedAt = none) (ha : x.abortedAt = none)
    (hc : x.commands = []) {n : Node} {r : Ring} (hsound : s.soundRead x.rx port e)
    (hn : s.node (nodeId port (byteAt (rxBytes x.rx) 0 % 32)) = some n) (hring : s.ring port = some r) (hlo : 0 < s.pace.stitch)
    (hhi : s.pace.stitch ≤ 40) (ho : inOrder e (if e = .a then r.lastAtA else r.lastAtB) (byteAt (rxBytes x.rx) 0 % 32) = true)
    (htag : byteAt (rxBytes x.rx) 1 = s.pace.round % 256) :
    let t := readFrame x s
    t = { s with thr := t.thr, own := t.own, flt := t.flt } ∧
      ∃ m, t.node (nodeId port (byteAt (rxBytes x.rx) 0 % 32)) = some m ∧ ReadTaken e ((rxBytes x.rx).take 40) n m := by
  let id := nodeId port (byteAt (rxBytes x.rx) 0 % 32)
  obtain ⟨-, -, htimely⟩ := readReceived_spec hp hr hd hs ha hc
  obtain ⟨f, hread⟩ := htimely r hsound hring hlo hhi ho htag
  obtain ⟨hframe, m, hm, htaken⟩ := acceptRead_taken (s := s.updRing port f) hn e ((rxBytes x.rx).take 40)
  have hread' : readReceived x s = { s with thr := (readReceived x s).thr, flt := (readReceived x s).flt } := by
    rw [hread, markEnd_eq, hframe]
    rfl
  obtain ⟨o, hown⟩ := readFrame_ownOnly (turn_ne_of_frame (t := readReceived x s) ht (by rw [hread']) (by rw [hread']))
  refine ⟨?_, m, ?_, htaken⟩
  · rw [hown, hread']
  · rw [hown, hread]
    exact hm

end

/-- Settles O24: the tokens by the fold over the rings, a READ by what readReceived makes of it. That a READ in stitch 0 is late is log entry
137, and when the copies are settled is log entry 162. -/
theorem tokensAndReads : Obligations.TokensAndReads := by
  refine ⟨fun s hr ha h1 ht hports => ⟨_, rfl, ?_⟩, fun s x port e hp hr hd hs hab hc ht => ?_⟩
  · obtain ⟨rings, nodes, hframe⟩ := foldl_tokenRing_frame s.thr.rings s
    have hround := tokenRound_eq hr ha h1 ht
    refine ⟨fun _ => ?_, ?_, tokenRound_fixed s, ?_, fun r hmem ho hret => ?_⟩
    · rw [hround, hframe]
    · rw [hround, hframe]
    · rw [hround, hframe]
    · obtain ⟨thr, hring, hfold⟩ := foldl_tokenRing_ring hports hmem s
      have hfind : s.ring r.port = some r := find?_key_of_nodup hports hmem
      rw [hround, hfold]
      exact tokenRing_spec (s := { s with thr := thr }) (hring.trans hfind) ho hret
  · obtain ⟨hbad, hlate, -⟩ := readReceived_spec hp hr hd hs hab hc
    intro l pos id sound
    refine ⟨fun n r hsound hn hring hnone hlo hhi ho htag => ?_, fun hsound hst => ⟨_, rfl, ?_⟩, fun hv he => ⟨_, rfl, ?_⟩⟩
    · obtain ⟨hframe, m, hm, htaken⟩ := readFrame_of_timely hp ht hr hd hs hab hc hsound hn hring hlo hhi ho htag
      have hother : (if e = .a then n.copyB else n.copyA) = n.otherCopy e := by cases e <;> rfl
      intro other
      refine ⟨_, rfl, ?_, fun h => ?_, fun o h hb hh hdf => ?_, fun o h hb => ?_, readFrame_fixed x s, ?_, ?_⟩
      · rw [hm, ← htaken.copy]
        exact congrArg some (copy_eq_ite m e)
      · obtain ⟨hheard, hepoch⟩ := htaken.first (hother ▸ h)
        rw [hm, ← hheard, ← hepoch]
        rfl
      · obtain ⟨hheard, hmissed, hepoch⟩ := htaken.equal o (hother ▸ h) hb hh hdf
        rw [hm, Option.map_some, hheard, hmissed, hepoch, byteAt_take (by decide)]
      · obtain ⟨hheard, hdiffered, hviolations⟩ := htaken.differ o (hother ▸ h) hb
        rw [hm, Option.map_some, hheard, hdiffered, hviolations]
      · rw [hframe]
      · rw [hframe]
    · have hread := hlate hsound hst
      rw [readFrame_of_untaken hp ht hread (by rw [raise_flt]; rfl) (by rw [raise_flt]; rfl) (by rw [raise_flt]; rfl)]
      exact ⟨raise_stands _ _ _, (SameFaults.of_stands fun _ _ => rfl).trans (raise_sameFaults (by decide) _ _), by rw [raise_flt]; rfl⟩
    · obtain ⟨hframe, hfaults⟩ := portError_spec s x.rx.port
      rw [readFrame_of_untaken hp ht (hbad hv he) (by rw [hframe]) (by rw [hframe]) (by rw [hframe])]
      exact ⟨hframe, hfaults⟩

end Sys2Proof.Machine
end

section
/-!
SUPPORT. Rails, the PMIC handshake and the state after reset (chapter 03): what each operation leaves of the supply, and statements O4 and O9
from it.
-/
namespace Sys2Proof.Machine

/-! ### Reset (R60, R67) -/

/-- Settles O4: the reset values, read off; the part is in FACTORY, so that the rule of keys in RETURN says nothing of it. -/
theorem resetHasNoPower : Obligations.ResetHasNoPower :=
  ⟨rfl, rfl, rfl, rfl, rfl, rfl, rfl, fun _ => rfl, rfl, rfl, rfl, rfl, fun h => nomatch h⟩

/-! ### The PG lines -/

section
variable (x : Supply) (l : PgLine) (good : Bool)

/-- A PG line changes nothing of the supply but its own level. -/
theorem setPg_frame :
    x.setPg l good =
      { x with pg0 := (x.setPg l good).pg0, pg1 := (x.setPg l good).pg1, pg2 := (x.setPg l good).pg2, pg3 := (x.setPg l good).pg3 } := by
  cases l <;> rfl

@[simp] theorem setPg_dev : (x.setPg l good).dev = x.dev := by rw [setPg_frame]
@[simp] theorem setPg_bootStep : (x.setPg l good).bootStep = x.bootStep := by rw [setPg_frame]
@[simp] theorem setPg_pmicEn : (x.setPg l good).pmicEn = x.pmicEn := by rw [setPg_frame]
@[simp] theorem setPg_handshake : (x.setPg l good).handshake = x.handshake := by rw [setPg_frame]
@[simp] theorem setPg_resume : (x.setPg l good).resume = x.resume := by rw [setPg_frame]

end

/-! ### The handshake (R58, R59) -/

theorem setPins_sameFaults (l : List Nat) (s : State) (safe : Bool) (level : BitVec 3) : SameFaults l s (s.setPins safe level) :=
  SameFaults.of_stands fun _ _ => setPins_stands s safe level _ _

/-- What a handshake that ends does to fault 0x110: it clears, and the pins are those of BOOT. -/
theorem handshakeEnd_spec (s : State) :
    let t := if s.flt.stands 0x110 0 then (s.clear 0x110 0).setPins false 0 else s
    t = { s with flt := t.flt } ∧ SameFaults [0x110] s t ∧ (s.allListed → t.flt.stands 0x110 0 = false) ∧
    (s.flt.stands 0x110 0 = true → t.flt.pin = 0 ∧ t.flt.safeN = false) := by
  intro t
  by_cases hstands : s.flt.stands 0x110 0 = true
  · have ht : t = (s.clear 0x110 0).setPins false 0 := if_pos hstands
    rw [ht]
    refine ⟨?_, (clear_sameFaults (by decide) s 0).trans (setPins_sameFaults _ _ _ _), fun hl => ?_, fun _ => ⟨rfl, rfl⟩⟩
    · rw [setPins_flt, clear_flt]
    · rw [setPins_stands]; exact clear_stands s 0x110 0 hl (by decide)
  · have ht : t = s := if_neg hstands
    rw [ht]
    exact ⟨rfl, SameFaults.refl _ s, fun _ => by simpa using hstands, fun h => absurd h hstands⟩

theorem pgGood_of_last {s : State} {l : PgLine} (hp : s.sup.pmicEn = true) (hd : s.sup.dev = .boot) (hb : s.sup.bootStep = .codesRead)
    (hh : s.sup.handshake = false) (hall : (s.sup.setPg l true).allPg = true) :
    pgGood l s =
      let s2 : State := { s with sup := { s.sup.setPg l true with handshake := true, bootStep := .pmicUp } }
      if s2.flt.stands 0x110 0 then (s2.clear 0x110 0).setPins false 0 else s2 := by
  simp [pgGood, State.awaitsRails, hp, hd, hb, hh, hall]

theorem pgGood_of_not_last {s : State} {l : PgLine} (hp : s.sup.pmicEn = true)
    (h : ¬ (s.sup.dev = .boot ∧ s.sup.bootStep = .codesRead ∧ s.sup.handshake = false ∧ (s.sup.setPg l true).allPg = true)) :
    pgGood l s = { s with sup := s.sup.setPg l true } := by
  have hlast : (({ s with sup := s.sup.setPg l true } : State).awaitsRails && (s.sup.setPg l true).allPg) = false := by
    rw [← Bool.not_eq_true]
    simpa [State.awaitsRails, hp, and_assoc] using h
  simp [pgGood, hp, hlast]

/-- A failed attempt counts, takes the rails and what LPDDR5 holds, and from the third on raises fault 0x110. -/
theorem failAttempt_spec (s : State) :
    let t := s.failAttempt
    t = { s with
      sup := { s.sup.railsOff with attempts := s.sup.attempts + 1, bootStep := .codesRead }
      out := Output.cold, lrn := t.lrn, pace := { s.pace with running := false }, flt := t.flt } ∧
    t.lrn.ddr = false ∧ t.lrn.staging = none ∧ SameFaults [0x110] s t ∧
    (s.sup.attempts + 1 < 3 → t.flt = s.flt) ∧
    (3 ≤ s.sup.attempts + 1 → t.flt.stands 0x110 0 = true ∧ t.flt.pin = 7 ∧ t.flt.safeN = false) := by
  intro t
  let s1 : State := { s.dropRails with
    sup := { s.dropRails.sup with attempts := s.sup.attempts + 1, bootStep := .codesRead }
    pace := { s.dropRails.pace with running := false } }
  have hsame : SameFaults [0x110] s s1 := SameFaults.of_stands fun _ _ => rfl
  by_cases h3 : 3 ≤ s.sup.attempts + 1
  · have ht : t = (s1.raise 0x110 0).setPins false 7 := if_pos h3
    rw [ht]
    refine ⟨?_, ?_, ?_, ?_, fun h => absurd h3 (by omega), fun _ => ⟨?_, rfl, rfl⟩⟩
    · rw [setPins_flt, raise_flt]; rfl
    · rw [setPins_lrn, raise_lrn]; rfl
    · rw [setPins_lrn, raise_lrn]; rfl
    · exact (hsame.trans (raise_sameFaults (by decide) s1 0)).trans (setPins_sameFaults _ _ _ _)
    · rw [setPins_stands]; exact raise_stands s1 0x110 0
  · have ht : t = s1 := if_neg h3
    rw [ht]
    exact ⟨rfl, rfl, rfl, hsame, fun _ => rfl, fun h => absurd h h3⟩

/-- Settles O9: a PG line by whether it is the last of the four, the time-out by the count of attempts. -/
theorem pmicHandshakeEndsOrCounts : Obligations.PmicHandshakeEndsOrCounts := by
  refine ⟨fun s l hp => ⟨fun ⟨hd, hb, hh, hall⟩ => ⟨_, rfl, ?_⟩, fun h => ⟨_, rfl, pgGood_of_not_last hp h⟩⟩,
    fun s hd hb hp hh => ⟨_, rfl, ?_⟩, fun s hd hb hp h112 hloss => ⟨_, rfl, ?_⟩⟩
  · rw [pgGood_of_last hp hd hb hh hall]
    exact handshakeEnd_spec _
  · rw [show pmicTimeout s = s.failAttempt from if_pos (by simp [State.awaitsRails, hd, hb, hp, hh])]
    exact failAttempt_spec s
  · exact if_pos (by simp [hd, hb, hp, h112, hloss])

end Sys2Proof.Machine
end

section
/-!
SUPPORT. The supply taps (chapter 03): which faults judging them moves, what stands after it, and statement O8 from it.
-/
namespace Sys2Proof.Machine

/-! ### Judging (R448) -/

theorem judge_sameFaults {l : List Nat} {c : Nat} (hc : c ∈ l) (s : State) (d : Nat) (p : Bool) : SameFaults l s (s.judge c d p) := by
  unfold State.judge
  split
  · exact raise_sameFaults hc s d
  · exact clear_sameFaults hc s d

/-- A judged fault stands as its condition says; only where it is cleared must it not stand unlisted. -/
theorem judge_stands_of {s : State} {c d : Nat} {p : Bool} (hf : p = false → s.flt.free c d) (ho : c ≠ 0x542) :
    (s.judge c d p).flt.stands c d = p := by
  cases p with
  | false => exact judge_stands s c d false (hf rfl) ho
  | true => exact raise_stands s c d

/-! ### The taps judged one after another (R54, R57) -/

@[simp] theorem tap_setTap_same (x : Supply) (k : TapId) (y : Tap) : (x.setTap k y).tap k = y := by cases k <;> rfl

theorem tapIndex_lt (k : TapId) : tapIndex k < 3 := by cases k <;> decide

theorem tapIndex_injective : Function.Injective tapIndex := fun j k => by cases j <;> cases k <;> decide

/-- What judging the taps does for one of them: its absence and its overvoltage. -/
def State.judgeTap (s : State) (k : TapId) : State :=
  (s.judge (0x101 + tapIndex k) 0 (!((s.sup.tap k).cls == TapClass.present))).judge 0x105 (0x2500 + tapIndex k) (s.sup.tap k).overvoltage

theorem judgeTaps_of_running {s : State} (h : s.pace.running = true) :
    s.judgeTaps = ((allTaps.filter s.code.tapFitted).foldl State.judgeTap s).judge2 0x104 0
      (decide (s.tapsPresent = 1)) (decide (2 ≤ s.tapsPresent)) := by
  unfold State.judgeTaps
  rw [h]
  rfl

theorem judgeTap_flt (s : State) (k : TapId) : s.judgeTap k = { s with flt := (s.judgeTap k).flt } := by
  unfold State.judgeTap
  rw [judge_flt, judge_flt]

@[simp] theorem judgeTap_sup (s : State) (k : TapId) : (s.judgeTap k).sup = s.sup := by rw [judgeTap_flt]

/-- The codes of Table 18-4 that the taps raise. -/
def tapCodes : List Nat := [0x101, 0x102, 0x103, 0x104, 0x105]

theorem judgeTap_sameFaults (s : State) (k : TapId) : SameFaults tapCodes s (s.judgeTap k) :=
  (judge_sameFaults (by cases k <;> decide) s 0 _).trans (judge_sameFaults (by decide) _ _ _)

theorem foldl_judgeTap_flt (l : List TapId) (s : State) :
    l.foldl State.judgeTap s = { s with flt := (l.foldl State.judgeTap s).flt } := by
  induction l generalizing s with
  | nil => rfl
  | cons k l ih => rw [List.foldl_cons, ih, judgeTap_flt]

theorem judgeTaps_spec (s : State) : s.judgeTaps = { s with flt := s.judgeTaps.flt } ∧ SameFaults tapCodes s s.judgeTaps := by
  by_cases h : s.pace.running = true
  · rw [judgeTaps_of_running h]
    refine ⟨?_, (foldl_sameFaults judgeTap_sameFaults _ s).trans (judge2_sameFaults (by decide) _ _ _ _)⟩
    rw [judge2_flt, foldl_judgeTap_flt]
  · have hidle : s.judgeTaps = s := by simp [State.judgeTaps, h]
    rw [hidle]
    exact ⟨rfl, SameFaults.refl _ s⟩

/-- A fault that is no other tap's: judging the others leaves it alone. -/
def OwnOfTap (k : TapId) (c d : Nat) : Prop :=
  c ≠ 0x542 ∧ ∀ j, j ≠ k → ¬ (0x101 + tapIndex j = c ∧ 0 = d) ∧ ¬ (0x105 = c ∧ 0x2500 + tapIndex j = d)

theorem absence_ownOfTap (k : TapId) : OwnOfTap k (0x101 + tapIndex k) 0 := by
  have hk := tapIndex_lt k
  refine ⟨by omega, fun j hj => ⟨fun h => hj (tapIndex_injective (by omega)), by omega⟩⟩

theorem overvoltage_ownOfTap (k : TapId) : OwnOfTap k 0x105 (0x2500 + tapIndex k) := by
  refine ⟨by decide, fun j hj => ⟨by omega, fun h => hj (tapIndex_injective (by omega))⟩⟩

section
variable {k : TapId} {c d : Nat} (h : OwnOfTap k c d)
include h

theorem judgeTap_stands_other {j : TapId} (hj : j ≠ k) (s : State) : (s.judgeTap j).flt.stands c d = s.flt.stands c d := by
  obtain ⟨habsent, hover⟩ := h.2 j hj
  unfold State.judgeTap
  rw [judge_stands_ne _ _ _ _ _ _ hover h.1, judge_stands_ne _ _ _ _ _ _ habsent h.1]

theorem judgeTap_free_other {j : TapId} (hj : j ≠ k) {s : State} (hf : s.flt.free c d) : (s.judgeTap j).flt.free c d := by
  obtain ⟨habsent, hover⟩ := h.2 j hj
  exact judge_free _ _ _ _ _ _ hover (judge_free _ _ _ _ _ _ habsent hf)

theorem foldl_judgeTap_stands_other {l : List TapId} (hk : k ∉ l) (s : State) :
    (l.foldl State.judgeTap s).flt.stands c d = s.flt.stands c d := by
  induction l generalizing s with
  | nil => rfl
  | cons j l ih =>
    rw [List.mem_cons, not_or] at hk
    rw [List.foldl_cons, ih hk.2, judgeTap_stands_other h (Ne.symm hk.1)]

/-- What judging its own tap gives an fault, it keeps when each tap is judged once. -/
theorem foldl_judgeTap_stands {x : Supply} {v : Bool} (hown : ∀ u : State, u.sup = x → (v = false → u.flt.free c d) →
      (u.judgeTap k).flt.stands c d = v)
    {l : List TapId} (hl : l.Nodup) (hk : k ∈ l) {s : State} (hx : s.sup = x) (hf : v = false → s.flt.free c d) :
    (l.foldl State.judgeTap s).flt.stands c d = v := by
  induction l generalizing s with
  | nil => cases hk
  | cons j l ih =>
    obtain ⟨hj, hl⟩ := List.nodup_cons.mp hl
    rw [List.foldl_cons]
    by_cases hjk : j = k
    · subst hjk
      rw [foldl_judgeTap_stands_other h hj, hown s hx hf]
    · refine ih hl ((List.mem_cons.mp hk).resolve_left (Ne.symm hjk)) ((judgeTap_sup s j).trans hx) fun hv => ?_
      exact judgeTap_free_other h hjk (hf hv)

end

section
variable {s : State} {k : TapId} (hr : s.pace.running = true) (hk : s.code.tapFitted k = true)
include hr hk

/-- A fitted tap's fault stands after the judgement as judging the tap itself leaves it. -/
theorem judgeTaps_stands_of_own {c d : Nat} (h : OwnOfTap k c d) (h4 : c ≠ 0x104) {v : Bool} (hf : v = false → s.flt.free c d)
    (hown : ∀ u : State, u.sup = s.sup → (v = false → u.flt.free c d) → (u.judgeTap k).flt.stands c d = v) :
    s.judgeTaps.flt.stands c d = v := by
  have hmem : k ∈ allTaps.filter s.code.tapFitted := List.mem_filter.mpr ⟨by cases k <;> decide, hk⟩
  rw [judgeTaps_of_running hr, judge2_sameFaults (l := [0x104]) (by decide) _ _ _ _ c d (by simpa using h4) h.1]
  exact foldl_judgeTap_stands h hown ((by decide : allTaps.Nodup).filter _) hmem rfl hf

theorem judgeTaps_stands_absence {v : Bool} (hv : (!((s.sup.tap k).cls == TapClass.present)) = v)
    (hf : v = false → s.flt.free (0x101 + tapIndex k) 0) : s.judgeTaps.flt.stands (0x101 + tapIndex k) 0 = v := by
  have hlt := tapIndex_lt k
  refine judgeTaps_stands_of_own hr hk (absence_ownOfTap k) (by omega) hf fun u hu hfu => ?_
  unfold State.judgeTap
  rw [judge_stands_ne _ _ _ _ _ _ (by omega) (by omega), hu, hv]
  exact judge_stands_of hfu (by omega)

theorem judgeTaps_stands_overvoltage (hf : (s.sup.tap k).overvoltage = false → s.flt.free 0x105 (0x2500 + tapIndex k)) :
    s.judgeTaps.flt.stands 0x105 (0x2500 + tapIndex k) = (s.sup.tap k).overvoltage := by
  have hlt := tapIndex_lt k
  refine judgeTaps_stands_of_own hr hk (overvoltage_ownOfTap k) (by decide) hf fun u hu hfu => ?_
  unfold State.judgeTap
  rw [hu]
  exact judge_stands_of (fun hv => judge_free _ _ _ _ _ _ (by omega) (hfu hv)) (by decide)

end

theorem judgeTaps_stands_one {s : State} (hr : s.pace.running = true) (h1 : s.tapsPresent = 1) : s.judgeTaps.flt.stands 0x104 0 = true := by
  rw [judgeTaps_of_running hr, h1]
  exact judge2_stands_of_up _ _ _ _

/-! ### Tap events and the sharing fault (R53, R54, R55) -/

theorem tapEvent_of_watched {s : State} {k : TapId} (hw : s.tapsWatched = true) (hk : s.code.tapFitted k = true) (f : Tap → Tap) :
    s.tapEvent k f =
      let x := f (s.sup.tap k)
      ({ s with sup := s.sup.setTap k { x with dgate := if x.overvoltage then .heldOff else .regulating } } : State).judgeTaps := by
  simp [State.tapEvent, hw, hk]

/-- After an event of a fitted tap the tap faults are those of its new class and overvoltage. -/
theorem tapEvent_spec {s : State} {k : TapId} (hw : s.tapsWatched = true) (hk : s.code.tapFitted k = true) (f : Tap → Tap) :
    let x := f (s.sup.tap k)
    let t := s.tapEvent k f
    t = { s with sup := s.sup.setTap k { x with dgate := if x.overvoltage then .heldOff else .regulating }, flt := t.flt } ∧
    SameFaults tapCodes s t ∧
    (s.pace.running = true →
      (s.allListed ∨ x.cls ≠ .present → t.flt.stands (0x101 + tapIndex k) 0 = !(x.cls == TapClass.present)) ∧
      (s.allListed ∨ x.overvoltage = true → t.flt.stands 0x105 (0x2500 + tapIndex k) = x.overvoltage) ∧
      (t.tapsPresent = 1 → t.flt.stands 0x104 0 = true)) := by
  intro x t
  let y : Tap := { x with dgate := if x.overvoltage then .heldOff else .regulating }
  let s1 : State := { s with sup := s.sup.setTap k y }
  have ht : t = s1.judgeTaps := tapEvent_of_watched hw hk f
  have hy : s1.sup.tap k = y := tap_setTap_same _ _ _
  obtain ⟨hframe, hsame⟩ := judgeTaps_spec s1
  rw [ht]
  refine ⟨hframe, hsame, fun hr => ⟨fun h => ?_, fun h => ?_, fun h => ?_⟩⟩
  · refine judgeTaps_stands_absence (s := s1) hr hk (by rw [hy]) fun hv => ?_
    exact Faults.free_of_listed (h.resolve_right fun hc => hc (by simpa using hv)) _ _
  · rw [judgeTaps_stands_overvoltage (s := s1) hr hk fun hv => ?_, hy]
    rw [hy] at hv
    exact Faults.free_of_listed (h.resolve_right fun hc => Bool.noConfusion (hc.symm.trans hv)) _ _
  · refine judgeTaps_stands_one (s := s1) hr ?_
    rwa [hframe] at h

theorem sharingRun_of_deviating {s : State} (hw : s.tapsWatched = true) (hs : s.code.sharing = true) :
    sharingRun true s =
      if 1000000000 ≤ s.sup.shareA ∨ 1000000000 ≤ s.sup.shareB ∨ 1000000000 ≤ s.sup.shareC then s.raise 0x106 0 else s := by
  simp [sharingRun, hw, hs, or_assoc]

theorem sharingRun_of_within {s : State} (hw : s.tapsWatched = true) (hs : s.code.sharing = true) :
    sharingRun false s = if 1000000000 ≤ s.sup.shareOk then s.clear 0x106 0 else s := by
  simp [sharingRun, hw, hs]

/-- Settles O8: each tap event by what judging the taps leaves standing, the sharing runs by whether they are complete. That the runs of R55
are counted from snap to snap is log entry 160. -/
theorem tapsAreClassifiedAndShared : Obligations.TapsAreClassifiedAndShared := by
  refine ⟨fun s k hw hk => ?_, fun s hw hs => ⟨⟨_, rfl, ?_⟩, ⟨_, rfl, ?_⟩⟩⟩
  · refine ⟨⟨_, rfl, ?_⟩, ⟨_, rfl, ?_⟩, ⟨_, rfl, ?_⟩, ⟨_, rfl, ?_⟩, ⟨_, rfl, ?_⟩⟩
    · obtain ⟨hframe, hsame, hstands⟩ := tapEvent_spec hw hk fun x => { x with cls := .present }
      exact ⟨hframe, hsame, fun hr hl => (hstands hr).1 (.inl hl)⟩
    · obtain ⟨hframe, hsame, hstands⟩ := tapEvent_spec hw hk fun x => { x with cls := .absent }
      exact ⟨hframe, hsame, fun hr => (hstands hr).1 (.inr (by simp)), fun hr => (hstands hr).2.2⟩
    · obtain ⟨hframe, hsame, hstands⟩ := tapEvent_spec hw hk fun x => { x with overvoltage := true }
      exact ⟨hframe, hsame, fun hr => (hstands hr).2.1 (.inr rfl)⟩
    · obtain ⟨hframe, hsame, hstands⟩ := tapEvent_spec hw hk fun x => { x with overvoltage := false }
      exact ⟨hframe, hsame, fun hr hl => (hstands hr).2.1 (.inl hl)⟩
    · exact if_neg (by simp [hw, hk])
  · rw [sharingRun_of_deviating hw hs]
    split
    next h => exact ⟨raise_flt _ _ _, raise_sameFaults (by decide) s 0, fun _ => raise_stands _ _ _, fun hn => absurd h hn⟩
    next h => exact ⟨rfl, SameFaults.refl _ s, fun hd => absurd hd h, fun _ => rfl⟩
  · rw [sharingRun_of_within hw hs]
    split
    next h => exact ⟨clear_flt _ _ _, clear_sameFaults (by decide) s 0, fun _ hl => clear_stands s _ _ hl (by decide), fun hn => absurd h (not_le.mpr hn)⟩
    next h => exact ⟨rfl, SameFaults.refl _ s, fun hd => absurd hd h, fun _ => rfl⟩

end Sys2Proof.Machine
end

section
/-!
SUPPORT. What a shut-down ends (chapters 03, 11 and 16): a training cycle, a staged checkpoint and the journal write in progress, and the
seal that it starts.
-/
namespace Sys2Proof.Machine

/-! ### A training cycle that is unpicked (R71, R282) -/

theorem restoreShadow_frame (s : State) (cohort : Nat) :
    let t := s.restoreShadow cohort
    t = { s with
      trn := { s.trn with copyDue := t.trn.copyDue }, lrn := { s.lrn with weights := t.lrn.weights, cells := t.lrn.cells } } := by
  unfold State.restoreShadow
  split <;> rfl

/-- An unpicked cycle is over; beside the training state it touches the weights, the cells, the training record and the faults. -/
theorem unpick_spec (s : State) (reason : Nat) :
    let t := s.unpick reason
    t = { s with
      trn := t.trn, lrn := { s.lrn with weights := t.lrn.weights, cells := t.lrn.cells }
      nv := { s.nv with trained := t.nv.trained, rotation := t.nv.rotation, lastPos := t.nv.lastPos }, flt := t.flt } ∧
    t.cycleOn = false := by
  have hshadow := restoreShadow_frame s s.trn.cohort
  unfold State.unpick
  generalize s.restoreShadow s.trn.cohort = u at hshadow ⊢
  dsimp only at hshadow ⊢
  split
  next h => exact ⟨rfl, by simpa using h⟩
  next =>
    split
    · exact ⟨by rw [hshadow], rfl⟩
    · split
      · exact ⟨by rw [raise_flt, hshadow]; rfl, by rw [State.cycleOn, raise_trn]; rfl⟩
      · split
        · exact ⟨by rw [clear_flt, hshadow]; rfl, by rw [State.cycleOn, clear_trn]; rfl⟩
        · exact ⟨by rw [hshadow]; rfl, rfl⟩

/-! ### A staged checkpoint that is abandoned (R286, R417) -/

theorem abandonCkpt_spec (s : State) :
    let t := s.abandonCkpt
    t = { s with nv := t.nv, lrn := { s.lrn with staging := none }, flt := t.flt } := by
  intro t
  have ht : t = s.abandonCkpt := rfl
  unfold State.abandonCkpt at ht
  split at ht
  next h => rw [ht, ← h]
  next x h =>
    split at ht
    next k hk =>
      obtain ⟨-, hlrn, -, -, hframe⟩ := failCkpt_spec s k
      rw [ht, ← hlrn]
      exact hframe
    next => rw [ht]

/-! ### A seal that starts (R71, R409, R411) -/

theorem cutWrites_frame (s : State) : s.cutWrites = { s with nv := s.cutWrites.nv, freeCtr := s.cutWrites.freeCtr } := by
  unfold State.cutWrites
  split <;> rfl

/-- A seal that starts holds the newest buffer, if there is one; the buffers themselves stay. -/
theorem startSeal_spec (s : State) (kind : SealKind) (t : Ns) :
    let u := s.startSeal kind t
    u = { s with now := max s.now t, bufs := { s.bufs with writing := u.bufs.writing }, nv := u.nv, freeCtr := u.freeCtr } ∧
    (u.bufs.writing.map fun x => (x.kind, x.t, x.buf)) = (s.bufs.newest.map fun b => (kind, t, b)) := by
  have hcut := cutWrites_frame s
  unfold State.startSeal State.makeSeal
  generalize s.cutWrites = u at hcut ⊢
  dsimp only
  rw [hcut]
  exact ⟨rfl, by rw [Option.map_map]; rfl⟩

end Sys2Proof.Machine
end

section
/-!
SUPPORT. The switched domains and the loss of a rail (chapter 03): the order of R61, what ends with the last domain, and statement O10 from it.
-/
namespace Sys2Proof.Machine

/-! ### The order of the domains (R61) -/

theorem wantedDomains_pairwise (s : State) : s.wantedDomains.Pairwise (· < ·) := by
  unfold State.wantedDomains
  refine List.Pairwise.filter _ ?_
  split <;> split <;> [skip; split; skip; split] <;> decide

/-- The next domain is the first wanted one that is not on. -/
theorem nextDomain_of_first {s : State} {d : Nat} (hp : s.sup.pmicEn = true) (hh : s.sup.handshake = true) (hd : d ∈ s.wantedDomains)
    (hoff : d ∉ s.sup.domains) (hall : ∀ e ∈ s.wantedDomains, e < d → e ∈ s.sup.domains) : s.nextDomain = some d := by
  obtain ⟨before, after, hsplit⟩ := List.append_of_mem hd
  have hsorted := wantedDomains_pairwise s
  rw [hsplit, List.pairwise_append] at hsorted
  have hfind : (s.wantedDomains.find? fun e => !s.sup.domains.contains e) = some d := by
    rw [List.find?_eq_some_iff_append]
    refine ⟨by simpa using hoff, before, after, hsplit, fun e he => ?_⟩
    have hlt : e < d := hsorted.2.2 e he d (List.mem_cons_self ..)
    simpa using hall e (hsplit ▸ List.mem_append_left _ he) hlt
  simpa [State.nextDomain, hp, hh] using hfind

theorem nextDomain_eq_none_iff {s : State} (hp : s.sup.pmicEn = true) (hh : s.sup.handshake = true) :
    s.nextDomain = none ↔ ∀ e ∈ s.wantedDomains, e ∈ s.sup.domains := by
  simp [State.nextDomain, hp, hh]

theorem wantedDomains_of_run {s : State} (hdev : (s.sup.dev = .boot ∧ s.sup.bootKind ≠ .parkCheck) ∨ s.sup.dev = .run)
    (hcheck : s.sup.parkCheck = false) (hpg2 : s.sup.pg2Lost = false) (hshed : s.trn.shed < 3) (hdamp : s.sup.damping = false) :
    s.wantedDomains = (List.range' 2 16).filter fun d => !s.sup.failedDomains.contains d := by
  have hmem : [2, 3, 4, 5] ++ [6] ++ memoryDomains = List.range' 2 16 := by decide
  rw [← hmem]
  have hshed' : ¬ 3 ≤ s.trn.shed := by omega
  rcases hdev with ⟨hd, hk⟩ | hd
  · simp [State.wantedDomains, hd, hk, hcheck, hpg2, hshed', hdamp]
  · simp [State.wantedDomains, hd, hcheck, hpg2, hshed', hdamp]

/-! ### The last domain (R61, R63, R73) -/

/-- A boot that waits for its domains goes on. -/
def State.domainsOnStep (s : State) : State :=
  if s.sup.dev == DevState.boot && s.sup.bootStep == BootStep.pmicUp then { s with sup := { s.sup with bootStep := .domainsOn } } else s

/-- The faults that waited for P7 to P17 clear: 0x111 with PG2 back, 0x121 with the damping over. -/
def State.endDomainFaults (s : State) : State :=
  let u := if s.sup.pg2Lost then s else s.clear 0x111 0
  if !u.sup.damping && u.domainOn 17 then u.clear 0x121 0 else u

theorem domainsDone_of_done {s : State} (h : s.nextDomain = none) : s.domainsDone = s.domainsOnStep.endDomainFaults :=
  if_neg (by simp [h])

theorem domainsDone_of_waiting {s : State} (h : s.nextDomain ≠ none) : s.domainsDone = s := if_pos (Option.isSome_iff_ne_none.mpr h)

theorem domainsOnStep_frame (s : State) :
    s.domainsOnStep = { s with sup := { s.sup with bootStep := s.domainsOnStep.sup.bootStep } } := by
  unfold State.domainsOnStep
  split <;> rfl

theorem endDomainFaults_spec (s : State) :
    let t := s.endDomainFaults
    t = { s with flt := t.flt } ∧ SameFaults [0x111, 0x121] s t ∧
    (s.sup.pg2Lost = true → t.flt.stands 0x111 0 = s.flt.stands 0x111 0) ∧
    (s.sup.pg2Lost = false → s.allListed → t.flt.stands 0x111 0 = false) ∧
    (s.sup.damping = false → s.domainOn 17 = true → s.allListed → t.flt.stands 0x121 0 = false) := by
  let u := if s.sup.pg2Lost then s else s.clear 0x111 0
  have hframe : u = { s with flt := u.flt } := by
    simp only [u]; split
    · rfl
    · exact clear_flt s _ _
  have hsame : SameFaults [0x111, 0x121] s u := by
    simp only [u]; split
    · exact SameFaults.refl _ s
    · exact clear_sameFaults (by decide) s 0
  have hlost (h : s.sup.pg2Lost = true) : u = s := if_pos h
  have hback (h : s.sup.pg2Lost = false) : u = s.clear 0x111 0 := if_neg (by simp [h])
  have hfree (hl : s.allListed) : u.flt.free 0x121 0 := by
    have hfree0 : s.flt.free 0x121 0 := Faults.free_of_listed hl _ _
    simp only [u]; split
    · exact hfree0
    · exact clear_free s _ _ _ _ hfree0
  have ht : s.endDomainFaults = if !u.sup.damping && u.domainOn 17 then u.clear 0x121 0 else u := rfl
  clear_value u
  have h111 : s.endDomainFaults.flt.stands 0x111 0 = u.flt.stands 0x111 0 := by
    rw [ht]; split
    · exact clear_stands_ne u _ _ _ _ (by decide)
    · rfl
  refine ⟨?_, ?_, fun h => ?_, fun h hl => ?_, fun hd h17 hl => ?_⟩
  · rw [ht]; split
    · rw [clear_flt, hframe]
    · exact hframe
  · rw [ht]; split
    · exact hsame.trans (clear_sameFaults (by decide) u 0)
    · exact hsame
  · rw [h111, hlost h]
  · rw [h111, hback h]; exact clear_stands s _ _ hl (by decide)
  · have hsup : u.sup = s.sup := by rw [hframe]
    have h17u : u.domainOn 17 = true := by rw [← h17, State.domainOn, hsup, State.domainOn]
    rw [ht, if_pos (by simp [hsup, hd, h17u])]
    exact clear_stands_free u _ _ (hfree hl) (by decide)

/-- With domains still to come nothing follows; with the last of them a boot goes on, and the faults that waited for it clear. -/
theorem domainsDone_spec (s : State) :
    let t := s.domainsDone
    t = { s with sup := { s.sup with bootStep := t.sup.bootStep }, flt := t.flt } ∧ SameFaults [0x111, 0x121] s t ∧
    (s.sup.dev = .boot → s.sup.bootStep = .pmicUp → s.nextDomain = none → t.sup.bootStep = .domainsOn) ∧
    (s.sup.pg2Lost = true → t.flt.stands 0x111 0 = s.flt.stands 0x111 0) ∧
    (s.nextDomain = none → s.sup.pg2Lost = false → s.allListed → t.flt.stands 0x111 0 = false) ∧
    (s.nextDomain = none → s.sup.damping = false → s.domainOn 17 = true → s.allListed → t.flt.stands 0x121 0 = false) := by
  by_cases hnext : s.nextDomain = none
  · have hstep := domainsOnStep_frame s
    have hboot (hd : s.sup.dev = .boot) (hb : s.sup.bootStep = .pmicUp) : s.domainsOnStep.sup.bootStep = .domainsOn := by
      simp [State.domainsOnStep, hd, hb]
    obtain ⟨hframe, hsame, hlost, hback, hdamp⟩ := endDomainFaults_spec s.domainsOnStep
    rw [domainsDone_of_done hnext]
    generalize s.domainsOnStep = u at *
    have hsup : u.endDomainFaults.sup = u.sup := by rw [hframe]
    refine ⟨?_, ?_, fun hd hb _ => ?_, fun h => ?_, fun _ h hl => ?_, fun _ hd h17 hl => ?_⟩
    · rw [hsup]
      exact hframe.trans (by rw [hstep])
    · exact (SameFaults.of_stands fun _ _ => by rw [hstep]).trans hsame
    · rw [hsup]; exact hboot hd hb
    · rw [hlost (by rw [hstep]; exact h), hstep]
    · exact hback (by rw [hstep]; exact h) (by rw [hstep]; exact hl)
    · exact hdamp (by rw [hstep]; exact hd) (by rw [hstep]; exact h17) (by rw [hstep]; exact hl)
  · rw [domainsDone_of_waiting hnext]
    exact ⟨rfl, SameFaults.refl _ s, fun _ _ h => absurd h hnext, fun _ => rfl, fun h => absurd h hnext, fun h => absurd h hnext⟩

/-- The order goes on as before: neither the step of a boot nor the faults are part of it. -/
theorem domainsDone_nextDomain (s : State) : s.domainsDone.nextDomain = s.nextDomain := by
  obtain ⟨hframe, -⟩ := domainsDone_spec s
  rw [hframe]
  rfl

/-- The domain that is next is switched on, and the rest follows with the last. -/
theorem domainSwitchOn_spec {s : State} {d : Nat} (hp : s.sup.pmicEn = true) (hh : s.sup.handshake = true) (hd : s.nextDomain = some d) :
    let t := domainSwitchOn d s
    t = { s with sup := { s.sup with domains := s.sup.domains ++ [d], bootStep := t.sup.bootStep }, flt := t.flt } ∧
    SameFaults [0x111, 0x121] s t ∧
    ((∃ e ∈ s.wantedDomains, e ≠ d ∧ e ∉ s.sup.domains) → t.sup.bootStep = s.sup.bootStep ∧ t.flt = s.flt) ∧
    (s.sup.dev = .boot → s.sup.bootStep = .pmicUp → (∀ e ∈ s.wantedDomains, e ≠ d → e ∈ s.sup.domains) → t.sup.bootStep = .domainsOn) := by
  let s1 : State := { s with sup := { s.sup with domains := s.sup.domains ++ [d] } }
  have hnext : s1.nextDomain = none ↔ ∀ e ∈ s.wantedDomains, e ≠ d → e ∈ s.sup.domains := by
    refine (nextDomain_eq_none_iff (s := s1) hp hh).trans (forall₂_congr fun e _ => ?_)
    show e ∈ s.sup.domains ++ [d] ↔ _
    rw [List.mem_append, List.mem_singleton, ne_eq, not_imp_comm, or_comm, or_iff_not_imp_left, not_imp_comm]
  have ht : domainSwitchOn d s = s1.domainsDone := if_pos (by simp [hd])
  obtain ⟨hframe, hsame, hboot, -⟩ := domainsDone_spec s1
  rw [ht]
  refine ⟨hframe, hsame, fun ⟨e, he, hne, hoff⟩ => ?_, fun hdev hstep hall => hboot hdev hstep (hnext.mpr hall)⟩
  rw [domainsDone_of_waiting fun h => hoff (hnext.mp h e he hne)]
  exact ⟨rfl, rfl⟩

/-- A domain that does not report good stays off: it fails, with the faults of R61, and the next one follows. -/
theorem domainSwitchTimeout_spec {s : State} {d : Nat} (hd : s.nextDomain = some d) :
    let t := domainSwitchTimeout d s
    t = { s with
      sup := { s.sup with failedDomains := s.sup.failedDomains ++ [d], bootStep := t.sup.bootStep }
      lrn := { s.lrn with disabledCold := s.lrn.disabledCold || decide (7 ≤ d) }
      tst := { s.tst with passed := s.tst.passed && decide (7 ≤ d) }, flt := t.flt } ∧
    SameFaults [0x111, 0x121, 0x124] s t ∧ t.flt.stands 0x124 (0x2400 + d) = true := by
  let s1 : State := { s with
    sup := { s.sup with failedDomains := s.sup.failedDomains ++ [d] }
    lrn := { s.lrn with disabledCold := s.lrn.disabledCold || decide (7 ≤ d) }
    tst := { s.tst with passed := s.tst.passed && decide (7 ≤ d) } }
  let s2 : State := if d ≤ 6 then s1.raiseHigh 0x124 (0x2400 + d) else s1.raise 0x124 (0x2400 + d)
  have hframe2 : s2 = { s1 with flt := s2.flt } := by
    simp only [s2]; split
    · exact raiseHigh_flt _ _ _
    · exact raise_flt _ _ _
  have hsame2 : SameFaults [0x111, 0x121, 0x124] s s2 := by
    refine (SameFaults.of_stands (t := s1) fun _ _ => rfl).trans ?_
    simp only [s2]; split
    · exact raiseInst_sameFaults (c := 0x124) (by decide) s1 rfl
    · exact raise_sameFaults (by decide) s1 _
  have hstands2 : s2.flt.stands 0x124 (0x2400 + d) = true := by
    simp only [s2]; split
    · exact raiseHigh_stands _ _ _
    · exact raise_stands _ _ _
  have ht : domainSwitchTimeout d s = s2.domainsDone := if_pos (by simp [hd])
  clear_value s2
  obtain ⟨hframe, hsame, -⟩ := domainsDone_spec s2
  rw [ht]
  refine ⟨?_, hsame2.trans (hsame.mono (by decide)), ?_⟩
  · exact hframe.trans (by rw [hframe2])
  · rw [hsame _ _ (by decide) (by decide)]
    exact hstands2

/-! ### Rails that are lost (R62, R63) -/

/-- The emergency seal begins at once, with SAFE_N low. -/
theorem railLoss_spec {s : State} {l : PgLine} (hl : l ≠ .pg2) (hd : s.sup.dev = .run ∨ s.sup.dev = .grace) (at_ : Ns) :
    let t := railLoss l at_ s
    t.sup = { s.sup.setPg l false with
      dev := .seal
      shut := some ⟨.rail, at_, true, true, false, none, false, s.sup.parkCheck⟩
      railLosses := at_ :: s.sup.railLosses.filter fun u => decide (at_ < u + 600000000000) } ∧
    t.flt.safeN = false ∧
    (t.bufs.writing.map fun x => (x.kind, x.t, x.buf)) = (s.bufs.newest.map fun b => (SealKind.emergency, at_, b)) := by
  let s1 : State := { s with sup := s.sup.setPg l false }
  have ht : railLoss l at_ s = (s1.at at_).emergency at_ := by
    rcases hd with hd | hd <;> simp [railLoss, hl, hd, s1]
  have hckpt := abandonCkpt_spec (s1.at at_)
  rw [ht]
  unfold State.emergency
  generalize (s1.at at_).abandonCkpt = u at hckpt ⊢
  dsimp only at hckpt ⊢
  have hsup : u.sup = s.sup.setPg l false := by rw [hckpt]; rfl
  have hbufs : u.bufs = s.bufs := by rw [hckpt]; rfl
  obtain ⟨hframe, hseal⟩ := startSeal_spec { u with
    sup := { u.sup with
      dev := .seal
      shut := some ⟨.rail, at_, true, true, false, none, false, u.sup.parkCheck⟩
      railLosses := at_ :: u.sup.railLosses.filter fun v => decide (at_ < v + 600000000000) }
    flt := { u.flt with safeN := false } } .emergency at_
  refine ⟨?_, ?_, ?_⟩
  · rw [hframe, hsup]
    cases l <;> rfl
  · rw [hframe]
  · rw [hseal]
    exact congrArg (fun b : SealBufs => b.newest.map _) hbufs

/-- PG2 lost alone takes P7 to P17, with what LPDDR5 holds and the training cycle. -/
theorem pg2Loss_spec {s : State} (hh : s.sup.handshake = true) :
    let t := pg2Loss s
    t.sup = { s.sup with
      pg2 := false, pg2Lost := true, p7SelfRefresh := false, domains := s.sup.domains.filter fun d => decide (d < 7)
      bootStep := t.sup.bootStep } ∧
    t.flt.stands 0x111 0 = true ∧ t.lrn.ddr = false ∧ t.lrn.staging = none := by
  let x : Supply := { s.sup with
    pg2 := false, pg2Lost := true, p7SelfRefresh := false, domains := s.sup.domains.filter fun d => decide (d < 7) }
  obtain ⟨u, hu, hsup, hddr, hstaging⟩ : ∃ u : State, pg2Loss s = (u.raise 0x111 0).domainsDone ∧ u.sup = x ∧ u.lrn.ddr = false ∧
      u.lrn.staging = none := by
    have hckpt := abandonCkpt_spec s
    refine ⟨_, if_neg (by simp [hh]), ?_⟩
    generalize s.abandonCkpt = v at hckpt ⊢
    dsimp only at hckpt
    have hv : v.sup = s.sup := by rw [hckpt]
    obtain ⟨hframe, -⟩ := unpick_spec (State.loseMemory { v with sup := { v.sup with
      pg2 := false, pg2Lost := true, p7SelfRefresh := false, domains := v.sup.domains.filter fun d => decide (d < 7) } }) 4
    rw [hframe]
    exact ⟨by simp only [State.loseMemory, hv, x], rfl, rfl⟩
  obtain ⟨hframe, -, -, hlost, -⟩ := domainsDone_spec (u.raise 0x111 0)
  rw [hu]
  refine ⟨?_, ?_, ?_, ?_⟩
  · rw [hframe, raise_sup, hsup]
  · rw [hlost (by rw [raise_sup, hsup])]
    exact raise_stands u _ _
  · rw [hframe]
    simpa using hddr
  · rw [hframe]
    simpa using hstaging

/-- Settles O10: the domains by the first one wanted that is off, a lost rail by the seal that it starts. That nothing is sealed where no buffer
is complete is log entry 28, and what PG2 does in a boot is log entry 24. -/
theorem domainsSwitchAndRailsAreLost : Obligations.DomainsSwitchAndRailsAreLost := by
  refine ⟨⟨fun s d hp hh hd hoff hall => ?_, fun s => wantedDomains_of_run⟩, fun s l at_ hl hd => ⟨_, rfl, ?_⟩,
    fun s hh => ⟨_, rfl, ?_⟩, fun s hlost => ⟨_, rfl, ?_⟩⟩
  · have hnext := nextDomain_of_first hp hh hd hoff hall
    exact ⟨⟨_, rfl, domainSwitchOn_spec hp hh hnext⟩, ⟨_, rfl, domainSwitchTimeout_spec hnext⟩⟩
  · obtain ⟨hsup, hsafe, hseal⟩ := railLoss_spec hl hd at_
    exact ⟨hsup, hsafe, hseal, railLoss_fixed l at_ s⟩
  · obtain ⟨hsup, hstands, hddr, hstaging⟩ := pg2Loss_spec hh
    exact ⟨hsup, hstands, hddr, hstaging, pg2Loss_fixed s⟩
  · let s1 : State := { s with
      sup := { s.sup with pg2 := true, pg2Lost := false }, lrn := { s.lrn with lost := s.lrn.lost || s.pace.running } }
    obtain ⟨hframe, hsame, -, -, hback, -⟩ := domainsDone_spec s1
    rw [show pg2Return s = s1.domainsDone from if_neg (by simp [hlost])]
    refine ⟨hframe, hsame, fun hnext => ?_, fun hnext hl => ?_⟩
    · rw [domainsDone_nextDomain] at hnext
      rw [domainsDone_of_waiting hnext]
    · rw [domainsDone_nextDomain] at hnext
      exact hback hnext rfl hl

end Sys2Proof.Machine
end

section
/-!
SUPPORT. Shut-downs that begin, and shut-downs that are aborted (chapter 03): what the entry to GRACE and the way back change, and statements
O15 and O17 from it.
-/
namespace Sys2Proof.Machine

/-! ### GRACE begins and ends (R70, R71, R76) -/

/-- The entry to GRACE: the shut-down of its kind, the training cycle over, and of the rest of the state nothing but the time. -/
theorem enterGrace_spec (s : State) (kind : ShutKind) (at_ : Ns) :
    let t := s.enterGrace kind at_
    t = { s with
      now := max s.now at_
      sup := { s.sup with dev := .grace, shut := some ⟨kind, at_, false, false, false, none, false, s.sup.parkCheck⟩ }
      out := { s.out with graceSent := false }, trn := t.trn, lrn := t.lrn, nv := t.nv, flt := t.flt } ∧
    t.cycleOn = false := by
  let u : State := { s.at at_ with
    sup := { s.sup with dev := .grace, shut := some ⟨kind, at_, false, false, false, none, false, s.sup.parkCheck⟩ }
    out := { s.out with graceSent := false } }
  obtain ⟨hframe, hcycle⟩ := unpick_spec u 4
  rw [show s.enterGrace kind at_ = u.unpick 4 from rfl]
  refine ⟨?_, hcycle⟩
  rw [hframe]
  rfl

theorem supplyLoss_of_run {s : State} (h : s.sup.dev = .run) (at_ : Ns) : supplyLoss at_ s = (s.enterGrace .supply at_).shedDomains := by
  simp [supplyLoss, h]

theorem graceEnd_of_due {s : State} {h : Shutdown} {at_ : Ns} (hd : s.sup.dev = .grace) (hs : s.sup.shut = some h) (ho : h.graceOver = false)
    (hwait : h.kind = .supply ∨ (s.lrn.staging = none ∧ s.pat.testing = none))
    (hdue : h.since + s.img.f.supply.grace * 1000000 ≤ at_) :
    graceEnd at_ s = ((s.at at_).updShut fun h => { h with graceOver := true, frozen := true }).shedDomains := by
  have hnot : ¬ at_ < h.since + s.img.f.supply.grace * 1000000 := not_lt.mpr hdue
  rcases hwait with hk | ⟨hl, hp⟩
  · simp [graceEnd, hd, hs, ho, hk, hnot]
  · simp [graceEnd, hd, hs, ho, hl, hp, hnot]

/-- Settles O15: the entry to GRACE with its domains, and the freeze step once the grace is over. The instant that GRACE_END carries is log
entry 30. -/
theorem graceBeginsAndEnds : Obligations.GraceBeginsAndEnds := by
  refine ⟨fun s at_ hd => ⟨_, rfl, ?_⟩, fun s at_ h hd hs ho hwait hdue => ⟨_, rfl, ?_⟩⟩
  · obtain ⟨hframe, hcycle⟩ := enterGrace_spec s .supply at_
    have hfixed := supplyLoss_fixed at_ s
    rw [supplyLoss_of_run hd] at hfixed ⊢
    refine ⟨?_, ?_, ?_, hcycle, hfixed, ?_⟩
    · rw [State.shedDomains, hframe]; rfl
    · rw [State.shedDomains, hframe]
    · rw [State.shedDomains, hframe]
    · rw [State.shedDomains, hframe]
  · rw [graceEnd_of_due hd hs ho hwait hdue]
    simp only [State.shedDomains, State.updShut, State.at, hs, Option.map_some]
    rfl

/-! ### The way back (R72, R73) -/

/-- A shut-down aborted by a supply return: RUN goes on with fault 0x120, and the damping begins with the third within 60 s. -/
theorem abortGrace_of_return (s : State) (at_ : Ns) :
    let t := s.abortGrace true at_
    t.sup = { s.sup with
      dev := .run, shut := none, p7SelfRefresh := false, aborts := t.sup.aborts
      damping := s.sup.damping || decide (3 ≤ t.sup.aborts.length), abortRound := some s.pace.round } ∧
    t.sup.aborts = at_ :: s.sup.aborts.filter (fun u => decide (at_ < u + 60000000000)) ∧
    t.flt.stands 0x120 0 = true ∧ (3 ≤ t.sup.aborts.length → t.flt.stands 0x121 0 = true) ∧
    t.pow = { s.pow with frozen := false } ∧
    t = { s with now := max s.now at_, sup := t.sup, pow := t.pow, lrn := t.lrn, nv := t.nv, flt := t.flt } := by
  have hckpt := abandonCkpt_spec (s.at at_)
  unfold State.abortGrace
  generalize (s.at at_).abandonCkpt = u at hckpt ⊢
  dsimp only at hckpt
  have hsup : u.sup = s.sup := by rw [hckpt]; rfl
  have hpace : u.pace = s.pace := by rw [hckpt]; rfl
  simp only [Bool.true_and, if_true, hsup, hpace]
  generalize hl : (at_ :: s.sup.aborts.filter fun v => decide (at_ < v + 60000000000)) = l
  by_cases h3 : 3 ≤ l.length
  · simp only [h3, decide_true, if_true]
    refine ⟨?_, ?_, ?_, fun _ => raise_stands _ _ _, ?_, ?_⟩
    · simp [h3]
    · simp
    · exact raiseInst_stands_of _ _ _ _ (raise_stands _ _ _)
    · rw [raise_pow, raise_pow, hckpt]; rfl
    · rw [raise_flt, raise_flt, hckpt]; rfl
  · simp only [h3, decide_false, Bool.false_eq_true, if_false]
    refine ⟨?_, ?_, raise_stands _ _ _, fun h => absurd h (by simpa using h3), ?_, ?_⟩
    · simp [h3]
    · simp
    · rw [raise_pow, hckpt]; rfl
    · rw [raise_flt, hckpt]; rfl

theorem supplyReturn_of_grace {s : State} {h : Shutdown} (hd : s.sup.dev = .grace) (hs : s.sup.shut = some h) (hk : h.kind = .supply)
    (hf : h.frozen = false) (htap : 1 ≤ s.tapsPresent) (at_ : Ns) : supplyReturn at_ s = s.abortGrace true at_ := by
  simp [supplyReturn, hd, hs, hk, hf, Nat.one_le_iff_ne_zero.mp htap]

theorem supplyReturn_of_frozen {s : State} {h : Shutdown} (hd : (s.sup.dev = .grace ∧ h.frozen = true) ∨ s.sup.dev = .seal)
    (hs : s.sup.shut = some h) (hk : h.kind = .supply ∨ h.lateLoss = true) (htap : 1 ≤ s.tapsPresent) (at_ : Ns) :
    supplyReturn at_ s = (s.at at_).updShut fun h => { h with returned := true } := by
  have hkind : (h.kind == ShutKind.supply || h.lateLoss) = true := by simpa using hk
  have hnot : (!(h.kind == ShutKind.supply) && !h.lateLoss) = false := by rw [← Bool.not_or, hkind]; rfl
  rcases hd with ⟨hd, hf⟩ | hd
  · simp only [supplyReturn, hd, hs, hnot, hf, Nat.one_le_iff_ne_zero.mp htap, if_false, if_true, Bool.false_eq_true]
  · simp only [supplyReturn, hd, hs, hkind, Nat.one_le_iff_ne_zero.mp htap, if_false, if_true]

/-! ### The loss of P0 AON (R67, R415) -/

/-- A journal write that is cut short reaches the regions of the journal alone, and nothing where none was in progress. -/
theorem cutWrites_nv (s : State) :
    let n := s.cutWrites.nv
    n = { s.nv with
      writing := n.writing, headerR := n.headerR, pairsR := n.pairsR, patternR := n.patternR, statusR := n.statusR
      fallbackR := n.fallbackR } ∧
    (s.nv.writing = none → n = s.nv) := by
  unfold State.cutWrites
  split
  next h => exact ⟨rfl, fun _ => rfl⟩
  next h => exact ⟨rfl, fun hn => absurd (hn.symm.trans h) (by simp)⟩

theorem aonLost_eq (s : State) :
    aonLost s = { State.reset with pending := s.pending, nv := s.cutWrites.nv, freeCtr := s.cutWrites.freeCtr } := by
  unfold aonLost State.dead
  rw [cutWrites_frame]

/-- Settles O17: the way back by the state of the shut-down, the end of the damping by the last domain, the loss of P0 AON by what the cut
leaves of the memories. What is kept without power is log entry 18, and where a journal write is cut is log entry 175. -/
theorem supplyReturnAndAonLoss : Obligations.SupplyReturnAndAonLoss := by
  refine ⟨⟨fun s at_ h hd hs hk hf htap => ⟨_, rfl, ?_⟩, fun s at_ h hd hs hk htap => ⟨_, rfl, ?_⟩, fun s hoff hdamp => ⟨_, rfl, ?_⟩⟩,
    fun s => ⟨_, rfl, ?_⟩⟩
  · have hfixed := supplyReturn_fixed at_ s
    rw [supplyReturn_of_grace hd hs hk hf htap] at hfixed ⊢
    obtain ⟨hsup, haborts, h120, h121, hpow, hframe⟩ := abortGrace_of_return s at_
    have hnow : (s.abortGrace true at_).now = max s.now at_ := by rw [hframe]
    exact ⟨hsup, haborts, h120, h121, hpow, hnow, hfixed, by rw [hnow]; exact hframe⟩
  · rw [supplyReturn_of_frozen hd hs hk htap]
    simp only [State.updShut, State.at, hs, Option.map_some]
  · obtain ⟨hframe, hsame, -, -, -, hclear⟩ := domainsDone_spec { s with sup := { s.sup with damping := false } }
    rw [show abortDampingEnd s = ({ s with sup := { s.sup with damping := false } } : State).domainsDone from if_pos (by simp [hdamp, hoff])]
    refine ⟨hframe, hsame, fun hnext h17 hl => hclear (domainsDone_nextDomain _ ▸ hnext) rfl ?_ hl⟩
    rwa [State.domainOn, hframe] at h17
  · obtain ⟨hnv, hnone⟩ := cutWrites_nv s
    rw [aonLost_eq]
    exact ⟨rfl, hnone, congrArg (·.seal0) hnv, congrArg (·.seal1) hnv, congrArg (·.ckpt0) hnv, congrArg (·.ckpt1) hnv,
      congrArg (·.events) hnv, congrArg (·.fuses) hnv⟩

end Sys2Proof.Machine
end

section
/-!
SUPPORT. The journal (chapter 16): what TC1's writes reach, and what they leave of the log queue.
-/
namespace Sys2Proof.Machine

/-- The second state differs from the first in what the writes of the journal reach: the memories, the marks of what is due, and the faults. -/
structure JournalWork (s t : State) : Prop where
  frame : t = { s with img := t.img, cls := t.cls, nv := t.nv, flt := t.flt }

theorem JournalWork.refl (s : State) : JournalWork s s := ⟨rfl⟩

theorem JournalWork.trans {s t u : State} (h : JournalWork s t) (k : JournalWork t u) : JournalWork s u := ⟨by rw [k.frame, h.frame]⟩

theorem JournalWork.of_flt {s t : State} (h : t = { s with flt := t.flt }) : JournalWork s t := ⟨by rw [h]⟩

theorem JournalWork.ite {s t u : State} {c : Prop} [Decidable c] (ht : JournalWork s t) (hu : JournalWork s u) :
    JournalWork s (if c then t else u) := by
  split
  · exact ht
  · exact hu

theorem inWindow_journalWork {f : State → State} (h : ∀ u, JournalWork u (f u)) (s : State) : JournalWork s (s.inWindow f) := by
  obtain ⟨w, hw⟩ := inWindow_eq s f
  rw [hw]
  exact (h s).trans ⟨rfl⟩

theorem judgeCopies_journalWork (s : State) : JournalWork s s.judgeCopies := JournalWork.of_flt (judgeCopies_flt s)

theorem writeHeader_journalWork (s : State) : JournalWork s s.writeHeader := JournalWork.ite (JournalWork.refl s) ⟨rfl⟩

theorem writePairs_journalWork (s : State) : JournalWork s s.writePairs := ⟨rfl⟩

theorem writePattern_journalWork (s : State) : JournalWork s s.writePattern := JournalWork.ite (JournalWork.refl s) ⟨rfl⟩

theorem writeStatus_journalWork (s : State) : JournalWork s s.writeStatus := JournalWork.ite (JournalWork.refl s) ⟨rfl⟩

theorem writeFallback_journalWork (s : State) : JournalWork s s.writeFallback := JournalWork.ite (JournalWork.refl s) ⟨rfl⟩

theorem pairRecordWrite_journalWork (s : State) : JournalWork s (pairRecordWrite s) :=
  JournalWork.ite ((inWindow_journalWork writePairs_journalWork s).trans (judgeCopies_journalWork _)) ⟨rfl⟩

theorem fallbackWrite_journalWork (s : State) : JournalWork s s.fallbackWrite := by
  unfold State.fallbackWrite
  extract_lets same _ u
  have hu : JournalWork s u := ⟨rfl⟩
  refine JournalWork.ite (hu.trans (JournalWork.ite ?_ (JournalWork.refl u))) (JournalWork.refl s)
  exact (inWindow_journalWork writeFallback_journalWork u).trans (judgeCopies_journalWork _)

/-- Every entry that waits is written, and the queue is empty. -/
theorem flushLog_spec (s : State) : s.flushLog = { s with nv := s.flushLog.nv, flt := { s.flt with logQueue := [] } } := by
  have hfold (l : List LogEntry) (u : State) : l.foldl State.writeLog u = { u with nv := (l.foldl State.writeLog u).nv } := by
    induction l generalizing u with
    | nil => rfl
    | cons e l ih => rw [List.foldl_cons, ih]; rfl
  unfold State.flushLog
  rw [hfold]

/-- The journal window of a round: with TC1 up nothing waits in the log queue after it. -/
theorem writeJournal_spec (s : State) : JournalWork s s.writeJournal ∧ (s.tc1Up = true → s.writeJournal.flt.logQueue = []) := by
  unfold State.writeJournal
  split
  next h => exact ⟨JournalWork.refl s, fun htc => absurd h (by simp [htc])⟩
  next =>
    have hpairs (u : State) : JournalWork u (if u.cls.pack.pairsDue || u.cls.store.pairsDue then u.writeHeader.writePairs else u.writeHeader) :=
      JournalWork.ite ((writeHeader_journalWork u).trans (writePairs_journalWork _)) (writeHeader_journalWork u)
    have hwindow (u : State) : JournalWork u
        (if u.cls.pack.pairsDue || u.cls.store.pairsDue then u.writeHeader.writePairs else u.writeHeader).writePattern.writeStatus.writeFallback :=
      (((hpairs u).trans (writePattern_journalWork _)).trans (writeStatus_journalWork _)).trans (writeFallback_journalWork _)
    have hwritten := (inWindow_journalWork hwindow s).trans (judgeCopies_journalWork _)
    refine ⟨hwritten.trans ⟨?_⟩, fun _ => ?_⟩
    · rw [flushLog_spec]
    · rw [flushLog_spec]

end Sys2Proof.Machine
end

section
/-!
SUPPORT. The park and the ship shut-down (chapter 03): what begins with their grace, and statement O18 from it.
-/
namespace Sys2Proof.Machine

/-! ### What a park or ship shut-down does in its grace (R76, R79) -/

/-- The second state differs from the first in what the grace of a park or ship shut-down may change: the domains with the checkpoint, the
link tests, the memories with their faults, and the fuses with the TAP that reads them. -/
structure GraceWork (s t : State) : Prop where
  frame : t = { s with
    sup := { s.sup with domains := t.sup.domains, p7SelfRefresh := t.sup.p7SelfRefresh }
    img := t.img, thr := t.thr, pat := t.pat, cls := t.cls, lrn := t.lrn, nv := t.nv, flt := t.flt, tst := t.tst }

theorem GraceWork.refl (s : State) : GraceWork s s := ⟨rfl⟩

theorem GraceWork.trans {s t u : State} (h : GraceWork s t) (k : GraceWork t u) : GraceWork s u := ⟨by rw [k.frame, h.frame]⟩

theorem GraceWork.of_flt {s t : State} (h : t = { s with flt := t.flt }) : GraceWork s t := ⟨by rw [h]⟩

theorem GraceWork.ite {s t u : State} {c : Prop} [Decidable c] (ht : GraceWork s t) (hu : GraceWork s u) :
    GraceWork s (if c then t else u) := by
  split
  · exact ht
  · exact hu

theorem JournalWork.graceWork {s t : State} (h : JournalWork s t) : GraceWork s t := ⟨by rw [h.frame]⟩

theorem rollbackCommit_graceWork (s : State) (ok : Bool) : GraceWork s (s.rollbackCommit ok) := by
  unfold State.rollbackCommit
  extract_lets due rv mask _ _ s1
  have h1 : GraceWork s s1 := GraceWork.trans ⟨rfl⟩ (GraceWork.of_flt (clear_flt _ _ _))
  refine GraceWork.ite (GraceWork.refl s) (GraceWork.ite (GraceWork.of_flt (raise_flt _ _ _)) (h1.trans ?_))
  exact GraceWork.of_flt (log_flt _ _ _)

theorem selfAdvance_graceWork (s : State) : GraceWork s s.selfAdvance := GraceWork.ite ⟨rfl⟩ (GraceWork.refl s)

theorem startTests_graceWork (s : State) (kind : TestKind) : GraceWork s (s.startTests kind) := by
  have hfold (l : List Ring) (u : State) : (l.foldl (fun t r => t.openWindow kind r.port) u) =
      { u with thr := (l.foldl (fun t r => t.openWindow kind r.port) u).thr } := by
    induction l generalizing u with
    | nil => rfl
    | cons r l ih => rw [List.foldl_cons, ih]; rfl
  unfold State.startTests
  rw [hfold]
  exact ⟨rfl⟩

theorem parkTest_graceWork (s : State) : GraceWork s s.parkTest := GraceWork.ite (startTests_graceWork s _) (GraceWork.refl s)

theorem checkpointTrigger_graceWork (cause : CkptCause) (s : State) : GraceWork s (checkpointTrigger cause s) :=
  GraceWork.ite (GraceWork.refl s) ⟨rfl⟩

theorem graceCkpt_graceWork (s : State) (wanted : Bool) : GraceWork s (s.graceCkpt wanted) := by
  unfold State.graceCkpt
  extract_lets grace s1
  have h1 : GraceWork s s1 := GraceWork.ite (checkpointTrigger_graceWork _ s) (GraceWork.refl s)
  exact GraceWork.ite (GraceWork.refl s) (h1.trans (GraceWork.ite (GraceWork.refl s1) ⟨rfl⟩))

/-! ### The entry to the grace -/

/-- The entry to the grace of a park shut-down, which keeps in mind whether the seat was owner (R78). -/
def State.enterParkGrace (s : State) (owner : Bool) (at_ : Ns) : State :=
  let u := s.enterGrace .park at_
  { u with sup := { u.sup with parkOwner := owner } }

theorem parkGrace_graceWork (s : State) (ok owner : Bool) (at_ : Ns) : GraceWork (s.enterParkGrace owner at_) (s.parkGrace ok owner at_) := by
  unfold State.parkGrace
  extract_lets s1 _ s2 rolled s3
  have hrolled : GraceWork s2 rolled := GraceWork.ite (rollbackCommit_graceWork s2 ok) (selfAdvance_graceWork s2)
  have h3 : GraceWork rolled s3 := ((fallbackWrite_journalWork rolled).trans (pairRecordWrite_journalWork _)).graceWork
  exact ((hrolled.trans h3).trans (parkTest_graceWork s3)).trans (graceCkpt_graceWork _ true)

theorem shipGrace_graceWork (s : State) (at_ : Ns) : GraceWork (s.enterGrace .ship at_) (s.shipGrace at_) :=
  (parkTest_graceWork _).trans (graceCkpt_graceWork _ true)

theorem shipGrace_entered (s : State) (at_ : Ns) :
    let t := s.shipGrace at_
    t.sup.dev = .grace ∧ t.sup.shut = some ⟨.ship, at_, false, false, false, none, false, s.sup.parkCheck⟩ ∧ t.now = max s.now at_ ∧
    t.cycleOn = false ∧ t.pace = s.pace ∧ t.res = s.res ∧ t.own = s.own := by
  have h := shipGrace_graceWork s at_
  obtain ⟨hentered, hcycle⟩ := enterGrace_spec s .ship at_
  have hcycle' : (s.shipGrace at_).cycleOn = (s.enterGrace .ship at_).cycleOn := by rw [h.frame]; rfl
  rw [hentered] at h
  dsimp only
  rw [hcycle', hcycle, h.frame]
  exact ⟨rfl, rfl, rfl, rfl, rfl, rfl, rfl⟩

theorem parkGrace_entered (s : State) (ok owner : Bool) (at_ : Ns) :
    let t := s.parkGrace ok owner at_
    t.sup.dev = .grace ∧ t.sup.shut = some ⟨.park, at_, false, false, false, none, false, s.sup.parkCheck⟩ ∧ t.sup.parkOwner = owner ∧
    t.now = max s.now at_ ∧ t.cycleOn = false ∧ t.strap = s.strap ∧ t.code = s.code ∧ t.pace = s.pace ∧ t.res = s.res ∧ t.own = s.own := by
  have h := parkGrace_graceWork s ok owner at_
  obtain ⟨hentered, hcycle⟩ := enterGrace_spec s .park at_
  have hcycle' : (s.parkGrace ok owner at_).cycleOn = (s.enterGrace .park at_).cycleOn := by rw [h.frame]; rfl
  rw [State.enterParkGrace, hentered] at h
  dsimp only
  rw [hcycle', hcycle, h.frame]
  exact ⟨rfl, rfl, rfl, rfl, rfl, rfl, rfl, rfl, rfl, rfl⟩

/-! ### The criteria (R75, R79) -/

theorem shipCriterion_of_run {s : State} (hs : s.sup.shipSeenHigh = true) (hd : s.sup.dev = .run) (hr : s.rounds = true)
    (hdec : s.decides = true ∨ s.sup.parkCheck = true) (hl : s.pace.lock = .idle) (hledger : s.res.ledger = []) (at_ : Ns) :
    shipCriterion at_ s = s.shipGrace at_ := by
  simp [shipCriterion, hs, hd, hr, hdec, hl, hledger]

/-- Settles O18: each criterion by the shut-down that it begins. Ship from PARK is log entry 32, what happens in the step of the park criterion
is log entry 40, and that nothing is sealed where no buffer is complete is log entry 28. -/
theorem parkAndShipBeginTheirShutDowns : Obligations.ParkAndShipBeginTheirShutDowns := by
  refine ⟨fun s ok at_ from_ hd hr hc hdec hlock hi hledger hm hv hp hfrom hdwell => ⟨_, rfl, ?_⟩,
    fun s at_ hs hd hr hdec hl hledger => ⟨_, rfl, ?_⟩, fun s at_ hs hd => ⟨_, rfl, ?_⟩, fun s hoff hship => ⟨_, rfl, if_neg (by simp [hoff, hship])⟩⟩
  · have hdwelt : s.parkDwelt at_ = true := by
      simp [State.parkDwelt, State.parkReady, hd, hr, hc, hdec, hlock, hi, hledger, hm, hv, hp, hfrom, hdwell]
    rw [show parkCriterion ok at_ s = s.parkGrace ok true at_ from if_pos hdwelt]
    obtain ⟨hdev, hshut, howner, hnow, hcycle, hstrap, hcode, hpace, hres, hown⟩ := parkGrace_entered s ok true at_
    obtain ⟨hpending, hfuses, -⟩ := State.parkGrace_onward ok true at_ s
    exact ⟨hdev, hshut, howner, hnow, hcycle, hpending, hfuses, hstrap, hcode, hpace, hres, hown⟩
  · have hfixed := shipCriterion_fixed at_ s
    rw [shipCriterion_of_run hs hd hr hdec hl hledger] at hfixed ⊢
    obtain ⟨hdev, hshut, hnow, hcycle, hpace, hres, hown⟩ := shipGrace_entered s at_
    exact ⟨hdev, hshut, hnow, hcycle, hfixed, hpace, hres, hown⟩
  · have hfixed := shipCriterion_fixed at_ s
    let s1 : State := { s with sup := { s.sup with
      dev := .seal, shut := some ⟨.ship, at_, true, true, false, none, false, false⟩ } }
    rw [show shipCriterion at_ s = s1.startSeal .ship at_ by simp [shipCriterion, hs, hd, s1]] at hfixed ⊢
    obtain ⟨hframe, hseal⟩ := startSeal_spec s1 .ship at_
    refine ⟨?_, ?_, hseal, ?_, hfixed⟩
    · rw [hframe]
    · rw [hframe]; rfl
    · rw [hframe]

end Sys2Proof.Machine
end

section
/-!
SUPPORT. The seal at the end of a shut-down (chapters 03 and 16): the freeze that starts it, the area that it goes to, what the device does
after it, and statement O16 from them.
-/
namespace Sys2Proof.Machine

/-! ### The freeze (R71, R72) -/

/-- The freeze step up to its seal: the final seal buffer, where TC0 is up to write it, and zero power on the CAP pins. -/
def State.frozenAt (s : State) (at_ : Ns) : State :=
  let u := if (s.at at_).tc0Up then (s.at at_).writeSealBuf else s.at at_
  { u with pow := { u.pow with frozen := true, zeroD := true, zeroC := true } }

theorem frozenAt_spec (s : State) (at_ : Ns) :
    let u := s.frozenAt at_
    u = { s with now := max s.now at_, bufs := u.bufs, pow := { s.pow with frozen := true, zeroD := true, zeroC := true } } ∧
    u.bufs.writing = s.bufs.writing ∧ (s.tc0Up = false → u.bufs = s.bufs) := by
  have htc : (s.at at_).tc0Up = s.tc0Up := rfl
  unfold State.frozenAt
  rw [htc]
  cases h : s.tc0Up with
  | false => exact ⟨rfl, rfl, fun _ => rfl⟩
  | true =>
    refine ⟨rfl, ?_, fun hf => Bool.noConfusion hf⟩
    simp only [if_true, State.writeSealBuf]
    split <;> rfl

section
variable {s : State} {h : Shutdown} (hd : s.sup.dev = .grace) (hs : s.sup.shut = some h) (ho : h.graceOver = true)
include hd hs ho

theorem freeze_of_sealing (hr : h.returned = false ∨ h.kind ≠ .supply) (at_ : Ns) :
    freeze at_ s =
      ({ s.frozenAt at_ with sup := { (s.frozenAt at_).sup with dev := .seal } } : State).startSeal (sealKindOf h.kind) at_ := by
  have hnot : (h.returned && h.kind == ShutKind.supply) = false := by
    rcases hr with hr | hr <;> simp [hr]
  simp only [freeze, hd, hs, ho, hnot, Bool.not_true, Bool.false_eq_true, if_false]
  rfl

theorem freeze_of_returned (hr : h.returned = true) (hk : h.kind = .supply) (at_ : Ns) : freeze at_ s = (s.frozenAt at_).abortGrace true at_ := by
  simp only [freeze, hd, hs, ho, hr, hk, Bool.not_true, Bool.false_eq_true, if_false, beq_self_eq_true, Bool.and_self, if_true]
  rfl

end

/-! ### The area of a completed seal (R411) -/

/-- A seal goes to its target area, and leaves the other one. -/
def SealPlaced (n : NonVol) (x : Seal) (m : NonVol) : Prop :=
  (if n.sealTarget then m.seal1 else m.seal0) = some x ∧ (if n.sealTarget then m.seal0 = n.seal0 else m.seal1 = n.seal1)

theorem putSeal_sealPlaced (n : NonVol) (x : Seal) : SealPlaced n x (n.putSeal (some x)) := by
  unfold SealPlaced NonVol.putSeal
  split <;> exact ⟨rfl, rfl⟩

theorem SealPlaced.of_areas {n m m' : NonVol} {x : Seal} (h : SealPlaced n x m) (h0 : m'.seal0 = m.seal0) (h1 : m'.seal1 = m.seal1) :
    SealPlaced n x m' := by
  unfold SealPlaced
  rw [h0, h1]
  exact h

theorem endSeal_of_writing {s : State} {x : Seal} (h : s.bufs.writing = some x) :
    s.endSeal = { s with bufs := { s.bufs with writing := none }, nv := s.nv.putSeal (some x) } := by
  simp only [State.endSeal, h]

/-! ### After the seal (R62, R69, R71, R76, R79) -/

theorem restoreInPlace_frame (s : State) (at_ : Ns) : s.restoreInPlace at_ = { s with cls := (s.restoreInPlace at_).cls } := by
  unfold State.restoreInPlace
  split <;> rfl

/-- What follows a completed seal where RUN does not go on in place; the device is powered down. -/
def State.afterSeal (s : State) (h : Shutdown) (at_ : Ns) : State :=
  let plain : State := { s with sup := { s.sup with resume := if h.returned then some .otherWarm else none } }
  if h.lateLoss then plain
  else match h.kind with
    | .supply => plain
    | .park => ({ s with nv := { s.nv with parks := s.nv.parks + 1 } } : State).enterPark h.wake at_
    | .parkCheckEnd => s.enterPark h.wake at_
    | .ship => s.enterShip h.wake
    | .rail => s.afterRail h.fromParkCheck h.wake at_

/-- What the way from the power-down to PARK, SHIP or a boot leaves as it is: the rails, the pace, the links and the seals. -/
structure StaysOff (s t : State) : Prop where
  frame : t = { s with
    own := t.own, acq := t.acq, res := t.res, flt := t.flt
    sup := { s.sup with
      dev := t.sup.dev, bootStep := t.sup.bootStep, held112 := t.sup.held112, p1 := t.sup.p1, parkTimerFrom := t.sup.parkTimerFrom
      shipSeenHigh := t.sup.shipSeenHigh, resume := t.sup.resume }
    nv := { s.nv with parks := t.nv.parks } }

theorem enterPark_spec (s : State) (wake : Option WakeCause) (at_ : Ns) :
    let t := s.enterPark wake at_
    StaysOff s t ∧ t.sup.dev = .park ∧ t.sup.parkTimerFrom = at_ ∧ t.sup.resume = (wake.map fun _ => BootKind.parkWake) ∧ t.nv = s.nv := by
  have hcut := releaseCut_eq s
  unfold State.enterPark
  generalize s.releaseCut = u at hcut ⊢
  dsimp only
  rw [hcut]
  exact ⟨⟨rfl⟩, rfl, rfl, by cases wake <;> rfl, rfl⟩

theorem enterShip_spec (s : State) (wake : Option WakeCause) :
    let t := s.enterShip wake
    StaysOff s t ∧ t.sup.dev = .ship ∧ t.sup.p1 = false ∧ t.res = Reserve.cold := by
  have hcut := releaseCut_eq s
  unfold State.enterShip
  generalize s.releaseCut = u at hcut ⊢
  dsimp only
  rw [hcut]
  exact ⟨⟨rfl⟩, rfl, rfl, rfl⟩

/-- The third rail loss within 600 s holds the device in BOOT (R62). -/
theorem afterRail_of_third {s : State} (h3 : 3 ≤ s.sup.railLosses.length) (fromCheck : Bool) (wake : Option WakeCause) (at_ : Ns) :
    let t := s.afterRail fromCheck wake at_
    StaysOff s t ∧ t.sup.dev = .boot ∧ t.sup.held112 = true ∧ t.flt.stands 0x112 0 = true ∧ t.flt.pin = 7 ∧ t.flt.safeN = false := by
  unfold State.afterRail
  rw [if_pos h3]
  refine ⟨⟨?_⟩, by simp, by simp, ?_, rfl, rfl⟩
  · rw [setPins_flt, raise_flt]
  · rw [setPins_stands]
    exact raise_stands _ _ _

theorem afterSeal_staysOff (s : State) (h : Shutdown) (at_ : Ns) : StaysOff s (s.afterSeal h at_) := by
  unfold State.afterSeal
  extract_lets _ plain
  have hplain : StaysOff s plain := ⟨rfl⟩
  have hpark (v : State) (hv : StaysOff s v) (wake : Option WakeCause) : StaysOff s (v.enterPark wake at_) := by
    obtain ⟨hstays, -⟩ := enterPark_spec v wake at_
    exact ⟨by rw [hstays.frame, hv.frame]⟩
  split
  · exact hplain
  · split
    · exact hplain
    · exact hpark _ ⟨rfl⟩ _
    · exact hpark _ ⟨rfl⟩ _
    · exact (enterShip_spec s _).1
    · by_cases h3 : 3 ≤ s.sup.railLosses.length
      · exact (afterRail_of_third h3 _ _ _).1
      · unfold State.afterRail
        rw [if_neg h3]
        split
        · exact hpark _ ⟨rfl⟩ _
        · exact ⟨rfl⟩

section
variable {s : State} {h : Shutdown} {x : Seal} (hd : s.sup.dev = .seal) (hs : s.sup.shut = some h)
include hd hs

theorem sealComplete_in_place (hin : h.kind = .supply ∧ h.returned = true ∧ s.sup.corePg = true) (at_ : Ns) :
    sealComplete at_ s = (s.at at_).endSeal.resumeHere at_ := by
  obtain ⟨hk, hr, hpg⟩ := hin
  have hpg' : (s.at at_).endSeal.sup.corePg = true := hpg
  simp [sealComplete, hd, hs, hk, hr, hpg']

theorem sealComplete_powered_down (hout : ¬ (h.kind = .supply ∧ h.returned = true ∧ s.sup.corePg = true)) (at_ : Ns) :
    sealComplete at_ s = (s.at at_).endSeal.powerDown.afterSeal h at_ := by
  have hpg' : (s.at at_).endSeal.sup.corePg = s.sup.corePg := rfl
  have hnot : (h.kind == ShutKind.supply && h.returned && (s.at at_).endSeal.sup.corePg) = false := by
    rw [← Bool.not_eq_true, hpg']
    simpa [and_assoc] using hout
  simp only [sealComplete, hd, hs, hnot, Bool.false_eq_true, if_false]
  rfl

end

theorem afterSeal_plain {s : State} {h : Shutdown} (hp : h.lateLoss = true ∨ h.kind = .supply) (at_ : Ns) :
    s.afterSeal h at_ = { s with sup := { s.sup with resume := if h.returned then some .otherWarm else none } } := by
  unfold State.afterSeal
  by_cases hl : h.lateLoss = true
  · exact if_pos hl
  · simp only [if_neg hl, hp.resolve_left hl]

theorem afterSeal_rail {s : State} {h : Shutdown} (hl : h.lateLoss = false) (hk : h.kind = .rail) (at_ : Ns) :
    s.afterSeal h at_ = s.afterRail h.fromParkCheck h.wake at_ := by
  simp only [State.afterSeal, hl, hk, Bool.false_eq_true, if_false]

/-- Where the device goes after the seal, by the kind of the shut-down. -/
theorem afterSeal_spec (s : State) (h : Shutdown) (at_ : Ns) :
    let t := s.afterSeal h at_
    (h.lateLoss = true ∨ h.kind = .supply → t.sup.dev = s.sup.dev ∧ t.sup.resume = if h.returned then some .otherWarm else none) ∧
    (h.lateLoss = false → h.kind = .park → t.sup.dev = .park ∧ t.sup.parkTimerFrom = at_ ∧ t.nv.parks = s.nv.parks + 1 ∧
      t.sup.resume = h.wake.map fun _ => BootKind.parkWake) ∧
    (h.lateLoss = false → h.kind = .parkCheckEnd → t.sup.dev = .park ∧ t.nv.parks = s.nv.parks) ∧
    (h.lateLoss = false → h.kind = .ship → t.sup.dev = .ship ∧ t.sup.p1 = false ∧ t.res = Reserve.cold) ∧
    (h.lateLoss = false → h.kind = .rail → h.fromParkCheck = false → s.sup.railLosses.length < 3 →
      t.sup.dev = s.sup.dev ∧ t.sup.resume = some .otherWarm) ∧
    (h.lateLoss = false → h.kind = .rail → h.fromParkCheck = true → s.sup.railLosses.length < 3 →
      t.sup.dev = .park ∧ t.sup.resume = h.wake.map fun _ => BootKind.parkWake) ∧
    (h.lateLoss = false → h.kind = .rail → 3 ≤ s.sup.railLosses.length →
      t.sup.dev = .boot ∧ t.sup.held112 = true ∧ t.flt.stands 0x112 0 = true ∧ t.flt.pin = 7 ∧ t.flt.safeN = false) := by
  refine ⟨fun hp => ?_, fun hl hk => ?_, fun hl hk => ?_, fun hl hk => ?_, fun hl hk hc hn => ?_, fun hl hk hc hn => ?_, fun hl hk hn => ?_⟩
  · rw [afterSeal_plain hp]
    exact ⟨rfl, rfl⟩
  · obtain ⟨-, hdev, htimer, hres, hnv⟩ := enterPark_spec { s with nv := { s.nv with parks := s.nv.parks + 1 } } h.wake at_
    simp only [State.afterSeal, hl, hk, Bool.false_eq_true, if_false]
    exact ⟨hdev, htimer, by rw [hnv], hres⟩
  · obtain ⟨-, hdev, -, -, hnv⟩ := enterPark_spec s h.wake at_
    simp only [State.afterSeal, hl, hk, Bool.false_eq_true, if_false]
    exact ⟨hdev, by rw [hnv]⟩
  · obtain ⟨-, hship⟩ := enterShip_spec s h.wake
    simp only [State.afterSeal, hl, hk, Bool.false_eq_true, if_false]
    exact hship
  · rw [afterSeal_rail hl hk, hc, State.afterRail, if_neg (by omega), if_neg (by decide)]
    exact ⟨rfl, rfl⟩
  · obtain ⟨-, hdev, -, hres, -⟩ := enterPark_spec s h.wake at_
    rw [afterSeal_rail hl hk, hc, State.afterRail, if_neg (by omega), if_pos rfl]
    exact ⟨hdev, hres⟩
  · rw [afterSeal_rail hl hk]
    exact (afterRail_of_third hn _ _ _).2

/-- Settles O16: the freeze by whether the supply has returned, the completed seal by its area, and what follows it by the kind of the
shut-down. The device state after the power-off is log entry 147, the seal write that starts in the freeze step is log entry 27, and that nothing
is sealed where no buffer is complete is log entry 28. -/
theorem sealIsWrittenAndPowersDown : Obligations.SealIsWrittenAndPowersDown := by
  refine ⟨fun s at_ h hd hs ho => ⟨fun hr => ⟨_, rfl, ?_⟩, fun hr hk => ⟨_, rfl, ?_⟩⟩, fun s at_ h x hd hs hx => ?_⟩
  · have hfixed := freeze_fixed at_ s
    obtain ⟨hfreeze, hwriting, hbufs⟩ := frozenAt_spec s at_
    rw [freeze_of_sealing hd hs ho hr] at hfixed ⊢
    generalize s.frozenAt at_ = u at hfreeze hbufs hfixed ⊢
    obtain ⟨hframe, hseal⟩ := startSeal_spec { u with sup := { u.sup with dev := .seal } } (sealKindOf h.kind) at_
    have hnewest : (({ u with sup := { u.sup with dev := .seal } } : State).startSeal (sealKindOf h.kind) at_).bufs.newest = u.bufs.newest := by
      rw [hframe]; rfl
    refine ⟨?_, ?_, ?_, ?_, fun htc => ?_, hfixed, ?_⟩
    · rw [hframe, hfreeze]
    · rw [hframe, hfreeze]; simp
    · rw [hframe, hfreeze]
    · rw [hnewest]; exact hseal
    · rw [hnewest, hbufs htc]
    · rw [hframe, hfreeze]
  · have hfixed := freeze_fixed at_ s
    obtain ⟨hfreeze, hwriting, -⟩ := frozenAt_spec s at_
    rw [freeze_of_returned hd hs ho hr hk] at hfixed ⊢
    obtain ⟨hsup, -, h120, -, hpow, hframe⟩ := abortGrace_of_return (s.frozenAt at_) at_
    refine ⟨by rw [hsup], by rw [hsup], ?_, h120, ?_, hfixed⟩
    · rw [hpow, hfreeze]
    · rw [hframe]; exact hwriting
  · have hend := endSeal_of_writing (s := s.at at_) hx
    have hfixed := sealComplete_fixed at_ s
    refine ⟨fun hin => ⟨_, rfl, ?_⟩, fun hout => ⟨_, rfl, ?_⟩⟩
    · rw [sealComplete_in_place hd hs hin, State.resumeHere, hend] at hfixed ⊢
      rw [restoreInPlace_frame] at hfixed ⊢
      exact ⟨rfl, putSeal_sealPlaced s.nv x, hfixed⟩
    · rw [sealComplete_powered_down hd hs hout] at hfixed ⊢
      have hstays := afterSeal_staysOff (s.at at_).endSeal.powerDown h at_
      obtain ⟨hplain, hpark, hcheck, hship, hrail, hrailCheck, hthird⟩ := afterSeal_spec (s.at at_).endSeal.powerDown h at_
      have hnv : (s.at at_).endSeal.powerDown.nv = s.nv.putSeal (some x) := by rw [hend]; rfl
      have hparks : (s.at at_).endSeal.powerDown.nv.parks = s.nv.parks := by
        rw [hnv, NonVol.putSeal]; split <;> rfl
      rw [hparks] at hpark hcheck
      refine ⟨?_, ?_, ?_, ?_, ?_, ?_, ?_, hfixed, hplain, hpark, hcheck, hship, hrail, hrailCheck, hthird⟩
      · refine (putSeal_sealPlaced s.nv x).of_areas ?_ ?_ <;> rw [← hnv, hstays.frame]
      all_goals rw [hstays.frame]; rfl

end Sys2Proof.Machine
end

section
/-!
SUPPORT. Stitch 62 (chapters 12, 16 and 17): what the frames of CANA, the ROUND pages and the refill of the fault table leave alone, and
statement O33 from them.
-/
namespace Sys2Proof.Machine

/-! ### Queued frames (R423, R425) -/

/-- The second state differs from the first in the output links and the fault table, and holds the same core pairs in reset. -/
structure LinkWork (s t : State) : Prop where
  frame : t = { s with out := t.out, flt := t.flt }
  tcDown : t.flt.tcDown = s.flt.tcDown

theorem LinkWork.refl (s : State) : LinkWork s s := ⟨rfl, rfl⟩

theorem LinkWork.trans {s t u : State} (h : LinkWork s t) (k : LinkWork t u) : LinkWork s u :=
  ⟨by rw [k.frame, h.frame], k.tcDown.trans h.tcDown⟩

theorem LinkWork.ite {s t u : State} {c : Prop} [Decidable c] (ht : LinkWork s t) (hu : LinkWork s u) : LinkWork s (if c then t else u) := by
  split
  · exact ht
  · exact hu

theorem LinkWork.tc0Up {s t : State} (h : LinkWork s t) : t.tc0Up = s.tc0Up := by rw [State.tc0Up, h.tcDown]; rfl

theorem raise_linkWork (s : State) (c d : Nat) : LinkWork s (s.raise c d) := by
  refine ⟨?_, raise_tcDown s c d⟩
  rw [raise_flt]

theorem queueFrame_linkWork (s : State) (b second : Bool) (kind role : Nat) (word : BitVec 24) (round : Round) (payload : List Byte) :
    LinkWork s (s.queueFrame b second kind role word round payload) := by
  unfold State.queueFrame
  extract_lets x frame y s1
  have h1 : LinkWork s s1 := ⟨rfl, rfl⟩
  exact LinkWork.ite (h1.trans (raise_linkWork s1 _ _)) h1

theorem sendFault_linkWork (s : State) : LinkWork s s.sendFault := (queueFrame_linkWork s _ _ _ _ _ _ _).trans ⟨rfl, rfl⟩

theorem sendCanA_linkWork (s : State) (began : Bool × Bool) : LinkWork s (s.sendCanA began) := by
  unfold State.sendCanA
  extract_lets u half grace first dueS dueF ev period s1 s2
  have hu : LinkWork s u := ⟨rfl, rfl⟩
  have h1 : LinkWork u s1 := LinkWork.ite (queueFrame_linkWork u _ _ _ _ _ _ _) (LinkWork.refl u)
  have h2 : LinkWork s1 s2 := LinkWork.ite (sendFault_linkWork s1) (LinkWork.refl s1)
  exact LinkWork.ite hu (((hu.trans h1).trans h2).trans ⟨rfl, rfl⟩)

theorem queueRound_linkWork (s : State) : LinkWork s s.queueRound := by
  unfold State.queueRound
  split
  · exact LinkWork.refl s
  · exact LinkWork.ite (LinkWork.refl s) ⟨rfl, rfl⟩

theorem refillTable_linkWork (n : Nat) (s : State) : LinkWork s (State.refillTable n s) := by
  induction n generalizing s with
  | zero => exact LinkWork.refl s
  | succ n ih =>
    unfold State.refillTable
    split
    · exact LinkWork.refl s
    · split
      · refine LinkWork.trans ?_ (ih _)
        exact ⟨rfl, rfl⟩
      · exact LinkWork.refl s

/-! ### The seal buffers (R64) -/

theorem writeSealBuf_latest (s : State) : s.writeSealBuf.bufs.latest = !s.bufs.latest := by
  unfold State.writeSealBuf
  cases s.bufs.latest <;> simp

theorem writeSealBuf_newest (s : State) : s.writeSealBuf.bufs.newest = some s.sealBuf := by
  unfold State.writeSealBuf SealBufs.newest
  cases s.bufs.latest <;> simp

theorem writeSealBuf_frame (s : State) : s.writeSealBuf = { s with bufs := s.writeSealBuf.bufs } := rfl

/-! ### Publication (R306) -/

theorem formPublished_frame (s : State) : s.formPublished = { s with seam := s.formPublished.seam, cls := s.formPublished.cls } := rfl

theorem formPublished_pub (s : State) : (s.formPublished.seam.pub.map fun p => (p.snap, p.t)) = some (s.pace.round - 1, s.acq.prevT) := rfl

/-- The set that TC0 publishes at stitch 62, unless the device took up its rounds in this one. -/
def State.publishSet (s : State) : State := if s.tc0Up && !(s.own.since == s.pace.round) then s.formPublished else s

/-- What TC0 does after the frames: the pages fall due, and the other seal buffer is completed. -/
def State.completeBuf (s : State) : State := if s.tc0Up then s.queueRound.writeSealBuf else s

theorem publishSet_frame (s : State) : s.publishSet = { s with seam := s.publishSet.seam, cls := s.publishSet.cls } := by
  unfold State.publishSet
  split
  · rw [formPublished_frame]
  · rfl

theorem completeBuf_spec (s : State) :
    let t := s.completeBuf
    t = { s with bufs := t.bufs, out := t.out, flt := t.flt } ∧ t.flt.tcDown = s.flt.tcDown ∧
    (s.tc0Up = true → t.bufs.latest = !s.bufs.latest ∧ t.bufs.newest.map (fun x => x.round) = some s.pace.round) ∧
    (s.tc0Up = false → t.bufs = s.bufs) := by
  have hpages := queueRound_linkWork s
  unfold State.completeBuf
  split
  next h =>
    refine ⟨?_, hpages.tcDown, fun _ => ⟨?_, ?_⟩, fun hf => absurd h (by simp [hf])⟩
    · rw [writeSealBuf_frame, hpages.frame]
    · rw [writeSealBuf_latest, hpages.frame]
    · rw [writeSealBuf_newest, hpages.frame]; rfl
  next h => exact ⟨rfl, rfl, fun ht => absurd ht h, fun _ => rfl⟩

/-- Settles O33: the refill, the set, the frames of CANA, the seal buffer and the journal one after another. That a round has one publication
is log entry 122. -/
theorem publicationAtStitch62 : Obligations.PublicationAtStitch62 := by
  intro s a b hr hst hf hp
  refine ⟨_, rfl, ?_⟩
  have hfixed := publication_fixed a b s
  have ht : publication a b s = (((State.refillTable 256 s).publishSet.sendCanA (a, b)).completeBuf).writeJournal := by
    unfold publication
    rw [if_neg (by simp [hr, hst, hf, hp])]
    rfl
  rw [ht] at hfixed ⊢
  have h1 := refillTable_linkWork 256 s
  generalize State.refillTable 256 s = s1 at h1 hfixed ⊢
  have h2 := publishSet_frame s1
  have hset : s1.tc0Up = true → s1.own.since ≠ s1.pace.round →
      (s1.publishSet.seam.pub.map fun p => (p.snap, p.t)) = some (s1.pace.round - 1, s1.acq.prevT) := by
    intro htc hsince
    rw [State.publishSet, if_pos (by simp [htc, hsince]), formPublished_pub]
  generalize s1.publishSet = s2 at h2 hset hfixed ⊢
  have h3 := sendCanA_linkWork s2 (a, b)
  generalize s2.sendCanA (a, b) = s3 at h3 hfixed ⊢
  obtain ⟨h4, hdown, hbufs, hkept⟩ := completeBuf_spec s3
  generalize s3.completeBuf = s4 at h4 hdown hbufs hkept hfixed ⊢
  obtain ⟨h5, hqueue⟩ := writeJournal_spec s4
  have hdown2 : s2.flt.tcDown = s1.flt.tcDown := by rw [h2]
  have hdown3 : s3.flt.tcDown = s.flt.tcDown := (h3.tcDown.trans hdown2).trans h1.tcDown
  have htc0 : s3.tc0Up = s.tc0Up := by rw [State.tc0Up, hdown3]; rfl
  have htc1 : s4.tc1Up = s.tc1Up := by rw [State.tc1Up, hdown, hdown3]; rfl
  have hown : s1.own = s.own := by rw [h1.frame]
  have hpace1 : s1.pace = s.pace := by rw [h1.frame]
  have hacq : s1.acq = s.acq := by rw [h1.frame]
  have hpace3 : s3.pace = s.pace := by rw [h3.frame, h2, h1.frame]
  have hbufs3 : s3.bufs = s.bufs := by rw [h3.frame, h2, h1.frame]
  rw [htc0, hpace3, hbufs3] at hbufs
  rw [htc0, hbufs3] at hkept
  rw [h1.tc0Up, hown, hpace1, hacq] at hset
  rw [htc1] at hqueue
  generalize s4.writeJournal = t at h5 hqueue hfixed ⊢
  have hseam : t.seam = s2.seam := by rw [h5.frame, h4, h3.frame]
  have hbufs5 : t.bufs = s4.bufs := by rw [h5.frame]
  have hframe : t = { s with
      bufs := t.bufs, img := t.img, cls := t.cls, seam := t.seam, out := t.out, nv := t.nv, flt := t.flt } := by
    rw [h5.frame, h4, h3.frame, h2, h1.frame]
  dsimp only
  rw [hseam, hbufs5]
  refine ⟨hset, hbufs, hkept, hqueue, hfixed, ?_, ?_, ?_, ?_⟩ <;> rw [hframe]

end Sys2Proof.Machine
end

section
/-!
SUPPORT. The start of a cold boot (chapters 02 and 03): the pins outside RUN and GRACE, what a fold of raises leaves standing, the latched
straps and codes, and statement O11 from them.
-/
namespace Sys2Proof.Machine

/-! ### The pins outside RUN and GRACE (Table 18-2) -/

/-- The fault pins are the same in both states, and both are in the same device state. -/
structure SamePins (s t : State) : Prop where
  sup : t.sup = s.sup
  pin : t.flt.pin = s.flt.pin
  safeN : t.flt.safeN = s.flt.safeN

theorem SamePins.trans {s t u : State} (h : SamePins s t) (k : SamePins t u) : SamePins s u :=
  ⟨k.sup.trans h.sup, k.pin.trans h.pin, k.safeN.trans h.safeN⟩

theorem pinsUp_of_idle {s : State} (hc : s.sup.parkCheck = false) (hr : s.sup.dev ≠ .run) (hg : s.sup.dev ≠ .grace) : s.pinsUp = s := by
  simp [State.pinsUp, hc, hr, hg]

theorem raiseOverflow_samePins (s : State) (c : Nat) : SamePins s (s.raiseOverflow c) := by
  unfold State.raiseOverflow
  split <;> exact ⟨rfl, rfl, rfl⟩

theorem pinsUp_samePins {s : State} (hc : s.sup.parkCheck = false) (hr : s.sup.dev ≠ .run) (hg : s.sup.dev ≠ .grace) :
    SamePins s s.pinsUp := by
  rw [pinsUp_of_idle hc hr hg]
  exact ⟨rfl, rfl, rfl⟩

theorem raise_samePins {s : State} (hc : s.sup.parkCheck = false) (hr : s.sup.dev ≠ .run) (hg : s.sup.dev ≠ .grace) (c d : Nat) :
    SamePins s (s.raise c d) := by
  unfold State.raise State.raiseInst
  split
  · exact ⟨rfl, rfl, rfl⟩
  · split
    · refine SamePins.trans ?_ (pinsUp_samePins ?_ ?_ ?_)
      · exact ⟨rfl, rfl, rfl⟩
      all_goals assumption
    · refine SamePins.trans (SamePins.trans ?_ (raiseOverflow_samePins _ _)) (pinsUp_samePins ?_ ?_ ?_)
      · exact ⟨rfl, rfl, rfl⟩
      all_goals rw [raiseOverflow_sup]; assumption

theorem clear_samePins (s : State) (c d : Nat) : SamePins s (s.clear c d) := by
  unfold State.clear
  dsimp only
  split
  · exact ⟨rfl, rfl, rfl⟩
  · split <;> exact ⟨rfl, rfl, rfl⟩

theorem judge_samePins {s : State} (hc : s.sup.parkCheck = false) (hr : s.sup.dev ≠ .run) (hg : s.sup.dev ≠ .grace) (c d : Nat) (p : Bool) :
    SamePins s (s.judge c d p) := by
  unfold State.judge
  split
  · exact raise_samePins hc hr hg c d
  · exact clear_samePins s c d

theorem judgeCopies_samePins {s : State} (hc : s.sup.parkCheck = false) (hr : s.sup.dev ≠ .run) (hg : s.sup.dev ≠ .grace) :
    SamePins s s.judgeCopies := by
  unfold State.judgeCopies
  extract_lets l
  have h1 := judge_samePins hc hr hg 0x935 0 (l.any fun n => n == 1)
  refine h1.trans (judge_samePins ?_ ?_ ?_ _ _ _) <;> rw [h1.sup] <;> assumption

theorem judgeCopies_sameFaults (s : State) : SameFaults [0x935, 0x936] s s.judgeCopies :=
  (judge_sameFaults (by decide) s 0 _).trans (judge_sameFaults (by decide) _ 0 _)

/-! ### Steps that only raise faults (R448) -/

/-- Only the faults differ, and what stood still stands. -/
structure OnlyRaises (s t : State) : Prop where
  flt : t = { s with flt := t.flt }
  stands : ∀ c d, s.flt.stands c d = true → t.flt.stands c d = true

theorem OnlyRaises.refl (s : State) : OnlyRaises s s := ⟨rfl, fun _ _ h => h⟩

theorem OnlyRaises.trans {s t u : State} (h : OnlyRaises s t) (k : OnlyRaises t u) : OnlyRaises s u :=
  ⟨by rw [k.flt, h.flt], fun c d hs => k.stands c d (h.stands c d hs)⟩

theorem raiseInst_onlyRaises (s : State) (i : FaultInst) : OnlyRaises s (s.raiseInst i) := ⟨raiseInst_flt s i, raiseInst_stands_of s i⟩

theorem raise_onlyRaises (s : State) (c d : Nat) : OnlyRaises s (s.raise c d) := raiseInst_onlyRaises s _

theorem OnlyRaises.ite {s t u : State} (ht : OnlyRaises s t) (hu : OnlyRaises s u) (p : Prop) [Decidable p] :
    OnlyRaises s (if p then t else u) := by
  split
  · exact ht
  · exact hu

theorem foldl_onlyRaises {α : Type} {f : State → α → State} (h : ∀ u a, OnlyRaises u (f u a)) (l : List α) (s : State) :
    OnlyRaises s (l.foldl f s) := by
  induction l generalizing s with
  | nil => exact .refl s
  | cons a l ih => exact (h s a).trans (ih (f s a))

/-- What the step of one element raises stands after the fold. -/
theorem foldl_stands_of_mem {α : Type} {f : State → α → State} (h : ∀ u a, OnlyRaises u (f u a)) {a : α} {l : List α} (ha : a ∈ l)
    {c d : Nat} (s : State) (hraise : ∀ u, OnlyRaises s u → (f u a).flt.stands c d = true) : (l.foldl f s).flt.stands c d = true := by
  obtain ⟨l1, l2, rfl⟩ := List.append_of_mem ha
  rw [List.foldl_append, List.foldl_cons]
  exact (foldl_onlyRaises h l2 _).stands c d (hraise _ (foldl_onlyRaises h l1 s))

/-! ### The start of a cold boot (R65, R67) -/

/-- A cold boot up to its two judgements: reset but for what is kept without power, with the time base of the newest seal. -/
def State.bootedCold (s : State) (cutsHigh : Bool) : State :=
  let held := s.nv.dieCheck.newestSeal.map fun x => x.2
  { s.dead with
    now := (held.map fun x => x.t).getD 0, nv := s.nv.dieCheck.load, sup := { Supply.cold with dev := .boot }
    lrn := { Learned.empty with fray := s.nv.dieCheck.load.fray }
    pat := { Pattern.cold with runTicks := s.pat.runTicks, periodicDue := s.pat.periodicDue }
    own := { Ownership.cold with cut := s.own.cut && !cutsHigh } }

theorem coldBoot_of_off {s : State} (h : s.sup.dev = .off) (cutsHigh : Bool) :
    coldBoot cutsHigh s =
      ((s.bootedCold cutsHigh).raise (if (s.nv.dieCheck.newestSeal.map fun x => x.2).isSome then 0x123 else 0x122) 0).judgeCopies :=
  if_neg (by simp [h])

theorem coldBoot_spec {s : State} (h : s.sup.dev = .off) (cutsHigh : Bool) :
    let c := if (s.nv.dieCheck.newestSeal.map fun x => x.2).isSome then 0x123 else 0x122
    let t := coldBoot cutsHigh s
    t = { s.bootedCold cutsHigh with flt := t.flt } ∧ t.flt.stands c 0 = true ∧ t.flt.safeN = false ∧ t.flt.pin = 0 := by
  intro c
  have hc : c = 0x123 ∨ c = 0x122 := by
    simp only [c]; split
    · exact .inl rfl
    · exact .inr rfl
  have hraised := raise_samePins (s := s.bootedCold cutsHigh) rfl nofun nofun c 0
  have hjudged : SamePins ((s.bootedCold cutsHigh).raise c 0) ((s.bootedCold cutsHigh).raise c 0).judgeCopies :=
    judgeCopies_samePins (by rw [hraised.sup]; rfl) (by rw [hraised.sup]; nofun) (by rw [hraised.sup]; nofun)
  have hpins := hraised.trans hjudged
  rw [coldBoot_of_off h]
  refine ⟨?_, ?_, hpins.safeN, hpins.pin⟩
  · rw [judgeCopies_flt, raise_flt]
  · rw [judgeCopies_sameFaults _ c 0 (by rcases hc with h | h <;> rw [h] <;> decide) (by rcases hc with h | h <;> rw [h] <;> decide)]
    exact raise_stands _ c 0

/-! ### The straps (R33, R468) -/

theorem latchLevels_get (x : StrapSamples) (k : Strap) : (latchLevels x).get k = majority (x.get k) := by cases k <;> rfl

theorem get_length_of_wf {x : StrapSamples} (h : x.wf = true) (k : Strap) : (x.get k).length = 5 := by
  simp only [StrapSamples.wf, hasLength, Bool.and_eq_true, beq_iff_eq] at h
  obtain ⟨⟨⟨⟨⟨h1, h2⟩, h3⟩, h4⟩, h5⟩, h6⟩ := h
  cases k <;> assumption

theorem majority_of_five {l : List Bool} (h : l.length = 5) : majority l = decide (3 ≤ l.countP id) := by
  unfold majority
  rw [h]
  congr 1
  exact propext (by omega)

/-- The fault of a strap whose samples differ, of the class that a seat strap or another has. -/
def State.raiseSplit (s : State) (k : Strap) : State :=
  if k == Strap.seat1 || k == Strap.seat0 then s.raiseHigh 0x960 (strapDetail k) else s.raise 0x960 (strapDetail k)

theorem raiseSplit_eq (s : State) (k : Strap) : ∃ i : FaultInst, i.code = 0x960 ∧ i.detail = strapDetail k ∧ s.raiseSplit k = s.raiseInst i := by
  unfold State.raiseSplit
  split
  · exact ⟨⟨0x960, strapDetail k, true⟩, rfl, rfl, rfl⟩
  · exact ⟨⟨0x960, strapDetail k, false⟩, rfl, rfl, rfl⟩

theorem raiseSplit_onlyRaises (s : State) (k : Strap) : OnlyRaises s (s.raiseSplit k) := by
  obtain ⟨i, -, -, hi⟩ := raiseSplit_eq s k
  rw [hi]
  exact raiseInst_onlyRaises s i

theorem raiseSplit_stands (s : State) (k : Strap) : (s.raiseSplit k).flt.stands 0x960 (strapDetail k) = true := by
  obtain ⟨i, hc, hd, hi⟩ := raiseSplit_eq s k
  rw [hi, ← hc, ← hd]
  exact raiseInst_stands s i

theorem raiseSplit_sameFaults (s : State) (k : Strap) : SameFaults [0x960] s (s.raiseSplit k) := by
  obtain ⟨i, hc, -, hi⟩ := raiseSplit_eq s k
  rw [hi]
  exact raiseInst_sameFaults (c := 0x960) (by decide) s hc

theorem mem_allStraps (k : Strap) : k ∈ allStraps := by cases k <;> decide

/-- The latched straps before the faults of the split ones. -/
def State.strapsLatched (s : State) (x : StrapSamples) : State :=
  { s with
    sup := { s.sup with bootStep := .strapsLatched }
    strap := { Straps.cold with
      latched := latchLevels x, split := allStraps.filter fun k => !unanimous (x.get k), maintAtLatch := x.maint }
    tst := { s.tst with hold := s.nv.fuses.lifecycle == .field && x.returnHold } }

theorem strapLatch_of_due {s : State} (hd : s.sup.dev = .boot) (hs : s.sup.bootStep = .aonUp) (hk : s.sup.bootKind = .cold) (x : StrapSamples) :
    strapLatch x s = (allStraps.filter fun k => !unanimous (x.get k)).foldl State.raiseSplit (s.strapsLatched x) :=
  if_neg (by simp [hd, hs, hk])

theorem strapLatch_spec {s : State} (hd : s.sup.dev = .boot) (hs : s.sup.bootStep = .aonUp) (hk : s.sup.bootKind = .cold) (x : StrapSamples) :
    let t := strapLatch x s
    t = { s.strapsLatched x with flt := t.flt } ∧ (∀ k, unanimous (x.get k) = false → t.flt.stands 0x960 (strapDetail k) = true) ∧
      SameFaults [0x960] s t := by
  rw [strapLatch_of_due hd hs hk]
  refine ⟨(foldl_onlyRaises raiseSplit_onlyRaises _ _).flt, fun k hk => ?_, ?_⟩
  · have hmem : k ∈ allStraps.filter fun k => !unanimous (x.get k) := List.mem_filter.mpr ⟨mem_allStraps k, by simp [hk]⟩
    exact foldl_stands_of_mem raiseSplit_onlyRaises hmem _ fun u _ => raiseSplit_stands u k
  · exact (SameFaults.of_stands fun _ _ => rfl).trans (foldl_sameFaults raiseSplit_sameFaults _ (s.strapsLatched x))

/-! ### The resistor codes (R38, R41, R48) -/

/-- The fault of a code that is INVALID. -/
def State.raiseInvalid (s : State) (i : Nat) : State := if (s.code.level i).isNone then s.raise (0x940 + i) 0 else s

theorem raiseInvalid_onlyRaises (s : State) (i : Nat) : OnlyRaises s (s.raiseInvalid i) :=
  (raise_onlyRaises s _ 0).ite (.refl s) _

theorem raiseInvalid_stands {s : State} {i : Nat} (h : s.code.level i = none) : (s.raiseInvalid i).flt.stands (0x940 + i) 0 = true := by
  rw [State.raiseInvalid, h]
  exact raise_stands s _ 0

theorem raiseCodes_spec (s : State) :
    OnlyRaises s s.raiseCodes ∧ ∀ i, i < 8 → s.code.level i = none → s.raiseCodes.flt.stands (0x940 + i) 0 = true := by
  have hcodes := foldl_onlyRaises raiseInvalid_onlyRaises (List.range 8) s
  have hrest : OnlyRaises ((List.range 8).foldl State.raiseInvalid s) s.raiseCodes :=
    have htest := (raise_onlyRaises _ 0x962 0).ite (.refl _) _
    htest.trans ((raise_onlyRaises _ 0x963 0).ite (.refl _) _)
  refine ⟨hcodes.trans hrest, fun i hi h => hrest.stands _ _ ?_⟩
  exact foldl_stands_of_mem raiseInvalid_onlyRaises (List.mem_range.mpr hi) s fun u hu => raiseInvalid_stands (by rw [hu.flt]; exact h)

/-- The level latched for code `i`: what both passes return, without the levels 4 to 6 of RSEL_TAPS in FIELD. -/
def latchedLevel (fld : Bool) (x : CodeReads) (i : Nat) : Option Nat :=
  match latchCode i (x.pass1.getD i 0) (x.pass2.getD i 0) with
  | some n => if i = 3 ∧ fld ∧ 4 ≤ n ∧ n ≤ 6 then none else some n
  | none => none

theorem latchedLevel_of_ne {i : Nat} (hi : i ≠ 3) (fld : Bool) (x : CodeReads) :
    latchedLevel fld x i = latchCode i (x.pass1.getD i 0) (x.pass2.getD i 0) := by
  unfold latchedLevel
  cases latchCode i (x.pass1.getD i 0) (x.pass2.getD i 0) <;> simp [hi]

theorem latchedLevel_taps (fld : Bool) (x : CodeReads) :
    latchedLevel fld x 3 = (latchCode 3 (x.pass1.getD 3 0) (x.pass2.getD 3 0)).filter fun n => !(fld && (decide (4 ≤ n) && decide (n ≤ 6))) := by
  unfold latchedLevel
  cases latchCode 3 (x.pass1.getD 3 0) (x.pass2.getD 3 0) with
  | none => rfl
  | some n =>
    rw [Option.filter_some]
    by_cases h : fld ∧ 4 ≤ n ∧ n ≤ 6
    · simp [h]
    · simp [h]

/-- The state with the codes latched, before the faults of the invalid ones. -/
def State.codesTaken (s : State) (x : CodeReads) : State :=
  let fld := s.nv.fuses.lifecycle == .field
  let code : Codes := { Codes.cold with levels := (List.range 8).map (latchedLevel fld x) }
  let test := s.strap.latched.test
  let tap (k : TapId) : Tap := if code.tapFitted k then ⟨.absent, false, .regulating⟩ else Tap.off
  { s with
    code := code
    sup := { s.sup with bootStep := .codesRead, tapA := tap .a, tapB := tap .b, tapC := tap .c, p1 := true, pmicEn := true }
    tst := { s.tst with mode := if fld then .none_ else if test = 1 then .loopback else if test = 2 then .bist else .none_ } }

theorem codesTaken_level (s : State) (x : CodeReads) {i : Nat} (hi : i < 8) :
    (s.codesTaken x).code.level i = latchedLevel (s.nv.fuses.lifecycle == .field) x i := by
  change ((List.range 8).map _).getD i none = _
  simp [hi]

theorem resistorCodeRead_of_due {s : State} (hd : s.sup.dev = .boot) (hs : s.sup.bootStep = .strapsLatched) (hh : s.tst.hold = false) (x : CodeReads) :
    resistorCodeRead x s = (s.codesTaken x).raiseCodes :=
  if_neg (by simp [hd, hs, hh])

/-- Settles O11. What a cold boot keeps is the model's choice (log entry 18). -/
theorem coldBootLatchesStrapsAndCodes : Obligations.ColdBootLatchesStrapsAndCodes := by
  refine ⟨fun s cutsHigh hoff => ⟨_, rfl, ?_⟩, fun s x hd hs hk => ⟨_, rfl, ?_⟩, fun s x hd hs hh => ⟨_, rfl, ?_⟩⟩
  · obtain ⟨heq, hstands, hsafe, hpin⟩ := coldBoot_spec hoff cutsHigh
    refine ⟨?_, ?_, hstands, hsafe, hpin, ?_⟩ <;> rw [heq]
    · rfl
    · rfl
    · exact ⟨rfl, rfl, rfl, rfl, (NonVol.load_fuses _).trans (NonVol.dieCheck_fuses _), rfl⟩
  · obtain ⟨heq, hstands, hsame⟩ := strapLatch_spec hd hs hk x
    refine ⟨?_, fun hx k => ?_, hstands, hsame⟩
    · rw [heq]; rfl
    · rw [heq]
      exact (latchLevels_get x k).trans (majority_of_five (get_length_of_wf hx k))
  · obtain ⟨hraises, hinvalid⟩ := raiseCodes_spec (s.codesTaken x)
    rw [resistorCodeRead_of_due hd hs hh]
    have hlevel i (hi : i < 8) : (s.codesTaken x).raiseCodes.code.level i = latchedLevel (s.nv.fuses.lifecycle == .field) x i := by
      rw [hraises.flt]
      exact codesTaken_level s x hi
    refine ⟨fun i hi hne => (hlevel i hi).trans (latchedLevel_of_ne hne _ x), fun hf => ?_, fun hf => ?_, fun i hi hn => hinvalid i hi ?_, ?_, ?_⟩
    · rw [hlevel 3 (by decide), latchedLevel_taps, show (s.nv.fuses.lifecycle == .field) = false by simpa using hf]
      cases latchCode 3 (x.pass1.getD 3 0) (x.pass2.getD 3 0) <;> rfl
    · rw [hlevel 3 (by decide), latchedLevel_taps]
      simp [hf]
    · rwa [codesTaken_level s x hi, ← hlevel i hi]
    · rw [hraises.flt]; rfl
    · rw [hraises.flt]; rfl

end Sys2Proof.Machine
end

section
/-!
SUPPORT. Round 0 and the warm resume (chapter 03): what the steps of round 0 leave of the grid and the device state, and statement O14 from
them.
-/
namespace Sys2Proof.Machine

/-! ### Steps that keep the grid (R65, R90) -/

/-- The grid, its owner and the device state are the same in both states. -/
structure GridKept (s t : State) : Prop where
  now : t.now = s.now
  pace : t.pace = s.pace
  own : t.own = s.own
  dev : t.sup.dev = s.sup.dev
  parkCheck : t.sup.parkCheck = s.sup.parkCheck
  storeFn : t.sup.storeFn = s.sup.storeFn

theorem GridKept.refl (s : State) : GridKept s s := by constructor <;> rfl

theorem GridKept.trans {s t u : State} (h : GridKept s t) (k : GridKept t u) : GridKept s u :=
  ⟨k.now.trans h.now, k.pace.trans h.pace, k.own.trans h.own, k.dev.trans h.dev, k.parkCheck.trans h.parkCheck, k.storeFn.trans h.storeFn⟩

theorem GridKept.of_flt {s t : State} (h : t = { s with flt := t.flt }) : GridKept s t := by rw [h]; constructor <;> rfl

theorem GridKept.of_updateKeeps {s t : State} (h : UpdateKeeps s t) : GridKept s t :=
  ⟨h.now, h.pace, h.own, by rw [h.sup], by rw [h.sup], by rw [h.sup]⟩

theorem GridKept.of_cutsBursts {s t : State} (h : CutsBursts s t) : GridKept s t := by rw [h.frame]; constructor <;> rfl

theorem GridKept.ite {s t u : State} {c : Prop} [Decidable c] (ht : GridKept s t) (hu : GridKept s u) : GridKept s (if c then t else u) := by
  split
  · exact ht
  · exact hu

theorem foldl_gridKept {α : Type} {f : State → α → State} (h : ∀ s a, GridKept s (f s a)) (l : List α) (s : State) :
    GridKept s (l.foldl f s) := by
  induction l generalizing s with
  | nil => exact .refl s
  | cons a l ih => exact (h s a).trans (ih (f s a))

theorem raise_gridKept (s : State) (c d : Nat) : GridKept s (s.raise c d) := .of_flt (raise_flt s c d)

theorem clear_gridKept (s : State) (c d : Nat) : GridKept s (s.clear c d) := .of_flt (clear_flt s c d)

theorem closeWindow_gridKept (s : State) (b : Bool) : GridKept s (s.closeWindow b) := by
  unfold State.closeWindow
  extract_lets cs s1
  have h1 : GridKept s s1 := foldl_gridKept (fun u c => by constructor <;> rfl) cs s
  refine h1.trans ?_
  constructor <;> rfl

/-! ### The steps of round 0 (R65) -/

/-- Nothing of the loaded seal moves the grid. -/
theorem restoreBoot_gridKept (s : State) (cold : Bool) (t : Ns) : GridKept s (s.restoreBoot cold t) := by
  unfold State.restoreBoot
  extract_lets held keepLost gap _ s1 _ _ _ _ s2 recs _ u s3 s4 down s5
  have hload : GridKept s s2 := by constructor <;> rfl
  have hfresh : GridKept s2 u :=
    GridKept.trans (by constructor <;> rfl) (.of_updateKeeps (freshStart_updateKeeps { s2 with lrn := { s2.lrn with cells := s2.learnCells } } _))
  have hpattern : GridKept u s3 := by
    unfold s3
    generalize held = o
    cases o with
    | some x => exact .ite (raise_gridKept u _ _) (.refl u)
    | none => exact .refl u
  have hcells : GridKept s3 s4 :=
    (foldl_gridKept (fun v id => raise_gridKept v 0x624 id) _ s3).trans (foldl_gridKept (fun v id => raise_gridKept v 0x622 id) _ _)
  have hbursts : GridKept s4 s5 := .ite (.of_cutsBursts (cutBursts_cutsBursts s4 t)) (.refl s4)
  exact ((((hload.trans hfresh).trans hpattern).trans hcells).trans hbursts).trans (.ite (closeWindow_gridKept s5 true) (.refl s5))

theorem acqLatch_gridKept (s : State) (x : SnapLatch) : GridKept s (s.acqLatch x) := by
  unfold State.acqLatch
  extract_lets clip a b c win z silent _ s1 s2 s3 s4
  have hlatch : GridKept s s1 := by constructor <;> rfl
  have hclear (u : State) (p : Prop) [Decidable p] (n : Nat) : GridKept u (if p then u.clear n 0 else u) := .ite (clear_gridKept u n 0) (.refl u)
  exact (((hlatch.trans (hclear s1 _ 0x610)).trans (hclear s2 _ 0x611)).trans (hclear s3 _ 0x741)).trans (hclear s4 _ 0x613)

theorem raiseStanding_gridKept (s : State) (cold : Bool) : GridKept s (s.raiseStanding cold) := by
  unfold State.raiseStanding
  extract_lets sealed keeper worst seats s1 s2 s3 s4 s4' s5 _ s6 s7 s8 s9 s10 s11
  have hraise (u : State) (p : Prop) [Decidable p] (c d : Nat) : GridKept u (if p then u.raise c d else u) := .ite (raise_gridKept u c d) (.refl u)
  have h1 : GridKept s s1 := foldl_gridKept (fun u n => raise_gridKept u _ n) _ s
  have h2 : GridKept s1 s2 := foldl_gridKept (fun u k => .ite (.of_flt (raiseHigh_flt u _ _)) (raise_gridKept u _ _)) _ s1
  have h3 : GridKept s2 s3 := (GridKept.of_flt (raiseCodes_spec s2).1.flt).trans (.of_flt (judgeTaps_spec _).1)
  have h4 : GridKept s4 s4' := by
    unfold s4'
    split
    · exact raise_gridKept s4 _ _
    · exact .refl s4
  have h6 : GridKept s5 s6 := by
    refine .ite (GridKept.trans ?_ (raise_gridKept _ _ _)) (.refl s5)
    constructor <;> rfl
  have h9 : GridKept s8 s9 := .ite (.refl s8) (raise_gridKept s8 _ _)
  have h11 : GridKept s10 s11 := foldl_gridKept (fun u i => .of_flt (raiseInst_flt u i)) _ s10
  have h12 : GridKept s11 ({ s11 with flt := { s11.flt with coldHeld := [] } } : State).judgeCopies :=
    GridKept.trans (by constructor <;> rfl) (.of_flt (judgeCopies_flt _))
  exact ((((((((((h1.trans h2).trans h3).trans (hraise s3 _ _ _)).trans h4).trans (hraise s4' _ _ _)).trans h6).trans (hraise s6 _ _ _)).trans
    (hraise s7 _ _ _)).trans h9).trans (hraise s9 _ _ _)).trans (h11.trans h12)

theorem storeSwapped_gridKept (s : State) : GridKept s s.storeSwapped := by
  refine .ite (GridKept.trans ?_ (.of_updateKeeps (storeChange_updateKeeps _))) (.refl s)
  constructor <;> rfl

theorem vsetSample_gridKept (s : State) (n : Nat) : GridKept s (s.vsetSample n) := by
  unfold State.vsetSample
  extract_lets k _ s1 _ s2
  have h1 : GridKept s s1 := by constructor <;> rfl
  have h2 : GridKept s s2 := by constructor <;> rfl
  exact .ite (.ite h2 (.ite (h2.trans (clear_gridKept s2 _ _)) (h2.trans (raise_gridKept s2 _ _)))) h1

theorem refUpdate_gridKept (s : State) (t : Ns) : GridKept s (s.refUpdate t) := by
  unfold State.refUpdate
  extract_lets target
  generalize target = o
  cases o with
  | none => constructor <;> rfl
  | some v => constructor <;> rfl

theorem eachStitch_gridKept (s : State) (x : StitchLevels) (t : Ns) : GridKept s (s.eachStitch x t) := by
  unfold State.eachStitch
  extract_lets _ _ _ s1
  have h1 : GridKept s s1 := by constructor <;> rfl
  have hstore : GridKept s1 (s1.storeStitch x.vset t) := by
    unfold State.storeStitch
    extract_lets u
    have hu : GridKept s1 u := .ite (vsetSample_gridKept s1 _) (.refl s1)
    refine hu.trans (.ite ((refUpdate_gridKept u t).trans ?_) (.refl u))
    constructor <;> rfl
  refine (h1.trans hstore).trans ?_
  constructor <;> rfl

theorem parkPins_gridKept (s : State) : GridKept s s.parkPins := .of_flt rfl

theorem setPins_gridKept (s : State) (safe : Bool) (l : BitVec 3) : GridKept s (s.setPins safe l) := .of_flt rfl

theorem roundZero_gridKept {s : State} (hd : s.sup.dev = .boot) (hb : s.sup.bootStep = .imageRun) (hm : s.tst.mode = .none_) (t : Ns) (x : ZeroIn) :
    GridKept (s.beginRounds (decide (s.sup.bootKind = .cold)) t) (roundZero t x s) := by
  unfold roundZero
  rw [if_neg (by simp [hd, hb, hm])]
  extract_lets cold s1 s2 _ s3 s4
  have h1 : GridKept (s.beginRounds cold t) s1 := (restoreBoot_gridKept _ cold t).trans (acqLatch_gridKept _ x.snap)
  have h2 : GridKept s1 s2 := (raiseStanding_gridKept s1 cold).trans (storeSwapped_gridKept _)
  have h3 : GridKept s2 s3.logBoot := by constructor <;> rfl
  have h4 : GridKept s3.logBoot s4 := eachStitch_gridKept _ x.levels _
  refine (((h1.trans h2).trans h3).trans h4).trans (.ite (parkPins_gridKept s4) (setPins_gridKept s4 false _))

/-! ### The warm resume and a supply loss in a boot (R68, R72) -/

theorem warmResume_of_due {s : State} {k : BootKind} (h : s.sup.resume = some k) (cutsHigh : Bool) (t : Ns) :
    warmResume cutsHigh t s = (s.at t).warmParts k cutsHigh := by
  rw [warmResume, h]

theorem bootSupplyLoss_of_latched {s : State} (hd : s.sup.dev = .boot) (hc : s.codesLatched = true) (hh : s.sup.held112 = false) :
    bootSupplyLoss s = { s.dropRails with sup := { s.sup.railsOff with bootLoss := true, bootStep := .codesRead } } :=
  if_pos (by simp [hd, hc, hh])

theorem supplyReturn_of_bootLoss {s : State} (hd : s.sup.dev = .boot) (hl : s.sup.bootLoss = true) (ht : 1 ≤ s.tapsPresent) (t : Ns) :
    supplyReturn t s = { s with now := max s.now t, sup := { s.sup with bootLoss := false, pmicEn := true, attempts := 0 } } := by
  unfold supplyReturn
  rw [if_neg (by omega), hd, hl]
  rfl

/-- Settles O14. The Delta t of round 0 is log entry 36, the count that the returned supply starts again is log entry 22, and that a warm
resume starts without fault events is log entry 33: the model's choices. -/
theorem roundZeroAndWarmResume : Obligations.RoundZeroAndWarmResume := by
  refine ⟨fun s at_ x hd hb hm => ⟨_, rfl, ?_⟩, fun s cutsHigh at_ k hk => ⟨_, rfl, ?_⟩,
    fun s hd hc hh => ⟨⟨_, rfl, ?_⟩, fun at_ hl ht => ⟨_, rfl, supplyReturn_of_bootLoss hd hl ht at_⟩⟩⟩
  · have h := roundZero_gridKept hd hb hm at_ x
    refine ⟨h.dev, h.parkCheck, h.storeFn.trans ?_, ?_, ?_, ?_, ?_, h.now, roundZero_fixed at_ x s⟩
    · by_cases hc : s.code.chem = 0 <;> simp [State.beginRounds, State.at, hc]
    · rw [h.pace]; rfl
    · rw [h.pace]; rfl
    · rw [h.pace]; rfl
    · rw [h.own, h.pace]; rfl
  · rw [warmResume_of_due hk]
    exact ⟨rfl, rfl, rfl, rfl, rfl, rfl, rfl, rfl, rfl, rfl, rfl, rfl, (NonVol.load_fuses _).trans (NonVol.dieCheck_fuses _), rfl, rfl⟩
  · rw [bootSupplyLoss_of_latched hd hc hh]
    exact ⟨rfl, rfl⟩

end Sys2Proof.Machine
end

section
/-!
SUPPORT. Every operation that the commands of SHIP can reach leaves the supply part of the state as it is. A lemma splits its operation at its
branches: what a branch runs is a record update of another part, or an operation with a lemma further up.
-/
namespace Sys2Proof.Machine

theorem foldl_sup {α : Type} {f : State → α → State} (h : ∀ s a, (f s a).sup = s.sup) (l : List α) (s : State) :
    (l.foldl f s).sup = s.sup := by
  induction l generalizing s with
  | nil => rfl
  | cons a l ih => exact (ih (f s a)).trans (h s a)

theorem ite_sup {s t : State} {x : Supply} {c : Prop} [Decidable c] (hs : s.sup = x) (ht : t.sup = x) : (if c then s else t).sup = x := by
  split
  · exact hs
  · exact ht

/-! ### Acquisition -/

theorem shuntSample_sup (x : ShuntSample) (s : State) : (shuntSample x s).sup = s.sup := rfl

theorem shuntRangeSensor_sup (id : ShuntId) (t : Ns) (s : State) : (shuntRangeSensor id t s).sup = s.sup := by
  unfold shuntRangeSensor
  dsimp only
  (repeat' split) <;> simp

theorem sentFrame_sup (x : SentFrame) (s : State) : (sentFrame x s).sup = s.sup := by
  unfold sentFrame
  dsimp only
  (repeat' split) <;> simp

theorem sentIdTimeout_sup (t : Ns) (s : State) : (sentIdTimeout t s).sup = s.sup := by
  unfold sentIdTimeout
  dsimp only
  (repeat' split) <;> simp

theorem sentLoss_sup (t : Ns) (s : State) : (sentLoss t s).sup = s.sup := by
  unfold sentLoss
  dsimp only
  (repeat' split) <;> simp

theorem sbBlank_sup (s : State) : (sbBlank s).sup = s.sup := by
  unfold sbBlank
  split <;> rfl

theorem sbRestore_sup (s : State) : (sbRestore s).sup = s.sup := rfl

/-! ### Estimation and the journal -/

@[simp] theorem notes_sup (s : State) (l : List CellNote) : (s.notes l).sup = s.sup := (notes_updateKeeps s l).sup

theorem bastingFormed_sup (id : CellId) (s : State) : (bastingFormed id s).sup = s.sup := by
  unfold bastingFormed
  dsimp only
  (repeat' split) <;> simp

theorem tackOverdue_sup (s : State) : (tackOverdue s).sup = s.sup := by
  unfold tackOverdue
  dsimp only
  split <;> simp

@[simp] theorem judgeCopies_sup (s : State) : s.judgeCopies.sup = s.sup := by rw [judgeCopies_flt]

theorem pairRecordWrite_sup (s : State) : (pairRecordWrite s).sup = s.sup := by rw [(pairRecordWrite_journalWork s).frame]

/-! ### The seam -/

@[simp] theorem updCohort_sup (s : State) (c : Nat) (f : SeamCohort → SeamCohort) : (s.updCohort c f).sup = s.sup := rfl

@[simp] theorem updS_sup (s : State) (id : CellId) (f : SeamCell → SeamCell) : (s.updS id f).sup = s.sup := rfl

@[simp] theorem decideCell_sup (s : State) (id : CellId) (r : Option Result) : (s.decideCell id r).sup = s.sup := by
  unfold State.decideCell
  dsimp only
  (repeat' split) <;> simp

theorem seamDecision_sup (id : CellId) (s : State) : (seamDecision id s).sup = s.sup := by
  unfold seamDecision
  dsimp only
  (repeat' split) <;> simp

/-! ### The learned path -/

theorem ddrInit_sup (x : DdrInit) (s : State) : (ddrInit x s).sup = s.sup := by
  unfold ddrInit
  dsimp only
  (repeat' split) <;> simp

theorem checkpointLoad_sup (s : State) : (checkpointLoad s).sup = s.sup := by
  unfold checkpointLoad
  dsimp only
  (repeat' split) <;> simp

@[simp] theorem updL_sup (s : State) (id : CellId) (f : LCell → LCell) : (s.updL id f).sup = s.sup := rfl

theorem stateBlockFetch_sup (id : CellId) (s : State) : (stateBlockFetch id s).sup = s.sup := by
  unfold stateBlockFetch
  split <;> rfl

@[simp] theorem leaveActive_sup (s : State) (sel : CellId → Bool) : (s.leaveActive sel).sup = s.sup := rfl

@[simp] theorem nextReplay_sup (s : State) : s.nextReplay.sup = s.sup := (nextReplay_updateKeeps s).sup

@[simp] theorem updFray_sup (s : State) (c : Nat) (f : Fray → Fray) : (s.updFray c f).sup = s.sup := rfl

@[simp] theorem reseed_sup (s : State) (id : CellId) : (s.reseed id).sup = s.sup := by
  unfold State.reseed
  dsimp only
  (repeat' split) <;> simp

@[simp] theorem poison_sup (s : State) (id : CellId) : (s.poison id).sup = s.sup := by
  unfold State.poison
  dsimp only
  (repeat' split) <;> simp

@[simp] theorem restoreShadow_sup (s : State) (cohort : Nat) : (s.restoreShadow cohort).sup = s.sup := by rw [restoreShadow_frame]

@[simp] theorem settleShadow_sup (s : State) : s.settleShadow.sup = s.sup := by rw [(settleShadow_settles [] s).frame]

@[simp] theorem stageCell_sup (s : State) (id : CellId) : (s.stageCell id).sup = s.sup := by rw [(stageCell_settles [] s id).frame]

theorem learnedResult_sup (id : CellId) (t : Ns) (s : State) : (learnedResult id t s).sup = s.sup := by
  unfold learnedResult
  dsimp only
  (repeat' split) <;> simp

theorem openLoopLimit_sup (id : CellId) (s : State) : (openLoopLimit id s).sup = s.sup := by
  unfold openLoopLimit
  dsimp only
  (repeat' split) <;> simp

theorem warmupEnd_sup (id : CellId) (s : State) : (warmupEnd id s).sup = s.sup := rfl

theorem replayStep_sup (t : Ns) (s : State) : (replayStep t s).sup = s.sup := by
  unfold replayStep
  dsimp only
  (repeat' split) <;> simp

theorem replayCompare_sup (s : State) : (replayCompare s).sup = s.sup := by
  unfold replayCompare
  dsimp only
  (repeat' split) <;> simp

@[simp] theorem abortReplay_sup (s : State) : s.abortReplay.sup = s.sup := by rw [(abortReplay_replayOnly s).frame]

theorem replayAbort_sup (s : State) : (replayAbort s).sup = s.sup := by
  unfold replayAbort
  split <;> simp

theorem replayPeriodEnd_sup (s : State) : (replayPeriodEnd s).sup = s.sup := by
  unfold replayPeriodEnd
  dsimp only
  split <;> simp

theorem stepAbandon_sup (id : CellId) (s : State) : (stepAbandon id s).sup = s.sup := by
  unfold stepAbandon
  dsimp only
  (repeat' split) <;> simp

theorem cellRestore_sup (id : CellId) (s : State) : (cellRestore id s).sup = s.sup := by
  unfold cellRestore
  dsimp only
  (repeat' split) <;> simp

/-! ### The power path -/

@[simp] theorem sense_sup (s : State) (x : PathSense) : (s.sense x).sup = s.sup := rfl

@[simp] theorem answer_sup (s : State) (us : Nat) (t : Ns) : (s.answer us t).sup = s.sup := by rw [(answer_cutsBursts s us t).frame]

@[simp] theorem closeBurst_sup (s : State) (e : LedgerEntry) (k : BurstEnd) (t : Ns) : (s.closeBurst e k t).sup = s.sup := rfl

@[simp] theorem cutBursts_sup (s : State) (t : Ns) : (s.cutBursts t).sup = s.sup := by rw [(cutBursts_cutsBursts s t).frame]

@[simp] theorem enterPath_sup (s : State) (p : PathState) (t : Ns) : (s.enterPath p t).sup = s.sup := by rw [(enterPath_spec s p t).1]

@[simp] theorem loseMain_sup (s : State) (t : Ns) : (s.loseMain t).sup = s.sup := by
  unfold State.loseMain
  split <;> simp

@[simp] theorem takeFail_sup (s : State) (t : Ns) : (s.takeFail t).sup = s.sup := by
  unfold State.takeFail
  dsimp only
  (repeat' split) <;> simp

@[simp] theorem takeFloor_sup (s : State) (t : Ns) : (s.takeFloor t).sup = s.sup := by
  unfold State.takeFloor
  split <;> simp

@[simp] theorem takeShort_sup (s : State) (t : Ns) : (s.takeShort t).sup = s.sup := by
  unfold State.takeShort
  dsimp only
  (repeat' split) <;> simp

/-! ### Training -/

@[simp] theorem recordCycle_sup (s : State) (reason : Nat) : (s.recordCycle reason).sup = s.sup := rfl

@[simp] theorem unpick_sup (s : State) (reason : Nat) : (s.unpick reason).sup = s.sup := by rw [(unpick_spec s reason).1]

@[simp] theorem trainCorrupt_sup (s : State) : s.trainCorrupt.sup = s.sup := by simp [State.trainCorrupt]

@[simp] theorem regionLost_sup (s : State) (r : MemRegion) : (s.regionLost r).sup = s.sup := by
  unfold State.regionLost
  dsimp only
  (repeat' split) <;> simp

theorem ddrEcc_sup (correctable : Bool) (r : MemRegion) (s : State) : (ddrEcc correctable r s).sup = s.sup := by
  unfold ddrEcc
  split <;> simp

theorem bobbinEcc_sup (correctable matchesMemory : Bool) (r : MemRegion) (s : State) : (bobbinEcc correctable matchesMemory r s).sup = s.sup := by
  unfold bobbinEcc
  dsimp only
  (repeat' split) <;> simp

theorem scrubPass_sup (s : State) : (scrubPass s).sup = s.sup := by
  unfold scrubPass
  split <;> simp

theorem scrubOverdue_sup (s : State) : (scrubOverdue s).sup = s.sup := by
  unfold scrubOverdue
  split <;> simp

theorem arbitrationRevoke_sup (r : Requester) (s : State) : (arbitrationRevoke r s).sup = s.sup := by
  unfold arbitrationRevoke
  dsimp only
  split <;> simp

theorem portUnfence_sup (r : Requester) (s : State) : (portUnfence r s).sup = s.sup := by
  unfold portUnfence
  split <;> rfl

theorem refreshRateRead_sup (multiplier : Rat) (s : State) : (refreshRateRead multiplier s).sup = s.sup := by
  unfold refreshRateRead
  split <;> rfl

theorem cycleStart_sup (s : State) : (cycleStart s).sup = s.sup := by
  unfold cycleStart
  dsimp only
  (repeat' split) <;> simp

@[simp] theorem updA_sup (s : State) (id : CellId) (f : ACell → ACell) : (s.updA id f).sup = s.sup := rfl

@[simp] theorem scorePending_sup (s : State) (g : Graph) (a : ACell) (p : Pending) (v : Option Rat) : (s.scorePending g a p v).sup = s.sup := by
  unfold State.scorePending
  split <;> rfl

theorem shadowStep_sup (id : CellId) (t : Ns) (s : State) : (shadowStep id t s).sup = s.sup := by
  unfold shadowStep
  dsimp only
  (repeat' split) <;> simp

theorem warmPhaseEnd_sup (s : State) : (warmPhaseEnd s).sup = s.sup := by
  unfold warmPhaseEnd
  split <;> rfl

theorem shadowUpdate_sup (s : State) : (shadowUpdate s).sup = s.sup := by
  unfold shadowUpdate
  dsimp only
  (repeat' split) <;> simp

theorem epochEnd_sup (s : State) : (epochEnd s).sup = s.sup := by
  unfold epochEnd
  split <;> rfl

theorem fitDecision_sup (s : State) : (fitDecision s).sup = s.sup := by
  unfold fitDecision
  dsimp only
  (repeat' split) <;> simp

theorem adapterCopy_sup (s : State) : (adapterCopy s).sup = s.sup := by
  unfold adapterCopy
  split <;> rfl

theorem promotion_sup (s : State) : (promotion s).sup = s.sup := by
  unfold promotion
  split <;> rfl

@[simp] theorem shedFaults_sup (s : State) : s.shedFaults.sup = s.sup := by
  unfold State.shedFaults
  dsimp only
  (repeat' split) <;> simp

theorem shedLower_sup (t : Ns) (s : State) : (shedLower t s).sup = s.sup := by
  unfold shedLower
  dsimp only
  (repeat' split) <;> simp

/-! ### Checkpoints -/

theorem checkpointTrigger_sup (cause : CkptCause) (s : State) : (checkpointTrigger cause s).sup = s.sup := by
  unfold checkpointTrigger
  dsimp only
  (repeat' split) <;> simp

theorem checkpointStaged_sup (s : State) : (checkpointStaged s).sup = s.sup := by
  unfold checkpointStaged
  dsimp only
  (repeat' split) <;> simp

@[simp] theorem eraseArea_sup (s : State) (len : Nat) : (s.eraseArea len).2.sup = s.sup := by rw [(eraseArea_spec s len).2.1]

@[simp] theorem failCkpt_sup (s : State) (k : Ckpt) : (s.failCkpt k).sup = s.sup := by
  obtain ⟨-, -, -, -, h⟩ := failCkpt_spec s k
  rw [h]

/-! ### Monitors and cuts -/

@[simp] theorem pairFails_sup (s : State) (p : CorePair) (code detail : Nat) : (s.pairFails p code detail).sup = s.sup := by
  unfold State.pairFails
  dsimp only
  (repeat' split) <;> simp

@[simp] theorem bastePack_sup (s : State) (sel : CellId → Bool) (fresh : Bool) : (s.bastePack sel fresh).sup = s.sup := by
  simp [State.bastePack, foldl_sup]

@[simp] theorem basteStore_sup (s : State) (sel : CellId → Bool) : (s.basteStore sel).sup = s.sup := (basteStore_updateKeeps s sel).sup

@[simp] theorem recordLost_sup (s : State) (id : CellId) : (s.recordLost id).sup = s.sup := by
  unfold State.recordLost
  dsimp only
  split <;> simp

theorem tcmError_sup (x : TcmError) (s : State) : (tcmError x s).sup = s.sup := by
  unfold tcmError
  dsimp only
  (repeat' split) <;> simp

theorem pinKeeperExpiry_sup (s : State) : (pinKeeperExpiry s).sup = s.sup := by
  unfold pinKeeperExpiry
  split <;> rfl

@[simp] theorem releaseCut_sup (s : State) : s.releaseCut.sup = s.sup := by rw [releaseCut_eq]

@[simp] theorem cutIn_sup (t : Ns) (s : State) : (cutIn t s).sup = s.sup := by
  unfold cutIn
  split <;> simp

theorem fastClockLoss_sup (t : Ns) (s : State) : (fastClockLoss t s).sup = s.sup := by
  unfold fastClockLoss
  split <;> simp

theorem crystalFail_sup (s : State) : (crystalFail s).sup = s.sup := by
  unfold crystalFail
  split <;> simp

theorem lockstepMismatch_sup (p : CorePair) (s : State) : (lockstepMismatch p s).sup = s.sup := by simp [lockstepMismatch]

theorem heartbeatMiss_sup (p : CorePair) (s : State) : (heartbeatMiss p s).sup = s.sup := by
  unfold heartbeatMiss
  split <;> simp

/-! ### The output links -/

theorem roundSend_sup (t : Ns) (s : State) : (roundSend t s).sup = s.sup := by
  unfold roundSend
  dsimp only
  (repeat' split) <;> simp

@[simp] theorem updBuf_sup (s : State) (b second : Bool) (f : CanBuf → CanBuf) : (s.updBuf b second f).sup = s.sup := rfl

@[simp] theorem updChan_sup (s : State) (b : Bool) (f : CanChan → CanChan) : (s.updChan b f).sup = s.sup := rfl

theorem canTxComplete_sup (b second active : Bool) (t : Ns) (s : State) : (canTxComplete b second active t s).sup = s.sup := by
  unfold canTxComplete
  dsimp only
  (repeat' split) <;> simp

theorem canErrorPassive_sup (b : Bool) (s : State) : (canErrorPassive b s).sup = s.sup := by
  unfold canErrorPassive
  split <;> simp

theorem canBusOff_sup (b : Bool) (s : State) : (canBusOff b s).sup = s.sup := by
  unfold canBusOff
  split <;> simp

theorem canBusOffRecovery_sup (b : Bool) (s : State) : (canBusOffRecovery b s).sup = s.sup := rfl

theorem sgmiiLinkChange_sup (up : Bool) (s : State) : (sgmiiLinkChange up s).sup = s.sup := rfl

theorem phyResetRelease_sup (s : State) : (phyResetRelease s).sup = s.sup := by
  unfold phyResetRelease
  split <;> rfl

/-! ### Pace, straps and codes -/

theorem paceEdge_sup (x : PaceChange) (s : State) : (paceEdge x s).sup = s.sup := by
  unfold paceEdge
  split <;> rfl

theorem paceLoss_sup (t : Ns) (s : State) : (paceLoss t s).sup = s.sup := by
  unfold paceLoss
  split <;> rfl

theorem holdoverEnd_sup (s : State) : (holdoverEnd s).sup = s.sup := rfl

theorem maintChange_sup (s : State) : (maintChange s).sup = s.sup := by
  unfold maintChange
  split <;> rfl

theorem codeReread_sup (i sum : Nat) (s : State) : (codeReread i sum s).sup = s.sup := by
  unfold codeReread
  dsimp only
  (repeat' split) <;> simp

/-! ### The fast path -/

@[simp] theorem refreshForced_sup (s : State) : s.refreshForced.sup = s.sup := rfl

@[simp] theorem fastEvent_sup (s : State) (e : FastEvent) : (s.fastEvent e).sup = s.sup := by simp [State.fastEvent]

theorem comparatorEvent_sup (x : CompEvent) (s : State) : (comparatorEvent x s).sup = s.sup := by
  unfold comparatorEvent
  dsimp only
  (repeat' split) <;> simp

@[simp] theorem groupFlag_sup (s : State) (id : CellId) (flag first : Bool) (volt : Nat) (t : Ns) : (s.groupFlag id flag first volt t).sup = s.sup := by
  unfold State.groupFlag
  dsimp only
  (repeat' split) <;> simp

theorem cellLimitFlag_sup (x : ThreadRx) (s : State) : (cellLimitFlag x s).sup = s.sup := by
  unfold cellLimitFlag
  dsimp only
  (repeat' split) <;> simp [foldl_sup]

@[simp] theorem releaseTrip_sup (s : State) : s.releaseTrip.sup = s.sup := by
  unfold State.releaseTrip
  split <;> simp

theorem fastPathRelease_sup (e : FastEvent) (t : Ns) (s : State) : (fastPathRelease e t s).sup = s.sup := by
  unfold fastPathRelease
  dsimp only
  (repeat' split) <;> simp

theorem pinReadbackMismatch_sup (p : FastPin) (s : State) : (pinReadbackMismatch p s).sup = s.sup := by
  unfold pinReadbackMismatch
  dsimp only
  (repeat' split) <;> simp

/-! ### The store -/

theorem storeAbsent_sup (s : State) : (storeAbsent s).sup = s.sup := by
  unfold storeAbsent
  dsimp only
  (repeat' split) <;> simp

@[simp] theorem storeChange_sup (s : State) : s.storeChange.sup = s.sup := (storeChange_updateKeeps s).sup

theorem storePresent_sup (s : State) : (storePresent s).sup = s.sup := by
  unfold storePresent
  dsimp only
  (repeat' split) <;> simp

/-! ### The commands of the power path -/

theorem cycle_sup {act : State → State} (h : ∀ u, (act u).sup = u.sup) (s : State) (x : PathSense) : (s.cycle x act).sup = s.sup := by
  unfold State.cycle
  dsimp only
  (repeat' split) <;> simp [h]

theorem vmainFail_sup (x : PathSense) (s : State) : (vmainFail x s).sup = s.sup := by
  unfold vmainFail
  split
  · rfl
  · exact cycle_sup (fun u => takeFail_sup u x.t) s x

theorem reservePrecharge_sup (otherHigh : Bool) (t : Ns) (s : State) : (reservePrecharge otherHigh t s).sup = s.sup := by
  unfold reservePrecharge
  split <;> rfl

@[simp] theorem rampMain_sup (s : State) (otherHigh : Bool) (t : Ns) : (s.rampMain otherHigh t).sup = s.sup := by
  unfold State.rampMain
  split <;> rfl

theorem stableReached_sup (x : PathSense) (s : State) : (stableReached x s).sup = s.sup := by
  unfold stableReached
  split
  · rfl
  · refine (cycle_sup (fun u => ?_) _ x).trans rfl
    (repeat' split) <;> simp

theorem pathDwellEnd_sup (x : PathSense) (s : State) : (pathDwellEnd x s).sup = s.sup := by
  unfold pathDwellEnd
  split
  · refine (cycle_sup (fun u => ?_) _ x).trans rfl
    split <;> simp
  · rfl

theorem rampComplete_sup (x : PathSense) (s : State) : (rampComplete x s).sup = s.sup := by
  unfold rampComplete
  dsimp only
  split
  · rfl
  · exact cycle_sup (fun u => enterPath_sup u _ _) s x

theorem shortDetected_sup (t : Ns) (s : State) : (shortDetected t s).sup = s.sup := by simp [shortDetected]

theorem coolEnd_sup (x : PathSense) (s : State) : (coolEnd x s).sup = s.sup := by
  unfold coolEnd
  dsimp only
  (repeat' split) <;> simp

theorem shortCountReset_sup (t : Ns) (s : State) : (shortCountReset t s).sup = s.sup := by
  unfold shortCountReset
  split <;> simp

theorem latchedExit_sup (t : Ns) (s : State) : (latchedExit t s).sup = s.sup := by
  unfold latchedExit
  split <;> simp

theorem floor_sup (src : FloorSource) (x : PathSense) (s : State) : (floor_ src x s).sup = s.sup := by
  unfold floor_
  have h (y : PathSense) : (s.cycle y fun u => u.takeFloor x.t).sup = s.sup := cycle_sup (fun u => takeFloor_sup u x.t) s y
  (repeat' split) <;> simp [h]

theorem dampingEnd_sup (t : Ns) (s : State) : (dampingEnd t s).sup = s.sup := by
  unfold dampingEnd
  split <;> simp

theorem gateInterlockTimeout_sup (t : Ns) (s : State) : (gateInterlockTimeout t s).sup = s.sup := ite_sup ((enterPath_sup _ _ t).trans (by simp)) rfl

theorem gateMonitorFault_sup (pair : Pair) (t : Ns) (s : State) : (gateMonitorFault pair t s).sup = s.sup := by
  unfold gateMonitorFault
  dsimp only
  (repeat' split) <;> simp

/-! ### Bursts -/

@[simp] theorem ledgerAt_sup (s : State) (t : Ns) : (s.ledgerAt t).sup = s.sup := rfl

theorem breqEdge_sup (line : Nat) (t : Ns) (s : State) : (breqEdge line t s).sup = s.sup := by
  unfold breqEdge
  dsimp only
  (repeat' split) <;> simp

theorem burstRelease_sup (line : Nat) (t : Ns) (s : State) : (burstRelease line t s).sup = s.sup := by
  unfold burstRelease
  split <;> simp

theorem burstDurationEnd_sup (line : Nat) (t : Ns) (s : State) : (burstDurationEnd line t s).sup = s.sup := by
  unfold burstDurationEnd
  split
  · rfl
  · split <;> simp

theorem bgntAnswer_sup (t : Ns) (s : State) : (bgntAnswer t s).sup = s.sup := by
  unfold bgntAnswer
  dsimp only
  (repeat' split) <;> simp

theorem goodChange_sup (good : Bool) (t : Ns) (s : State) : (goodChange good t s).sup = s.sup := by
  unfold goodChange
  split <;> rfl

theorem mainPrecharge_sup (otherHigh : Bool) (t : Ns) (s : State) : (mainPrecharge otherHigh t s).sup = s.sup := by
  unfold mainPrecharge
  dsimp only
  (repeat' split) <;> simp

/-! ### Frames of the peers -/

@[simp] theorem forward_sup (s : State) (x : PeerRx) (origin : Nat) : (s.forward x origin).sup = s.sup := by
  unfold State.forward
  dsimp only
  (repeat' split) <;> simp

@[simp] theorem peerFail_sup (s : State) (side : CutSide) : (s.peerFail side).sup = s.sup := by
  unfold State.peerFail
  split <;> rfl

@[simp] theorem updView_sup (s : State) (k : Nat) (f : SeatView → SeatView) : (s.updView k f).sup = s.sup := rfl

@[simp] theorem peerAccept_sup (s : State) (type : Nat) (x : PeerRx) : (s.peerAccept type x).1.sup = s.sup := by
  unfold State.peerAccept
  dsimp only
  (repeat' split) <;> simp

theorem unaligned_sup (s : State) : (unaligned s).sup = s.sup := by
  unfold unaligned
  split <;> simp

@[simp] theorem align_sup (s : State) (zero : Int) (round : Round) : (s.align zero round).sup = s.sup := by
  unfold State.align
  dsimp only
  (repeat' split) <;> simp

@[simp] theorem seenCut_sup (s : State) (k : Nat) (b : Beat) (t : Ns) : (s.seenCut k b t).sup = s.sup := by
  unfold State.seenCut
  split <;> rfl

@[simp] theorem steer_sup (s : State) (zero : Int) (lock : Nat) : (s.steer zero lock).sup = s.sup := by
  unfold State.steer
  dsimp only
  (repeat' split) <;> simp

@[simp] theorem otherTurn_sup (s : State) (k : Nat) : (s.otherTurn k).sup = s.sup := by
  unfold State.otherTurn
  split <;> rfl

@[simp] theorem turnOver_sup (s : State) (k : Nat) : (s.turnOver k).sup = s.sup := rfl

@[simp] theorem turnsBy_sup (s : State) (k : Nat) (r : Role) : (s.turnsBy k r).sup = s.sup := by
  unfold State.turnsBy
  (repeat' split) <;> simp

@[simp] theorem twoOwners_sup (s : State) (other : Nat) (r : Role) : (s.twoOwners other r).sup = s.sup := by
  unfold State.twoOwners
  dsimp only
  (repeat' split) <;> simp

@[simp] theorem takeBeat_sup (s : State) (x : PeerRx) (f : PeerFrame) : (s.takeBeat x f).sup = s.sup := by
  unfold State.takeBeat
  dsimp only
  (repeat' split) <;> simp

@[simp] theorem seatTakes_sup (s : State) (k : Nat) (r : Role) : (s.seatTakes k r).sup = s.sup := rfl

theorem claimReceived_sup (x : PeerRx) (s : State) : (claimReceived x s).sup = s.sup := by
  have h := peerAccept_sup s 2 x
  unfold claimReceived
  generalize s.peerAccept 2 x = p at h ⊢
  obtain ⟨s1, f⟩ := p
  cases f with
  | none => exact h
  | some f =>
    dsimp only at h ⊢
    (repeat' split) <;> simp [h]

theorem yieldReceived_sup (x : PeerRx) (s : State) : (yieldReceived x s).sup = s.sup := by
  have h := peerAccept_sup s 3 x
  unfold yieldReceived
  generalize s.peerAccept 3 x = p at h ⊢
  obtain ⟨s1, f⟩ := p
  cases f with
  | none => exact h
  | some f =>
    dsimp only at h ⊢
    split <;> simp [h]

/-! ### Mirror frames -/

@[simp] theorem updNode_sup (s : State) (id : NodeId) (f : Node → Node) : (s.updNode id f).sup = s.sup := rfl

@[simp] theorem takeLedger_sup (s : State) (c : List Byte) : (s.takeLedger c).sup = s.sup := by
  unfold State.takeLedger
  split <;> rfl

@[simp] theorem holdOut_sup (s : State) (ring link cause : Nat) : (s.holdOut ring link cause).sup = s.sup := by
  unfold State.holdOut
  split <;> rfl

@[simp] theorem takeMaps_sup (s : State) (c : List Byte) : (s.takeMaps c).sup = s.sup := by
  unfold State.takeMaps
  split
  · rfl
  · refine foldl_sup (fun u p => foldl_sup (fun w j => ?_) _ u) _ s
    split <;> simp

@[simp] theorem foreignCount_sup (s : State) : s.foreignCount.sup = s.sup := by
  unfold State.foreignCount
  split <;> simp

@[simp] theorem recordCheck_sup (s : State) : s.recordCheck.sup = s.sup := rfl

@[simp] theorem witnessPattern_sup (s : State) : s.witnessPattern.sup = s.sup := by
  unfold State.witnessPattern
  dsimp only
  (repeat' split) <;> simp [foldl_sup]

@[simp] theorem takeNodes_sup (s : State) (origin : Nat) (c : List Byte) : (s.takeNodes origin c).sup = s.sup := by
  unfold State.takeNodes
  extract_lets s1 provisional s2
  have h1 : s1.sup = s.sup := foldl_sup (fun u l => updNode_sup u _ _) _ s
  have h2 : s2.sup = s1.sup := by unfold s2; split <;> simp
  (repeat' split) <;> simp [h1, h2]

@[simp] theorem takePark_sup (s : State) (c : List Byte) : (s.takePark c).sup = s.sup := by
  unfold State.takePark
  split <;> rfl

@[simp] theorem updRing_sup (s : State) (port : Nat) (f : Ring → Ring) : (s.updRing port f).sup = s.sup := rfl

@[simp] theorem violate_sup (s : State) (id : NodeId) (code : Nat) : (s.violate id code).sup = s.sup := by rw [(violate_readKeeps s id code).frame]

@[simp] theorem ackCheck_sup (s : State) (id : NodeId) (seq code epoch : Nat) : (s.ackCheck id seq code epoch).sup = s.sup := by
  rw [(ackCheck_readKeeps s id seq code epoch).frame]

@[simp] theorem epochCheck_sup (s : State) (id : NodeId) (e : Nat) : (s.epochCheck id e).sup = s.sup := by
  unfold State.epochCheck
  dsimp only
  (repeat' split) <;> simp

@[simp] theorem reported_sup (s : State) (id : NodeId) (seq code : Nat) : (s.reported id seq code).sup = s.sup := by
  rw [(reported_readKeeps s id seq code).frame]

@[simp] theorem respCheck_sup (s : State) (id : NodeId) (seq code : Nat) : (s.respCheck id seq code).sup = s.sup := by
  rw [(respCheck_readKeeps s id seq code).frame]

@[simp] theorem takeSamples_sup (s : State) (id : NodeId) (l : List Byte) : (s.takeSamples id l).sup = s.sup := by
  rw [(takeSamples_readKeeps s id l).frame]

@[simp] theorem settleRead_sup (s : State) (id : NodeId) (l : List Byte) : (s.settleRead id l).sup = s.sup := by
  unfold State.settleRead
  dsimp only
  (repeat' split) <;> simp

@[simp] theorem acceptRead_sup (s : State) (id : NodeId) (e : RingEnd) (l : List Byte) : (s.acceptRead id e l).sup = s.sup := by
  unfold State.acceptRead
  dsimp only
  (repeat' split) <;> simp

@[simp] theorem markEnd_sup (s : State) (port b : Nat) : (s.markEnd port b).sup = s.sup := rfl

@[simp] theorem takeRelay_sup (s : State) (origin : Nat) (c : List Byte) : (s.takeRelay origin c).sup = s.sup := by
  unfold State.takeRelay
  dsimp only
  (repeat' split) <;> simp

@[simp] theorem takeStreams_sup (s : State) (c : List Byte) : (s.takeStreams c).sup = s.sup := by
  unfold State.takeStreams
  dsimp only
  (repeat' split) <;> simp

@[simp] theorem takeItem_sup (s : State) (origin type : Nat) (c : List Byte) : (s.takeItem origin type c).sup = s.sup := by
  unfold State.takeItem
  (repeat' split) <;> simp

@[simp] theorem takeItems_sup (origin n : Nat) (l : List Byte) (s : State) : (State.takeItems origin n l s).sup = s.sup := by
  induction n generalizing l s with
  | zero => rfl
  | succ n ih =>
    rw [State.takeItems]
    split
    · rfl
    · exact (ih _ _).trans (takeItem_sup s _ _ _)

theorem mirrorReceived_sup (x : PeerRx) (s : State) : (mirrorReceived x s).sup = s.sup := by
  have h := peerAccept_sup s 4 x
  unfold mirrorReceived
  generalize s.peerAccept 4 x = p at h ⊢
  obtain ⟨s1, f⟩ := p
  cases f with
  | none => exact h
  | some f =>
    exact (takeItems_sup _ _ _ s1).trans h

/-! ### Claims, yields and cuts -/

@[simp] theorem peerSend_sup (s : State) (type : Nat) (payload : List Byte) : (s.peerSend type payload).sup = s.sup := by
  unfold State.peerSend
  split <;> rfl

@[simp] theorem sendYield_sup (s : State) (succ reason : Nat) (h : Round) : (s.sendYield succ reason h).sup = s.sup := by simp [State.sendYield]

theorem yieldSend_sup (s : State) : (yieldSend s).sup = s.sup := by
  unfold yieldSend
  dsimp only
  (repeat' split) <;> simp

@[simp] theorem sendClaim_sup (s : State) (kind : Nat) (round : Round) : (s.sendClaim kind round).sup = s.sup := by simp [State.sendClaim]

theorem acceptClaim_sup (s : State) : (acceptClaim s).sup = s.sup := by
  unfold acceptClaim
  dsimp only
  (repeat' split) <;> simp

@[simp] theorem assertCut_sup (s : State) (k : Nat) (t : Ns) : (s.assertCut k t).sup = s.sup := by
  unfold State.assertCut
  split <;> simp

theorem ownerJudge_sup (s : State) : (ownerJudge s).sup = s.sup := by
  unfold ownerJudge
  dsimp only
  (repeat' split) <;> simp

theorem tripDisagree_sup (t : Ns) (s : State) : (tripDisagree t s).sup = s.sup := by
  unfold tripDisagree
  dsimp only
  (repeat' split) <;> simp

theorem forcedClaim_sup (s : State) : (forcedClaim s).sup = s.sup := by
  unfold forcedClaim
  dsimp only
  (repeat' split) <;> simp

@[simp] theorem pathTakeover_sup (s : State) (t : Ns) : (s.pathTakeover t).sup = s.sup := by rw [(pathTakeover_frame s t).1]

theorem forcedTakeoverDrive_sup (t : Ns) (s : State) : (forcedTakeoverDrive t s).sup = s.sup := by
  unfold forcedTakeoverDrive
  dsimp only
  (repeat' split) <;> simp

theorem ownerSelfCheck_sup (passed : Bool) (s : State) : (ownerSelfCheck passed s).sup = s.sup := by
  unfold ownerSelfCheck
  dsimp only
  (repeat' split) <;> simp

end Sys2Proof.Machine
end

section
/-!
SUPPORT. The supply part of the state through the commands of the rings and of the TAP. In SHIP the grid is idle, and what a ring receives is
dropped.
-/
namespace Sys2Proof.Machine

/-! ### The rings -/

@[simp] theorem updPort_sup (s : State) (port : Nat) (f : PortRx → PortRx) : (s.updPort port f).sup = s.sup := rfl

@[simp] theorem endTurn_sup (s : State) : s.endTurn.sup = s.sup := by
  unfold State.endTurn
  split
  · rfl
  next v =>
    extract_lets s1 bad s2 s3 s4
    have h1 : s1.sup = s.sup := foldl_sup (fun t r => judge_sup t _ _ _) _ s
    have h2 : s2.sup = s1.sup := ite_sup (by simp) (by simp)
    have h3 : s3.sup = s2.sup := foldl_sup (fun t n => by dsimp only; (repeat' split) <;> simp) _ s2
    rw [recordCheck_sup, turnOver_sup]
    exact h3.trans (h2.trans h1)

@[simp] theorem turnCheck_sup (s : State) : s.turnCheck.sup = s.sup := by
  unfold State.turnCheck
  split <;> simp

@[simp] theorem sendItems_sup (s : State) (items : List (List Byte)) : (s.sendItems items).sup = s.sup := by
  obtain ⟨_, h⟩ := sendItems_ownOnly s items
  rw [h]

@[simp] theorem relayRead_sup (s : State) (x : ThreadRx) : (s.relayRead x).sup = s.sup := by
  unfold State.relayRead
  dsimp only
  split <;> simp

theorem readReceived_of_idle {s : State} (h : s.rounds = false) (x : ReadRx) : readReceived x s = s := by
  unfold readReceived
  split <;> simp [h]

theorem snapReceived_of_idle {s : State} (h : s.rounds = false) (x : ThreadRx) : snapReceived x s = s := by
  unfold snapReceived
  split <;> simp [h]

theorem echoReply_of_idle {s : State} (h : s.rounds = false) (x : ThreadRx) : echoReply x s = s := by
  unfold echoReply
  split <;> simp [h]

theorem bertReport_of_idle {s : State} (h : s.rounds = false) (x : ThreadRx) : bertReport x s = s := by
  unfold bertReport
  split <;> simp [h]

theorem identResponse_of_idle {s : State} (h : s.rounds = false) (x : ThreadRx) : identResponse x s = s := by
  have hframe : s.identFrame x = none := by
    unfold State.identFrame
    split <;> simp [h]
  unfold identResponse
  rw [hframe]
  dsimp only
  split <;> simp [h]

theorem ringReversal_of_idle {s : State} (h : s.rounds = false) (port : Nat) : ringReversal port s = s := by
  unfold ringReversal
  split <;> simp [h]

theorem readFrame_sup_of_idle {s : State} (h : s.rounds = false) (x : ReadRx) : (readFrame x s).sup = s.sup := by
  unfold readFrame
  rw [readReceived_of_idle h]
  exact (turnCheck_sup _).trans (ite_sup (relayRead_sup s _) rfl)

theorem tokenRound_sup_of_idle {s : State} (h : s.rounds = false) : (tokenRound s).sup = s.sup := by
  rw [tokenRound, show tokenSend s = s by simp [tokenSend, h], turnCheck_sup]

theorem retriesSpent_sup (id : NodeId) (s : State) : (retriesSpent id s).sup = s.sup := by
  unfold retriesSpent
  dsimp only
  (repeat' split) <;> simp

theorem commandResend_sup (id : NodeId) (s : State) : (commandResend id s).sup = s.sup := by
  unfold commandResend
  (repeat' split) <;> simp

@[simp] theorem nodeLost_sup (id : NodeId) (s : State) : (nodeLost id s).sup = s.sup := by
  unfold nodeLost
  (repeat' split) <;> simp

theorem lostNode_sup (id : NodeId) (s : State) : (lostNode id s).sup = s.sup := by
  unfold lostNode
  dsimp only
  split <;> simp

theorem reversalEnd_sup (port : Nat) (s : State) : (reversalEnd port s).sup = s.sup := by
  unfold reversalEnd
  (repeat' split) <;> simp

@[simp] theorem windowNode_sup (s : State) (n : Node) : (s.windowNode n).sup = s.sup := by
  unfold State.windowNode
  dsimp only
  (repeat' split) <;> simp

@[simp] theorem windowPort_sup (s : State) (p : PortRx) : (s.windowPort p).sup = s.sup := by simp [State.windowPort]

theorem violationWindowEnd_sup (s : State) : (violationWindowEnd s).sup = s.sup := by
  unfold violationWindowEnd
  dsimp only
  (repeat' split) <;> simp [foldl_sup]

@[simp] theorem dropCmds_sup (s : State) (n : Node) : (s.dropCmds n).sup = s.sup := by
  unfold State.dropCmds
  split <;> simp

theorem identTimeout_sup (id : NodeId) (s : State) : (identTimeout id s).sup = s.sup := by
  unfold identTimeout
  (repeat' split) <;> simp

theorem echoSend_sup (x : EchoTx) (s : State) : (echoSend x s).sup = s.sup := by
  unfold echoSend
  dsimp only
  (repeat' split) <;> simp

@[simp] theorem failEcho_sup (s : State) (id : NodeId) (e : RingEnd) : (s.failEcho id e).sup = s.sup := by simp [State.failEcho]

@[simp] theorem echoBudget_sup (s : State) (id : NodeId) (e : RingEnd) : (s.echoBudget id e).sup = s.sup := by
  unfold State.echoBudget
  dsimp only
  (repeat' split) <;> simp

theorem echoTimeout_sup (port : Nat) (t : Ns) (s : State) : (echoTimeout port t s).sup = s.sup := by
  unfold echoTimeout
  (repeat' split) <;> simp

theorem bertSend_sup (port : Nat) (s : State) : (bertSend port s).sup = s.sup := by
  unfold bertSend
  dsimp only
  (repeat' split) <;> simp

theorem prbsStart_sup (port : Nat) (e : RingEnd) (s : State) : (prbsStart port e s).sup = s.sup := by
  unfold prbsStart
  dsimp only
  (repeat' split) <;> simp

theorem prbsEnd_sup (x : PrbsEnd) (s : State) : (prbsEnd x s).sup = s.sup := by
  unfold prbsEnd
  (repeat' split) <;> simp

theorem periodicDue_sup (s : State) : (periodicDue s).sup = s.sup := by
  unfold periodicDue
  split <;> rfl

theorem periodicOverdue_sup (s : State) : (periodicOverdue s).sup = s.sup := by
  unfold periodicOverdue
  split <;> simp

/-! ### The TAP -/

theorem tap_sup {f : State → State} (h : ∀ u, (f u).sup = u.sup) (s : State) (i : TapInstr) : (s.tap i f).sup = s.sup := by
  unfold State.tap
  split
  · rfl
  · dsimp only
    split
    · exact h _
    · rfl

theorem tapBypass_sup (s : State) : (tapBypass s).sup = s.sup := tap_sup (by intro _; rfl) s _

theorem tapIdcode_sup (s : State) : (tapIdcode s).sup = s.sup := tap_sup (by intro _; rfl) s _

theorem tapSample_sup (pins scan : Nat) (s : State) : (tapSample pins scan s).sup = s.sup := tap_sup (by intro _; rfl) s _

theorem tapExtest_sup (i : TapInstr) (scan : Nat) (s : State) : (tapExtest i scan s).sup = s.sup := tap_sup (by intro _; rfl) s _

theorem tapClamp_sup (s : State) : (tapClamp s).sup = s.sup := tap_sup (by intro _; rfl) s _

theorem tapHighz_sup (s : State) : (tapHighz s).sup = s.sup := tap_sup (by intro _; rfl) s _

theorem tapLbResult_sup (s : State) : (tapLbResult s).sup = s.sup := tap_sup (by intro _; rfl) s _

theorem tapBistResult_sup (s : State) : (tapBistResult s).sup = s.sup := tap_sup (by intro _; rfl) s _

theorem fuseRead_sup (item : FuseItem) (s : State) : (fuseRead item s).sup = s.sup := tap_sup (by intro _; rfl) s _

theorem keyProg_sup (item : KeyItem) (s : State) : (keyProg item s).sup = s.sup := by
  refine tap_sup (fun u => ?_) s _
  split <;> rfl

theorem lcAdvance_sup (readBack : Bool) (s : State) : (lcAdvance readBack s).sup = s.sup := by
  refine tap_sup (fun u => ?_) s _
  (repeat' split) <;> rfl

theorem tapAuth_sup (x : AuthIn) (s : State) : (tapAuth x s).sup = s.sup := by
  refine tap_sup (fun u => ?_) s _
  split <;> simp

theorem returnHoldEnd_sup (s : State) : (returnHoldEnd s).sup = s.sup := by
  unfold returnHoldEnd
  split <;> rfl


end Sys2Proof.Machine
end

section
/-!
SUPPORT. What a command does in SHIP (R80), and statement O7 from it.
-/
namespace Sys2Proof.Machine

/-! ### The commands that act on the supply (R80) -/

theorem rounds_of_ship {s : State} (h : s.sup.dev = .ship) : s.rounds = false := by simp [State.rounds, h]

theorem graceCkpt_sup_of_ship {s u : State} (h : s.sup.dev = .ship) (hu : u.sup = s.sup) (wanted : Bool) : (u.graceCkpt wanted).sup = s.sup := by
  rw [graceCkpt_of_not_grace (by rw [hu, h]; nofun), hu]

theorem checkpointWrite_sup_of_ship {s : State} (h : s.sup.dev = .ship) (ok : Bool) : (checkpointWrite ok s).sup = s.sup := by
  unfold checkpointWrite
  split
  · rfl
  · dsimp only
    refine ite_sup rfl (ite_sup (graceCkpt_sup_of_ship h (failCkpt_sup s _) _) (graceCkpt_sup_of_ship h ?_ _))
    rw [log_sup]
    exact ite_sup (by simp) (by simp)

theorem norBusRevoke_sup_of_ship {s : State} (h : s.sup.dev = .ship) : (norBusRevoke s).sup = s.sup := by
  unfold norBusRevoke
  split
  · rfl
  · split
    · rfl
    · exact graceCkpt_sup_of_ship h (failCkpt_sup s _) _

/-- A non-owner follows its owner's intent in RUN alone (R389). -/
theorem beatTaken_sup_of_ship {s : State} (h : s.sup.dev = .ship) (x : PeerRx) : (beatTaken x s).sup = s.sup := by
  have hfollow {u : State} (hu : u.sup = s.sup) (k : Nat) (i : Intent) : (u.followPark k i).sup = s.sup := by
    unfold State.followPark
    rw [if_pos (by simp [hu, h]), hu]
  have haccept := peerAccept_sup s 1 x
  unfold beatTaken
  generalize s.peerAccept 1 x = p at haccept ⊢
  obtain ⟨s1, f⟩ := p
  cases f with
  | none => exact haccept
  | some f => exact hfollow ((takeBeat_sup s1 x f).trans haccept) _ _

theorem stitchStart_sup_of_ship {s : State} (h : s.sup.dev = .ship) (x : StitchIn) : (stitchStart x s).sup = s.sup := by
  unfold stitchStart
  rw [rounds_of_ship h]
  exact ite_sup rfl rfl

/-! ### Every command in SHIP (R80) -/

/-- The device state and the warm resume that is called for are the same in both states. -/
structure StaysInShip (s t : State) : Prop where
  dev : t.sup.dev = s.sup.dev
  resume : t.sup.resume = s.sup.resume

theorem StaysInShip.of_sup {s t : State} (h : t.sup = s.sup) : StaysInShip s t := ⟨by rw [h], by rw [h]⟩

theorem StaysInShip.of_eq {s t : State} (h : t = s) : StaysInShip s t := .of_sup (by rw [h])

theorem StaysInShip.trans {s t u : State} (h : StaysInShip s t) (k : StaysInShip t u) : StaysInShip s u :=
  ⟨k.dev.trans h.dev, k.resume.trans h.resume⟩

theorem setPg_staysInShip (s : State) (l : PgLine) (good : Bool) : StaysInShip s { s with sup := s.sup.setPg l good } := ⟨by simp, by simp⟩

/-- A PG line that turns good is only noted: the handshake belongs to BOOT (R58). -/
theorem pgGood_staysInShip {s : State} (h : s.sup.dev = .ship) (l : PgLine) : StaysInShip s (pgGood l s) := by
  by_cases hp : s.sup.pmicEn = true
  · rw [pgGood_of_not_last hp (by simp [h])]
    exact setPg_staysInShip s l true
  · exact .of_eq (if_pos (by simpa using hp))

theorem railLoss_staysInShip {s : State} (h : s.sup.dev = .ship) (l : PgLine) (t : Ns) : StaysInShip s (railLoss l t s) := by
  unfold railLoss
  rw [h]
  split
  · exact .of_eq rfl
  · exact setPg_staysInShip s l false

theorem domainsDone_staysInShip (s : State) : StaysInShip s s.domainsDone := by
  obtain ⟨hframe, -⟩ := domainsDone_spec s
  rw [hframe]
  exact ⟨rfl, rfl⟩

theorem domainSwitchOn_staysInShip (d : Nat) (s : State) : StaysInShip s (domainSwitchOn d s) := by
  unfold domainSwitchOn
  split
  · refine StaysInShip.trans ?_ (domainsDone_staysInShip _)
    exact ⟨rfl, rfl⟩
  · exact .of_eq rfl

theorem domainSwitchTimeout_staysInShip (d : Nat) (s : State) : StaysInShip s (domainSwitchTimeout d s) := by
  unfold domainSwitchTimeout
  split
  · refine StaysInShip.trans ?_ (domainsDone_staysInShip _)
    split
    · exact ⟨by simp, by simp⟩
    · exact ⟨by simp, by simp⟩
  · exact .of_eq rfl

theorem pg2Loss_staysInShip (s : State) : StaysInShip s (pg2Loss s) := by
  have hckpt : s.abandonCkpt.sup = s.sup := by rw [abandonCkpt_spec]
  unfold pg2Loss
  split
  · exact setPg_staysInShip s .pg2 false
  · refine StaysInShip.trans ?_ (domainsDone_staysInShip _)
    constructor <;> simp [State.loseMemory, hckpt]

theorem pg2Return_staysInShip (s : State) : StaysInShip s (pg2Return s) := by
  unfold pg2Return
  split
  · exact .of_eq rfl
  · refine StaysInShip.trans ?_ (domainsDone_staysInShip _)
    exact ⟨rfl, rfl⟩

theorem abortDampingEnd_staysInShip (s : State) : StaysInShip s (abortDampingEnd s) := by
  unfold abortDampingEnd
  split
  · refine StaysInShip.trans ?_ (domainsDone_staysInShip _)
    exact ⟨rfl, rfl⟩
  · exact .of_eq rfl

theorem tapsWatched_of_ship {s : State} (h : s.sup.dev = .ship) : s.tapsWatched = false := by simp [State.tapsWatched, h]

theorem tapEvent_of_ship {s : State} (h : s.sup.dev = .ship) (k : TapId) (f : Tap → Tap) : s.tapEvent k f = s := by
  simp [State.tapEvent, tapsWatched_of_ship h]

theorem parkDwelt_of_ship {s : State} (h : s.sup.dev = .ship) (t : Ns) : s.parkDwelt t = false := by
  unfold State.parkDwelt
  split <;> simp [State.parkReady, h]

/-- The commands that act on the supply in SHIP: the charger's call, the warm resume that follows it, and the loss of P0 AON. -/
inductive EndsShip : Instr → Prop
  | aonLost : EndsShip .aonLost
  | warmResume (cutsHigh : Bool) (t : Ns) : EndsShip (.warmResume cutsHigh t)
  | shipExit (t : Ns) : EndsShip (.shipExit t)

/-- Every other command leaves the device in SHIP: its guard drops it there, it does not touch the supply part, or it moves rails alone. -/
theorem endsShip_or_staysInShip : ∀ (c : Instr) (s : State), s.sup.dev = .ship → EndsShip c ∨ Completes c s (StaysInShip s)
  | .coldBoot _, _, h => .inr ⟨_, rfl, .of_eq (coldBoot_of_not_off (by simp [h]) _)⟩
  | .strapLatch _, _, h => .inr ⟨_, rfl, .of_eq (by simp [strapLatch, h])⟩
  | .resistorCodeRead _, _, h => .inr ⟨_, rfl, .of_eq (by simp [resistorCodeRead, h])⟩
  | .pgGood _, _, h => .inr ⟨_, rfl, pgGood_staysInShip h _⟩
  | .pmicHandshakeTimeout, _, h => .inr ⟨_, rfl, .of_eq (by simp [pmicTimeout, State.awaitsRails, h])⟩
  | .pmicRetry, _, h => .inr ⟨_, rfl, .of_eq (by simp [pmicRetry, h])⟩
  | .domainSwitchOn _, _, _ => .inr ⟨_, rfl, domainSwitchOn_staysInShip _ _⟩
  | .domainSwitchTimeout _, _, _ => .inr ⟨_, rfl, domainSwitchTimeout_staysInShip _ _⟩
  | .startupSelfTest _, _, h => .inr ⟨_, rfl, .of_eq (by simp [startupSelfTest, h])⟩
  | .lpddr5InitComplete _, _, _ => .inr ⟨_, rfl, .of_sup (ddrInit_sup _ _)⟩
  | .imageSelect _ _, _, h => .inr ⟨_, rfl, .of_eq (by simp [imageSelect, h])⟩
  | .roundZero _ _, _, h => .inr ⟨_, rfl, .of_eq (by simp [roundZero, h])⟩
  | .checkpointLoad, _, _ => .inr ⟨_, rfl, .of_sup (checkpointLoad_sup _)⟩
  | .warmResume _ _, _, _ => .inl (.warmResume _ _)
  | .bootSupplyLoss, _, h => .inr ⟨_, rfl, .of_eq (by simp [bootSupplyLoss, h])⟩
  | .tapPresent _, _, h => .inr ⟨_, rfl, .of_eq (tapEvent_of_ship h _ _)⟩
  | .tapAbsent _, _, h => .inr ⟨_, rfl, .of_eq (tapEvent_of_ship h _ _)⟩
  | .tapOvervoltage _, _, h => .inr ⟨_, rfl, .of_eq (tapEvent_of_ship h _ _)⟩
  | .tapOvervoltageEnd _, _, h => .inr ⟨_, rfl, .of_eq (tapEvent_of_ship h _ _)⟩
  | .tapReverseCurrent _, _, h => .inr ⟨_, rfl, .of_eq (by simp [tapReverseCurrent, tapsWatched_of_ship h])⟩
  | .sharingRunComplete _, _, h => .inr ⟨_, rfl, .of_eq (by simp [sharingRun, tapsWatched_of_ship h])⟩
  | .railLoss _ _, _, h => .inr ⟨_, rfl, railLoss_staysInShip h _ _⟩
  | .pg2Loss, _, _ => .inr ⟨_, rfl, pg2Loss_staysInShip _⟩
  | .pg2Return, _, _ => .inr ⟨_, rfl, pg2Return_staysInShip _⟩
  | .supplyLossTrigger _, _, h => .inr ⟨_, rfl, .of_eq (by simp [supplyLoss, h])⟩
  | .graceEnd _, _, h => .inr ⟨_, rfl, .of_eq (by simp [graceEnd, h])⟩
  | .freeze _, _, h => .inr ⟨_, rfl, .of_eq (by simp [freeze, h])⟩
  | .sealComplete _, _, h => .inr ⟨_, rfl, .of_eq (by simp [sealComplete, h])⟩
  | .supplyReturn _, _, h => .inr ⟨_, rfl, .of_eq (by simp [supplyReturn, h])⟩
  | .abortDampingEnd, _, _ => .inr ⟨_, rfl, abortDampingEnd_staysInShip _⟩
  | .aonLost, _, _ => .inl .aonLost
  | .parkCriterion _ _, _, h => .inr ⟨_, rfl, .of_eq (by simp [parkCriterion, parkDwelt_of_ship h])⟩
  | .wakeCause _ _, _, h => .inr ⟨_, rfl, .of_eq (by simp [wakeCause, h])⟩
  | .parkTimer _, _, h => .inr ⟨_, rfl, .of_eq (by simp [parkTimer, h])⟩
  | .parkCheckEnd _, _, h => .inr ⟨_, rfl, .of_eq (by simp [parkCheckEnd, h])⟩
  | .shipCriterion _, _, h => .inr ⟨_, rfl, .of_eq (by simp [shipCriterion, h])⟩
  | .shipExit _, _, _ => .inl (.shipExit _)
  | .paceEdge _, _, _ => .inr ⟨_, rfl, .of_sup (paceEdge_sup _ _)⟩
  | .paceLoss _, _, _ => .inr ⟨_, rfl, .of_sup (paceLoss_sup _ _)⟩
  | .holdoverEnd, _, _ => .inr ⟨_, rfl, .of_sup (holdoverEnd_sup _)⟩
  | .snapSend, _, h => .inr ⟨_, rfl, .of_eq (by simp [snapSend, rounds_of_ship h])⟩
  | .roundStart _, _, h => .inr ⟨_, rfl, .of_eq (by simp [roundStart, h])⟩
  | .stitchStart _, _, h => .inr ⟨_, rfl, .of_sup (stitchStart_sup_of_ship h _)⟩
  | .maintChange, _, _ => .inr ⟨_, rfl, .of_sup (maintChange_sup _)⟩
  | .strapResample _, _, h => .inr ⟨_, rfl, .of_eq (by simp [strapResample, rounds_of_ship h])⟩
  | .codeReread _ _, _, _ => .inr ⟨_, rfl, .of_sup (codeReread_sup _ _ _)⟩
  | .tokenSend, _, h => .inr ⟨_, rfl, .of_sup (tokenRound_sup_of_idle (rounds_of_ship h))⟩
  | .readReceived _, _, h => .inr ⟨_, rfl, .of_sup (readFrame_sup_of_idle (rounds_of_ship h) _)⟩
  | .commandRetriesSpent _, _, _ => .inr ⟨_, rfl, .of_sup (retriesSpent_sup _ _)⟩
  | .commandResend _, _, _ => .inr ⟨_, rfl, .of_sup (commandResend_sup _ _)⟩
  | .nodeLost _, _, _ => .inr ⟨_, rfl, .of_sup (lostNode_sup _ _)⟩
  | .ringReversal _, _, h => .inr ⟨_, rfl, .of_eq (ringReversal_of_idle (rounds_of_ship h) _)⟩
  | .reversalEnd _, _, _ => .inr ⟨_, rfl, .of_sup (reversalEnd_sup _ _)⟩
  | .violationWindowEnd, _, _ => .inr ⟨_, rfl, .of_sup (violationWindowEnd_sup _)⟩
  | .identResponse _, _, h => .inr ⟨_, rfl, .of_eq (identResponse_of_idle (rounds_of_ship h) _)⟩
  | .identTimeout _, _, _ => .inr ⟨_, rfl, .of_sup (identTimeout_sup _ _)⟩
  | .echo _, _, _ => .inr ⟨_, rfl, .of_sup (echoSend_sup _ _)⟩
  | .echoReply _, _, h => .inr ⟨_, rfl, .of_eq (echoReply_of_idle (rounds_of_ship h) _)⟩
  | .echoTimeout _ _, _, _ => .inr ⟨_, rfl, .of_sup (echoTimeout_sup _ _ _)⟩
  | .linkTestStart _ _, _, h => .inr ⟨_, rfl, .of_eq (by simp [linkTestStart, rounds_of_ship h])⟩
  | .bert _, _, _ => .inr ⟨_, rfl, .of_sup (bertSend_sup _ _)⟩
  | .prbs31Start _ _, _, _ => .inr ⟨_, rfl, .of_sup (prbsStart_sup _ _ _)⟩
  | .prbs31End _, _, _ => .inr ⟨_, rfl, .of_sup (prbsEnd_sup _ _)⟩
  | .bertReport _, _, h => .inr ⟨_, rfl, .of_eq (bertReport_of_idle (rounds_of_ship h) _)⟩
  | .installationTest, _, h => .inr ⟨_, rfl, .of_eq (by simp [installTest, installationTest, rounds_of_ship h])⟩
  | .periodicTestDue, _, _ => .inr ⟨_, rfl, .of_sup (periodicDue_sup _)⟩
  | .periodicTestOverdue, _, _ => .inr ⟨_, rfl, .of_sup (periodicOverdue_sup _)⟩
  | .maintenanceRetest, _, h => .inr ⟨_, rfl, .of_eq (by simp [maintenanceRetest, h, rounds_of_ship h])⟩
  | .shuntSample _, _, _ => .inr ⟨_, rfl, .of_sup (shuntSample_sup _ _)⟩
  | .shuntRangeSensor _ _, _, _ => .inr ⟨_, rfl, .of_sup (shuntRangeSensor_sup _ _ _)⟩
  | .sentFrame _, _, _ => .inr ⟨_, rfl, .of_sup (sentFrame_sup _ _)⟩
  | .sentIdTimeout _, _, _ => .inr ⟨_, rfl, .of_sup (sentIdTimeout_sup _ _)⟩
  | .sentLoss _, _, _ => .inr ⟨_, rfl, .of_sup (sentLoss_sup _ _)⟩
  | .sbSnapBlank, _, _ => .inr ⟨_, rfl, .of_sup (sbBlank_sup _)⟩
  | .sbRestore, _, _ => .inr ⟨_, rfl, .of_sup (sbRestore_sup _)⟩
  | .packChecks _, _, h => .inr ⟨_, rfl, .of_eq (by simp [packChecks, rounds_of_ship h])⟩
  | .classicalUpdate, _, h => .inr ⟨_, rfl, .of_eq (by simp [classicalUpdate, rounds_of_ship h])⟩
  | .bastingFormed _, _, _ => .inr ⟨_, rfl, .of_sup (bastingFormed_sup _ _)⟩
  | .tackOverdue, _, _ => .inr ⟨_, rfl, .of_sup (tackOverdue_sup _)⟩
  | .pairRecordWrite, _, _ => .inr ⟨_, rfl, .of_sup (pairRecordWrite_sup _)⟩
  | .stateBlockFetch _, _, _ => .inr ⟨_, rfl, .of_sup (stateBlockFetch_sup _ _)⟩
  | .learnedResultWritten _ _, _, _ => .inr ⟨_, rfl, .of_sup (learnedResult_sup _ _ _)⟩
  | .openLoopLimit _, _, _ => .inr ⟨_, rfl, .of_sup (openLoopLimit_sup _ _)⟩
  | .warmupEnd _, _, _ => .inr ⟨_, rfl, .of_sup (warmupEnd_sup _ _)⟩
  | .replayStep _, _, _ => .inr ⟨_, rfl, .of_sup (replayStep_sup _ _)⟩
  | .replayCompare, _, _ => .inr ⟨_, rfl, .of_sup (replayCompare_sup _)⟩
  | .replayAbort, _, _ => .inr ⟨_, rfl, .of_sup (replayAbort_sup _)⟩
  | .replayPeriodEnd, _, _ => .inr ⟨_, rfl, .of_sup (replayPeriodEnd_sup _)⟩
  | .stepAbandon _, _, _ => .inr ⟨_, rfl, .of_sup (stepAbandon_sup _ _)⟩
  | .cellRestore _, _, _ => .inr ⟨_, rfl, .of_sup (cellRestore_sup _ _)⟩
  | .lpddr5EccError _ _, _, _ => .inr ⟨_, rfl, .of_sup (ddrEcc_sup _ _ _)⟩
  | .bobbinEccError _ _ _, _, _ => .inr ⟨_, rfl, .of_sup (bobbinEcc_sup _ _ _ _)⟩
  | .tcmEccError _, _, _ => .inr ⟨_, rfl, .of_sup (tcmError_sup _ _)⟩
  | .eccWindowEnd, _, h => .inr ⟨_, rfl, .of_eq (by simp [eccWindowEnd, rounds_of_ship h])⟩
  | .scrubPass, _, _ => .inr ⟨_, rfl, .of_sup (scrubPass_sup _)⟩
  | .scrubOverdue, _, _ => .inr ⟨_, rfl, .of_sup (scrubOverdue_sup _)⟩
  | .arbitrationRevoke _, _, _ => .inr ⟨_, rfl, .of_sup (arbitrationRevoke_sup _ _)⟩
  | .portUnfence _, _, _ => .inr ⟨_, rfl, .of_sup (portUnfence_sup _ _)⟩
  | .refreshRateRead _, _, _ => .inr ⟨_, rfl, .of_sup (refreshRateRead_sup _ _)⟩
  | .cycleStart, _, _ => .inr ⟨_, rfl, .of_sup (cycleStart_sup _)⟩
  | .shadowStep _ _, _, _ => .inr ⟨_, rfl, .of_sup (shadowStep_sup _ _ _)⟩
  | .warmPhaseEnd, _, _ => .inr ⟨_, rfl, .of_sup (warmPhaseEnd_sup _)⟩
  | .shadowUpdate, _, _ => .inr ⟨_, rfl, .of_sup (shadowUpdate_sup _)⟩
  | .epochEnd, _, _ => .inr ⟨_, rfl, .of_sup (epochEnd_sup _)⟩
  | .fitDecision, _, _ => .inr ⟨_, rfl, .of_sup (fitDecision_sup _)⟩
  | .adapterCopy, _, _ => .inr ⟨_, rfl, .of_sup (adapterCopy_sup _)⟩
  | .promotion, _, _ => .inr ⟨_, rfl, .of_sup (promotion_sup _)⟩
  | .shedLower _, _, _ => .inr ⟨_, rfl, .of_sup (shedLower_sup _ _)⟩
  | .checkpointTrigger _, _, _ => .inr ⟨_, rfl, .of_sup (checkpointTrigger_sup _ _)⟩
  | .checkpointStaged, _, _ => .inr ⟨_, rfl, .of_sup (checkpointStaged_sup _)⟩
  | .checkpointWrite _, _, h => .inr ⟨_, rfl, .of_sup (checkpointWrite_sup_of_ship h _)⟩
  | .norBusRevoke, _, h => .inr ⟨_, rfl, .of_sup (norBusRevoke_sup_of_ship h)⟩
  | .seamDecision _, _, _ => .inr ⟨_, rfl, .of_sup (seamDecision_sup _ _)⟩
  | .seamDeadline, _, h => .inr ⟨_, rfl, .of_eq (by simp [seamDeadline, rounds_of_ship h])⟩
  | .publication _ _, _, h => .inr ⟨_, rfl, .of_eq (by simp [publication, rounds_of_ship h])⟩
  | .roundPage _, _, _ => .inr ⟨_, rfl, .of_sup (roundSend_sup _ _)⟩
  | .roundPageDrop, _, h => .inr ⟨_, rfl, .of_eq (by simp [roundPageDrop, rounds_of_ship h])⟩
  | .seamWindowEnd, _, h => .inr ⟨_, rfl, .of_eq (by simp [seamWindowEnd, rounds_of_ship h])⟩
  | .capLatch _ _ _, _, h => .inr ⟨_, rfl, .of_eq (by simp [capLatch, rounds_of_ship h])⟩
  | .capLatchMissing, _, h => .inr ⟨_, rfl, .of_eq (by simp [capLatchMissing, rounds_of_ship h])⟩
  | .comparatorEvent _, _, _ => .inr ⟨_, rfl, .of_sup (comparatorEvent_sup _ _)⟩
  | .cellLimitFlag _, _, _ => .inr ⟨_, rfl, .of_sup (cellLimitFlag_sup _ _)⟩
  | .fastPathRelease _ _, _, _ => .inr ⟨_, rfl, .of_sup (fastPathRelease_sup _ _ _)⟩
  | .pinReadbackMismatch _, _, _ => .inr ⟨_, rfl, .of_sup (pinReadbackMismatch_sup _ _)⟩
  | .storeAbsent, _, _ => .inr ⟨_, rfl, .of_sup (storeAbsent_sup _)⟩
  | .storePresent, _, _ => .inr ⟨_, rfl, .of_sup (storePresent_sup _)⟩
  | .vmainFail _, _, _ => .inr ⟨_, rfl, .of_sup (vmainFail_sup _ _)⟩
  | .reservePrecharge _ _, _, _ => .inr ⟨_, rfl, .of_sup (reservePrecharge_sup _ _ _)⟩
  | .stableReached _, _, _ => .inr ⟨_, rfl, .of_sup (stableReached_sup _ _)⟩
  | .pathDwellEnd _, _, _ => .inr ⟨_, rfl, .of_sup (pathDwellEnd_sup _ _)⟩
  | .rampComplete _, _, _ => .inr ⟨_, rfl, .of_sup (rampComplete_sup _ _)⟩
  | .shortDetected _, _, _ => .inr ⟨_, rfl, .of_sup (shortDetected_sup _ _)⟩
  | .coolEnd _, _, _ => .inr ⟨_, rfl, .of_sup (coolEnd_sup _ _)⟩
  | .shortCountReset _, _, _ => .inr ⟨_, rfl, .of_sup (shortCountReset_sup _ _)⟩
  | .latchedExit _, _, _ => .inr ⟨_, rfl, .of_sup (latchedExit_sup _ _)⟩
  | .floor _ _, _, _ => .inr ⟨_, rfl, .of_sup (floor_sup _ _ _)⟩
  | .dampingEnd _, _, _ => .inr ⟨_, rfl, .of_sup (dampingEnd_sup _ _)⟩
  | .gateInterlockTimeout _, _, _ => .inr ⟨_, rfl, .of_sup (gateInterlockTimeout_sup _ _)⟩
  | .gateMonitorFault _ _, _, _ => .inr ⟨_, rfl, .of_sup (gateMonitorFault_sup _ _ _)⟩
  | .breqEdge _ _, _, _ => .inr ⟨_, rfl, .of_sup (breqEdge_sup _ _ _)⟩
  | .burstRelease _ _, _, _ => .inr ⟨_, rfl, .of_sup (burstRelease_sup _ _ _)⟩
  | .burstDurationEnd _ _, _, _ => .inr ⟨_, rfl, .of_sup (burstDurationEnd_sup _ _ _)⟩
  | .bgntAnswer _, _, _ => .inr ⟨_, rfl, .of_sup (bgntAnswer_sup _ _)⟩
  | .beatSend _, _, h => .inr ⟨_, rfl, .of_eq (by simp [beatSend, rounds_of_ship h])⟩
  | .beatReceived _, _, h => .inr ⟨_, rfl, .of_sup (beatTaken_sup_of_ship h _)⟩
  | .claimReceived _, _, _ => .inr ⟨_, rfl, .of_sup (claimReceived_sup _ _)⟩
  | .yieldReceived _, _, _ => .inr ⟨_, rfl, .of_sup (yieldReceived_sup _ _)⟩
  | .mirrorReceived _, _, _ => .inr ⟨_, rfl, .of_sup (mirrorReceived_sup _ _)⟩
  | .peerWindowEnd, _, h => .inr ⟨_, rfl, .of_eq (by simp [peerWindowEnd, rounds_of_ship h])⟩
  | .unaligned, _, _ => .inr ⟨_, rfl, .of_sup (unaligned_sup _)⟩
  | .provisionalClaim, _, h => .inr ⟨_, rfl, .of_eq (by simp [provisionalClaim, rounds_of_ship h])⟩
  | .listenTimeout, _, h => .inr ⟨_, rfl, .of_eq (by simp [listenTimeout, rounds_of_ship h])⟩
  | .election, _, h => .inr ⟨_, rfl, .of_eq (by simp [election, rounds_of_ship h])⟩
  | .yieldSend, _, _ => .inr ⟨_, rfl, .of_sup (yieldSend_sup _)⟩
  | .acceptClaim, _, _ => .inr ⟨_, rfl, .of_sup (acceptClaim_sup _)⟩
  | .ownerJudge, _, _ => .inr ⟨_, rfl, .of_sup (ownerJudge_sup _)⟩
  | .tripDisagree _, _, _ => .inr ⟨_, rfl, .of_sup (tripDisagree_sup _ _)⟩
  | .cutIn _, _, _ => .inr ⟨_, rfl, .of_sup (cutIn_sup _ _)⟩
  | .forcedClaim, _, _ => .inr ⟨_, rfl, .of_sup (forcedClaim_sup _)⟩
  | .forcedTakeoverDrive _, _, _ => .inr ⟨_, rfl, .of_sup (forcedTakeoverDrive_sup _ _)⟩
  | .ownerSelfCheck _, _, _ => .inr ⟨_, rfl, .of_sup (ownerSelfCheck_sup _ _)⟩
  | .canTxComplete _ _ _ _, _, _ => .inr ⟨_, rfl, .of_sup (canTxComplete_sup _ _ _ _ _)⟩
  | .canErrorPassive _, _, _ => .inr ⟨_, rfl, .of_sup (canErrorPassive_sup _ _)⟩
  | .canBusOff _, _, _ => .inr ⟨_, rfl, .of_sup (canBusOff_sup _ _)⟩
  | .canBusOffRecovery _, _, _ => .inr ⟨_, rfl, .of_sup (canBusOffRecovery_sup _ _)⟩
  | .canFrameReceived _ _, _, h => .inr ⟨_, rfl, .of_eq (by simp [canFrameReceived])⟩
  | .sgmiiRxDiscard _, _, h => .inr ⟨_, rfl, .of_eq (by simp [sgmiiRxDiscard])⟩
  | .sgmiiLinkChange _, _, _ => .inr ⟨_, rfl, .of_sup (sgmiiLinkChange_sup _ _)⟩
  | .phyResetRelease, _, _ => .inr ⟨_, rfl, .of_sup (phyResetRelease_sup _)⟩
  | .pinKeeperExpiry, _, _ => .inr ⟨_, rfl, .of_sup (pinKeeperExpiry_sup _)⟩
  | .fastClockLoss _, _, _ => .inr ⟨_, rfl, .of_sup (fastClockLoss_sup _ _)⟩
  | .crystalFail, _, _ => .inr ⟨_, rfl, .of_sup (crystalFail_sup _)⟩
  | .lockstepMismatch _, _, _ => .inr ⟨_, rfl, .of_sup (lockstepMismatch_sup _ _)⟩
  | .heartbeatMiss _, _, _ => .inr ⟨_, rfl, .of_sup (heartbeatMiss_sup _ _)⟩
  | .dieOvertemp, _, h => .inr ⟨_, rfl, .of_eq (by simp [dieOvertemp, rounds_of_ship h])⟩
  | .bypass, _, _ => .inr ⟨_, rfl, .of_sup (tapBypass_sup _)⟩
  | .idcode, _, _ => .inr ⟨_, rfl, .of_sup (tapIdcode_sup _)⟩
  | .samplePreload _ _, _, _ => .inr ⟨_, rfl, .of_sup (tapSample_sup _ _ _)⟩
  | .extest _, _, _ => .inr ⟨_, rfl, .of_sup (tapExtest_sup _ _ _)⟩
  | .clamp, _, _ => .inr ⟨_, rfl, .of_sup (tapClamp_sup _)⟩
  | .highz, _, _ => .inr ⟨_, rfl, .of_sup (tapHighz_sup _)⟩
  | .extestPulse _, _, _ => .inr ⟨_, rfl, .of_sup (tapExtest_sup _ _ _)⟩
  | .extestTrain _, _, _ => .inr ⟨_, rfl, .of_sup (tapExtest_sup _ _ _)⟩
  | .lbResult, _, _ => .inr ⟨_, rfl, .of_sup (tapLbResult_sup _)⟩
  | .bistResult, _, _ => .inr ⟨_, rfl, .of_sup (tapBistResult_sup _)⟩
  | .keyProg _, _, _ => .inr ⟨_, rfl, .of_sup (keyProg_sup _ _)⟩
  | .fuseRead _, _, _ => .inr ⟨_, rfl, .of_sup (fuseRead_sup _ _)⟩
  | .lcAdvance _, _, _ => .inr ⟨_, rfl, .of_sup (lcAdvance_sup _ _)⟩
  | .auth _, _, _ => .inr ⟨_, rfl, .of_sup (tapAuth_sup _ _)⟩
  | .returnHoldEnd, _, _ => .inr ⟨_, rfl, .of_sup (returnHoldEnd_sup _)⟩
  | .loopbackPhase _, _, h => .inr ⟨_, rfl, .of_eq (by simp [loopbackPhase, h])⟩
  | .productionBist _ _ _, _, h => .inr ⟨_, rfl, .of_eq (by simp [productionBist, h])⟩
  | .pacePllFail, _, h => .inr ⟨_, rfl, .of_eq (by simp [pacePllFail, h])⟩
  | .snapReceived _, _, h => .inr ⟨_, rfl, .of_eq (snapReceived_of_idle (rounds_of_ship h) _)⟩
  | .shipNHigh, _, h => .inr ⟨_, rfl, .of_eq (by simp [shipNHigh, h])⟩
  | .goodChange _ _, _, _ => .inr ⟨_, rfl, .of_sup (goodChange_sup _ _ _)⟩
  | .mainPrecharge _ _, _, _ => .inr ⟨_, rfl, .of_sup (mainPrecharge_sup _ _ _)⟩

theorem shipExit_of_ship {s : State} (h : s.sup.dev = .ship) (t : Ns) :
    shipExit t s = { s with now := max s.now t, sup := { s.sup with resume := some .ship } } :=
  if_pos (by simp [h])

theorem warmResume_of_none {s : State} (h : s.sup.resume = none) (cutsHigh : Bool) (t : Ns) : warmResume cutsHigh t s = s := by
  rw [warmResume, h]

/-- Settles O7: SHIP ends only by a warm resume that the charger has called for, or by a loss of P0 AON. -/
theorem shipEndsOnlyByTheCharger : Obligations.ShipEndsOnlyByTheCharger := by
  refine ⟨fun s c hd haon hwarm => ?_, fun s b at_ hd hr => ⟨_, rfl, ?_⟩, fun s hd => ⟨_, rfl, ?_⟩, fun s u b hu => ⟨_, rfl, ?_⟩⟩
  · by_cases hexit : ∃ at_, c = .shipExit at_
    · obtain ⟨at_, rfl⟩ := hexit
      refine ⟨_, rfl, ?_⟩
      rw [shipExit_of_ship hd]
      exact ⟨hd, fun _ => rfl, fun h => absurd rfl (h at_)⟩
    · have hstays : Completes c s (StaysInShip s) := by
        rcases endsShip_or_staysInShip c s hd with hends | hstays
        · cases hends with
          | aonLost => exact absurd rfl haon
          | warmResume b at_ => exact ⟨_, rfl, .of_eq (warmResume_of_none (hwarm b at_ rfl) b at_)⟩
          | shipExit at_ => exact absurd ⟨at_, rfl⟩ hexit
        · exact hstays
      exact hstays.imp fun t ht => ⟨ht.dev.trans hd, fun h => absurd h hexit, fun _ => ht.resume⟩
  · rw [warmResume_of_due hr]
    exact ⟨rfl, rfl, rfl⟩
  · simp [shipNHigh, hd]
  · obtain rfl : aonLost s = u := Host.Outcome.next.inj hu
    obtain ⟨heq, -⟩ := coldBoot_spec (s := aonLost s) rfl b
    rw [heq]
    exact ⟨rfl, rfl, rfl⟩

end Sys2Proof.Machine
end

section
/-!
SUPPORT. The place in the grid (R90, R98): the round number, the stitch, the snap, the mark of a resume in place and the straps, which the
chapters' round work at stitch 0 leaves as they are.
-/
namespace Sys2Proof.Machine

/-! ### The place in the grid -/

/-- What stitch 0 fixes for its round and a later stitch moves on: the place in the grid, the mark of a resume in place, and the straps. -/
structure GridPart where
  round : Round
  stitch : Nat
  startPs : Nat
  prevStart : Ns
  stitchAt : Ns
  resumeInPlace : Bool
  straps : Straps

/-- The grid part of a state. -/
def State.gridPart (s : State) : GridPart :=
  ⟨s.pace.round, s.pace.stitch, s.pace.startPs, s.pace.prevStart, s.pace.stitchAt, s.sup.resumeInPlace, s.strap⟩

/-- MAINT takes effect at a boundary (R37). -/
def GridPart.boundary (g : GridPart) : GridPart := { g with straps := g.straps.roundStart }

/-- A stitch samples MAINT (R37). -/
def GridPart.sampled (g : GridPart) (maint : Bool) : GridPart := { g with straps := g.straps.maintSample maint }

theorem gridPart_ite {s t : State} {g : GridPart} {c : Prop} [Decidable c] (hs : s.gridPart = g) (ht : t.gridPart = g) :
    (if c then s else t).gridPart = g := by
  split
  · exact hs
  · exact ht

theorem foldl_gridPart {α : Type} {f : State → α → State} (h : ∀ s a, (f s a).gridPart = s.gridPart) (l : List α) (s : State) :
    (l.foldl f s).gridPart = s.gridPart := by
  induction l generalizing s with
  | nil => rfl
  | cons a l ih => exact (ih (f s a)).trans (h s a)

theorem gridPart_of_flt {s t : State} (h : t = { s with flt := t.flt }) : t.gridPart = s.gridPart := by rw [h]; rfl

/-! ### Faults and pins -/

@[simp] theorem raise_gridPart (s : State) (c d : Nat) : (s.raise c d).gridPart = s.gridPart := gridPart_of_flt (raise_flt s c d)

@[simp] theorem clear_gridPart (s : State) (c d : Nat) : (s.clear c d).gridPart = s.gridPart := gridPart_of_flt (clear_flt s c d)

@[simp] theorem clearAll_gridPart (s : State) (c : Nat) : (s.clearAll c).gridPart = s.gridPart := gridPart_of_flt (clearAll_flt s c)

@[simp] theorem judge_gridPart (s : State) (c d : Nat) (p : Bool) : (s.judge c d p).gridPart = s.gridPart := gridPart_of_flt (judge_flt s c d p)

@[simp] theorem judge2_gridPart (s : State) (c d : Nat) (p q : Bool) : (s.judge2 c d p q).gridPart = s.gridPart :=
  gridPart_of_flt (judge2_flt s c d p q)

@[simp] theorem raiseFor_gridPart (s : State) (c d n : Nat) : (s.raiseFor c d n).gridPart = s.gridPart := gridPart_of_flt (raiseFor_flt s c d n)

/-! ### Threads and tests -/

@[simp] theorem updNode_gridPart (s : State) (id : NodeId) (f : Node → Node) : (s.updNode id f).gridPart = s.gridPart := rfl

@[simp] theorem updRing_gridPart (s : State) (port : Nat) (f : Ring → Ring) : (s.updRing port f).gridPart = s.gridPart := rfl

@[simp] theorem updPort_gridPart (s : State) (port : Nat) (f : PortRx → PortRx) : (s.updPort port f).gridPart = s.gridPart := rfl

theorem gridPart_of_readKeeps {id : NodeId} {s t : State} (h : ReadKeeps id s t) : t.gridPart = s.gridPart := by rw [h.frame]; rfl

@[simp] theorem violate_gridPart (s : State) (id : NodeId) (code : Nat) : (s.violate id code).gridPart = s.gridPart :=
  gridPart_of_readKeeps (violate_readKeeps s id code)

@[simp] theorem dropCmds_gridPart (s : State) (n : Node) : (s.dropCmds n).gridPart = s.gridPart := by
  unfold State.dropCmds
  split <;> simp

@[simp] theorem holdOut_gridPart (s : State) (ring link cause : Nat) : (s.holdOut ring link cause).gridPart = s.gridPart := by
  unfold State.holdOut
  split <;> rfl

@[simp] theorem mapOut_gridPart (s : State) (ring link cause : Nat) : (s.mapOut ring link cause).gridPart = s.gridPart := by
  have hraised : ((s.holdOut ring link cause).raise cause (linkDetail ring link)).gridPart = s.gridPart := by simp
  exact gridPart_ite hraised hraised

@[simp] theorem countBreak_gridPart (s : State) (port m link : Nat) : (s.countBreak port m link).gridPart = s.gridPart := by
  unfold State.countBreak
  dsimp only
  (repeat' split) <;> simp

@[simp] theorem findBreak_gridPart (s : State) (r : Ring) : (s.findBreak r).gridPart = s.gridPart := by
  unfold State.findBreak
  (repeat' split) <;> simp

@[simp] theorem roundNode_gridPart (s : State) (n : Node) : (s.roundNode n).gridPart = s.gridPart := by
  unfold State.roundNode
  dsimp only
  (repeat' split) <;> simp

@[simp] theorem roundRing_gridPart (s : State) (r : Ring) : (s.roundRing r).gridPart = s.gridPart := by
  unfold State.roundRing
  exact gridPart_ite (findBreak_gridPart s r) (findBreak_gridPart s r)

@[simp] theorem roundPort_gridPart (s : State) (p : PortRx) : (s.roundPort p).gridPart = s.gridPart := by
  unfold State.roundPort
  dsimp only
  (repeat' split) <;> simp

@[simp] theorem threadRound_gridPart (s : State) (silent : List Nat) : (s.threadRound silent).gridPart = s.gridPart := by
  unfold State.threadRound
  extract_lets s1 s2 s3
  have h1 : s1.gridPart = s.gridPart := foldl_gridPart roundNode_gridPart _ s
  have h2 : s2.gridPart = s1.gridPart := foldl_gridPart roundRing_gridPart _ s1
  have h3 : s3.gridPart = s2.gridPart := foldl_gridPart roundPort_gridPart _ s2
  have hlate : ∀ (u : State) (p : PortRx),
      (if u.threadOn p.port then u.judge 0x305 (portDetail p.port) (silent.contains p.port) else u).gridPart = u.gridPart :=
    fun u p => gridPart_ite (judge_gridPart u _ _ _) rfl
  rw [foldl_gridPart hlate, h3, h2, h1]

theorem reportsMissing_gridPart (s : State) (port : Nat) (t : LinkTest) : (s.reportsMissing port t).gridPart = s.gridPart :=
  foldl_gridPart (fun u _ => gridPart_ite rfl (violate_gridPart u _ _)) _ s

theorem applyVerdict_gridPart (s : State) (kind : TestKind) (port link : Nat) (pass : Bool) :
    (s.applyVerdict kind port link pass).gridPart = s.gridPart :=
  gridPart_ite (gridPart_ite ((clear_gridPart _ _ _).trans (clear_gridPart _ _ _)) rfl) (mapOut_gridPart s port link _)

@[simp] theorem testsOver_gridPart (s : State) (kind : TestKind) : (s.testsOver kind).gridPart = s.gridPart := by
  unfold State.testsOver
  split
  · rfl
  · cases kind with
    | maintenance =>
      refine (clear_gridPart _ _ _).trans ((foldl_gridPart (fun u n => gridPart_ite ?_ rfl) _ _).trans rfl)
      simp
    | installation | periodic => exact (clear_gridPart _ _ _).trans (clear_gridPart _ _ _)

@[simp] theorem concludeTest_gridPart (s : State) (port : Nat) (closed : Bool) : (s.concludeTest port closed).gridPart = s.gridPart := by
  unfold State.concludeTest
  split
  · rfl
  next r =>
    split
    · rfl
    next t _ =>
      refine gridPart_ite rfl (gridPart_ite (gridPart_ite rfl rfl) (gridPart_ite ?_ rfl))
      extract_lets s0 s1
      have h0 : s0.gridPart = s.gridPart := gridPart_ite (reportsMissing_gridPart s port t) rfl
      have h1 : s1.gridPart = s0.gridPart := foldl_gridPart (fun u v => applyVerdict_gridPart u _ _ _ _) _ s0
      rw [testsOver_gridPart]
      exact h1.trans h0

@[simp] theorem followBerts_gridPart (s : State) (r : Ring) : (s.followBerts r).gridPart = s.gridPart := by
  unfold State.followBerts
  dsimp only
  (repeat' split) <;> simp

@[simp] theorem checkTest_gridPart (s : State) : s.checkTest.gridPart = s.gridPart :=
  by
  have hopened : (s.startTests .periodic).gridPart = s.gridPart :=
    foldl_gridPart (f := fun (t : State) (r : Ring) => t.openWindow .periodic r.port) (fun _ _ => rfl) s.thr.rings s
  exact gridPart_ite hopened rfl

@[simp] theorem testRound_gridPart (s : State) : s.testRound.gridPart = s.gridPart := by
  unfold State.testRound
  rw [checkTest_gridPart]
  refine foldl_gridPart (fun u r => ?_) _ s
  (repeat' split) <;> simp

/-! ### The learned path and training -/

@[simp] theorem abortReplay_gridPart (s : State) : s.abortReplay.gridPart = s.gridPart := by rw [(abortReplay_replayOnly s).frame]; rfl

@[simp] theorem learnedRound_gridPart (s : State) : s.learnedRound.gridPart = s.gridPart := by
  unfold State.learnedRound
  extract_lets n counted calm keep _ s0 next stuck reload missing _ s1 s2
  have h0 : s0.gridPart = s.gridPart := foldl_gridPart (fun u id => clear_gridPart u _ _) calm _
  have h1 : s1.gridPart = s0.gridPart := rfl
  have h2 : s2.gridPart = s1.gridPart := gridPart_ite (abortReplay_gridPart s1) rfl
  refine gridPart_ite h0 ?_
  rw [foldl_gridPart (fun u id => raiseFor_gridPart u _ _ _), h2, h1, h0]

@[simp] theorem unpick_gridPart (s : State) (reason : Nat) : (s.unpick reason).gridPart = s.gridPart := by rw [(unpick_spec s reason).1]; rfl

@[simp] theorem trainRound_gridPart (s : State) : s.trainRound.gridPart = s.gridPart := by
  unfold State.trainRound
  extract_lets fields bracket run mark _ s1 n need
  exact gridPart_ite (unpick_gridPart s1 3) rfl

@[simp] theorem shedFaults_gridPart (s : State) : s.shedFaults.gridPart = s.gridPart := by
  unfold State.shedFaults
  dsimp only
  (repeat' split) <;> simp

@[simp] theorem shedTo_gridPart (s : State) (l : Nat) : (s.shedTo l).gridPart = s.gridPart := by
  unfold State.shedTo
  extract_lets _ s1 _ _ s2 _ off
  have h1 : s1.gridPart = s.gridPart := unpick_gridPart _ 4
  have h2 : s2.gridPart = s.gridPart := gridPart_ite h1 h1
  exact gridPart_ite h2 h2

@[simp] theorem shedRound_gridPart (s : State) : s.shedRound.gridPart = s.gridPart := by
  unfold State.shedRound
  extract_lets _ s0 w s1 cool since
  have h1 : s1.gridPart = s.gridPart := gridPart_ite (shedTo_gridPart s0 w) rfl
  exact (shedFaults_gridPart _).trans h1

/-! ### The store, the taps and the fast path -/

@[simp] theorem storeRound_gridPart (s : State) (x : SnapLatch) : (s.storeRound x).gridPart = s.gridPart := by
  unfold State.storeRound
  extract_lets n f low cellLow stackLow _ s1 ok under cf ct far rr _ s2 s3 s4
  have h3 : s3.gridPart = s.gridPart := gridPart_ite ((clear_gridPart _ _ _).trans (clear_gridPart s2 _ _)) rfl
  refine gridPart_ite rfl ?_
  rw [judge2_gridPart, judge2_gridPart, judge2_gridPart, h3]

@[simp] theorem shareRound_gridPart (s : State) (x : SnapLatch) : (s.shareRound x).gridPart = s.gridPart := by
  unfold State.shareRound
  extract_lets l s1 dt run within
  have h1 : s1.gridPart = s.gridPart := by
    refine foldl_gridPart (fun u k => ?_) _ s
    cases k <;> rfl
  exact gridPart_ite rfl (gridPart_ite h1 h1)

@[simp] theorem releaseTrip_gridPart (s : State) : s.releaseTrip.gridPart = s.gridPart :=
  gridPart_ite ((clear_gridPart _ _ _).trans (clear_gridPart _ _ _)) rfl

/-! ### Ownership and the output links -/

@[simp] theorem updView_gridPart (s : State) (k : Nat) (f : SeatView → SeatView) : (s.updView k f).gridPart = s.gridPart := rfl

@[simp] theorem beginTurn_gridPart (s : State) : s.beginTurn.gridPart = s.gridPart := clearAll_gridPart _ _

@[simp] theorem otherTurn_gridPart (s : State) (k : Nat) : (s.otherTurn k).gridPart = s.gridPart := gridPart_ite rfl rfl

@[simp] theorem yieldRelease_gridPart (s : State) : s.yieldRelease.gridPart = s.gridPart := by
  unfold State.yieldRelease
  split
  · rfl
  next y _ =>
    extract_lets role _ s1 _ s2 s3 _ s4
    have h1 : s1.gridPart = s.gridPart := clear_gridPart _ _ _
    have h2 : s2.gridPart = s.gridPart := h1
    have h4 : s4.gridPart = s.gridPart := h1
    have hfrom := gridPart_ite (c := y.reason = 0) ((otherTurn_gridPart s2 y.succ).trans h2) h2
    have hsucc := gridPart_ite (c := y.reason = 0) ((beginTurn_gridPart s4).trans h4) ((clear_gridPart s4 0x833 0).trans h4)
    exact gridPart_ite (gridPart_ite hfrom (gridPart_ite hsucc h1)) rfl

@[simp] theorem forcedRound_gridPart (s : State) : s.forcedRound.gridPart = s.gridPart := by
  unfold State.forcedRound
  split
  · exact gridPart_ite (clear_gridPart _ _ _) rfl
  · rfl

@[simp] theorem ownerRound_gridPart (s : State) (silent : List CutSide) : (s.ownerRound silent).gridPart = s.gridPart := by
  unfold State.ownerRound
  extract_lets l _ s1 _ s2 s3 _ u s4
  have h2 : s2.gridPart = s.gridPart := gridPart_ite rfl rfl
  have h3 : s3.gridPart = s2.gridPart := (forcedRound_gridPart _).trans (yieldRelease_gridPart s2)
  have h4 : s4.gridPart = s3.gridPart := gridPart_ite (gridPart_ite (clear_gridPart u _ _) rfl) rfl
  have hjudged := judge_gridPart s4 0x801 0 (!silent.isEmpty)
  exact gridPart_ite rfl (gridPart_ite (hjudged.trans (h4.trans (h3.trans h2))) (h4.trans (h3.trans h2)))

@[simp] theorem outputRound_gridPart (s : State) : s.outputRound.gridPart = s.gridPart := by
  unfold State.outputRound
  extract_lets a b up runs _ s1 long s2 s3 s4 s5 many s6
  have hclear (u : State) (p : Prop) [Decidable p] (c : Nat) : (if p then u.clear c 0 else u).gridPart = u.gridPart :=
    gridPart_ite (clear_gridPart u c 0) rfl
  have h5 : s5.gridPart = s.gridPart := by
    rw [judge2_gridPart, hclear, hclear, hclear]; rfl
  have h6 : s6.gridPart = s.gridPart := gridPart_ite h5 ((clear_gridPart s5 _ _).trans h5)
  exact gridPart_ite h6 h5

/-! ### The notes of a round (R37, R72, R78, R102) -/

@[simp] theorem joinRound_gridPart (s : State) : s.joinRound.gridPart = s.gridPart := by
  unfold State.joinRound
  split
  · rfl
  · exact gridPart_ite (gridPart_ite rfl rfl) rfl

theorem maintRound_gridPart (s : State) : s.maintRound.gridPart = s.gridPart.boundary := rfl

@[simp] theorem runTime_gridPart (s : State) : s.runTime.gridPart = s.gridPart := gridPart_ite rfl rfl

@[simp] theorem acqLatch_gridPart (s : State) (x : SnapLatch) : (s.acqLatch x).gridPart = s.gridPart := by
  unfold State.acqLatch
  extract_lets clip a b c win z silent _ s1 s2 s3 s4
  have hclear (u : State) (p : Prop) [Decidable p] (n : Nat) : (if p then u.clear n 0 else u).gridPart = u.gridPart :=
    gridPart_ite (clear_gridPart u n 0) rfl
  exact (hclear s4 _ _).trans ((hclear s3 _ _).trans ((hclear s2 _ _).trans (hclear s1 _ _)))

@[simp] theorem paceFaults_gridPart (s : State) (before : Round) : (s.paceFaults before).gridPart = s.gridPart := by
  unfold State.paceFaults
  extract_lets p ended long win s1 s2 s3 s4
  have h4 : s4.gridPart = s.gridPart := by rw [judge2_gridPart, judge2_gridPart, judge2_gridPart, judge2_gridPart]
  exact gridPart_ite rfl h4

@[simp] theorem dieFaults_gridPart (s : State) : s.dieFaults.gridPart = s.gridPart := by
  unfold State.dieFaults
  extract_lets l r n _ s1 warm
  have h1 : s1.gridPart = s.gridPart := judge2_gridPart _ _ _ _ _
  exact gridPart_ite ((raiseFor_gridPart s1 _ _ _).trans h1) h1

@[simp] theorem runtimeTest_gridPart (s : State) (passed : Bool) : (s.runtimeTest passed).gridPart = s.gridPart := by
  unfold State.runtimeTest
  split
  · rfl
  · exact gridPart_ite rfl (raise_gridPart _ _ _)

@[simp] theorem tableRound_gridPart (s : State) : s.tableRound.gridPart = s.gridPart := gridPart_ite (clearAll_gridPart _ _) rfl

@[simp] theorem abortOver_gridPart (s : State) : s.abortOver.gridPart = s.gridPart := by
  unfold State.abortOver
  split
  · exact gridPart_ite (clear_gridPart _ _ _) rfl
  · rfl

@[simp] theorem checkRound_gridPart (s : State) : s.checkRound.gridPart = s.gridPart := gridPart_ite rfl (gridPart_ite rfl rfl)

@[simp] theorem holdsRound_gridPart (s : State) : s.holdsRound.gridPart = s.gridPart := gridPart_of_flt (holdsRound_flt s)

@[simp] theorem pinsRound_gridPart (s : State) : s.pinsRound.gridPart = s.gridPart := gridPart_of_flt (pinsRound_flt s)

end Sys2Proof.Machine
end

section
/-!
SUPPORT. The place in the grid through the stitches (R90, R100): what each stitch samples, and the work that the later stitches do.
-/
namespace Sys2Proof.Machine

/-! ### What every stitch samples (R37) -/

@[simp] theorem vsetSample_gridPart (s : State) (n : Nat) : (s.vsetSample n).gridPart = s.gridPart := by
  unfold State.vsetSample
  exact gridPart_ite (gridPart_ite rfl (gridPart_ite (clear_gridPart _ _ _) (raise_gridPart _ _ _))) rfl

@[simp] theorem refUpdate_gridPart (s : State) (t : Ns) : (s.refUpdate t).gridPart = s.gridPart := by
  unfold State.refUpdate
  dsimp only
  split <;> rfl

@[simp] theorem storeStitch_gridPart (s : State) (vset : Nat) (t : Ns) : (s.storeStitch vset t).gridPart = s.gridPart := by
  unfold State.storeStitch
  extract_lets s1
  have h1 : s1.gridPart = s.gridPart := gridPart_ite (vsetSample_gridPart s vset) rfl
  exact gridPart_ite ((refUpdate_gridPart s1 t).trans h1) h1

theorem eachStitch_gridPart (s : State) (x : StitchLevels) (t : Ns) :
    (s.eachStitch x t).gridPart = s.gridPart.sampled x.maint := by
  unfold State.eachStitch
  exact storeStitch_gridPart _ _ _

/-! ### The stitches of READs, training and ownership (R119, R273) -/

@[simp] theorem epochCheck_gridPart (s : State) (id : NodeId) (e : Nat) : (s.epochCheck id e).gridPart = s.gridPart := by
  unfold State.epochCheck
  dsimp only
  (repeat' split) <;> simp

@[simp] theorem settleRead_gridPart (s : State) (id : NodeId) (l : List Byte) : (s.settleRead id l).gridPart = s.gridPart := by
  unfold State.settleRead
  split
  · rfl
  next n _ =>
    extract_lets back s1 s2 s3 s4 s5 s6 s7
    have h3 : s3.gridPart = s.gridPart := (clear_gridPart s2 _ _).trans (epochCheck_gridPart s id _)
    have h4 : s4.gridPart = s3.gridPart :=
      gridPart_of_readKeeps (((respCheck_readKeeps s3 id _ _).trans (markConf_readKeeps _ id _ _)).trans (ackCheck_readKeeps _ id _ _ _))
    have h5 : s5.gridPart = s4.gridPart := gridPart_of_readKeeps (reported_readKeeps s4 id _ _)
    have h6 : s6.gridPart = s5.gridPart := gridPart_of_readKeeps (takeSamples_readKeeps s5 id l)
    have hs : s7.gridPart = s.gridPart := h6.trans (h5.trans (h4.trans h3))
    split
    · exact gridPart_ite ((clear_gridPart s7 _ _).trans hs) hs
    · exact hs

@[simp] theorem settleReads_gridPart (s : State) : s.settleReads.gridPart = s.gridPart := by
  unfold State.settleReads
  refine foldl_gridPart (fun u n => ?_) _ s
  (repeat' split) <;> simp

@[simp] theorem trainLate_gridPart (s : State) : s.trainLate.gridPart = s.gridPart := gridPart_ite rfl rfl

theorem gridPart_of_ownOnly {s t : State} (h : OwnOnly s t) : t.gridPart = s.gridPart := by
  obtain ⟨o, rfl⟩ := h
  rfl

@[simp] theorem sendItems_gridPart (s : State) (items : List (List Byte)) : (s.sendItems items).gridPart = s.gridPart :=
  gridPart_of_ownOnly (sendItems_ownOnly s items)

@[simp] theorem mirrorStitch_gridPart (s : State) : s.mirrorStitch.gridPart = s.gridPart := by
  unfold State.mirrorStitch
  extract_lets _ sa _ s0
  have ha : sa.gridPart = s.gridPart := gridPart_ite (sendItems_gridPart _ _) rfl
  have h0 : s0.gridPart = s.gridPart := gridPart_ite (gridPart_ite ha ((sendItems_gridPart _ _).trans ha)) ha
  have hsent (items : List (List Byte)) : (s0.sendItems items).gridPart = s.gridPart := (sendItems_gridPart s0 items).trans h0
  exact gridPart_ite h0 (gridPart_ite (hsent _) (gridPart_ite (hsent _) (gridPart_ite (hsent _) h0)))

@[simp] theorem judgePair_gridPart (s : State) (a b : Nat) : (s.judgePair a b).gridPart = s.gridPart := by
  unfold State.judgePair
  split
  · exact gridPart_ite (gridPart_ite (gridPart_ite rfl (judge_gridPart _ _ _ _)) rfl) rfl
  · rfl

@[simp] theorem peerRound_gridPart (s : State) : s.peerRound.gridPart = s.gridPart := by
  unfold State.peerRound
  extract_lets others s1 s2 pairs s3 _ s4 _ s5 owns s6
  have h1 : s1.gridPart = s.gridPart := by
    refine gridPart_ite rfl (foldl_gridPart (fun u k => ?_) _ s)
    dsimp only
    (repeat' split) <;> simp
  have h2 : s2.gridPart = s1.gridPart := gridPart_ite (raise_gridPart s1 _ _) (gridPart_ite (raise_gridPart s1 _ _) rfl)
  have h3 : s3.gridPart = s2.gridPart := foldl_gridPart (fun u p => judgePair_gridPart u p.1 p.2) pairs s2
  have h4 : s4.gridPart = s3.gridPart := gridPart_ite (raise_gridPart _ _ _) rfl
  have h5 : s5.gridPart = s4.gridPart := gridPart_ite rfl rfl
  have h6 : s6.gridPart = s5.gridPart := gridPart_ite (clear_gridPart s5 _ _) rfl
  have hs : s6.gridPart = s.gridPart := h6.trans (h5.trans (h4.trans (h3.trans (h2.trans h1))))
  exact gridPart_ite ((raise_gridPart s6 _ _).trans hs) hs

@[simp] theorem electedClaim_gridPart (s : State) : s.electedClaim.gridPart = s.gridPart :=
  gridPart_ite ((gridPart_of_ownOnly (peerSend_ownOnly _ _ _)).trans (clear_gridPart _ _ _)) rfl

@[simp] theorem yieldTest_gridPart (s : State) : s.yieldTest.gridPart = s.gridPart := by
  unfold State.yieldTest
  split
  · rfl
  · exact gridPart_ite rfl (gridPart_ite rfl (gridPart_ite rfl (gridPart_ite (raise_gridPart _ _ _) rfl)))

@[simp] theorem yieldStitch63_gridPart (s : State) : s.yieldStitch63.gridPart = s.gridPart := by
  unfold State.yieldStitch63
  split
  · rfl
  · exact gridPart_ite (gridPart_ite rfl (gridPart_ite rfl rfl)) rfl

@[simp] theorem forcedStitch63_gridPart (s : State) : s.forcedStitch63.gridPart = s.gridPart := by
  unfold State.forcedStitch63
  split
  · exact gridPart_ite rfl rfl
  · rfl

@[simp] theorem ownerStitch_gridPart (s : State) : s.ownerStitch.gridPart = s.gridPart := by
  unfold State.ownerStitch
  extract_lets s1 s2
  have h2 : s2.gridPart = s.gridPart := (mirrorStitch_gridPart s1).trans (gridPart_ite rfl rfl)
  refine gridPart_ite rfl (gridPart_ite ((peerRound_gridPart s2).trans h2) (gridPart_ite ?_ (gridPart_ite ?_ h2)))
  · rw [yieldTest_gridPart, electedClaim_gridPart, h2]
  · rw [forcedStitch63_gridPart, yieldStitch63_gridPart, h2]

end Sys2Proof.Machine
end

section
/-!
SUPPORT. ROUND_START and STITCH_START (R90, R98, R100): the close of a round, the count of the next one, the stitches of a round, and statement
O21 from them.
-/
namespace Sys2Proof.Machine

/-! ### The close of the round before (R100) -/

/-- Forming the streams touches acquisition and the fault table alone. -/
theorem formStreams_frame (s : State) : ∃ a f, s.formStreams = { s with acq := a, flt := f } := by
  unfold State.formStreams
  split
  · exact ⟨_, _, rfl⟩
  · split
    · exact ⟨_, _, rfl⟩
    · extract_lets f a0 b0 z both agree runs _ s1 s2
      obtain ⟨a2, f2, h2⟩ : ∃ a f, s2 = { s with acq := a, flt := f } := ⟨_, _, judge2_flt s1 _ _ _ _⟩
      clear_value s2
      subst h2
      split
      next p rej tier _ =>
      extract_lets a b s3
      obtain ⟨a3, f3, h3⟩ : ∃ a f, s3 = { s with acq := a, flt := f } := ⟨_, _, judge_flt _ _ _ _⟩
      clear_value s3
      subst h3
      exact ⟨_, _, rfl⟩

theorem acqClose_frame (s : State) : ∃ a f, s.acqClose = { s with acq := a, flt := f } := by
  obtain ⟨a, f, h⟩ := formStreams_frame s
  unfold State.acqClose
  rw [h]
  exact ⟨_, _, rfl⟩

/-! ### The next round (R90, R98, R369) -/

/-- The largest of a start and of a number read off each element of a list. -/
theorem le_foldl_max {α : Type} (f : α → Nat) (l : List α) (n : Nat) : n ≤ l.foldl (fun a v => max a (f v)) n := by
  induction l generalizing n with
  | nil => exact le_rfl
  | cons v l ih => exact (Nat.le_max_left n (f v)).trans (ih _)

theorem foldl_max_of_zero {α : Type} {f : α → Nat} {l : List α} (h : ∀ v ∈ l, f v = 0) (n : Nat) :
    l.foldl (fun a v => max a (f v)) n = n := by
  induction l with
  | nil => rfl
  | cons v l ih =>
    rw [List.foldl_cons, h v List.mem_cons_self, Nat.max_zero]
    exact ih fun w hw => h w (List.mem_cons_of_mem v hw)

theorem le_adopted (s : State) (t : Ns) (own : Round) : own ≤ s.adopted t own := le_foldl_max _ s.own.views own

/-- Without a BEAT heard in the round, no number is adopted. -/
theorem adopted_of_unheard {s : State} (h : ∀ v ∈ s.own.views, v.heard = false) (t : Ns) (own : Round) : s.adopted t own = own := by
  refine foldl_max_of_zero (fun v hv => ?_) own
  cases v.beat with
  | none => rfl
  | some b => exact if_neg (by simp [h v hv])

/-- Stitch 0 of the round n: what it makes of the grid part (R90, R97). -/
def State.stitchZero (s : State) (pll : Ns) (n : Round) : GridPart :=
  ⟨n, 0, s.pace.boundary pll, s.pace.start, s.pace.boundary pll / 1000, s.sup.resumeInPlace, s.strap⟩

theorem nextRound_gridPart (s : State) (x : PllTick) :
    (s.nextRound x).gridPart = s.stitchZero x.t (s.nextRound x).pace.round := rfl

theorem le_nextRound (s : State) (x : PllTick) : s.pace.round + 1 ≤ (s.nextRound x).pace.round := le_adopted _ _ _

theorem nextRound_round_of_unheard {s : State} (h : ∀ v ∈ s.own.views, v.heard = false) (x : PllTick) :
    (s.nextRound x).pace.round = s.pace.round + 1 := by
  let p := s.pace.startRound s.img.f.pace.roundMin s.phi x.t x.periodPs
  calc (s.nextRound x).pace.round = (({ s with pace := p } : State).at p.start).adopted p.start p.round := rfl
    _ = p.round := adopted_of_unheard (s := ({ s with pace := p } : State).at p.start) h p.start p.round
    _ = s.pace.round + 1 := rfl

/-- The state that stitch 0 counts on from: the round before is closed (R100). -/
def State.closed (s : State) : State := s.latchWatch.keepLate.acqClose

/-- Closing a round leaves its grid, its owner and the straps alone. -/
theorem closed_frame (s : State) : ∃ a l f w, s.closed = { s with acq := a, lrn := l, flt := f, pow := w } := by
  obtain ⟨a, f, h⟩ := acqClose_frame s.latchWatch.keepLate
  exact ⟨a, _, f, _, h⟩

theorem closed_pace (s : State) : s.closed.pace = s.pace := by
  obtain ⟨a, l, f, w, h⟩ := closed_frame s
  rw [h]

theorem closed_own (s : State) : s.closed.own = s.own := by
  obtain ⟨a, l, f, w, h⟩ := closed_frame s
  rw [h]

theorem closed_stitchZero (s : State) (pll : Ns) (n : Round) : s.closed.stitchZero pll n = s.stitchZero pll n := by
  obtain ⟨a, l, f, w, h⟩ := closed_frame s
  rw [h]
  rfl

/-- The number of the round that stitch 0 opens (R98). -/
def State.nextNumber (s : State) (x : PllTick) : Round := (s.closed.nextRound x).pace.round

theorem le_nextNumber (s : State) (x : PllTick) : s.pace.round + 1 ≤ s.nextNumber x := by
  rw [← closed_pace]
  exact le_nextRound s.closed x

theorem nextNumber_of_unheard {s : State} (h : ∀ v ∈ s.own.views, v.heard = false) (x : PllTick) : s.nextNumber x = s.pace.round + 1 := by
  rw [← closed_own] at h
  rw [← closed_pace]
  exact nextRound_round_of_unheard h x

/-- The work of stitch 0 after the count leaves the new place in the grid alone; MAINT takes effect in it, and is sampled. -/
theorem workRound_gridPart (s : State) (x : RoundIn) :
    (s.workRound x).gridPart = (s.stitchZero x.pll.t (s.nextNumber x.pll)).boundary.sampled x.levels.maint := by
  rw [← closed_stitchZero, State.nextNumber, ← nextRound_gridPart]
  unfold State.workRound State.closed
  generalize s.latchWatch.keepLate.acqClose.nextRound x.pll = u
  extract_lets before s1 s2 s3 s4 s5 late s6 s7 s8
  have h1 : s1.gridPart = u.gridPart.boundary := by rw [acqLatch_gridPart, runTime_gridPart, maintRound_gridPart, joinRound_gridPart]
  have h5 : s5.gridPart = s1.gridPart := by
    rw [outputRound_gridPart, ownerRound_gridPart, releaseTrip_gridPart, shareRound_gridPart, storeRound_gridPart, shedRound_gridPart,
      trainRound_gridPart, learnedRound_gridPart, testRound_gridPart, threadRound_gridPart]
  have h6 : s6.gridPart = s5.gridPart := gridPart_ite (raiseFor_gridPart s5 _ _ _) rfl
  have h7 : s7.tableRound.abortOver.checkRound.gridPart = s6.gridPart := by
    rw [checkRound_gridPart, abortOver_gridPart, tableRound_gridPart, runtimeTest_gridPart, dieFaults_gridPart, paceFaults_gridPart]
  rw [pinsRound_gridPart, holdsRound_gridPart, eachStitch_gridPart, h7, h6, h5, h1]

/-- A resume in place takes up its work at stitch 0 (R69). -/
def State.resumed (s : State) : State := { s with sup := { s.sup with resumeInPlace := false } }

theorem roundStart_of_working {s : State} (hrun : s.pace.running = true) (h63 : s.pace.stitch = 63)
    (hd : s.sup.dev = .run ∨ s.sup.dev = .grace) (x : RoundIn) : roundStart x s = s.resumed.workRound x := by
  unfold roundStart
  rw [if_neg (by simp [hrun, h63])]
  rcases hd with hd | hd <;> rw [hd] <;> rfl

/-- The grid alone moves on to the next round (R69, R90). -/
def State.gridAlone (s : State) (x : PllTick) : State := { s with pace := s.pace.startRound s.img.f.pace.roundMin s.phi x.t x.periodPs }

theorem gridAlone_gridPart (s : State) (x : PllTick) : (s.gridAlone x).gridPart = s.stitchZero x.t (s.pace.round + 1) := rfl

theorem roundStart_of_seal {s : State} (hrun : s.pace.running = true) (h63 : s.pace.stitch = 63) (hd : s.sup.dev = .seal) (x : RoundIn) :
    roundStart x s = (s.gridAlone x.pll).paceFaults s.pace.round := by
  unfold roundStart
  rw [if_neg (by simp [hrun, h63]), hd]
  rfl

theorem paceFaults_frame (s : State) (before : Round) :
    s.paceFaults before = { s with pace := (s.paceFaults before).pace, flt := (s.paceFaults before).flt } ∧
    SameFaults [0x203, 0x204, 0x205, 0x206] s (s.paceFaults before) := by
  unfold State.paceFaults
  split
  · exact ⟨rfl, SameFaults.refl _ s⟩
  · extract_lets p ended long win s1 s2 s3 s4
    have h4 : s4 = { s with flt := s4.flt } := by
      unfold s4 s3 s2 s1
      rw [judge2_flt, judge2_flt, judge2_flt, judge2_flt]
    have hsame : SameFaults [0x203, 0x204, 0x205, 0x206] s s4 :=
      (((judge2_sameFaults (by decide) s _ _ _).trans (judge2_sameFaults (by decide) s1 _ _ _)).trans
        (judge2_sameFaults (by decide) s2 _ _ _)).trans (judge2_sameFaults (by decide) s3 _ _ _)
    refine ⟨?_, hsame⟩
    clear_value s4
    rw [h4]

/-! ### The next stitch (R90) -/

theorem Pace.boundary_of_idle {p : Pace} (hl : p.lock = .idle) (hh : p.heldEnd = none) (ha : p.idleAdjust = 0) (pll : Ns) :
    p.boundary pll = p.startPs + 1000000000 := by simp [Pace.boundary, Pace.lengthPs, hl, hh, ha]

theorem Pace.nextStitch_of_known {p : Pace} (hl : p.lock = .idle ∨ p.lock = .hold ∨ p.lock = .transition) (pll : Ns) :
    p.nextStitch pll = p.startPs + (p.stitch + 1) * p.lengthPs / 64 := by
  unfold Pace.nextStitch
  rcases hl with hl | hl | hl <;> rw [hl]

theorem running_of_rounds {s : State} (h : s.rounds = true) : s.pace.running = true := by
  simp only [State.rounds, Bool.and_eq_true] at h
  exact h.1.1

theorem stitchStart_gridPart {s : State} (hr : s.rounds = true) (hn : s.pace.stitch < 63) (x : StitchIn) :
    (stitchStart x s).gridPart =
      { s.gridPart with stitch := s.pace.stitch + 1, stitchAt := s.pace.nextStitch x.t / 1000 : GridPart }.sampled x.levels.maint := by
  unfold stitchStart
  rw [if_neg (by simp [running_of_rounds hr, hn]), if_neg (by simp [hr])]
  extract_lets p _ s1 s2 s2' _ s3
  have h2 : s2'.gridPart = s2.gridPart := gridPart_ite (settleReads_gridPart s2) rfl
  have h3 : s3.gridPart = s2'.gridPart := gridPart_ite (trainLate_gridPart _) rfl
  rw [ownerStitch_gridPart, h3, h2, eachStitch_gridPart]
  rfl

theorem Straps.roundStart_maint (s : Straps) : s.roundStart.maint = s.maintNext.getD s.maint := by
  unfold Straps.roundStart
  cases s.maintNext <;> rfl

/-- Settles O21: the work of a stitch leaves the grid part as the count and the stitch make it. That the grid alone runs on in SEAL is log
entry 124; the PLL's operands are log entries 41 and 153. -/
theorem roundsAndStitchesFollow : Obligations.RoundsAndStitchesFollow := by
  refine ⟨fun s x hrun h63 hd => ⟨roundStart x s, rfl, ?_⟩, fun s x hrun h63 hd => ⟨roundStart x s, rfl, ?_⟩,
    fun p pll hl hh ha => Pace.boundary_of_idle hl hh ha pll, fun p pll hl => Pace.nextStitch_of_known hl pll,
    fun s x hr hn => ⟨stitchStart x s, rfl, ?_⟩⟩
  · have hg := workRound_gridPart s.resumed x
    rw [← roundStart_of_working hrun h63 hd] at hg
    have hround : (roundStart x s).pace.round = s.resumed.nextNumber x.pll := congrArg GridPart.round hg
    have hmaint : (roundStart x s).strap.maint = s.strap.roundStart.maint := congrArg (fun g => g.straps.maint) hg
    exact ⟨(le_nextNumber s.resumed x.pll).trans_eq hround.symm, fun h => hround.trans (nextNumber_of_unheard (s := s.resumed) h x.pll),
      congrArg GridPart.stitch hg, congrArg GridPart.prevStart hg, congrArg GridPart.startPs hg, congrArg GridPart.resumeInPlace hg,
      hmaint.trans s.strap.roundStart_maint, roundStart_fixed x s⟩
  · rw [roundStart_of_seal hrun h63 hd]
    obtain ⟨hframe, hfaults⟩ := paceFaults_frame (s.gridAlone x.pll) s.pace.round
    have hg := paceFaults_gridPart (s.gridAlone x.pll) s.pace.round
    rw [gridAlone_gridPart] at hg
    exact ⟨hframe, hfaults, congrArg GridPart.round hg, congrArg GridPart.stitch hg, congrArg GridPart.startPs hg⟩
  · have hg := stitchStart_gridPart hr hn x
    exact ⟨congrArg GridPart.stitch hg, congrArg GridPart.stitchAt hg, congrArg GridPart.round hg, congrArg GridPart.straps hg,
      stitchStart_fixed x s⟩

end Sys2Proof.Machine
end

section
/-!
SUPPORT. SNAP on the rings and at the ports (R106, R111, R126, R145), and statement O23 from the ring each one makes.
-/
namespace Sys2Proof.Machine

/-! ### Entries changed one after another under distinct keys -/

theorem find?_updWhere_key {α : Type} {k : α → Nat} {f : α → α} (hf : ∀ x, k (f x) = k x) (j i : Nat) (l : List α) :
    (updWhere (fun y => k y == j) f l).find? (fun y => k y == i) =
      if i = j then (l.find? fun y => k y == i).map f else l.find? fun y => k y == i := by
  rw [find?_updWhere fun x _ => by rw [hf]]
  split
  · next h =>
    subst h
    exact Option.map_congr fun x hx => if_pos (List.find?_some hx)
  · next h =>
    refine (Option.map_congr fun x hx => if_neg ?_).trans Option.map_id'
    have hk := List.find?_some hx
    simp only [beq_iff_eq] at hk ⊢
    exact fun hj => h (hk.symm.trans hj)

section
variable {α : Type} {k : α → Nat} {g : α → α → α} (hg : ∀ x y, k (g x y) = k y)
include hg

theorem find?_foldl_updWhere_of_not_mem {l : List α} {i : Nat} (hi : i ∉ l.map k) (ys : List α) :
    (l.foldl (fun ys x => updWhere (fun y => k y == k x) (g x) ys) ys).find? (fun y => k y == i) = ys.find? fun y => k y == i := by
  induction l generalizing ys with
  | nil => rfl
  | cons x l ih =>
    obtain ⟨hx, hl⟩ := List.ne_and_not_mem_of_not_mem_cons hi
    rw [List.foldl_cons, ih hl, find?_updWhere_key (hg x), if_neg hx]

/-- Under distinct keys each entry is changed once, by the work of its own key. -/
theorem find?_foldl_updWhere {l : List α} (hl : (l.map k).Nodup) {x : α} (hx : x ∈ l) (ys : List α) :
    (l.foldl (fun ys x => updWhere (fun y => k y == k x) (g x) ys) ys).find? (fun y => k y == k x) =
      (ys.find? fun y => k y == k x).map (g x) := by
  induction l generalizing ys with
  | nil => cases hx
  | cons z l ih =>
    obtain ⟨hz, hl⟩ := List.nodup_cons.mp hl
    rw [List.foldl_cons]
    rcases List.mem_cons.mp hx with rfl | hx
    · rw [find?_foldl_updWhere_of_not_mem hg hz, find?_updWhere_key (hg x), if_pos rfl]
    · rw [ih hl hx, find?_updWhere_key (hg z), if_neg fun h : k x = k z => hz (h ▸ List.mem_map_of_mem hx)]

end

/-! ### SNAP_SEND (R106, R111, R133) -/

/-- This device sends SNAP on a ring from an end that is its own. -/
def State.sendsFrom (s : State) (r : Ring) (e : RingEnd) : Bool := s.ownEnds.contains e && s.sendsSnap r e

/-- The SNAP of the coming round on a ring from one end, empty where none leaves. -/
def State.snapAt (s : State) (r : Ring) (e : RingEnd) : List Byte :=
  if s.sendsFrom r e then snapFrame e (s.pace.round + 1) (if s.acts && e == s.headEnd then r.naks.head? else none) else []

/-- A ring once the SNAP of the coming round has left on it. -/
def State.snapped (s : State) (r m : Ring) : Ring :=
  { m with snapA := s.snapAt r .a, snapB := s.snapAt r .b, snapFor := some (s.pace.round + 1)
           naks := if s.acts && s.sendsFrom r s.headEnd then m.naks.tail else m.naks }

theorem snapRing_eq (s : State) (r : Ring) : s.snapRing r = s.updRing r.port (s.snapped r) := by
  unfold State.snapRing State.snapped State.sendsFrom
  rw [← Bool.and_assoc]
  rfl

/-- What leaves on one ring does not depend on the rings already served. -/
theorem foldl_snapRing_eq (l : List Ring) (s : State) :
    l.foldl State.snapRing s = { s with thr := { s.thr with
      rings := l.foldl (fun rs r => updWhere (fun m => m.port == r.port) (s.snapped r) rs) s.thr.rings } } := by
  induction l generalizing s with
  | nil => rfl
  | cons r l ih =>
    rw [List.foldl_cons, ih, snapRing_eq]
    rfl

/-- The rings that SNAP has not yet left on for the coming round. -/
def State.snapDue (s : State) : List Ring := s.thr.rings.filter fun r => !(r.snapFor == some (s.pace.round + 1))

theorem mem_snapDue {s : State} {r : Ring} : r ∈ s.snapDue ↔ r ∈ s.thr.rings ∧ r.snapFor ≠ some (s.pace.round + 1) := by
  simp [State.snapDue, List.mem_filter]

theorem snapSend_eq {s : State} (hr : s.rounds = true) (h61 : 61 ≤ s.pace.stitch) :
    snapSend s = { s with thr := { s.thr with
      rings := s.snapDue.foldl (fun rs r => updWhere (fun m => m.port == r.port) (s.snapped r) rs) s.thr.rings } } :=
  (if_pos (by simp [hr, h61])).trans (foldl_snapRing_eq _ s)

/-- Once on every ring: one that is due is served, one that has had its SNAP is left as it is. -/
theorem snapSend_ring {s : State} (hr : s.rounds = true) (h61 : 61 ≤ s.pace.stitch) (hports : (s.thr.rings.map fun r => r.port).Nodup)
    {r : Ring} (hmem : r ∈ s.thr.rings) :
    (r.snapFor ≠ some (s.pace.round + 1) → (snapSend s).ring r.port = some (s.snapped r r)) ∧
    (r.snapFor = some (s.pace.round + 1) → (snapSend s).ring r.port = some r) := by
  have hfind : s.thr.rings.find? (fun m => m.port == r.port) = some r := find?_key_of_nodup hports hmem
  rw [snapSend_eq hr h61]
  refine ⟨fun hdue => ?_, fun hdone => ?_⟩
  · have hnodup : (s.snapDue.map fun r => r.port).Nodup := hports.sublist (List.filter_sublist.map _)
    have h := find?_foldl_updWhere (k := fun r : Ring => r.port) (g := s.snapped) (fun _ _ => rfl) hnodup
      (mem_snapDue.mpr ⟨hmem, hdue⟩) s.thr.rings
    exact h.trans (by rw [hfind]; rfl)
  · have hnot : r.port ∉ s.snapDue.map fun r => r.port := by
      intro h
      obtain ⟨m, hm, hport⟩ := List.mem_map.mp h
      obtain ⟨hmem', hdue⟩ := mem_snapDue.mp hm
      exact hdue (List.inj_on_of_nodup_map hports hmem' hmem hport ▸ hdone)
    exact (find?_foldl_updWhere_of_not_mem (k := fun r : Ring => r.port) (g := s.snapped) (fun _ _ => rfl) hnot s.thr.rings).trans hfind

/-- A fault raised with a change of the threads: both change, the fault stands, and every other one is as it was. -/
theorem raise_threads_spec (s : State) (thr : Threads) (c d : Nat) :
    let t := ({ s with thr := thr } : State).raise c d
    t = { s with thr := thr, flt := t.flt } ∧ t.flt.stands c d = true ∧ SameFaults [c] s t :=
  ⟨by rw [raise_flt], raise_stands _ _ _,
    (SameFaults.of_stands fun _ _ => rfl).trans (raise_sameFaults (List.mem_singleton_self c) _ _)⟩

/-! ### SNAP_RECEIVED (R126, R134, R145, R158) -/

/-- The ring at its tail after a SNAP of the head came with a count of hops. -/
def Ring.snapSeen (hops : Nat) (r : Ring) : Ring :=
  { r with headSeen := true, hopsRun := if r.hopsRun = 0 || r.hopsLast = hops then r.hopsRun + 1 else 1, hopsLast := hops }

/-- The length of a ring is judged against a count of hops. -/
def State.judgeHops (s : State) (port hops : Nat) : State :=
  let bad := hops != s.ringLen port
  ({ s with pat := { s.pat with passed := s.pat.passed && !bad } } : State).judge 0x404 (portDetail port) bad

/-- SNAP of the head at the tail: the head is seen, and the third equal count of hops in a turn is judged. -/
def State.headSnap (s : State) (port hops : Nat) : State :=
  let s1 := s.updRing port (Ring.snapSeen hops)
  match s1.ring port with
  | some r => if 3 ≤ r.hopsRun && s.pat.turn.isSome then s1.judgeHops port hops else s1
  | none => s1

/-- What SNAP does at a port of this device: one that fails counts there, one that crossed a mapped-out link is discarded, one from the far
end is foreign to the head and shows the head to the tail. -/
theorem snapReceived_spec {s : State} {x : ThreadRx} {port : Nat} {e : RingEnd} (hp : s.portEnd x.port = some (port, e))
    (hr : s.rounds = true) (hd : s.threadOn x.port = true) :
    (snapValid x = false → countsAsError sofS x (!(rxFramed sofS x && decide ((rxBytes x).length = 9))) = true →
      snapReceived x s = s.portError x.port) ∧
    (snapValid x = true → s.split port = true → snapReceived x s = s) ∧
    (snapValid x = true → s.split port = false → decide (128 ≤ byteAt (rxBytes x) 0) = (e == RingEnd.a) →
      snapReceived x s =
        if s.acts && e == s.headEnd then
          (s.updPort x.port fun p => { p with foreignRound := some s.pace.round }).raise 0x308 (portDetail x.port)
        else s.headSnap port (byteAt (rxBytes x) 1 % 32)) := by
  have hon : ¬ (!s.rounds || !s.threadOn x.port) = true := by simp [hr, hd]
  unfold snapReceived
  rw [hp]
  dsimp only
  rw [if_neg hon]
  refine ⟨fun hv he => ?_, fun hv hs => ?_, fun hv hs hfar => ?_⟩
  · rw [if_pos (by simp [hv]), if_pos he]
  · rw [if_neg (by simp [hv]), if_pos (by simp [hs])]
  · rw [if_neg (by simp [hv]), if_neg (by simp [hs, hfar])]
    rfl

/-- What a judged count of hops changes: the check's result and fault 0x404, which a count that differs raises. -/
theorem judgeHops_spec (s : State) (port hops : Nat) :
    let t := s.judgeHops port hops
    t = { s with pat := { s.pat with passed := t.pat.passed }, flt := t.flt } ∧ SameFaults [0x404] s t ∧
      (hops ≠ s.ringLen port → t.flt.stands 0x404 (portDetail port) = true ∧ t.pat.passed = false) := by
  unfold State.judgeHops
  refine ⟨by rw [judge_flt], (SameFaults.of_stands fun _ _ => rfl).trans (judge_sameFaults (by decide) _ _ _), fun hne => ?_⟩
  have hbad : (hops != s.ringLen port) = true := by simpa using hne
  rw [hbad]
  exact ⟨raise_stands _ _ _, by rw [judge_flt]; simp⟩

/-- What SNAP of the head leaves at the tail. -/
theorem headSnap_spec (s : State) (port hops : Nat) :
    let t := s.headSnap port hops
    t = { s with thr := { s.thr with rings := t.thr.rings }, pat := { s.pat with passed := t.pat.passed }, flt := t.flt } ∧
      SameFaults [0x404] s t ∧ t.ring port = (s.ring port).map (Ring.snapSeen hops) ∧
      (∀ r, t.ring port = some r → 3 ≤ r.hopsRun → s.pat.turn.isSome = true → hops ≠ s.ringLen port →
        t.flt.stands 0x404 (portDetail port) = true ∧ t.pat.passed = false) := by
  let s1 := s.updRing port (Ring.snapSeen hops)
  have hring : s1.ring port = (s.ring port).map (Ring.snapSeen hops) := ring_updRing (f := Ring.snapSeen hops) (fun _ => rfl) s port
  have hsame : SameFaults [0x404] s s1 := SameFaults.of_stands fun _ _ => rfl
  obtain ⟨hframe, hfaults, hjudged⟩ := judgeHops_spec s1 port hops
  have hkept : (s1.judgeHops port hops).ring port = s1.ring port := by rw [hframe]; rfl
  unfold State.headSnap
  dsimp only
  split
  · next q hq =>
    split
    · exact ⟨by rw [hframe]; rfl, hsame.trans hfaults, hkept.trans hring, fun _ _ _ _ hne => hjudged hne⟩
    · next hfew =>
      refine ⟨rfl, hsame, hring, fun r h h3 hturn _ => absurd ?_ hfew⟩
      rw [Option.some.inj (hq.symm.trans h)]
      simp [h3, hturn]
  · next hnone => exact ⟨rfl, hsame, hring, fun r h => by cases hnone.symm.trans h⟩

/-- Settles O23: what leaves on a ring is the same whichever rings went before, and a SNAP received is a port error, a foreign SNAP or the
head's. That three equal counts of hops are judged is log entry 156. -/
theorem snapsLeaveAndAreJudged : Obligations.SnapsLeaveAndAreJudged := by
  refine ⟨fun s hr h61 hports => ⟨_, rfl, by rw [snapSend_eq hr h61], fun r hmem => snapSend_ring hr h61 hports hmem⟩,
    fun s x port e hp hr hd => ?_⟩
  obtain ⟨hbad, hsplit, hsound⟩ := snapReceived_spec hp hr hd
  refine ⟨fun hv he => ⟨_, rfl, ?_⟩, fun hv hs hfar => ⟨fun hhead => ⟨_, rfl, ?_⟩, fun htail => ⟨_, rfl, ?_⟩⟩,
    fun hv hs => ⟨_, rfl, hsplit hv hs⟩⟩
  · rw [hbad hv he]
    exact portError_spec s x.port
  · rw [hsound hv hs hfar, if_pos (by simpa using hhead)]
    obtain ⟨hframe, hstands, hfaults⟩ := raise_threads_spec s _ 0x308 (portDetail x.port)
    exact ⟨hstands, hfaults, hframe⟩
  · rw [hsound hv hs hfar, if_neg (by simpa using htail)]
    obtain ⟨hframe, hfaults, hring, hjudged⟩ := headSnap_spec s port (byteAt (rxBytes x) 1 % 32)
    refine ⟨hframe, hfaults, ?_, hjudged⟩
    rw [hring, Option.map_map]
    rfl

end Sys2Proof.Machine
end

section
/-!
SUPPORT. Command retries, lost nodes, reversals and violation windows (R126, R131, R134, R135), and statement O25 from what each command does.
-/
namespace Sys2Proof.Machine

/-! ### Spent and resent commands (R131) -/

theorem setCmd_of_cmd {n : Node} {c : Cmd} (hc : n.cmd = some c) (hi : n.identCmd = none) (d : Option Cmd) :
    n.setCmd c d = { n with cmd := d } := by
  unfold Node.setCmd
  rw [if_neg (by simp [hi]), if_pos hc]

/-- A spent command is replaced where it stands among the spent ones. -/
theorem setCmd_of_spent {n : Node} {c : Cmd} {rest : List Cmd} (hs : n.spent = c :: rest) (hc : n.cmd ≠ some c)
    (hi : n.identCmd ≠ some c) (hrest : c ∉ rest) (d : Cmd) : n.setCmd c (some d) = { n with spent := d :: rest } := by
  have hkeep : (rest.flatMap fun x => if x = c then [d] else [x]) = rest := by
    rw [List.flatMap_congr fun x hx => if_neg fun h : x = c => hrest (h ▸ hx)]
    exact List.flatMap_singleton' rest
  unfold Node.setCmd
  rw [if_neg hi, if_neg hc, hs, List.flatMap_cons, if_pos rfl]
  exact congrArg (fun l => { n with spent := d :: l }) hkeep

/-- Under distinct keys a change of the entry of one key depends on that entry alone. -/
theorem updNode_congr {s : State} {id : NodeId} {n : Node} (hn : s.node id = some n) (hids : (s.thr.nodes.map fun m => m.id).Nodup)
    {f g : Node → Node} (hfg : f n = g n) : s.updNode id f = s.updNode id g := by
  have heq : updWhere (fun m : Node => m.id == id) f s.thr.nodes = updWhere (fun m => m.id == id) g s.thr.nodes := by
    refine List.map_congr_left fun m hm => ?_
    split
    · next hid =>
      have hmn : m = n := List.inj_on_of_nodup_map hids hm (List.mem_of_find?_eq_some hn) ((beq_iff_eq.mp hid).trans (node_id hn).symm)
      rw [hmn, hfg]
    · rfl
  unfold State.updNode
  rw [heq]

/-- A command that is no longer held up the others: it stands among the spent ones, with its fault. -/
def Node.spend (c : Cmd) (n : Node) : Node := { n with cmd := none, spent := n.spent ++ [{ c with faulted := true }] }

theorem retriesSpent_of_cmd {s : State} {id : NodeId} {n : Node} {c : Cmd} (hn : s.node id = some n)
    (hids : (s.thr.nodes.map fun m => m.id).Nodup) (hc : n.cmd = some c) (hi : n.identCmd = none)
    (hs : c.spent s.img.f.thread.cmdRetries s.pace = true) (ha : s.acts = true) :
    retriesSpent id s = (s.updNode id (Node.spend c)).raise 0x302 (nodeDetail id) := by
  have hdone : ((n.identCmd.toList ++ n.cmd.toList).filter fun c => c.spent s.img.f.thread.cmdRetries s.pace) = [c] := by
    simp [hi, hc, hs]
  unfold retriesSpent
  rw [hn]
  dsimp only
  rw [hdone, if_neg (by simp [ha])]
  refine congrArg (fun u : State => u.raise 0x302 (nodeDetail id)) (updNode_congr hn hids ?_)
  rw [List.foldl_cons, setCmd_of_cmd hc hi]
  rfl

/-- A spent command sent afresh: a new number and the present epoch, and due (R131). -/
def Node.resend (n : Node) (c : Cmd) (rest : List Cmd) : Node :=
  let q := (n.seqCtr + 1) % 128
  { n with seqCtr := q, ownSent := true, spent := { c with seq := q, epoch := n.epoch.getD 15, due := true, free := true } :: rest }

theorem commandResend_spec {s : State} {id : NodeId} {n : Node} {c : Cmd} {rest : List Cmd} (hn : s.node id = some n)
    (hs : n.spent = c :: rest) (hdue : c.due = false) (ha : s.acts = true) (h100 : c.sentRound + 100 ≤ s.pace.round)
    (hc : n.cmd ≠ some c) (hi : n.identCmd ≠ some c) (hrest : c ∉ rest) :
    let t := commandResend id s
    t = { s with thr := { s.thr with nodes := t.thr.nodes } } ∧ t.node id = some (n.resend c rest) := by
  have hfind : (n.spent.find? fun c => !c.due && decide (c.sentRound + 100 ≤ s.pace.round)) = some c := by
    rw [hs, List.find?_cons_of_pos (by simp [hdue, h100])]
  unfold commandResend
  rw [hn]
  dsimp only
  rw [hfind]
  dsimp only
  rw [if_pos ha]
  refine ⟨rfl, ?_⟩
  rw [node_updNode_some hn ?_, setCmd_of_spent hs hc hi hrest]
  · rfl
  · exact fun m => setCmd_id m c _

/-! ### Lost nodes (R135, R273) -/

/-- A node that is lost has no epoch. -/
def Node.lose (n : Node) : Node := { n with lost := true, epoch := none }

/-- The cells of a node in the pattern in force. -/
def State.cellsOf (s : State) (id : NodeId) : List CellId := match s.img.variant with | some v => v.nodeCells id | none => []

theorem lostNode_of_missed {s : State} {id : NodeId} {n : Node} (hn : s.node id = some n) (h3 : 3 ≤ n.missed) (hl : n.lost = false) :
    lostNode id s = ((s.updNode id Node.lose).raise 0x301 (nodeDetail id)).leaveActive fun k => (s.cellsOf id).contains k := by
  have hlost : nodeLost id s = (s.updNode id Node.lose).raise 0x301 (nodeDetail id) := by
    unfold nodeLost
    rw [hn]
    exact if_pos (by simp [h3, hl])
  have hnode : (nodeLost id s).node id = some n.lose := by
    rw [hlost, raise_flt]
    exact node_updNode_some hn
  unfold lostNode
  dsimp only
  rw [hnode]
  exact (if_pos rfl).trans (by rw [hlost]; rfl)

theorem leaveActive_trn_of_eq {s t : State} (h : t.trn = s.trn) (sel : CellId → Bool) : (t.leaveActive sel).trn = (s.leaveActive sel).trn := by
  unfold State.leaveActive
  rw [h]

/-! ### Reversal (R126) -/

theorem ringReversal_of_unseen {s : State} {port : Nat} {r : Ring} (hring : s.ring port = some r) (hr : s.rounds = true)
    (hat : s.attached = true) (htail : s.twoSeats = false ∨ s.acts = false) (hrev : r.reversed = false) (hseen : r.headSeen = false)
    (hwin : r.inWindow = false) :
    ringReversal port s = (s.updRing port fun r =>
      { r with reversed := true, headRun := 0
               missedRound := some (if 60 ≤ s.pace.stitch then s.pace.round + 1 else s.pace.round) }).raise 0x304 (portDetail port) := by
  unfold ringReversal
  rw [hring]
  exact if_pos (by simp [hr, hat, hrev, hseen, hwin]; exact htail)

theorem split_eq_false {s : State} {port : Nat} (h : ∀ m ∈ s.nv.mapOuts, m.1 ≠ port) : s.split port = false := by
  simpa [State.split] using h

theorem reversalEnd_of_seen {s : State} {port : Nat} {r : Ring} (hring : s.ring port = some r) (hrev : r.reversed = true)
    (h16 : 16 ≤ r.headRun) (hsplit : s.split port = false) :
    reversalEnd port s = (s.updRing port fun r => { r with reversed := false, headRun := 0 }).clear 0x304 (portDetail port) := by
  unfold reversalEnd
  rw [hring]
  exact if_pos (by simp [hrev, h16, hsplit])

/-! ### The nodes at the end of a violation window (R134) -/

/-- A node at the start of a window: no violations, the clean windows before it counted, and out of quarantine where that has ended. -/
def Node.atWindow (runs : Nat) (ends : Bool) (n : Node) : Node :=
  { n with violations := 0, cleanWindows := if n.quarantined then (if ends then 0 else runs) else 0
           quarantined := n.quarantined && !ends }

theorem windowNode_spec (s : State) (n : Node) :
    ∃ runs ends,
      s.windowNode n = { s with thr := { s.thr with nodes := updWhere (fun m => m.id == n.id) (Node.atWindow runs ends) s.thr.nodes }
                                flt := (s.windowNode n).flt } ∧
        SameFaults [0x306, 0x309] s (s.windowNode n) := by
  unfold State.windowNode
  extract_lets clean runs ends s1
  have hsame : SameFaults [0x306, 0x309] s s1 := SameFaults.of_stands fun _ _ => rfl
  refine ⟨runs, ends, ?_⟩
  split
  · exact ⟨by rw [clear_flt]; rfl, hsame.trans (clear_sameFaults (by decide) _ _)⟩
  · exact ⟨rfl, hsame⟩

theorem windowNode_sameFaults (s : State) (n : Node) : SameFaults [0x306, 0x309] s (s.windowNode n) := by
  obtain ⟨_, _, -, hsame⟩ := windowNode_spec s n
  exact hsame

theorem foldl_windowNode_frame (l : List Node) (s : State) :
    ∃ nodes flt, l.foldl State.windowNode s = { s with thr := { s.thr with nodes := nodes }, flt := flt } := by
  induction l generalizing s with
  | nil => exact ⟨_, _, rfl⟩
  | cons n l ih =>
    obtain ⟨_, _, hn, -⟩ := windowNode_spec s n
    obtain ⟨nodes, flt, hl⟩ := ih (s.windowNode n)
    exact ⟨nodes, flt, by rw [List.foldl_cons, hl, hn]⟩

/-- A node that is not among those still to come has no violations left. -/
theorem foldl_windowNode_violations {l : List Node} {s : State} (h : ∀ m ∈ s.thr.nodes, m.violations = 0 ∨ m.id ∈ l.map fun n => n.id) :
    ∀ m ∈ (l.foldl State.windowNode s).thr.nodes, m.violations = 0 := by
  induction l generalizing s with
  | nil => exact fun m hm => (h m hm).resolve_right List.not_mem_nil
  | cons n l ih =>
    refine ih fun m hm => ?_
    obtain ⟨runs, ends, hn, -⟩ := windowNode_spec s n
    rw [hn] at hm
    obtain ⟨q, hq, rfl⟩ := List.mem_map.mp hm
    split
    · exact .inl rfl
    · next hne => exact (h q hq).imp_right fun hmem => (List.mem_cons.mp hmem).resolve_left fun heq => hne (by simp [heq])

/-! ### The ports at the end of a violation window (R134) -/

/-- A port at the start of a window. -/
def PortRx.afresh (p : PortRx) : PortRx := { p with crc := 0 }

theorem windowPort_eq (s : State) (p : PortRx) :
    s.windowPort p = { s with thr := { s.thr with ports := updWhere (fun q => q.port == p.port) PortRx.afresh s.thr.ports }
                              flt := (s.windowPort p).flt } := by
  unfold State.windowPort
  dsimp only
  rw [judge_flt]
  rfl

theorem updWhere_updWhere {α : Type} {p q : α → Bool} {f : α → α} (hf : ∀ x, f (f x) = f x) (hq : ∀ x, q (f x) = q x) (l : List α) :
    updWhere q f (updWhere p f l) = updWhere (fun x => p x || q x) f l := by
  unfold updWhere
  rw [List.map_map]
  refine List.map_congr_left fun x _ => ?_
  by_cases hp : p x = true
  · simp [hp, hq, hf]
  · simp [hp]

theorem foldl_windowPort_frame (l : List PortRx) (s : State) :
    ∃ flt, l.foldl State.windowPort s =
      { s with thr := { s.thr with ports := updWhere (fun q => (l.map fun p => p.port).contains q.port) PortRx.afresh s.thr.ports }, flt := flt } := by
  induction l generalizing s with
  | nil => exact ⟨s.flt, by simp [updWhere]⟩
  | cons p l ih =>
    obtain ⟨flt, hl⟩ := ih (s.windowPort p)
    refine ⟨flt, ?_⟩
    rw [List.foldl_cons, hl, windowPort_eq]
    have hmerge := updWhere_updWhere (p := fun q => q.port == p.port) (q := fun q => (l.map fun p => p.port).contains q.port)
      (f := PortRx.afresh) (fun _ => rfl) (fun _ => rfl) s.thr.ports
    simp only [hmerge, List.map_cons, List.contains_cons]

/-- Every port is counted afresh once all have been worked. -/
theorem updWhere_all_ports (l : List PortRx) :
    updWhere (fun q => (l.map fun p => p.port).contains q.port) PortRx.afresh l = l.map PortRx.afresh :=
  List.map_congr_left fun _ hq => if_pos (List.contains_iff_mem.mpr (List.mem_map_of_mem hq))

theorem windowPort_sameFaults (s : State) (p : PortRx) : SameFaults [0x306, 0x309] s (s.windowPort p) :=
  (SameFaults.of_stands fun _ _ => rfl).trans (judge_sameFaults (by decide) _ _ _)

theorem windowPort_stands {s : State} {p : PortRx} (h : s.img.f.thread.crcLimit < p.crc) :
    (s.windowPort p).flt.stands 0x309 (portDetail p.port) = true := by
  unfold State.windowPort State.judge
  rw [if_pos (decide_eq_true h)]
  exact raise_stands _ _ _

theorem windowPort_stands_ne {p : PortRx} {port : Nat} (hne : port ≠ p.port) (s : State) :
    (s.windowPort p).flt.stands 0x309 (portDetail port) = s.flt.stands 0x309 (portDetail port) :=
  judge_stands_ne _ _ _ _ _ _ (fun h => hne (by simpa [portDetail] using h.2.symm)) (by decide)

theorem foldl_windowPort_stands_of_not_mem {l : List PortRx} {port : Nat} (h : port ∉ l.map fun p => p.port) (s : State) :
    (l.foldl State.windowPort s).flt.stands 0x309 (portDetail port) = s.flt.stands 0x309 (portDetail port) := by
  induction l generalizing s with
  | nil => rfl
  | cons p l ih =>
    obtain ⟨hp, hl⟩ := List.ne_and_not_mem_of_not_mem_cons h
    rw [List.foldl_cons, ih hl, windowPort_stands_ne hp]

theorem foldl_windowPort_stands {l : List PortRx} (hl : (l.map fun p => p.port).Nodup) {p : PortRx} (hp : p ∈ l) {s : State}
    (hlim : s.img.f.thread.crcLimit < p.crc) : (l.foldl State.windowPort s).flt.stands 0x309 (portDetail p.port) = true := by
  induction l generalizing s with
  | nil => cases hp
  | cons q l ih =>
    obtain ⟨hq, hl⟩ := List.nodup_cons.mp hl
    rw [List.foldl_cons]
    rcases List.mem_cons.mp hp with rfl | hp
    · rw [foldl_windowPort_stands_of_not_mem hq]
      exact windowPort_stands hlim
    · exact ih hl hp (by rw [windowPort_eq]; exact hlim)

/-- At the end of a window every count starts again, and a port above its limit has fault 0x309. -/
theorem violationWindowEnd_spec {s : State} (hports : (s.thr.ports.map fun p => p.port).Nodup) (hw : s.thr.window ≠ s.pace.round / 1000) :
    let t := violationWindowEnd s
    t = { s with thr := { s.thr with nodes := t.thr.nodes, ports := t.thr.ports, window := s.pace.round / 1000 }, flt := t.flt } ∧
      (∀ n ∈ t.thr.nodes, n.violations = 0) ∧ t.thr.ports = s.thr.ports.map PortRx.afresh ∧
      (∀ p ∈ s.thr.ports, s.img.f.thread.crcLimit < p.crc → t.flt.stands 0x309 (portDetail p.port) = true) ∧
      SameFaults [0x306, 0x309] s t := by
  let s1 := s.thr.nodes.foldl State.windowNode s
  have hend : violationWindowEnd s = { s.thr.ports.foldl State.windowPort s1 with thr :=
      { (s.thr.ports.foldl State.windowPort s1).thr with window := s.pace.round / 1000 } } := if_neg hw
  have hclean : ∀ n ∈ s1.thr.nodes, n.violations = 0 := foldl_windowNode_violations fun m hm => .inr (List.mem_map_of_mem hm)
  have hsame1 : SameFaults [0x306, 0x309] s s1 := foldl_sameFaults windowNode_sameFaults _ s
  have hsame2 : SameFaults [0x306, 0x309] s1 (s.thr.ports.foldl State.windowPort s1) := foldl_sameFaults windowPort_sameFaults _ s1
  obtain ⟨nodes, flt1, hs1⟩ : ∃ nodes flt, s1 = { s with thr := { s.thr with nodes := nodes }, flt := flt } :=
    foldl_windowNode_frame s.thr.nodes s
  obtain ⟨flt2, hs2⟩ := foldl_windowPort_frame s.thr.ports s1
  have hports1 : s1.thr.ports = s.thr.ports := by rw [hs1]
  rw [hend]
  refine ⟨?_, ?_, ?_, fun p hp hlim => ?_, hsame1.trans hsame2⟩
  · rw [hs2, hs1]
  · rw [hs2]
    exact hclean
  · rw [hs2, hports1]
    exact updWhere_all_ports s.thr.ports
  · exact foldl_windowPort_stands hports hp (by rw [hs1]; exact hlim)

/-- Settles O25: each command by what it does where its conditions hold. That a spent command is sent afresh beside the others is log entry 133,
and the round a reversal takes as missed is log entry 52. -/
theorem commandsNodesAndRings : Obligations.CommandsNodesAndRings := by
  refine ⟨fun s id n hn hids => ⟨fun c hc hi hs ha => ⟨_, rfl, ?_⟩, fun c rest hs hdue ha h100 hc hi hrest => ⟨_, rfl, ?_⟩,
      fun h3 hl => ⟨_, rfl, ?_⟩⟩,
    fun s port r hring hr hat htail hrev hseen hwin => ⟨_, rfl, ?_⟩, fun s port r hring hrev h16 hout => ⟨_, rfl, ?_⟩,
    fun s hports hw => ⟨_, rfl, violationWindowEnd_spec hports hw⟩⟩
  · rw [retriesSpent_of_cmd hn hids hc hi hs ha]
    exact raise_threads_spec s _ 0x302 (nodeDetail id)
  · exact commandResend_spec hn hs hdue ha h100 hc hi hrest
  · rw [lostNode_of_missed hn h3 hl]
    obtain ⟨-, hstands, hfaults⟩ := raise_threads_spec s (s.updNode id Node.lose).thr 0x301 (nodeDetail id)
    refine ⟨by rw [raise_flt]; rfl, fun v hv => ?_, hstands, hfaults⟩
    have hcells : s.cellsOf id = v.nodeCells id := by
      unfold State.cellsOf
      rw [hv]
    rw [hcells]
    exact leaveActive_trn_of_eq (by rw [raise_flt]; rfl) _
  · rw [ringReversal_of_unseen hring hr hat htail hrev hseen hwin]
    obtain ⟨-, hstands, hfaults⟩ := raise_threads_spec s (s.updRing port _).thr 0x304 (portDetail port)
    exact ⟨by rw [raise_flt]; rfl, by rw [raise_flt]; exact ring_updRing_some hring, hstands, hfaults⟩
  · rw [reversalEnd_of_seen hring hrev h16 (split_eq_false hout)]
    exact ⟨by rw [clear_flt]; rfl, by rw [clear_flt]; exact ring_updRing_some hring, fun hl => clear_stands _ _ _ hl (by decide),
      (SameFaults.of_stands fun _ _ => rfl).trans (clear_sameFaults (by decide) _ _)⟩

end Sys2Proof.Machine
end

section
/-!
SUPPORT. The end of a turn of the pattern check (R144, R147, R148): what the check of a turn leaves of rings, nodes and faults.
-/
namespace Sys2Proof.Machine

/-! ### Changes of the fault table alone -/

/-- The two states differ in the fault state alone, and of the faults in those named. -/
structure FaultsOnly (l : List Nat) (s t : State) : Prop where
  frame : t = { s with flt := t.flt }
  faults : SameFaults l s t

namespace FaultsOnly
variable {l : List Nat} {s t u : State}

theorem refl : FaultsOnly l s s := ⟨rfl, SameFaults.refl l s⟩

theorem trans (h : FaultsOnly l s t) (k : FaultsOnly l t u) : FaultsOnly l s u := ⟨by rw [k.frame, h.frame], h.faults.trans k.faults⟩

theorem ite {c : Prop} [Decidable c] (ht : FaultsOnly l s t) (hu : FaultsOnly l s u) : FaultsOnly l s (if c then t else u) := by
  split
  · exact ht
  · exact hu

theorem foldl {α : Type} {f : State → α → State} (h : ∀ s a, FaultsOnly l s (f s a)) (as : List α) (s : State) :
    FaultsOnly l s (as.foldl f s) := ⟨foldl_flt f (fun s a => (h s a).frame) as s, foldl_sameFaults (fun s a => (h s a).faults) as s⟩

end FaultsOnly

section
variable {l : List Nat} {c : Nat} (hc : c ∈ l) (s : State) (d : Nat)
include hc

theorem raiseHigh_faultsOnly : FaultsOnly l s (s.raiseHigh c d) := ⟨raiseHigh_flt s c d, raiseInst_sameFaults hc s rfl⟩

theorem clear_faultsOnly : FaultsOnly l s (s.clear c d) := ⟨clear_flt s c d, clear_sameFaults hc s d⟩

end

/-! ### The end of a turn (R144, R147, R148) -/

/-- A node with the compensations of this check kept. -/
def Node.keepCheck (n : Node) : Node := { n with checkA := n.compA, checkB := n.compB }

/-- The faults that the end of a turn judges. -/
def turnEndCodes : List Nat := [0x403, 0x406, 0x408, 0x40B]

/-- The faults of a node's class at the end of a turn: that of a misfit stays for a misfit alone. -/
def State.endClassFaults (s : State) (n : Node) : State :=
  let s1 := if n.cls == NodeClass.misfit then s else s.clear 0x408 (nodeDetail n.id)
  if n.cls == NodeClass.match_ then s1.clear 0x40B (nodeDetail n.id) else s1

theorem endClassFaults_faultsOnly (s : State) (n : Node) : FaultsOnly turnEndCodes s (s.endClassFaults n) := by
  have h1 : FaultsOnly turnEndCodes s (if n.cls == NodeClass.misfit then s else s.clear 0x408 (nodeDetail n.id)) :=
    FaultsOnly.ite FaultsOnly.refl (clear_faultsOnly (by decide) s _)
  exact FaultsOnly.ite (h1.trans (clear_faultsOnly (by decide) _ _)) h1

theorem endClassFaults_stands {id : NodeId} {n : Node} (h : n.id = id → n.cls = .misfit) (s : State) :
    (s.endClassFaults n).flt.stands 0x408 (nodeDetail id) = s.flt.stands 0x408 (nodeDetail id) := by
  have hmatch (u : State) (p : Prop) [Decidable p] :
      (if p then u.clear 0x40B (nodeDetail n.id) else u).flt.stands 0x408 (nodeDetail id) = u.flt.stands 0x408 (nodeDetail id) := by
    split
    · exact clear_stands_ne u _ _ _ _ (by simp)
    · rfl
  refine (hmatch _ _).trans ?_
  split
  · rfl
  · next hfit => exact clear_stands_ne s _ _ _ _ fun heq => hfit (by simp [h (by simpa [nodeDetail] using heq.2)])

/-- What the check of a turn leaves: rings, pace and time; of the nodes all but the compensations kept; of the faults all but those that the
end of a turn judges, and that of a misfit too. -/
structure TurnKeeps (s t : State) : Prop where
  frame : t = { s with thr := { s.thr with nodes := t.thr.nodes }, pat := t.pat, own := t.own, nv := t.nv, flt := t.flt }
  nodes : t.thr.nodes = s.thr.nodes ∨ t.thr.nodes = s.thr.nodes.map Node.keepCheck
  faults : SameFaults turnEndCodes s t
  misfit : ∀ id, (∀ n ∈ s.thr.nodes, n.id = id → n.cls = .misfit) →
    t.flt.stands 0x408 (nodeDetail id) = s.flt.stands 0x408 (nodeDetail id)

theorem TurnKeeps.refl (s : State) : TurnKeeps s s := ⟨rfl, .inl rfl, SameFaults.refl _ s, fun _ _ => rfl⟩

theorem TurnKeeps.node {α : Type} {s t : State} (h : TurnKeeps s t) (g : Node → α) (hg : ∀ n, g n.keepCheck = g n) (id : NodeId) :
    (t.node id).map g = (s.node id).map g := by
  unfold State.node
  rcases h.nodes with hn | hn
  · rw [hn]
  · rw [hn, List.find?_map, Option.map_map]
    exact Option.map_congr fun n _ => hg n

/-- The record of a turn, once its faults are judged. -/
def State.recordTurn (s : State) : State :=
  let s1 : State := { s with
    pat := { s.pat with ownTurnDone := true, passed := !s.patternFails }
    thr := { s.thr with nodes := s.thr.nodes.map Node.keepCheck } }
  (s1.turnOver s1.seat).recordCheck

theorem recordTurn_eq (s : State) : s.recordTurn =
    { s with thr := { s.thr with nodes := s.thr.nodes.map Node.keepCheck }
             pat := s.recordTurn.pat, own := s.recordTurn.own, nv := s.recordTurn.nv } := rfl

theorem endTurn_turnKeeps (s : State) : TurnKeeps s s.endTurn := by
  unfold State.endTurn
  split
  · exact ⟨rfl, .inl rfl, SameFaults.of_stands fun _ _ => rfl, fun _ _ => rfl⟩
  next v _ =>
    let s1 := v.rings.foldl (fun t r => t.judge 0x403 (portDetail r.port) (t.crossed v r)) s
    let s2 := if s1.img.f.pattern.foreignLimit < s1.ownBad then (s1.clear 0x406 0).raiseHigh 0x406 0 else s1.clear 0x406 0
    let s3 := s2.thr.nodes.foldl State.endClassFaults s2
    have h1 : FaultsOnly [0x403, 0x406] s s1 :=
      FaultsOnly.foldl (fun u r => ⟨judge_flt u _ _ _, judge_sameFaults (by decide) u _ _⟩) v.rings s
    have h2 : FaultsOnly [0x403, 0x406] s1 s2 :=
      have hclear := clear_faultsOnly (l := [0x403, 0x406]) (c := 0x406) (by decide) s1 0
      FaultsOnly.ite (hclear.trans (raiseHigh_faultsOnly (by decide) _ _)) hclear
    have h3 : FaultsOnly turnEndCodes s2 s3 := FaultsOnly.foldl endClassFaults_faultsOnly s2.thr.nodes s2
    have h12 := h1.trans h2
    have hthr : s3.thr = s.thr := by rw [h3.frame, h12.frame]
    change TurnKeeps s s3.recordTurn
    refine ⟨?_, .inr ?_, (h12.faults.mono (by decide)).trans h3.faults, fun id hid => ?_⟩
    · rw [recordTurn_eq, h3.frame, h12.frame]
    · rw [recordTurn_eq, hthr]
    · have hfold : s3.flt.stands 0x408 (nodeDetail id) = s2.flt.stands 0x408 (nodeDetail id) :=
        List.foldlRecOn (motive := fun u : State => u.flt.stands 0x408 (nodeDetail id) = s2.flt.stands 0x408 (nodeDetail id)) s2.thr.nodes _ rfl
          fun u hu n hn => (endClassFaults_stands (hid n (by rwa [h12.frame] at hn)) u).trans hu
      exact hfold.trans (h12.faults _ _ (by decide) (by decide))

theorem turnCheck_turnKeeps (s : State) : TurnKeeps s s.turnCheck := by
  unfold State.turnCheck
  split
  · exact endTurn_turnKeeps s
  · exact TurnKeeps.refl s

end Sys2Proof.Machine
end

section
/-!
SUPPORT. IDENT (R146, R148, R162, R163): what a response and its absence make of the node.
-/
namespace Sys2Proof.Machine

/-! ### Cells that start afresh (R162, R203, R228) -/

/-- The faults that go with the cells of a node whose identity changed. -/
def restartCodes : List Nat := [0x624, 0x650, 0x651, 0x510, 0x511, 0x512]

/-- A change of the estimators, the learned path, the seam and training alone, with the faults of the cells concerned. -/
structure CellsRestart (s t : State) : Prop where
  frame : t = { s with cls := t.cls, lrn := t.lrn, trn := t.trn, seam := t.seam, flt := t.flt }
  faults : SameFaults restartCodes s t

theorem CellsRestart.refl (s : State) : CellsRestart s s := ⟨rfl, SameFaults.refl _ s⟩

theorem CellsRestart.trans {s t u : State} (h : CellsRestart s t) (k : CellsRestart t u) : CellsRestart s u :=
  ⟨by rw [k.frame, h.frame], h.faults.trans k.faults⟩

theorem CellsRestart.of_faultsOnly {s t : State} (h : FaultsOnly restartCodes s t) : CellsRestart s t := ⟨by rw [h.frame], h.faults⟩

theorem CellsRestart.of_replayOnly {s t : State} (h : ReplayOnly tourCodes s t) : CellsRestart s t :=
  ⟨by rw [h.frame], h.faults.mono (by decide)⟩

theorem bastePack_cellsRestart (s : State) (sel : CellId → Bool) (fresh : Bool) : CellsRestart s (s.bastePack sel fresh) := by
  unfold State.bastePack
  extract_lets _ u
  have hu : CellsRestart s u := ⟨rfl, SameFaults.of_stands fun _ _ => rfl⟩
  exact hu.trans (.of_faultsOnly (FaultsOnly.foldl (fun v id => clear_faultsOnly (by decide) v id) _ u))

theorem freshStart_cellsRestart (s : State) (sel : CellId → Bool) : CellsRestart s (s.freshStart sel) := by
  unfold State.freshStart
  extract_lets warm cells faults _ _ s1 s2 s3
  have h1 : CellsRestart s s1 := ⟨rfl, SameFaults.of_stands fun _ _ => rfl⟩
  have h2 : CellsRestart s1 s2 := .of_faultsOnly <|
    FaultsOnly.foldl (fun u id => (clear_faultsOnly (by decide) u id).trans (clear_faultsOnly (by decide) _ id)) faults s1
  have h3 : CellsRestart s2 s3 := ⟨rfl, SameFaults.of_stands fun _ _ => rfl⟩
  refine ((h1.trans h2).trans h3).trans ?_
  split
  · split
    · exact .of_replayOnly (nextReplay_replayOnly s3)
    · exact .refl s3
  · exact .refl s3

/-! ### A response (R146, R148, R163) -/

/-- A node identified and classified. -/
def Node.identified (ident : Nat) (c : NodeClass) (n : Node) : Node :=
  { n with identity := some ident, cls := c, identSent := none, newEpoch := false }

/-- The identity in the bytes of a response (Table 5-7). -/
def identOf (l : List Byte) : Nat := beNat ((l.drop 2).take 8)

/-- The class of the response in the bytes of a frame (Table 6-3). -/
def identClass (p : PatNode) (l : List Byte) : NodeClass :=
  classify p (identOf l) (byteAt l 10 * 256 + byteAt l 11) (byteAt l 14 % 16 + 1) (byteAt l 14 / 16) (byteAt l 13)

theorem identOf_ne_of_foreign {p : PatNode} {l : List Byte} (h : identClass p l = .foreign) : identOf l ≠ p.identity := by
  unfold identClass classify at h
  split at h
  · assumption
  · split at h <;> cases h

theorem foreignCount_onlyRaises (s : State) : OnlyRaises s s.foreignCount := (raise_onlyRaises s _ _).ite (OnlyRaises.refl s) _

/-- The faults of a node that answered with a class, and with the identity of the pattern or another than before. -/
def State.judgeIdent (s : State) (id : NodeId) (c : NodeClass) (own : Prop) [Decidable own] (changed : Bool) : State :=
  let s1 := if c == NodeClass.foreign then s.raise 0x405 (nodeDetail id) else s
  let s2 := if own then s1.clear 0x405 (nodeDetail id) else s1
  let s3 := if c == NodeClass.misfit then s2.raise 0x408 (nodeDetail id) else s2
  let s4 := if changed then s3.raise 0x40B (nodeDetail id) else s3
  (s4.clear 0x407 (nodeDetail id)).foreignCount

theorem judgeIdent_spec (s : State) (id : NodeId) {c : NodeClass} {own : Prop} [Decidable own] (hown : c = .foreign → ¬ own) (changed : Bool) :
    let t := s.judgeIdent id c own changed
    t = { s with flt := t.flt } ∧ (c = .foreign → t.flt.stands 0x405 (nodeDetail id) = true) ∧
      (c = .misfit → t.flt.stands 0x408 (nodeDetail id) = true) := by
  unfold State.judgeIdent
  extract_lets s1 s2 s3 s4 t
  have h1 : OnlyRaises s s1 := (raise_onlyRaises s _ _).ite (.refl s) _
  have h2 : FaultsOnly [0x405] s1 s2 := (clear_faultsOnly (by decide) s1 _).ite .refl
  have h3 : OnlyRaises s2 s3 := (raise_onlyRaises s2 _ _).ite (.refl s2) _
  have h4 : OnlyRaises s3 s4 := (raise_onlyRaises s3 _ _).ite (.refl s3) _
  have h5 : OnlyRaises (s4.clear 0x407 (nodeDetail id)) t := foreignCount_onlyRaises _
  have hstays {f : Nat} (hf : 0x407 ≠ f) (h : s3.flt.stands f (nodeDetail id) = true) : t.flt.stands f (nodeDetail id) = true :=
    h5.stands _ _ ((clear_stands_ne s4 _ _ _ _ fun heq => hf heq.1).trans (h4.stands _ _ h))
  refine ⟨by rw [h5.flt, clear_flt, h4.flt, h3.flt, h2.frame, h1.flt], fun hforeign => ?_, fun hmisfit => ?_⟩
  · have hs1 : s1 = s.raise 0x405 (nodeDetail id) := if_pos (by simp [hforeign])
    have hs2 : s2 = s1 := if_neg (hown hforeign)
    refine hstays (by decide) (h3.stands _ _ ?_)
    rw [hs2, hs1]
    exact raise_stands _ _ _
  · have hs3 : s3 = s2.raise 0x408 (nodeDetail id) := if_pos (by simp [hmisfit])
    refine hstays (by decide) ?_
    rw [hs3]
    exact raise_stands _ _ _

theorem takeIdent_eq {s : State} {id : NodeId} {n : Node} {p : PatNode} (hn : s.node id = some n) (hp : s.patNode id = some p) (l : List Byte) :
    ∃ changed nv, (s.takeIdent id l).1 =
      { (s.updNode id (Node.identified (identOf l) (identClass p l))).judgeIdent id (identClass p l)
          (identOf l = p.identity) changed with nv := nv } := by
  unfold State.takeIdent
  rw [hn, hp]
  dsimp -zeta only
  extract_lets ident changed c _ _ _ _ _ s6 known first new
  by_cases hnew : (new && c == NodeClass.foreign) = true
  · exact ⟨changed, _, if_pos hnew⟩
  · exact ⟨changed, s6.nv, if_neg hnew⟩

/-- A response that is taken identifies its node, and the fault of a FOREIGN or MISFIT class stands. -/
theorem takeIdent_spec {s : State} {id : NodeId} {n : Node} {p : PatNode} (hn : s.node id = some n) (hp : s.patNode id = some p) (l : List Byte) :
    let t := (s.takeIdent id l).1
    t = { s.updNode id (Node.identified (identOf l) (identClass p l)) with nv := t.nv, flt := t.flt } ∧
      (identClass p l = .foreign → t.flt.stands 0x405 (nodeDetail id) = true) ∧
      (identClass p l = .misfit → t.flt.stands 0x408 (nodeDetail id) = true) := by
  obtain ⟨changed, nv, ht⟩ := takeIdent_eq hn hp l
  obtain ⟨hframe, hstands⟩ := judgeIdent_spec (s.updNode id (Node.identified (identOf l) (identClass p l))) id
    identOf_ne_of_foreign changed
  rw [ht]
  exact ⟨by rw [hframe], hstands⟩

theorem tokenOrder_readKeeps (s : State) (port : Nat) (e : RingEnd) (pos : Nat) :
    ReadKeeps (nodeId port pos) s (s.tokenOrder port e pos) := ReadKeeps.ite ReadKeeps.refl (violate_readKeeps s _ _)

/-- The part of a node that a response decides. -/
def Node.answer (n : Node) : Option Nat × NodeClass × Option Round × Bool := (n.identity, n.cls, n.identSent, n.newEpoch)

theorem nodePos_nodeId {port pos : Nat} (h : pos < 32) : nodePos (nodeId port pos) = pos := by
  change (32 * port + pos) % 32 = pos
  omega

theorem identFrame_port {s : State} {x : ThreadRx} {id : NodeId} (h : s.identFrame x = some id) :
    ∃ port e, s.portEnd x.port = some (port, e) ∧ nodeId port (nodePos id) = id := by
  unfold State.identFrame at h
  split at h
  · next port e hport =>
    dsimp only at h
    split at h
    · obtain rfl := Option.some.inj h
      exact ⟨port, e, hport, by rw [nodePos_nodeId (Nat.mod_lt _ (by decide))]⟩
    · cases h
  · cases h

/-- A response is taken from its node after its place in the order is judged; the cells of another identity than before start afresh. -/
theorem identResponse_eq {s : State} {x : ThreadRx} {id : NodeId} (hf : s.identFrame x = some id) :
    ∃ u w, ReadKeeps id s u ∧ CellsRestart (u.takeIdent id (rxBytes x)).1 w ∧ identResponse x s = w.turnCheck := by
  obtain ⟨port, e, hport, hid⟩ := identFrame_port hf
  have hread := tokenOrder_readKeeps s port e (nodePos id)
  rw [hid] at hread
  unfold identResponse
  rw [hf, hport]
  refine ⟨_, _, hread, ?_, rfl⟩
  dsimp only
  split
  · exact (bastePack_cellsRestart _ _ _).trans (freshStart_cellsRestart _ _)
  · exact CellsRestart.refl _

theorem identResponse_spec {s : State} {x : ThreadRx} {id : NodeId} {n : Node} {p : PatNode} (hf : s.identFrame x = some id)
    (hn : s.node id = some n) (hp : s.patNode id = some p) :
    let l := rxBytes x
    let t := identResponse x s
    (t.node id).map Node.answer = some (some (identOf l), identClass p l, none, false) ∧
      (identClass p l = .foreign → t.flt.stands 0x405 (nodeDetail id) = true) ∧
      (identClass p l = .misfit → t.flt.stands 0x408 (nodeDetail id) = true) ∧ t.pace = s.pace ∧ t.acq = s.acq := by
  obtain ⟨u, w, hread, hcells, ht⟩ := identResponse_eq hf
  obtain ⟨m, hm, -⟩ := Option.map_eq_some_iff.mp (hread.node.trans (by rw [hn]; rfl))
  obtain ⟨htaken, hforeign, hmisfit⟩ := takeIdent_spec hm (by rw [hread.frame]; exact hp) (rxBytes x)
  have hturn := turnCheck_turnKeeps w
  have hnodes : w.thr.nodes = (u.updNode id (Node.identified (identOf (rxBytes x)) (identClass p (rxBytes x)))).thr.nodes := by
    rw [hcells.frame, htaken]
  have hstands {c : Nat} (hr : c ∉ restartCodes) (h5 : c ≠ 0x542) (h : (u.takeIdent id (rxBytes x)).1.flt.stands c (nodeDetail id) = true) :
      w.flt.stands c (nodeDetail id) = true := (hcells.faults _ _ hr h5).trans h
  rw [ht]
  refine ⟨?_, fun hc => ?_, fun hc => ?_, ?_, ?_⟩
  · have hnode : w.node id = some (m.identified (identOf (rxBytes x)) (identClass p (rxBytes x))) := by
      unfold State.node
      rw [hnodes]
      exact node_updNode_some hm
    rw [hturn.node Node.answer (fun _ => rfl), hnode]
    rfl
  · exact (hturn.faults _ _ (by decide) (by decide)).trans (hstands (by decide) (by decide) (hforeign hc))
  · refine (hturn.misfit id fun q hq hid => ?_).trans (hstands (by decide) (by decide) (hmisfit hc))
    rw [hnodes] at hq
    obtain ⟨q0, -, rfl⟩ := List.mem_map.mp hq
    split
    · exact hc
    · next hne => 
      rw [if_neg hne] at hid
      exact absurd (beq_iff_eq.mpr hid) hne
  · rw [hturn.frame, hcells.frame, htaken, hread.frame]
    rfl
  · rw [hturn.frame, hcells.frame, htaken, hread.frame]
    rfl

/-! ### A response that does not come (R146) -/

/-- The node is asked for its identity no longer. -/
def Node.unasked (n : Node) : Node := { n with identSent := none }

/-- A node that did not answer in a pattern check. -/
def Node.goneMissing (n : Node) : Node := { n with cls := .missing, confDue := [] }

theorem dropCmds_node {s : State} {n : Node} {m : Node} (hm : s.node n.id = some m) :
    (s.dropCmds n).node n.id = some { m with cmd := none, identCmd := none, spent := [] } := by
  have h1 : (s.updNode n.id fun m => { m with cmd := none, identCmd := none, spent := [] }).node n.id =
      some { m with cmd := none, identCmd := none, spent := [] } := node_updNode_some hm
  unfold State.dropCmds
  dsimp only
  split
  · rw [clear_flt]
    exact h1
  · exact h1

theorem dropCmds_frame (s : State) (n : Node) :
    s.dropCmds n = { s with thr := (s.dropCmds n).thr, flt := (s.dropCmds n).flt } := by
  unfold State.dropCmds
  dsimp only
  split
  · rw [clear_flt]
    rfl
  · rfl

theorem identTimeout_eq {s : State} {id : NodeId} {n : Node} {r : Round} (hn : s.node id = some n) (hs : n.identSent = some r)
    (h3 : r + 3 ≤ s.pace.round) :
    identTimeout id s = if s.pat.turn.isSome then
        (((((s.updNode id Node.unasked).dropCmds n).updNode id Node.goneMissing).raise 0x407 (nodeDetail id))).turnCheck
      else (s.updNode id Node.unasked).violate id 0x29 := by
  unfold identTimeout
  rw [hn]
  dsimp only
  rw [hs]
  exact if_pos h3

theorem identTimeout_spec {s : State} {id : NodeId} {n : Node} {r : Round} (hn : s.node id = some n) (hs : n.identSent = some r)
    (h3 : r + 3 ≤ s.pace.round) :
    let t := identTimeout id s
    t.pace = s.pace ∧ (t.node id).map (fun m => m.identSent) = some none ∧
      (s.pat.turn ≠ none → (t.node id).map (fun m => m.cls) = some .missing ∧ t.flt.stands 0x407 (nodeDetail id) = true) ∧
      (s.pat.turn = none → (t.node id).map (fun m => m.violations) = some (n.violations + 1)) := by
  have h1 : (s.updNode id Node.unasked).node id = some n.unasked := node_updNode_some hn
  rw [identTimeout_eq hn hs h3]
  cases hturn : s.pat.turn with
  | none =>
    obtain ⟨q, hnode⟩ := violate_node h1 0x29
    rw [if_neg (by simp)]
    refine ⟨?_, by rw [hnode]; rfl, fun h => absurd rfl h, fun _ => by rw [hnode]; rfl⟩
    rw [(violate_readKeeps _ id 0x29).frame]
    rfl
  | some k =>
    rw [if_pos (by rfl)]
    let u := ((s.updNode id Node.unasked).dropCmds n).updNode id Node.goneMissing
    have hid := node_id hn
    subst hid
    have hdrop := dropCmds_node (n := n) h1
    have hu : u.node n.id = some _ := node_updNode_some hdrop
    have hraised : (u.raise 0x407 (nodeDetail n.id)).node n.id = u.node n.id := by
      rw [raise_flt]
      rfl
    have hkeeps := turnCheck_turnKeeps (u.raise 0x407 (nodeDetail n.id))
    refine ⟨?_, ?_, fun _ => ⟨?_, ?_⟩, fun h => by cases h⟩
    · rw [hkeeps.frame]
      have hpace : u.pace = s.pace := by
        change ((s.updNode n.id Node.unasked).dropCmds n).pace = s.pace
        rw [dropCmds_frame]
        rfl
      exact (raise_pace u _ _).trans hpace
    · rw [hkeeps.node _ (fun _ => rfl), hraised, hu]
      rfl
    · rw [hkeeps.node _ (fun _ => rfl), hraised, hu]
      rfl
    · exact (hkeeps.faults _ _ (by decide) (by decide)).trans (raise_stands _ _ _)

end Sys2Proof.Machine
end

section
/-!
SUPPORT. ECHO (R132, R149, R150): the request, the reply and the reply that is lost, and statement O26 from them and from IDENT.
-/
namespace Sys2Proof.Machine

/-! ### What a measurement changes (R149, R150) -/

/-- The nodes and the fault state alone change. -/
def NodesAndFaults (s t : State) : Prop := t = { s with thr := { s.thr with nodes := t.thr.nodes }, flt := t.flt }

theorem NodesAndFaults.refl (s : State) : NodesAndFaults s s := rfl

theorem NodesAndFaults.trans {s t u : State} (h : NodesAndFaults s t) (k : NodesAndFaults t u) : NodesAndFaults s u := by
  unfold NodesAndFaults at *
  rw [k, h]

theorem NodesAndFaults.of_flt {s t : State} (h : t = { s with flt := t.flt }) : NodesAndFaults s t := by
  unfold NodesAndFaults
  rw [h]

theorem NodesAndFaults.ite {s t u : State} {c : Prop} [Decidable c] (ht : NodesAndFaults s t) (hu : NodesAndFaults s u) :
    NodesAndFaults s (if c then t else u) := by
  split
  · exact ht
  · exact hu

theorem updNode_nodesAndFaults (s : State) (id : NodeId) (f : Node → Node) : NodesAndFaults s (s.updNode id f) := rfl

theorem failEcho_nodesAndFaults (s : State) (id : NodeId) (e : RingEnd) : NodesAndFaults s (s.failEcho id e) :=
  (updNode_nodesAndFaults s id _).trans (.of_flt (raise_flt _ _ _))

theorem echoBudget_nodesAndFaults (s : State) (id : NodeId) (e : RingEnd) : NodesAndFaults s (s.echoBudget id e) := by
  unfold State.echoBudget
  split
  · exact .refl s
  · exact .ite (failEcho_nodesAndFaults s id e) (.refl s)

theorem echoSet_nodesAndFaults (s : State) (id : NodeId) (e : RingEnd) (l : List Nat) : NodesAndFaults s (s.echoSet id e l) := by
  unfold State.echoSet
  split
  · exact .refl s
  · refine .ite (.ite (updNode_nodesAndFaults s id _) (failEcho_nodesAndFaults s id e)) ?_
    split
    · exact failEcho_nodesAndFaults s id e
    · exact (updNode_nodesAndFaults s id _).trans (.of_flt (clear_flt _ _ _))

/-- A node with its newest round trips in RUN. -/
def Node.keepTrips (l : List Nat) (n : Node) : Node := { n with runTrips := l }

/-- A round trip in RUN joins the last eight of its node; what follows from their mean leaves them. -/
theorem echoRun_spec {s : State} {id : NodeId} {n : Node} (hn : s.node id = some n) (e : RingEnd) (rt : Nat) :
    NodesAndFaults s (s.echoRun id e rt) ∧
      ((s.echoRun id e rt).node id).map (fun m => m.runTrips) = some ((rt :: n.runTrips).take 8) := by
  unfold State.echoRun
  rw [hn]
  dsimp -zeta only
  extract_lets l s1 dist item
  have h1 : NodesAndFaults s s1 := updNode_nodesAndFaults s id _
  have hnode : s1.node id = some (n.keepTrips l) := node_updNode_some hn
  have hdone : (s1.node id).map (fun m => m.runTrips) = some l := by rw [hnode]; rfl
  split
  · exact ⟨h1, hdone⟩
  · split
    · next c old _ _ =>
      extract_lets chk s2
      have h2 : NodesAndFaults s1 s2 ∧ (s2.node id).map (fun m => m.runTrips) = some l := by
        by_cases hfar : 5 < dist c old
        · have hs2 : s2 = _ := if_pos hfar
          rw [hs2]
          refine ⟨updNode_nodesAndFaults s1 id _, ?_⟩
          rw [node_updNode fun m => by cases e <;> rfl, hnode]
          cases e <;> rfl
        · have hs2 : s2 = s1 := if_neg hfar
          rw [hs2]
          exact ⟨.refl s1, hdone⟩
      split
      · exact ⟨(h1.trans h2.1).trans (.of_flt (raise_flt _ _ _)), by rw [raise_flt]; exact h2.2⟩
      · exact ⟨h1.trans h2.1, h2.2⟩
    · exact ⟨h1, hdone⟩

theorem setEcho_echo (n : Node) (e : RingEnd) (x : Echo) : (n.setEcho e x).echo e = x := by cases e <;> rfl

theorem setEcho_id (n : Node) (e : RingEnd) (x : Echo) : (n.setEcho e x).id = n.id := by cases e <;> rfl

theorem setEcho_seqCtr (n : Node) (e : RingEnd) (x : Echo) : (n.setEcho e x).seqCtr = n.seqCtr := by cases e <;> rfl

/-! ### The request (R132, R149, R150) -/

/-- An ECHO may leave now: from an end of this device as owner, in its part of the round, with none outstanding, and in the turn of this seat
within the budgets of R149, or in RUN for the node whose turn it is. -/
structure EchoAllowed (s : State) (x : EchoTx) (r : Ring) (n : Node) : Prop where
  time : 41 ≤ s.pace.stitch ∧ s.pace.stitch ≤ 60
  sender : s.ownEnds.contains x.ringEnd = true ∧ s.acts = true ∧ s.rounds = true ∧ s.threadOn (nodePort x.node) = true ∧ s.own.cut = false
  link : r.inWindow = false ∧ r.echoOut = none ∧ s.blocked (nodePort x.node) (nodePos x.node) x.ringEnd = false
  sound : n.quarantined = false
  due : (s.pat.turn = some s.seat ∧ s.pat.turnStart + 3 ≤ s.pace.round ∧ (n.echo x.ringEnd).done = false ∧
      (n.echo x.ringEnd).failed = false ∧ (n.echo x.ringEnd).sent < 16 ∧ r.echoCount < 4) ∨
    (s.pat.turn = none ∧ r.echoCount < 1 ∧ x.ringEnd = s.headEnd ∧ s.echoTurn r = some x.node)

/-- The attempt number is that of the turn, and 0 in RUN. -/
theorem EchoAllowed.attempt {s : State} {x : EchoTx} {r : Ring} {n : Node} (h : EchoAllowed s x r n) (k : Nat) :
    (if s.pat.turn == some s.seat then k else 0) = if s.pat.turn = none then 0 else k := by
  rcases h.due with ⟨ht, -⟩ | ⟨ht, -⟩ <;> simp [ht]

/-- An ECHO that may leave counts at its node and is the one outstanding on its ring. -/
theorem echoSend_eq {s : State} {x : EchoTx} {r : Ring} {n : Node} (hr : s.ring (nodePort x.node) = some r) (hn : s.node x.node = some n)
    (h : EchoAllowed s x r n) :
    ∃ f g, echoSend x s = ((s.updNode x.node f).updRing (nodePort x.node) g).at x.t ∧
      (∀ m, (f m).id = m.id ∧ (f m).seqCtr = (n.seqCtr + 1) % 128) ∧
      ∀ q, (g q).port = q.port ∧ (g q).echoCount = q.echoCount + 1 ∧ (g q).echoOut = some (x.node, x.ringEnd,
        256 * nodePos x.node + (if s.pat.turn = none then 0 else (n.echo x.ringEnd).sent + 1), x.t) := by
  have hattempt := h.attempt ((n.echo x.ringEnd).sent + 1)
  obtain ⟨⟨h41, h60⟩, ⟨hend, hacts, hrounds, hon, hcut⟩, ⟨hwin, hout, hblock⟩, hquar, hdue⟩ := h
  unfold echoSend
  dsimp only
  rw [hr, hn]
  dsimp only
  rw [if_pos]
  · refine ⟨_, _, rfl, fun m => ?_, fun q => ⟨rfl, rfl, by rw [← hattempt]⟩⟩
    split
    · exact ⟨setEcho_id _ _ _, setEcho_seqCtr _ _ _⟩
    · exact ⟨rfl, rfl⟩
  · rw [hend, hacts, hrounds, hon, hcut, hwin, hout, hblock, hquar]
    rcases hdue with ⟨ht, h3, hd, hf, h16, h4⟩ | ⟨ht, h1, he, hnext⟩
    · simp [h41, h60, ht, h3, hd, hf, h16, h4]
    · simp [h41, h60, ht, h1, he, hnext]

theorem echoSend_spec {s : State} {x : EchoTx} {r : Ring} {n : Node} (hr : s.ring (nodePort x.node) = some r) (hn : s.node x.node = some n)
    (h : EchoAllowed s x r n) :
    let t := echoSend x s
    t = { s with now := max s.now x.t, thr := { s.thr with rings := t.thr.rings, nodes := t.thr.nodes } } ∧
      (t.ring (nodePort x.node)).map (fun q => (q.echoOut, q.echoCount)) = some
        (some (x.node, x.ringEnd, 256 * nodePos x.node + (if s.pat.turn = none then 0 else (n.echo x.ringEnd).sent + 1), x.t),
          r.echoCount + 1) ∧
      (t.node x.node).map (fun m => m.seqCtr) = some ((n.seqCtr + 1) % 128) := by
  obtain ⟨f, g, ht, hf, hg⟩ := echoSend_eq hr hn h
  obtain ⟨-, hcount, hout⟩ := hg r
  have hring : (echoSend x s).ring (nodePort x.node) = some (g r) := by
    rw [ht]
    exact ring_updRing_some (s := s.updNode x.node f) hr fun q => (hg q).1
  have hnode : (echoSend x s).node x.node = some (f n) := by
    rw [ht]
    exact node_updNode_some hn fun m => (hf m).1
  refine ⟨by rw [ht]; rfl, ?_, ?_⟩
  · rw [hring, ← hout, ← hcount]
    rfl
  · rw [hnode, ← (hf n).2]
    rfl

/-! ### The reply (R149, R150) -/

/-- The ring with its ECHO answered or lost. -/
def Ring.echoOver (r : Ring) : Ring := { r with echoOut := none }

/-- The state once the ECHO outstanding on a ring is over. -/
def State.echoEnds (s : State) (port : Nat) (t : Ns) : State := (s.updRing port Ring.echoOver).at t

/-- A node with the replies of a set. -/
def Node.keepReplies (e : RingEnd) (l : List Nat) (n : Node) : Node := n.setEcho e { n.echo e with replies := l }

/-- The replies of a set are judged: eight of them make a set, fewer may be the last that 16 requests brought. -/
def State.judgeReplies (s : State) (id : NodeId) (e : RingEnd) (l : List Nat) : State :=
  let s1 := s.updNode id (Node.keepReplies e l)
  if 8 ≤ l.length then s1.echoSet id e l else s1.echoBudget id e

theorem judgeReplies_nodesAndFaults (s : State) (id : NodeId) (e : RingEnd) (l : List Nat) : NodesAndFaults s (s.judgeReplies id e l) := by
  unfold State.judgeReplies
  exact (updNode_nodesAndFaults s id _).trans (.ite (echoSet_nodesAndFaults _ id e l) (echoBudget_nodesAndFaults _ id e))

/-- While a set has neither its eight replies nor its 16 requests, a reply is kept and nothing is judged. -/
theorem judgeReplies_of_few {s : State} {id : NodeId} {n : Node} (hn : s.node id = some n) {e : RingEnd} (hs : (n.echo e).sent < 16)
    {l : List Nat} (hl : l.length < 8) : s.judgeReplies id e l = s.updNode id (Node.keepReplies e l) := by
  have h1 : (s.updNode id (Node.keepReplies e l)).node id = some (n.keepReplies e l) := node_updNode_some hn fun m => setEcho_id m e _
  have hsent : ((n.keepReplies e l).echo e).sent = (n.echo e).sent := by
    unfold Node.keepReplies
    rw [setEcho_echo]
  unfold State.judgeReplies State.echoBudget
  dsimp only
  rw [if_neg (by omega), h1]
  exact if_neg (by rw [hsent]; simp; omega)

/-- A valid reply in time at the end of a ring from which the ECHO outstanding there left, with the position and the tag of that ECHO. -/
structure EchoAnswered (s : State) (x : ThreadRx) (port : Nat) (e : RingEnd) (r : Ring) (id : NodeId) (n : Node) (tag : Nat) (t0 : Ns) : Prop where
  receiver : s.portEnd x.port = some (port, e)
  heard : s.rounds = true ∧ s.threadOn x.port = true ∧ s.blocked port (nodePos id) e = false
  sound : rxValid x 6 = true ∧ byteAt (rxBytes x) 0 / 64 = 2
  ring : s.ring port = some r
  asked : r.echoOut = some (id, e, tag, t0)
  node : s.node id = some n
  position : byteAt (rxBytes x) 0 % 32 = nodePos id
  tag : byteAt (rxBytes x) 1 * 256 + byteAt (rxBytes x) 2 = tag
  timely : x.t ≤ t0 + 45000

/-- What the reply to the ECHO outstanding does: its round trip joins the set of the turn, or the last ones of RUN. -/
theorem echoReply_eq {s : State} {x : ThreadRx} {port : Nat} {e : RingEnd} {r : Ring} {id : NodeId} {n : Node} {tag : Nat} {t0 : Ns}
    (h : EchoAnswered s x port e r id n tag t0) :
    echoReply x s =
      if s.pat.turn == some s.seat then
        ((s.echoEnds port x.t).judgeReplies id e ((n.echo e).replies ++ [x.t - t0])).turnCheck
      else (s.echoEnds port x.t).echoRun id e (x.t - t0) := by
  obtain ⟨hp, ⟨hrounds, hon, hblock⟩, ⟨hv, hkind⟩, hr, hout, hn, hpos, htag, hlate⟩ := h
  have hn1 : ((s.updRing port fun r => { r with echoOut := none }).at x.t).node id = some n := hn
  unfold echoReply
  rw [hp]
  dsimp only
  rw [if_neg (by simp [hrounds, hon]), if_neg (by simp [hv, hkind]), hr]
  dsimp only
  rw [hout]
  dsimp only
  rw [if_neg (by simp [hpos, htag, hblock]; omega), hn1]
  rfl

/-- After an ECHO is over, what the measurement and the check of the turn leave: the ring without it, the time and the pace. -/
theorem echoEnds_over {s u : State} {port : Nat} {r : Ring} {at_ : Ns} (hr : s.ring port = some r) (h : NodesAndFaults (s.echoEnds port at_) u) :
    (u.now = max s.now at_ ∧ (u.ring port).map (fun q => q.echoOut) = some none ∧ u.pace = s.pace) ∧
      (u.turnCheck.now = max s.now at_ ∧ (u.turnCheck.ring port).map (fun q => q.echoOut) = some none ∧ u.turnCheck.pace = s.pace) := by
  have hring : (s.echoEnds port at_).ring port = some r.echoOver := ring_updRing_some hr
  have hu : u.now = max s.now at_ ∧ (u.ring port).map (fun q => q.echoOut) = some none ∧ u.pace = s.pace := by
    rw [h]
    exact ⟨rfl, congrArg (Option.map _) hring, rfl⟩
  rw [(turnCheck_turnKeeps u).frame]
  exact ⟨hu, hu⟩

/-- A reply that brings its set neither to eight replies nor to its end is kept with the others. -/
theorem turnCheck_judgeReplies_of_few {s : State} {id : NodeId} {n : Node} (hn : s.node id = some n) {e : RingEnd} (hs : (n.echo e).sent < 16)
    {l : List Nat} (hl : l.length < 8) : ((s.judgeReplies id e l).turnCheck.node id).map (fun m => (m.echo e).replies) = some l := by
  have hkept : (s.updNode id (Node.keepReplies e l)).node id = some (n.keepReplies e l) := node_updNode_some hn fun m => setEcho_id m e _
  rw [(turnCheck_turnKeeps _).node _ (fun _ => rfl), judgeReplies_of_few hn hs hl, hkept]
  exact congrArg (fun x : Echo => some x.replies) (setEcho_echo n e _)

theorem echoReply_spec {s : State} {x : ThreadRx} {port : Nat} {e : RingEnd} {r : Ring} {id : NodeId} {n : Node} {tag : Nat} {t0 : Ns}
    (h : EchoAnswered s x port e r id n tag t0) :
    let t := echoReply x s
    (t.now = max s.now x.t ∧ (t.ring port).map (fun q => q.echoOut) = some none ∧ t.pace = s.pace) ∧
      (s.pat.turn = none →
        t = { s with now := t.now, thr := t.thr, flt := t.flt } ∧
        (t.node id).map (fun m => m.runTrips) = some (((x.t - t0) :: n.runTrips).take 8)) ∧
      (s.pat.turn = some s.seat → (n.echo e).replies.length < 7 → (n.echo e).sent < 16 →
        (t.node id).map (fun m => (m.echo e).replies) = some ((n.echo e).replies ++ [x.t - t0])) := by
  have hn : (s.echoEnds port x.t).node id = some n := h.node
  rw [echoReply_eq h]
  by_cases hturn : s.pat.turn = some s.seat
  · rw [if_pos (by simpa using hturn)]
    obtain ⟨-, hover⟩ := echoEnds_over h.ring (judgeReplies_nodesAndFaults _ id e ((n.echo e).replies ++ [x.t - t0]))
    refine ⟨hover, fun hnone => absurd (hnone.symm.trans hturn) (by simp), fun _ hl hs => turnCheck_judgeReplies_of_few hn hs ?_⟩
    rw [List.length_append, List.length_singleton]
    omega
  · rw [if_neg (by simpa using hturn)]
    obtain ⟨hrun, htrips⟩ := echoRun_spec hn e (x.t - t0)
    obtain ⟨hover, -⟩ := echoEnds_over h.ring hrun
    generalize (s.echoEnds port x.t).echoRun id e (x.t - t0) = t at *
    exact ⟨hover, fun _ => ⟨by rw [hrun]; rfl, htrips⟩, fun h => absurd h hturn⟩

/-! ### A reply that is lost (R149) -/

theorem echoTimeout_spec {s : State} {port : Nat} {r : Ring} {id : NodeId} {e : RingEnd} {tag : Nat} {t0 at_ : Ns} (hr : s.ring port = some r)
    (hout : r.echoOut = some (id, e, tag, t0)) (hlate : t0 + 45000 ≤ at_) :
    let t := echoTimeout port at_ s
    t.now = max s.now at_ ∧ (t.ring port).map (fun q => q.echoOut) = some none ∧ t.pace = s.pace := by
  have ht : echoTimeout port at_ s =
      if s.pat.turn == some s.seat then ((s.echoEnds port at_).echoBudget id e).turnCheck else s.echoEnds port at_ := by
    unfold echoTimeout
    rw [hr]
    dsimp only
    rw [hout]
    exact if_pos hlate
  rw [ht]
  split
  · exact (echoEnds_over hr (echoBudget_nodesAndFaults _ id e)).2
  · exact (echoEnds_over hr (NodesAndFaults.refl _)).1

/-- Settles O26: IDENT by what a response that is taken and one that does not come make of the node, which the check of the turn leaves; ECHO by
the request that may leave and by the two ways in which it is over. The attempt number in the tag is log entry 157. -/
theorem nodesAreIdentifiedAndTimed : Obligations.NodesAreIdentifiedAndTimed := by
  refine ⟨⟨fun s x id n p hf hn hp => ⟨_, rfl, ?_⟩, fun s id n r hn hs h3 => ⟨_, rfl, ?_⟩⟩,
    fun s x r n hr hn h41 h60 hend hacts hrounds hon hwin hquar hout hcut hblock hdue => ⟨_, rfl, ?_⟩,
    fun s x port e r id n tag t0 hp hrounds hon hv hkind hr hout hn _ hpos htag hlate hblock => ⟨_, rfl, ?_⟩,
    fun s port at_ r id e tag t0 hr hout hlate => ⟨_, rfl, ?_⟩⟩
  · obtain ⟨hnode, hforeign, hmisfit, hpace, hacq⟩ := identResponse_spec hf hn hp
    exact ⟨hnode, hforeign, hmisfit, identResponse_fixed x s, hpace, hacq⟩
  · obtain ⟨hpace, hnode, hcheck, hrun⟩ := identTimeout_spec hn hs h3
    exact ⟨identTimeout_fixed id s, hpace, hnode, hcheck, hrun⟩
  · exact echoSend_spec hr hn ⟨⟨h41, h60⟩, ⟨hend, hacts, hrounds, hon, hcut⟩, ⟨hwin, hout, hblock⟩, hquar, hdue⟩
  · obtain ⟨⟨hnow, hring, hpace⟩, hrun, hturn⟩ :=
      echoReply_spec ⟨hp, ⟨hrounds, hon, hblock⟩, ⟨hv, hkind⟩, hr, hout, hn, hpos, htag, hlate⟩
    exact ⟨hnow, hring, echoReply_fixed x s, hpace, hrun, hturn⟩
  · obtain ⟨hnow, hring, hpace⟩ := echoTimeout_spec hr hout hlate
    exact ⟨hnow, hring, echoTimeout_fixed port at_ s, hpace⟩

end Sys2Proof.Machine
end

section
/-!
SUPPORT. Link tests (R152, R154 to R156, R161): the windows that open, the intervals and counts of a window, and statement O27 from them.
-/
namespace Sys2Proof.Machine

/-! ### Windows that open (R152) -/

/-- The ring with a window opened on it, where it has none. -/
def Ring.opened (s : State) (kind : TestKind) (r : Ring) : Ring :=
  if r.test.isSome then r else { r with test := some ⟨kind, s.pace.round, s.testD kind, 0, [], 0, [], false, none⟩ }

theorem opened_port (s : State) (kind : TestKind) (r : Ring) : (r.opened s kind).port = r.port := by
  unfold Ring.opened
  split <;> rfl

theorem opened_isSome (s : State) (kind : TestKind) (r : Ring) : (r.opened s kind).test.isSome = true := by
  unfold Ring.opened
  split
  · assumption
  · rfl

/-- Rings and nodes alone change. -/
def RingsAndNodes (s t : State) : Prop := t = { s with thr := { s.thr with rings := t.thr.rings, nodes := t.thr.nodes } }

theorem openWindow_rings (s : State) (kind : TestKind) (port : Nat) :
    (s.openWindow kind port).thr.rings = updWhere (fun r => r.port == port) (Ring.opened s kind) s.thr.rings := rfl

theorem foldl_openWindow_ringsAndNodes (kind : TestKind) (l : List Ring) (s : State) :
    RingsAndNodes s (l.foldl (fun t r => t.openWindow kind r.port) s) := by
  induction l generalizing s with
  | nil => rfl
  | cons r l ih =>
    have h := ih (s.openWindow kind r.port)
    unfold RingsAndNodes at *
    rw [List.foldl_cons, h]
    rfl

/-- A ring that is not among those still to be opened is under test. -/
theorem foldl_openWindow_isSome (kind : TestKind) {l : List Ring} {s : State}
    (h : ∀ r ∈ s.thr.rings, r.test.isSome = true ∨ r.port ∈ l.map fun r => r.port) :
    ∀ r ∈ (l.foldl (fun t r => t.openWindow kind r.port) s).thr.rings, r.test.isSome = true := by
  induction l generalizing s with
  | nil => exact fun r hr => (h r hr).resolve_right List.not_mem_nil
  | cons q l ih =>
    refine ih fun r hr => ?_
    rw [openWindow_rings] at hr
    obtain ⟨r0, hr0, rfl⟩ := List.mem_map.mp hr
    split
    · exact .inl (opened_isSome s kind r0)
    · next hne => exact (h r0 hr0).imp_right fun hmem => (List.mem_cons.mp hmem).resolve_left fun heq => hne (by simp [heq])

/-- A test opens a window on every ring. -/
theorem startTests_spec (s : State) (kind : TestKind) :
    let t := s.startTests kind
    t = { s with thr := { s.thr with rings := t.thr.rings, nodes := t.thr.nodes }
                 pat := { s.pat with testing := some kind, verdicts := [] } } ∧
      t.thr.rings.all (fun r => r.test.isSome) = true := by
  have hframe := foldl_openWindow_ringsAndNodes kind s.thr.rings s
  have hopen := foldl_openWindow_isSome kind (l := s.thr.rings) (s := s) fun r hr => .inr (List.mem_map_of_mem hr)
  refine ⟨?_, List.all_eq_true.mpr hopen⟩
  unfold State.startTests
  generalize s.thr.rings.foldl (fun t r => t.openWindow kind r.port) s = u at *
  rw [hframe]

theorem linkTestStart_eq {s : State} {port : Nat} {kind : TestKind} {r : Ring} (hrounds : s.rounds = true) (ha : s.attached = true)
    (hr : s.ring port = some r)
    (h : s.pat.testing = some kind ∨ (s.pat.testing = none ∧ kind = .periodic ∧ s.periodicNow = true)) :
    linkTestStart port kind s = { s.openWindow kind port with pat := { s.pat with testing := some kind } } := by
  refine if_pos ?_
  rw [hrounds, ha, hr]
  rcases h with ht | ⟨ht, hk, hnow⟩
  · simp [ht]
  · simp [ht, hk, hnow]

/-! ### Intervals (R152) -/

/-- The window after its next BERT, which begins the interval of a node. -/
def LinkTest.nextBert (k : Nat) (x : LinkTest) : LinkTest :=
  { x with berts := x.berts + 1, running := x.running ++ [.node (bertTarget k x.berts).1 (bertTarget k x.berts).2] }

theorem bertSend_eq {s : State} {port : Nat} {r : Ring} {x : LinkTest} {n : Node} (hr : s.ring port = some r) (hx : r.test = some x)
    (hacts : s.acts = true) (hrounds : s.rounds = true) (hon : s.threadOn port = true) (h41 : 41 ≤ s.pace.stitch) (h60 : s.pace.stitch ≤ 60)
    (hstart : x.start + x.berts < s.pace.round) (hleft : x.berts < 2 * s.ringLen port) (hclose : x.closeRound = none)
    (hint : x.interrupted = false) (hcut : s.own.cut = false) (hn : s.node (nodeId port (bertTarget (s.ringLen port) x.berts).1) = some n) :
    ∃ f g, bertSend port s = (s.updNode (nodeId port (bertTarget (s.ringLen port) x.berts).1) f).updRing port g ∧
      ∀ q, (g q).port = q.port ∧ (g q).test = some (x.nextBert (s.ringLen port)) := by
  unfold bertSend
  rw [hr]
  dsimp only
  rw [hx]
  dsimp only
  rw [if_pos (by simp [hacts, hrounds, hon, h41, h60, hstart, hleft, hclose, hint, hcut]), hn]
  exact ⟨_, _, rfl, fun _ => ⟨rfl, rfl⟩⟩

theorem prbsStart_eq {s : State} {port : Nat} {e : RingEnd} {r : Ring} {x : LinkTest} (hr : s.ring port = some r) (hx : r.test = some x)
    (hafter : if e = s.headEnd then 2 * s.ringLen port ≤ x.berts else 1 ≤ x.berts) (hend : s.ownEnds.contains e = true)
    (hrun : x.running.contains (.port e) = false) (hrounds : s.rounds = true) (hon : s.threadOn port = true) (hcut : s.own.cut = false)
    (hint : x.interrupted = false) (hclose : x.closeRound = none) :
    prbsStart port e s = s.updRing port fun r => { r with test := some { x with running := x.running ++ [.port e] } } := by
  unfold prbsStart
  rw [hr]
  dsimp only
  rw [hx]
  refine if_pos ?_
  rw [hrounds, hon, hend, hrun, hcut, hint, hclose]
  split at hafter
  · next hhead => simp [hhead, hafter]
  · next htail => simp [htail, hafter]

/-- The window after an interval at a point has ended: the counts of a port's own checker are kept, and after the last interval the window
closes (R152, R153). -/
def LinkTest.endInterval (k : Nat) (round : Round) (x : PrbsEnd) (y : LinkTest) : LinkTest :=
  let left := y.running.filter fun p => !(p == x.at_)
  let c := checkerOf k x.at_
  { y with
    running := left, ended := y.ended + 1
    results := match x.at_ with
      | .port _ => y.results ++ [(c.1, c.2, x.bits, x.errors)]
      | .node _ _ => y.results
    closeRound := if (y.interrupted = true ∨ 2 * k ≤ y.berts) ∧ left = [] then some (round + 2 * k + 1) else none }

theorem prbsEnd_eq {s : State} {x : PrbsEnd} {r : Ring} {y : LinkTest} (hr : s.ring x.ring = some r) (hy : r.test = some y)
    (hrun : y.running.contains x.at_ = true) :
    prbsEnd x s = (s.updRing x.ring fun r => { r with test := some (y.endInterval (s.ringLen x.ring) s.pace.round x) }).at x.t := by
  unfold prbsEnd LinkTest.endInterval
  rw [hr]
  dsimp only
  rw [hy]
  dsimp only
  rw [if_pos hrun]
  have hlast (l : List PrbsPoint) (k : Nat) :
      ((y.interrupted || decide (2 * k ≤ y.berts)) && l.isEmpty) = true ↔ (y.interrupted = true ∨ 2 * k ≤ y.berts) ∧ l = [] := by simp
  simp only [hlast]
  cases x.at_ <;> rfl

/-! ### Reports (R115, R154) -/

theorem tokenOrder_of_ordered {s : State} {port : Nat} {e : RingEnd} {pos : Nat} {r : Ring} (hr : s.ring port = some r)
    (h : (if e = .a then r.lastAtA else r.lastAtB) = some pos ∨ inOrder e (if e = .a then r.lastAtA else r.lastAtB) pos = true) :
    s.tokenOrder port e pos = s := by
  have hlast : ((s.ring port).bind fun r => if e == RingEnd.a then r.lastAtA else r.lastAtB) = if e = .a then r.lastAtA else r.lastAtB := by
    rw [hr]
    cases e <;> rfl
  unfold State.tokenOrder
  rw [hlast]
  exact if_pos (by simpa using h)

/-- A test whose window is still open is not concluded. -/
theorem concludeTest_of_open {s : State} {port : Nat} {r : Ring} (hr : s.ring port = some r)
    (hclose : r.test.bind (fun y => y.closeRound) = none) (closed : Bool) : s.concludeTest port closed = s := by
  unfold State.concludeTest
  rw [hr]
  dsimp only
  split
  · rfl
  · next y hy =>
    rw [hy] at hclose
    exact if_pos (Option.isNone_iff_eq_none.mpr hclose)

/-- The link and end of the checker that a report names. -/
def reportChecker (k : Nat) (l : List Byte) : Nat × RingEnd :=
  checkerOf k (.node (byteAt l 0 % 32) (if byteAt l 1 = 0 then .a else .b))

/-- The window after the first report of a checker. -/
def LinkTest.reported (k : Nat) (l : List Byte) (y : LinkTest) : LinkTest :=
  { y with results := y.results ++
      [((reportChecker k l).1, (reportChecker k l).2, beNat ((l.drop 2).take 4), beNat ((l.drop 6).take 4))] }

theorem bertReport_eq {s : State} {x : ThreadRx} {port : Nat} {e : RingEnd} {r : Ring} {y : LinkTest} (hp : s.portEnd x.port = some (port, e))
    (hrounds : s.rounds = true) (hon : s.threadOn x.port = true) (hv : rxValid x 13 = true) (hkind : byteAt (rxBytes x) 0 / 64 = 3)
    (hr : s.ring port = some r) (hy : r.test = some y) (hclose : y.closeRound = none)
    (hfirst : ∀ z ∈ y.results, (z.1, z.2.1) ≠ reportChecker (s.ringLen port) (rxBytes x))
    (ho : (if e = .a then r.lastAtA else r.lastAtB) = some (byteAt (rxBytes x) 0 % 32) ∨
      inOrder e (if e = .a then r.lastAtA else r.lastAtB) (byteAt (rxBytes x) 0 % 32) = true) :
    bertReport x s = s.updRing port fun r => { r with test := some (y.reported (s.ringLen port) (rxBytes x)) } := by
  have hnew : ¬ (y.results.any fun z =>
      z.1 == (reportChecker (s.ringLen port) (rxBytes x)).1 && z.2.1 == (reportChecker (s.ringLen port) (rxBytes x)).2) = true := by
    intro h
    obtain ⟨z, hz, heq⟩ := List.any_eq_true.mp h
    simp only [Bool.and_eq_true, beq_iff_eq] at heq
    exact hfirst z hz (Prod.ext heq.1 heq.2)
  unfold bertReport
  rw [hp]
  dsimp only
  rw [if_neg (by simp [hrounds, hon]), if_neg (by simp [hv, hkind]), hr]
  dsimp only
  rw [hy]
  dsimp only
  rw [tokenOrder_of_ordered hr ho]
  refine (concludeTest_of_open (ring_updRing_some hr) ?_ false).trans ?_
  · exact hclose
  · exact congrArg (fun l => s.updRing port fun r => { r with test := some { y with results := l } }) (if_neg hnew)

/-- Settles O27: a window by the ring it opens on, each step of an interval by the window it leaves, and the tests of every ring by the windows
that open. Which seat judges which port is log entry 163; the round in which a window closes is log entry 53. -/
theorem linkTestsRunAndFallDue : Obligations.LinkTestsRunAndFallDue := by
  refine ⟨⟨fun s port kind r hrounds ha hr h => ⟨_, rfl, ?_⟩,
      fun s port r x n hr hx hacts hrounds hon h41 h60 hstart hleft hclose hint hcut hn => ⟨_, rfl, ?_⟩,
      fun s port e r x hr hx hafter hend hrun hrounds hon hcut hint hclose => ⟨_, rfl, ?_⟩,
      fun s x r y hr hy hrun => ⟨_, rfl, ?_⟩,
      fun s x port e r y hp hrounds hon hv hkind hr hy hclose hfirst ho => ⟨_, rfl, ?_⟩⟩,
    fun s hinst ha hrounds hcold hdone hturns => ⟨_, rfl, ?_⟩, fun s hdue => ⟨_, rfl, if_pos hdue⟩, fun s hover => ⟨_, rfl, ?_⟩,
    fun s hrounds hrun ha hmaint hdone hnone hidle hbelow hledger => ⟨_, rfl, ?_⟩⟩
  · have hopen : (s.openWindow kind port).ring port = some (r.opened s kind) := ring_updRing_some hr fun r => opened_port s kind r
    rw [linkTestStart_eq hrounds ha hr h]
    exact ⟨rfl, fun ht => hopen.trans (by simp [Ring.opened, ht]), fun ht => hopen.trans (by simp [Ring.opened, Option.isSome_iff_ne_none, ht])⟩
  · obtain ⟨f, g, ht, hg⟩ := bertSend_eq hr hx hacts hrounds hon h41 h60 hstart hleft hclose hint hcut hn
    rw [ht]
    refine ⟨rfl, (congrArg (Option.map _) (ring_updRing_some (s := s.updNode _ f) hr fun q => (hg q).1)).trans ?_⟩
    exact congrArg some (hg r).2
  · rw [prbsStart_eq hr hx hafter hend hrun hrounds hon hcut hint hclose]
    exact ⟨rfl, ring_updRing_some hr⟩
  · rw [prbsEnd_eq hr hy hrun]
    refine ⟨rfl, (ring_updRing_some (s := s) hr).trans ?_⟩
    unfold LinkTest.endInterval
    cases x.at_ <;> rfl
  · rw [bertReport_eq hp hrounds hon hv hkind hr hy hclose hfirst ho]
    exact ⟨rfl, ring_updRing_some hr⟩
  · have ht : installTest s = s.startTests .installation := if_pos (by simp [hinst, ha, hrounds, hcold, hdone, hturns])
    rw [ht]
    exact startTests_spec s .installation
  · have ht : periodicOverdue s = s.raise 0x413 0 := if_pos hover
    rw [ht]
    exact ⟨raise_flt _ _ _, raise_stands _ _ _, raise_sameFaults (by decide) s 0⟩
  · have ht : maintenanceRetest s =
        { s.startTests .maintenance with pat := { (s.startTests .maintenance).pat with retestDone := true } } :=
      if_pos (by simp [hrounds, hrun, ha, hmaint, hdone, hnone, hidle, hbelow, hledger])
    obtain ⟨hframe, hopen⟩ := startTests_spec s .maintenance
    rw [ht]
    exact ⟨by rw [hframe], hopen⟩

end Sys2Proof.Machine
end

section
/-!
SUPPORT. Shunts and the SENT sensor (R170 to R174, R177, R178, R185): the count of a sample, a fault raised with a change of the acquisition,
what a SENT frame leaves, and statements O28 and O29 from them.
-/
namespace Sys2Proof.Machine

/-- A fault raised with a change of the acquisition at an instant: the fault stands, and every other one is as it was. -/
theorem raise_acq_spec (s : State) (acq : Acq) (at_ : Ns) (c d : Nat) :
    let t := (({ s with acq := acq } : State).at at_).raise c d
    t = { s with now := max s.now at_, acq := acq, flt := t.flt } ∧ t.flt.stands c d = true ∧ SameFaults [c] s t :=
  ⟨by rw [raise_flt]; rfl, raise_stands _ _ _,
    (SameFaults.of_stands fun _ _ => rfl).trans (raise_sameFaults (List.mem_singleton_self c) _ _)⟩

/-! ### Shunt samples (R170 to R173, R185) -/

/-- The sample that closes a round advances the count as every other one does. -/
@[simp] theorem Shunt.sample_count (x : Shunt) (snap : Ns) (ma : Int) (clip : Bool) (t : Ns) :
    (x.sample snap ma clip t).count = x.count + 125 * ma := by
  unfold Shunt.sample
  exact (apply_ite Shunt.count _ _ _).trans (ite_self _)

/-- What one sample adds to the pack count, by the shunts in use (R172). -/
def packAdvance (useA useB : Bool) (ia ib : Int) : Int :=
  if useA && useB then (125 * ia + 125 * ib) / 2 else if useA then 125 * ia else if useB then 125 * ib else 0

theorem shuntSample_packCount (x : ShuntSample) (s : State) :
    let f := s.img.f.acq
    (shuntSample x s).acq.packCount = if s.domainOn 2 then s.acq.packCount +
      packAdvance (s.acq.ishA.counts f.rA (fullScale x.a)) (s.acq.ishB.counts f.rB (fullScale x.b))
        (shuntMA x.a f.rA f.invertA) (shuntMA x.b f.rB f.invertB)
      else s.acq.packCount := rfl

theorem shuntSample_ishA (x : ShuntSample) (s : State) :
    let f := s.img.f.acq
    (shuntSample x s).acq.ishA = if s.domainOn 2 && !(f.rA == 0) then
      s.acq.ishA.sample s.pace.start (shuntMA x.a f.rA f.invertA) (fullScale x.a) x.t else s.acq.ishA := rfl

theorem shuntSample_ishB (x : ShuntSample) (s : State) :
    let f := s.img.f.acq
    (shuntSample x s).acq.ishB = if s.domainOn 2 && !(f.rB == 0) then
      s.acq.ishB.sample s.pace.start (shuntMA x.b f.rB f.invertB) (fullScale x.b) x.t else s.acq.ishB := rfl

theorem shuntSample_store (x : ShuntSample) (s : State) :
    (shuntSample x s).acq.store = if s.sup.p1 then
      s.acq.store.sample s.pace.start (shuntMA x.store s.acq.siHeld false) (fullScale x.store) x.t else s.acq.store := rfl

/-! ### Full scale for 10 ms (R174, R185) -/

/-- The channel of a shunt. -/
def Acq.shunt (a : Acq) : ShuntId → Shunt
  | .a => a.ishA
  | .b => a.ishB
  | .store => a.store

/-- The acquisition with the full-scale fault of one channel, whose clean rounds begin afresh. -/
def Acq.saturate (a : Acq) : ShuntId → Acq
  | .a => { a with ishA := { a.ishA with sensor := true, clean := 0 } }
  | .b => { a with ishB := { a.ishB with sensor := true, clean := 0 } }
  | .store => { a with store := { a.store with sensor := true, clean := 0 } }

/-- The full-scale fault of a channel. -/
def shuntFault : ShuntId → Nat
  | .a => 0x610
  | .b => 0x611
  | .store => 0x741

theorem shuntRangeSensor_eq (id : ShuntId) (at_ : Ns) (s : State) :
    shuntRangeSensor id at_ s = match (s.acq.shunt id).rangeSince with
      | none => s
      | some t0 => if t0 + 10000000 ≤ at_ then (({ s with acq := s.acq.saturate id } : State).at at_).raise (shuntFault id) 0 else s := by
  cases id <;> rfl

theorem shuntRangeSensor_spec {id : ShuntId} {s : State} {at_ t0 : Ns} (h : (s.acq.shunt id).rangeSince = some t0)
    (hle : t0 + 10000000 ≤ at_) :
    let t := shuntRangeSensor id at_ s
    t = { s with now := max s.now at_, acq := s.acq.saturate id, flt := t.flt } ∧
      t.flt.stands (shuntFault id) 0 = true ∧ SameFaults [shuntFault id] s t := by
  have ht : shuntRangeSensor id at_ s = (({ s with acq := s.acq.saturate id } : State).at at_).raise (shuntFault id) 0 := by
    rw [shuntRangeSensor_eq, h]
    exact if_pos hle
  rw [ht]
  exact raise_acq_spec s _ at_ _ 0

/-- Settles O28: each count by what a sample adds to it, and the fault of a channel by the rule that all three share. A current between two mA
is rounded as log entry 57 has it. -/
theorem shuntsCountAndSaturate : Obligations.ShuntsCountAndSaturate := by
  refine ⟨fun s x => ⟨_, rfl, rfl, fun hon => ?_, fun hoff => ?_, fun hp1 => ?_, fun hp1 => ?_⟩,
    fun s at_ t0 hle => ⟨fun h => ⟨_, rfl, shuntRangeSensor_spec (id := .a) h hle⟩,
      fun h => ⟨_, rfl, shuntRangeSensor_spec (id := .b) h hle⟩, fun h => ⟨_, rfl, shuntRangeSensor_spec (id := .store) h hle⟩⟩⟩
  · rw [shuntSample_ishA, shuntSample_ishB, shuntSample_packCount, if_pos hon]
    refine ⟨fun hA => ?_, fun hB => ?_, fun hA hB => ?_, fun hA hB => ?_, fun hA hB => ?_, fun hA hB => ?_⟩
    · simp [hon, hA]
    · simp [hon, hB]
    all_goals simp [packAdvance, hA, hB]
  · rw [shuntSample_ishA, shuntSample_ishB, shuntSample_packCount]
    simp [hoff]
  · rw [shuntSample_store, if_pos hp1, Shunt.sample_count]
  · rw [shuntSample_store, if_neg (by simp [hp1])]

/-! ### SENT frames (R177, R178) -/

/-- The bits of the slow channel with a frame's status nibble, newest first. -/
def State.sentSlow (s : State) (x : SentFrame) : List (Bool × Bool) :=
  (((x.status - 12).testBit 3, (x.status - 12).testBit 2) :: s.acq.sent.slow).take 18

/-- Whether the identity message that a frame completes has the value of the image; nothing where it completes none. -/
def State.sentIdentity (s : State) (x : SentFrame) : Option Bool :=
  match slowMessage s.img.f.acq.sentCrcRecommended (s.sentSlow x) with
  | some (id, v) => if id = s.img.f.acq.sentIdMsg then some (v == s.img.f.acq.sentIdValue) else none
  | none => none

theorem sentIdentity_of_message {s : State} {x : SentFrame} {v : Nat}
    (h : slowMessage s.img.f.acq.sentCrcRecommended (s.sentSlow x) = some (s.img.f.acq.sentIdMsg, v)) :
    s.sentIdentity x = some (v == s.img.f.acq.sentIdValue) := by
  unfold State.sentIdentity
  rw [h]
  exact if_pos rfl

/-- The stamp and the value of a frame, in mA. -/
def State.sentStamp (s : State) (x : SentFrame) : Ns × Int :=
  (x.t - 1000 * s.img.f.acq.sentLatency,
    (((x.data.foldl (fun a n => a * 16 + (n - 12)) 0 : Nat) : Int) - s.img.f.acq.sentZero) * s.img.f.acq.sentLsb)

/-- The sensor after a valid frame. -/
def State.sentStamped (s : State) (x : SentFrame) : Sent :=
  { s.acq.sent with
    cal := some x.cal
    frames := (s.sentStamp x :: s.acq.sent.frames).take 64
    slow := s.sentSlow x
    period := match s.acq.sent.frames with | (t0, _) :: _ => (s.sentStamp x).1 - t0 | [] => 0
    firstValid := some (s.acq.sent.firstValid.getD x.t)
    lastValid := some x.t
    idSeen := s.acq.sent.idSeen || s.sentIdentity x == some true
    idBad := s.acq.sent.idBad || s.sentIdentity x == some false }

/-- The sensor after a discarded frame: the slow channel's message is broken (log entry 56). -/
def Sent.discard (y : Sent) : Sent := { y with discarded := y.discarded + 1, slow := [] }

theorem sentStamped_idSeen {s : State} {x : SentFrame} (hid : s.sentIdentity x = some true) : (s.sentStamped x).idSeen = true := by
  simp [State.sentStamped, hid]

/-- The state with the sensor as a frame of that instant leaves it. -/
def State.withSent (s : State) (y : Sent) (t : Ns) : State := ({ s with acq := { s.acq with sent := y } } : State).at t

theorem raise_withSent_spec (s : State) (y : Sent) (at_ : Ns) (c : Nat) :
    let t := (s.withSent y at_).raise c 0
    t = { s with now := max s.now at_, acq := { s.acq with sent := y }, flt := t.flt } ∧ t.flt.stands c 0 = true ∧ SameFaults [c] s t :=
  raise_acq_spec s _ at_ c 0

section
variable {s : State} {x : SentFrame} (hrole : s.img.f.acq.sentRole ≠ 0) (hon : s.domainOn 2 = true)
include hrole hon

theorem sentFrame_of_valid (hv : s.sentValid x = true) :
    sentFrame x s = if s.sentIdentity x == some false then (s.withSent (s.sentStamped x) x.t).raise 0x614 0
      else s.withSent (s.sentStamped x) x.t := by
  unfold sentFrame
  rw [if_neg (by simp [hrole, hon]), if_pos hv]
  rfl

theorem sentFrame_of_invalid (hv : s.sentValid x = false) :
    sentFrame x s = if 10 < s.acq.sent.discarded + 1 then (s.withSent s.acq.sent.discard x.t).raise 0x613 0
      else s.withSent s.acq.sent.discard x.t := by
  unfold sentFrame
  rw [if_neg (by simp [hrole, hon]), if_neg (by simp [hv])]
  rfl

/-- A valid frame sets the sensor, and no fault but that of the identity. -/
theorem sentFrame_valid_frame (hv : s.sentValid x = true) :
    let t := sentFrame x s
    t = { s with now := max s.now x.t, acq := { s.acq with sent := s.sentStamped x }, flt := t.flt } ∧ SameFaults [0x614] s t := by
  rw [sentFrame_of_valid hrole hon hv]
  split
  · obtain ⟨hframe, -, hsame⟩ := raise_withSent_spec s (s.sentStamped x) x.t 0x614
    exact ⟨hframe, hsame⟩
  · exact ⟨rfl, SameFaults.of_stands fun _ _ => rfl⟩

theorem sentFrame_other_identity (hv : s.sentValid x = true) (hid : s.sentIdentity x = some false) :
    (sentFrame x s).flt.stands 0x614 0 = true := by
  rw [sentFrame_of_valid hrole hon hv, if_pos (by rw [hid]; rfl)]
  exact raise_stands _ _ _

theorem sentFrame_own_identity (hv : s.sentValid x = true) (hid : s.sentIdentity x = some true) : (sentFrame x s).flt = s.flt := by
  rw [sentFrame_of_valid hrole hon hv, if_neg (by rw [hid]; decide)]
  rfl

/-- A frame that is not valid is discarded and counted; past ten of them the loss of frames is reported. -/
theorem sentFrame_invalid_spec (hv : s.sentValid x = false) :
    let t := sentFrame x s
    t = { s with now := max s.now x.t, acq := { s.acq with sent := s.acq.sent.discard }, flt := t.flt } ∧ SameFaults [0x613] s t ∧
      (10 ≤ s.acq.sent.discarded → t.flt.stands 0x613 0 = true) ∧ (s.acq.sent.discarded < 10 → t.flt = s.flt) := by
  rw [sentFrame_of_invalid hrole hon hv]
  split
  · next hmany =>
    obtain ⟨hframe, hstands, hsame⟩ := raise_withSent_spec s s.acq.sent.discard x.t 0x613
    exact ⟨hframe, hsame, fun _ => hstands, fun hfew => by omega⟩
  · next hfew => exact ⟨rfl, SameFaults.of_stands fun _ _ => rfl, fun hmany => by omega, fun _ => rfl⟩

end

theorem sentIdTimeout_eq {s : State} {at_ t0 : Ns} (hfirst : s.acq.sent.firstValid = some t0) (hid : s.acq.sent.idSeen = false)
    (hle : t0 + 2000000000 ≤ at_) : sentIdTimeout at_ s = (s.withSent { s.acq.sent with idBad := true } at_).raise 0x614 0 := by
  unfold sentIdTimeout
  rw [hfirst]
  exact if_pos (by simp [hid, hle])

theorem sentLoss_eq {s : State} {at_ : Ns} (hrole : s.img.f.acq.sentRole ≠ 0) (hle : s.acq.sent.lastValid.getD 0 + 50000000 ≤ at_) :
    sentLoss at_ s = (s.withSent { s.acq.sent with lossInWindow := true } at_).raise 0x613 0 := by
  unfold sentLoss
  rw [if_neg hrole, if_pos hle]
  rfl

/-- Settles O29: a frame by the sensor it leaves and the identity message it completes, and the faults of the two limits of time. The CRC and
the slow channel are those of SAE J2716 (log entry 55); a discarded frame breaks the slow channel's message (log entry 56). -/
theorem sentFramesAreStampedOrDiscarded : Obligations.SentFramesAreStampedOrDiscarded := by
  refine ⟨fun s x hrole hon => ⟨fun hv => ⟨_, rfl, ?_⟩, fun hv => ⟨_, rfl, sentFrame_invalid_spec hrole hon hv⟩⟩,
    fun s at_ t0 hfirst hid hle => ⟨_, rfl, ?_⟩, fun s at_ hrole hle => ⟨_, rfl, ?_⟩⟩
  · obtain ⟨hframe, hsame⟩ := sentFrame_valid_frame hrole hon hv
    have hsent : (sentFrame x s).acq.sent = s.sentStamped x := by rw [hframe]
    rw [hsent]
    refine ⟨hframe, rfl, rfl, rfl, rfl, fun v hmsg hne => ?_, fun hmsg => ?_, hsame⟩
    · exact sentFrame_other_identity hrole hon hv ((sentIdentity_of_message hmsg).trans (by simp [hne]))
    · have hid : s.sentIdentity x = some true := (sentIdentity_of_message hmsg).trans (by simp)
      exact ⟨sentStamped_idSeen hid, sentFrame_own_identity hrole hon hv hid⟩
  · rw [sentIdTimeout_eq hfirst hid hle]
    exact raise_withSent_spec s _ at_ 0x614
  · rw [sentLoss_eq hrole hle]
    exact raise_withSent_spec s _ at_ 0x613

end Sys2Proof.Machine
end

section
/-!
SUPPORT. Memory arbitration (R265, R491): the fences of the ports, what an unpicked cycle keeps of the memory and of the faults, and statement
O37 from them.
-/
namespace Sys2Proof.Machine

/-! ### The fences of the ports (R265) -/

/-- The fences after a revocation: the holder's own, new, and those of the other requesters. -/
def fencesRevoked (r : Requester) (now : Round) (l : List Fence) : List Fence := ⟨r, now, true⟩ :: l.filter fun f => !(f.req == r)

/-- The fences after the port of a requester is unfenced: its revocation stays on record, for the count of R265. -/
def fencesLifted (r : Requester) (l : List Fence) : List Fence := updWhere (fun f => f.req == r) (fun f => { f with fenced := false }) l

section
variable {s t : State} {r : Requester}

theorem fenced_of_fencesRevoked {now : Round} (h : t.lrn.fences = fencesRevoked r now s.lrn.fences) :
    t.fenced r = true ∧ ∀ q, q ≠ r → t.fenced q = s.fenced q := by
  unfold State.fenced
  rw [h, fencesRevoked]
  refine ⟨by simp, fun q hq => ?_⟩
  have hne : (r == q) = false := beq_false_of_ne hq.symm
  rw [List.any_cons, hne, Bool.false_and, Bool.false_or, List.any_filter]
  congr 1
  funext f
  by_cases hf : f.req = q
  · simp [hf, hq]
  · simp [hf]

theorem fenced_of_fencesLifted (h : t.lrn.fences = fencesLifted r s.lrn.fences) :
    t.fenced r = false ∧ ∀ q, q ≠ r → t.fenced q = s.fenced q := by
  unfold State.fenced
  rw [h, fencesLifted, updWhere]
  refine ⟨?_, fun q hq => ?_⟩
  · rw [List.any_map, List.any_eq_false]
    intro f _
    by_cases hf : f.req = r <;> simp [hf]
  · rw [List.any_map]
    congr 1
    funext f
    by_cases hf : f.req = r
    · simp [hf, hq.symm]
    · simp [hf]

end

/-! ### What an unpicked cycle keeps (R282, R284) -/

theorem restoreShadow_flt (s : State) (cohort : Nat) : (s.restoreShadow cohort).flt = s.flt := by rw [restoreShadow_frame]

theorem restoreShadow_resident (s : State) (cohort : Nat) :
    (s.restoreShadow cohort).lrn.cells.map (fun c => c.resident) = s.lrn.cells.map fun c => c.resident := by
  unfold State.restoreShadow
  split
  · rfl
  · dsimp only [updWhere]
    rw [List.map_map]
    congr 1
    funext c
    dsimp only [Function.comp]
    split <;> rfl

/-- The memory of an unpicked cycle is as it was, or as it is with the shadow restored. -/
theorem unpick_lrn (s : State) (reason : Nat) :
    (s.unpick reason).lrn = s.lrn ∨ (s.unpick reason).lrn = (s.restoreShadow s.trn.cohort).lrn := by
  unfold State.unpick
  split
  · exact .inl rfl
  · refine .inr ?_
    split
    · rfl
    · dsimp only
      split
      · rw [raise_lrn]; rfl
      · split
        · rw [clear_lrn]; rfl
        · rfl

theorem unpick_resident (s : State) (reason : Nat) :
    (s.unpick reason).lrn.cells.map (fun c => c.resident) = s.lrn.cells.map fun c => c.resident := by
  rcases unpick_lrn s reason with h | h <;> rw [h]
  exact restoreShadow_resident s s.trn.cohort

/-- Reason 4 leaves the training fault as it stands (Table 11-6). -/
theorem unpick_stands_of_reason_four (s : State) (c d : Nat) : (s.unpick 4).flt.stands c d = s.flt.stands c d := by
  unfold State.unpick
  split
  · rfl
  · split
    · dsimp only
      rw [restoreShadow_flt]
    · rw [if_neg (by decide), if_neg (by decide)]
      dsimp only [State.recordCycle]
      rw [log_stands]
      dsimp only
      rw [restoreShadow_flt]

/-! ### A revocation (R265) -/

/-- A requester's grant was revoked within the last 1,000 rounds. -/
def State.revokedLately (s : State) (r : Requester) : Bool := s.lrn.fences.any fun f => f.req == r && decide (s.pace.round < f.round + 1000)

/-- What the scheduler or the scan had in flight to a cell is lost with their grant. -/
def LCell.cutFor (r : Requester) (c : LCell) : LCell := if r == .scheduler || r == .scan then { c with resident := false } else c

/-- The first effect of a revocation: the fence, the transactions discarded and fault 0x520. -/
def State.revokeGrant (s : State) (r : Requester) : State :=
  ({ s with lrn := { s.lrn with
      fences := fencesRevoked r s.pace.round s.lrn.fences, cells := s.lrn.cells.map (LCell.cutFor r) } } : State).raiseFor 0x520 0 1000

/-- The learned path is off until the next cold boot. -/
def State.disableCold (s : State) : State := { s with lrn := { s.lrn with disabledCold := true } }

theorem arbitrationRevoke_eq (r : Requester) (s : State) :
    arbitrationRevoke r s =
      if s.revokedLately r then ((s.revokeGrant r).unpick 4).disableCold.raise 0x521 0 else s.revokeGrant r := rfl

theorem revokedLately_iff (s : State) (r : Requester) :
    s.revokedLately r = true ↔ ∃ f ∈ s.lrn.fences, f.req = r ∧ s.pace.round < f.round + 1000 := by
  simp [State.revokedLately]

/-- What every revocation does, be it the first of the requester or a later one. -/
structure GrantRevoked (r : Requester) (s t : State) : Prop where
  frame : t = { s with lrn := t.lrn, trn := t.trn, nv := t.nv, flt := t.flt }
  fences : t.lrn.fences = fencesRevoked r s.pace.round s.lrn.fences
  discarded : (r = .scheduler ∨ r = .scan) → ∀ b ∈ t.lrn.cells.map (fun c => c.resident), b = false
  stands : t.flt.stands 0x520 0 = true
  faults : SameFaults [0x520, 0x521] s t

theorem revokeGrant_grantRevoked (r : Requester) (s : State) : GrantRevoked r s (s.revokeGrant r) where
  frame := by rw [State.revokeGrant, raiseFor_flt]
  fences := by rw [State.revokeGrant, raiseFor_lrn]
  discarded hr := by
    have hcut (c : LCell) : (c.cutFor r).resident = false := by
      rcases hr with rfl | rfl <;> rfl
    rw [State.revokeGrant, raiseFor_lrn]
    simp [hcut]
  stands := raiseFor_stands _ _ _ _
  faults := (SameFaults.of_stands fun _ _ => rfl).trans (raiseFor_sameFaults (by decide) _ _ _)

section
variable {r : Requester} {s t : State} (h : GrantRevoked r s t)
include h

theorem GrantRevoked.unpick : GrantRevoked r s (t.unpick 4) := by
  obtain ⟨hframe, -⟩ := unpick_spec t 4
  refine ⟨?_, ?_, fun hr => ?_, ?_, h.faults.trans (SameFaults.of_stands (unpick_stands_of_reason_four t))⟩
  · rw [hframe, h.frame]
  · rw [hframe]; exact h.fences
  · rw [unpick_resident]; exact h.discarded hr
  · rw [unpick_stands_of_reason_four]; exact h.stands

theorem GrantRevoked.disableCold : GrantRevoked r s t.disableCold where
  frame := by rw [State.disableCold, h.frame]
  fences := h.fences
  discarded := h.discarded
  stands := h.stands
  faults := h.faults.trans (SameFaults.of_stands fun _ _ => rfl)

theorem GrantRevoked.raise_again : GrantRevoked r s (t.raise 0x521 0) where
  frame := by rw [raise_flt, h.frame]
  fences := by rw [raise_lrn]; exact h.fences
  discarded := by rw [raise_lrn]; exact h.discarded
  stands := raiseInst_stands_of t _ _ _ h.stands
  faults := h.faults.trans (raise_sameFaults (by decide) t 0)

end

theorem arbitrationRevoke_grantRevoked (r : Requester) (s : State) : GrantRevoked r s (arbitrationRevoke r s) := by
  have hfirst := revokeGrant_grantRevoked r s
  rw [arbitrationRevoke_eq]
  split
  · exact hfirst.unpick.disableCold.raise_again
  · exact hfirst

theorem arbitrationRevoke_again {r : Requester} {s : State} (h : s.revokedLately r = true) :
    (arbitrationRevoke r s).lrn.disabledCold = true ∧ (arbitrationRevoke r s).flt.stands 0x521 0 = true := by
  rw [arbitrationRevoke_eq, if_pos h]
  exact ⟨by rw [raise_lrn]; rfl, raise_stands _ _ _⟩

theorem arbitrationRevoke_first {r : Requester} {s : State} (h : ¬ s.revokedLately r = true) :
    (arbitrationRevoke r s).lrn.disabledCold = s.lrn.disabledCold := by
  rw [arbitrationRevoke_eq, if_neg h, State.revokeGrant, raiseFor_lrn]

/-! ### A port unfenced (R265) -/

theorem portUnfence_eq {s : State} {r : Requester} (hup : s.tc1Up = true) (hstitch : s.pace.stitch = 0)
    (hlater : ∀ f ∈ s.lrn.fences, f.req = r → f.round ≠ s.pace.round) :
    portUnfence r s = { s with lrn := { s.lrn with fences := fencesLifted r s.lrn.fences } } := by
  unfold portUnfence
  refine if_neg ?_
  simpa [hup, hstitch] using hlater

/-- Settles O37: a revocation by whether the requester's grant was revoked lately, the port unfenced at a later boundary, and the refresh
rate. That the second one records a cycle in force with reason 4 is log entry 181. -/
theorem arbitrationFencesItsHolder : Obligations.ArbitrationFencesItsHolder := by
  refine ⟨fun s r => ⟨_, rfl, ?_⟩, fun s r hup hstitch hlater => ⟨_, rfl, ?_⟩, fun s m hddr => ⟨_, rfl, if_pos hddr⟩⟩
  · obtain ⟨hframe, hfences, hdiscarded, hstands, hsame⟩ := arbitrationRevoke_grantRevoked r s
    obtain ⟨hown, hother⟩ := fenced_of_fencesRevoked hfences
    rw [← revokedLately_iff]
    exact ⟨hown, hother, hstands, arbitrationRevoke_again, arbitrationRevoke_first, hsame,
      fun hr c hc => hdiscarded hr _ (List.mem_map_of_mem hc), hframe, arbitrationRevoke_fixed r s⟩
  · rw [portUnfence_eq hup hstitch hlater]
    obtain ⟨hown, hother⟩ := fenced_of_fencesLifted (s := s)
      (t := { s with lrn := { s.lrn with fences := fencesLifted r s.lrn.fences } }) rfl
    exact ⟨hown, hother, rfl⟩

end Sys2Proof.Machine
end

section
/-!
SUPPORT. The end of a training cycle and the step down of the shed level (R282 to R284, R288): the record of a decision, the exchange of the
halves, the faults of a level, and statement O39 from them.
-/
namespace Sys2Proof.Machine

/-! ### A cycle that is recorded (R284) -/

/-- The decision of the cycle is recorded with its reason, and the rotation takes the cohort that it trained; training, the memory, the
records and the faults alone may change, and no instance becomes unlisted. -/
structure CycleRecorded (reason : Nat) (s t : State) : Prop where
  frame : t = { s with trn := t.trn, lrn := t.lrn, nv := t.nv, flt := t.flt }
  record : t.trn.last.map (fun r => (r.cohort, r.cycle, r.reason)) = some (s.trn.cohort, s.trn.cycle, reason)
  count : t.trn.cycle = s.trn.cycle + 1
  rotation : t.nv.rotation = s.trn.cohort
  free : ∀ c d, s.flt.free c d → t.flt.free c d

/-- Every reason but 4 moves the rotation on. -/
theorem recordCycle_cycleRecorded (s : State) {reason : Nat} (h : reason ≠ 4) : CycleRecorded reason s (s.recordCycle reason) where
  frame := rfl
  record := rfl
  count := rfl
  rotation := if_neg (by simpa using h)
  free := fun _ _ hf => hf

/-- A shadow restored before the record is no part of what is recorded. -/
theorem CycleRecorded.of_restoreShadow {reason cohort : Nat} {s t : State} (h : CycleRecorded reason (s.restoreShadow cohort) t) :
    CycleRecorded reason s t := by
  obtain ⟨hframe, hrecord, hcount, hrotation, hfree⟩ := h
  rw [restoreShadow_frame] at hframe hrecord hcount hrotation hfree
  exact ⟨hframe, hrecord, hcount, hrotation, hfree⟩

/-- Promotion is decided, and waits for the copy of the adapters. -/
def State.decidePromotion (s : State) : State := { s with trn := { s.trn with phase := .decision, promote := true, copied := false } }

/-- The data of a cycle that is unpicked are discarded. -/
def State.discardCycle (s : State) : State :=
  { s with trn := { s.trn with
      phase := .idle, cells := s.trn.cells.map fun a => { a with state := [], tangents := [], pending := none }
      master := [], mom1 := [], mom2 := [], grad := [], promote := false, copied := false } }

section
variable {reason : Nat} {s t : State} (h : CycleRecorded reason s t)
include h

theorem CycleRecorded.clear (c d : Nat) : CycleRecorded reason s (t.clear c d) where
  frame := by rw [clear_flt, h.frame]
  record := by rw [clear_trn]; exact h.record
  count := by rw [clear_trn]; exact h.count
  rotation := by rw [clear_nv]; exact h.rotation
  free c' d' hf := clear_free t c d c' d' (h.free c' d' hf)

theorem CycleRecorded.decidePromotion : CycleRecorded reason s t.decidePromotion where
  frame := by rw [State.decidePromotion, h.frame]
  record := h.record
  count := h.count
  rotation := h.rotation
  free := h.free

theorem CycleRecorded.discardCycle : CycleRecorded reason s t.discardCycle where
  frame := by rw [State.discardCycle, h.frame]
  record := h.record
  count := h.count
  rotation := h.rotation
  free := h.free

/-- A fault that is listed ends when it is cleared after the record. -/
theorem CycleRecorded.clear_stands {c : Nat} (hc : c ≠ 0x542) (hall : s.allListed) (d : Nat) : (t.clear c d).flt.stands c d = false :=
  clear_stands_free t c d (h.free c d (Faults.free_of_listed hall c d)) hc

end

theorem unpick_of_fit {s : State} {reason : Nat} (hfit : s.trn.phase = .fit) (h1 : 1 ≤ reason) (h3 : reason ≤ 3) :
    s.unpick reason = ((s.restoreShadow s.trn.cohort).recordCycle reason).discardCycle.clear 0x640 0 := by
  unfold State.unpick
  rw [if_neg (by simp [State.cycleOn, hfit]), if_neg (by simp [hfit])]
  dsimp only
  rw [if_neg (by omega), if_pos ⟨h1, h3⟩]
  rfl

/-! ### The decision (R282, R283) -/

theorem fitReason_le_three (s : State) : s.fitReason ≤ 3 := by
  unfold State.fitReason
  extract_lets t f scored enough
  split
  · decide
  · split
    · decide
    · split <;> decide

section
variable {s : State} (hup : s.tc1Up = true) (hfit : s.trn.phase = .fit) (hsnaps : s.img.f.train.fit ≤ s.trn.snaps) (h61 : 61 ≤ s.pace.stitch)
include hup hfit hsnaps h61

theorem fitDecision_of_no_reason (h0 : s.fitReason = 0) : fitDecision s = ((s.recordCycle 0).clear 0x640 0).decidePromotion := by
  unfold fitDecision
  rw [if_neg (by simp [hup, hfit, hsnaps, h61]), if_pos h0]
  rfl

theorem fitDecision_of_reason (h0 : s.fitReason ≠ 0) :
    fitDecision s = ((s.restoreShadow s.trn.cohort).recordCycle s.fitReason).discardCycle.clear 0x640 0 := by
  unfold fitDecision
  rw [if_neg (by simp [hup, hfit, hsnaps, h61]), if_neg h0]
  exact unpick_of_fit hfit (Nat.one_le_iff_ne_zero.mpr h0) (fitReason_le_three s)

/-- Either way the decision is recorded, and the training fault ends. -/
theorem fitDecision_spec :
    let t := fitDecision s
    CycleRecorded s.fitReason s t ∧ t.trn.phase = (if s.fitReason = 0 then .decision else .idle) ∧
      t.trn.promote = decide (s.fitReason = 0) ∧ (s.allListed → t.flt.stands 0x640 0 = false) := by
  by_cases h0 : s.fitReason = 0
  · have hrecorded := recordCycle_cycleRecorded s (reason := 0) (by decide)
    rw [fitDecision_of_no_reason hup hfit hsnaps h61 h0, h0]
    exact ⟨(hrecorded.clear _ _).decidePromotion, rfl, rfl, fun hall => hrecorded.clear_stands (by decide) hall 0⟩
  · have hne : s.fitReason ≠ 4 := (Nat.lt_succ_of_le (fitReason_le_three s)).ne
    have hrecorded := (recordCycle_cycleRecorded (s.restoreShadow s.trn.cohort) hne).of_restoreShadow.discardCycle
    rw [fitDecision_of_reason hup hfit hsnaps h61 h0, if_neg h0, decide_eq_false h0]
    refine ⟨hrecorded.clear _ _, ?_, ?_, fun hall => hrecorded.clear_stands (by decide) hall 0⟩
    · rw [clear_trn]; rfl
    · rw [clear_trn]; rfl

end

/-! ### The copy of the adapters and the exchange of the halves (R283) -/

/-- The cell was scored in the fitting window. -/
def State.scored (s : State) (id : CellId) : Bool := s.trn.cells.any fun a => a.id == id && a.scored

theorem scored_eq_false {s : State} {id : CellId} (h : ∀ a ∈ s.trn.cells, a.id = id → a.scored = false) : s.scored id = false := by
  simpa [State.scored] using h

/-- The cell with its live adapter over its shadow adapter. -/
def LCell.shadowAsLive (c : LCell) : LCell := { c with shadow := c.adapter }

theorem adapterCopy_eq {s : State} (hp : s.trn.promote = true) (hc : s.trn.copied = false) :
    adapterCopy s = { s with
      trn := { s.trn with copied := true }
      lrn := { s.lrn with cells := updWhere (fun c => c.cohort == s.trn.cohort && !s.scored c.id) LCell.shadowAsLive s.lrn.cells } } := by
  unfold adapterCopy
  rw [if_neg (by simp [hp, hc])]
  rfl

theorem map_updWhere_of_eq {α β : Type} {p : α → Bool} {f : α → α} {g : α → β} (h : ∀ x, g (f x) = g x) (l : List α) :
    (updWhere p f l).map g = l.map g := by
  unfold updWhere
  rw [List.map_map]
  refine List.map_congr_left fun x _ => ?_
  by_cases hp : p x = true
  · simp [hp, h]
  · simp [hp]

/-- A cell that the copy still selects afterwards has been copied. -/
theorem shadow_eq_adapter_of_mem_updWhere {p : LCell → Bool} {l : List LCell} {m : LCell}
    (hm : m ∈ updWhere p LCell.shadowAsLive l) (h : p m = true) : m.shadow = m.adapter := by
  obtain ⟨c, -, rfl⟩ := List.mem_map.mp hm
  by_cases hc : p c = true
  · rw [if_pos hc]
    rfl
  · rw [if_neg hc] at h
    exact absurd h hc

/-- A list built again place by place. -/
theorem filterMap_range_getElem? {α β : Type} (f : Nat → α → β) (l : List α) :
    ((List.range l.length).filterMap fun i => (l[i]?).map (f i)) = l.mapIdx f := by
  induction l generalizing f with
  | nil => rfl
  | cons x l ih =>
    rw [List.length_cons, List.range_succ_eq_map, List.mapIdx_cons, ← ih fun i => f (i + 1), List.filterMap_cons, List.filterMap_map]
    rfl

/-- The two halves of a cohort's weights with their roles exchanged. -/
def Weights.exchanged (w : Weights) : Weights := { w with live := w.shadow, shadow := w.live }

/-- A cell with the roles of its adapters exchanged; a step that runs late stays bound to the ones it reads. -/
def LCell.exchanged (now : Round) (c : LCell) : LCell :=
  { c with adapter := c.shadow, shadow := c.adapter, bound := c.bound || c.isLate now }

theorem promotion_eq {s : State} (hp : s.trn.promote = true) (hc : s.trn.copied = true) (h0 : s.pace.stitch = 0) :
    promotion s = { s with
      trn := { s.trn with phase := .idle, promote := false, copied := false, promoted := some s.pace.round, copyDue := some s.trn.cohort }
      lrn := { s.lrn with
        staging := none
        weights := s.lrn.weights.mapIdx fun i w => if i = s.trn.cohort then w.exchanged else w
        cells := updWhere (fun c => c.cohort == s.trn.cohort) (LCell.exchanged s.pace.round) s.lrn.cells } } := by
  rw [← filterMap_range_getElem?]
  unfold promotion
  rw [if_neg (by simp [hp, hc, h0])]
  rfl

/-! ### The step down of the shed level (R288) -/

/-- The faults of the shed levels. -/
def shedCodes : List Nat := [0x643, 0xA20, 0xA21, 0xA22]

theorem raise_faultsOnly {l : List Nat} {c : Nat} (hc : c ∈ l) (s : State) (d : Nat) : FaultsOnly l s (s.raise c d) :=
  ⟨raise_flt s c d, raise_sameFaults hc s d⟩

theorem shedFaults_faultsOnly (s : State) : FaultsOnly shedCodes s s.shedFaults := by
  unfold State.shedFaults
  extract_lets l only s1 s2 s3
  have h1 : FaultsOnly shedCodes s s1 :=
    .ite (.ite .refl (raise_faultsOnly (by decide) s 0)) (clear_faultsOnly (by decide) s 0)
  have h2 : FaultsOnly shedCodes s1 s2 :=
    .ite (clear_faultsOnly (by decide) s1 0) (.ite (raise_faultsOnly (by decide) s1 0) .refl)
  have h3 : FaultsOnly shedCodes s2 s3 := .ite (clear_faultsOnly (by decide) s2 0) (raise_faultsOnly (by decide) s2 0)
  exact ((h1.trans h2).trans h3).trans ⟨judge2_flt _ _ _ _ _, judge2_sameFaults (by decide) s3 0 _ _⟩

/-- A replay that a shed level suspended starts its period again. -/
def Replay.resumed (r : Replay) : Replay :=
  { r with suspended := false, seeded := false, ref := [], done := 0, stepped := none, compared := none }

/-- The state one shed level lower: from level 3 the memory is to be restored, and below level 2 the replay goes on. -/
def State.shedDown (s : State) : State :=
  { s with
    trn := { s.trn with shed := s.trn.shed - 1, coolFrom := none }
    lrn := { s.lrn with
      lost := s.lrn.lost || decide (s.trn.shed - 1 = 2)
      replay := if decide (s.trn.shed - 1 < 2) && s.lrn.replay.suspended then s.lrn.replay.resumed else s.lrn.replay } }

theorem shedLower_eq {s : State} {at_ t0 : Ns} (hcool : s.trn.coolFrom = some t0) (hshed : 0 < s.trn.shed) (hle : t0 + 60000000000 ≤ at_) :
    shedLower at_ s = (s.shedDown.at at_).shedFaults := by
  unfold shedLower
  rw [hcool]
  exact if_neg (not_or.mpr ⟨hshed.ne', not_lt.mpr hle⟩)

theorem shedLower_spec {s : State} {at_ t0 : Ns} (hcool : s.trn.coolFrom = some t0) (hshed : 0 < s.trn.shed) (hle : t0 + 60000000000 ≤ at_) :
    let t := shedLower at_ s
    t.trn = { s.trn with shed := s.trn.shed - 1, coolFrom := none } ∧ t.now = max s.now at_ ∧
      t.lrn.lost = (s.lrn.lost || decide (s.trn.shed = 3)) ∧ SameFaults shedCodes s t ∧
      t = { s with now := t.now, trn := t.trn, lrn := { s.lrn with lost := t.lrn.lost, replay := t.lrn.replay }, flt := t.flt } := by
  have h3 : s.trn.shed - 1 = 2 ↔ s.trn.shed = 3 := by omega
  obtain ⟨hframe, hfaults⟩ := shedFaults_faultsOnly (s.shedDown.at at_)
  rw [shedLower_eq hcool hshed hle]
  refine ⟨?_, ?_, ?_, (SameFaults.of_stands fun _ _ => rfl).trans hfaults, ?_⟩
  · rw [hframe]; rfl
  · rw [hframe]; rfl
  · rw [hframe, ← decide_eq_decide.mpr h3]; rfl
  · rw [hframe]; rfl

/-- Settles O39: the decision by whether a reason of Table 11-6 stands, the copy and the exchange by the cells and the weights they select, the
step down by the faults of the level. The lowest failing reason is log entry 76; that the rotation and the cycle number move at the decision
is log entry 78. -/
theorem promotionAndShedding : Obligations.PromotionAndShedding := by
  refine ⟨⟨fun s hup hfit hsnaps h61 => ⟨_, rfl, ?_⟩, fun s hp hc => ⟨_, rfl, ?_⟩, fun s hp hc h0 => ⟨_, rfl, ?_⟩⟩,
    fun s at_ t0 hcool hshed hle => ⟨_, rfl, ?_⟩⟩
  · obtain ⟨⟨hframe, hrecord, hcount, hrotation, -⟩, hphase, hpromote, hfault⟩ := fitDecision_spec hup hfit hsnaps h61
    exact ⟨hrecord, hcount, hrotation, hphase, hpromote, hfault, fitDecision_fixed s, hframe⟩
  · rw [adapterCopy_eq hp hc]
    refine ⟨rfl, map_updWhere_of_eq (f := LCell.shadowAsLive) (fun _ => rfl) _, fun m hm hcohort hscored => ?_⟩
    exact shadow_eq_adapter_of_mem_updWhere hm (by simp [hcohort, scored_eq_false hscored])
  · rw [promotion_eq hp hc h0]
    refine ⟨rfl, rfl, List.length_mapIdx, fun w hw => ?_, fun i hi => ?_, rfl, rfl⟩
    · simp [hw, Weights.exchanged]
    · simp [hi]
  · obtain ⟨htrn, hnow, hlost, hfaults, hframe⟩ := shedLower_spec hcool hshed hle
    exact ⟨htrn, hnow, hlost, hfaults, shedLower_fixed at_ s, hframe⟩

end Sys2Proof.Machine
end

section
/-!
SUPPORT. The seam (chapter 12): what a decision makes of a cell and of fault 0x650, the deadline over the cells and the window over the
cohorts, and the negation of statement O32 from the decision.
-/
namespace Sys2Proof.Machine

/-! ### The decision on a cell (R292 to R296) -/

theorem seamCell_id {s : State} {id : CellId} {q : SeamCell} (h : s.seamCell id = some q) : q.id = id := by
  simpa using List.find?_some h

/-- The residual count that a decision gives the cell (R294). -/
def State.seamResid (s : State) (id : CellId) (q : SeamCell) : Nat :=
  let x := s.cellRec id
  residCount s.img.f.seam.residV (x.usable && !x.flags.getLsbD 3 && !x.flags.getLsbD 4) (s.cellVolt id) q.vPrev q.resid

/-- The verdict of a decision (R295); an absent record has every quantity absent (R292). -/
def State.seamVerdict (s : State) (id : CellId) (q : SeamCell) (c : Cell) (r : Option Result) : Verdict :=
  verdictOf (c.bracket (s.estOf id)) (r.bind fun r => r.soc) (r.bind fun r => r.cap) (r.bind fun r => r.res)
    (decide (s.img.f.seam.residRounds ≤ s.seamResid id q))

/-- The state and the rejoin count that a decision gives the cell (R296). -/
def State.seamMove (s : State) (id : CellId) (q : SeamCell) (c : Cell) (r : Option Result) : SeamState × Nat :=
  q.state.move s.img.f.seam.rejoin (s.seamVerdict id q c r) q.rejoin

theorem move_out (rejoinAt : Nat) (st : SeamState) (n : Nat) : st.move rejoinAt .out n = (.split, 0) := by
  cases st <;> rfl

/-- The entries of the cell are decided in the present round and hold the state, the rejoin count and the residual count given. -/
structure CellMoved (s : State) (id : CellId) (m : SeamState × Nat) (n : Nat) (t : State) : Prop where
  frame : t = { s with seam := { s.seam with cells := t.seam.cells, cohorts := t.seam.cohorts }, flt := t.flt }
  cells : ∃ g : SeamCell → SeamCell, t.seam.cells = updWhere (fun x => x.id == id) g s.seam.cells ∧ (∀ x, (g x).id = x.id) ∧
    ∀ x, ((g x).state, (g x).rejoin, (g x).resid, (g x).decided) = (m.1, m.2, n, some s.pace.round)

theorem CellMoved.judge2 {s : State} {id : CellId} {m : SeamState × Nat} {n : Nat} {t : State} (h : CellMoved s id m n t) (c d : Nat)
    (up down : Bool) : CellMoved s id m n (t.judge2 c d up down) where
  frame := by rw [judge2_flt, h.frame]
  cells := by rw [judge2_seam]; exact h.cells

theorem CellMoved.seamCell {s : State} {id : CellId} {m : SeamState × Nat} {n : Nat} {t : State} (h : CellMoved s id m n t) {q : SeamCell}
    (hq : s.seamCell id = some q) :
    (t.seamCell id).map (fun x => (x.state, x.rejoin, x.resid, x.decided)) = some (m.1, m.2, n, some s.pace.round) := by
  obtain ⟨g, hcells, hid, hg⟩ := h.cells
  have hfind : t.seamCell id = (s.seamCell id).map g := by
    rw [State.seamCell, hcells]
    exact (find?_updWhere_key hid id id s.seam.cells).trans (if_pos rfl)
  rw [hfind, hq]
  exact congrArg some (hg q)

/-- The cell-snap counted in the window of its cohort (R307). -/
def State.countSnap (s : State) (id : CellId) (old new : SeamState) (excess : Bool) : State :=
  match s.cohortOf id with
  | some k => s.updCohort k fun x => { x with counts := x.counts.add old new excess }
  | none => s

theorem countSnap_frame (s : State) (id : CellId) (old new : SeamState) (excess : Bool) : s.countSnap id old new excess =
    { s with seam := { s.seam with cohorts := (s.countSnap id old new excess).seam.cohorts } } := by
  unfold State.countSnap
  split <;> rfl

/-- A cell with what a decision gives it: its move, its residual count, the rounds in split and the record that it is decided on. -/
def SeamCell.decideAs (round : Round) (m : SeamState × Nat) (n run : Nat) (r : Option Result) (x : SeamCell) : SeamCell :=
  { x with
    state := m.1, rejoin := m.2, resid := n, vPrev := r.bind fun r => r.vPred, splitRun := run
    srcL := m.1 == .closed && (r.bind fun r => r.soc).isSome, decided := some round, record := r }

section
variable {s : State} {id : CellId} {q : SeamCell} {c : Cell} (hq : s.seamCell id = some q) (hc : s.clsCell id = some c) (r : Option Result)
include hq hc

/-- What a decision moves, and then the two faults that it judges by the rounds in split and by the residual count. -/
theorem decideCell_eq :
    let m := s.seamMove id q c r
    let n := s.seamResid id q
    let run := if m.1 = .split then q.splitRun + 1 else 0
    ∃ u, CellMoved s id m n u ∧ u.flt = s.flt ∧ s.decideCell id r =
      (u.judge2 0x650 id (decide (s.img.f.seam.splitReport ≤ run)) (!(m.1 == .split))).judge2 0x651 id
        (decide (s.img.f.seam.residRounds ≤ n)) (decide (n = 0)) := by
  intro m n run
  refine ⟨(s.updS id (SeamCell.decideAs s.pace.round m n run r)).countSnap id q.state m.1 (decide (s.img.f.seam.residRounds ≤ n)),
    ⟨?_, SeamCell.decideAs s.pace.round m n run r, ?_, fun _ => rfl, fun _ => rfl⟩, ?_, ?_⟩
  · rw [countSnap_frame]; rfl
  · rw [countSnap_frame]; rfl
  · rw [countSnap_frame]; rfl
  · unfold State.decideCell
    rw [hq, hc]
    cases r <;> rfl

theorem decideCell_cellMoved : CellMoved s id (s.seamMove id q c r) (s.seamResid id q) (s.decideCell id r) := by
  obtain ⟨u, hmoved, -, heq⟩ := decideCell_eq hq hc r
  rw [heq]
  exact (hmoved.judge2 _ _ _ _).judge2 _ _ _ _

theorem decideCell_sameFaults : SameFaults [0x650, 0x651] s (s.decideCell id r) := by
  obtain ⟨u, -, hflt, heq⟩ := decideCell_eq hq hc r
  rw [heq]
  have hu : SameFaults [0x650, 0x651] s u := SameFaults.of_stands fun _ _ => by rw [hflt]
  exact (hu.trans (judge2_sameFaults (by decide) u id _ _)).trans (judge2_sameFaults (by decide) _ id _ _)

/-- Outside split a decision ends fault 0x650, unless the limit of rounds in split is 0: such a limit is reached by every cell. -/
theorem decideCell_stands_longSplit (hm : (s.seamMove id q c r).1 ≠ .split) (hf : s.flt.free 0x650 id) :
    (s.decideCell id r).flt.stands 0x650 id = decide (s.img.f.seam.splitReport = 0) := by
  obtain ⟨u, -, hflt, heq⟩ := decideCell_eq hq hc r
  rw [heq, judge2_stands_ne (by simp) _ _ _ (by decide), if_neg hm, beq_eq_false_iff_ne.mpr hm, Bool.not_false]
  by_cases h0 : s.img.f.seam.splitReport = 0
  · rw [h0]
    exact judge2_stands_of_up u 0x650 id true
  · rw [decide_eq_false h0, decide_eq_false (by omega)]
    exact judge2_stands_of_down (by rw [hflt]; exact hf) (by decide)

end

section
variable {s : State} {id : CellId} {q : SeamCell} {r : Result} (hup : s.tc0Up = true) (hupdated : s.cls.updated = some s.pace.round)
  (hopen : s.seam.closedFor ≠ some s.pace.round) (hq : s.seamCell id = some q) (hr : s.seamRecord id = some r)
  (hdecided : q.decided ≠ some s.pace.round) (h61 : s.pace.stitch ≤ 61)
include hup hupdated hopen hq hr hdecided h61

theorem seamDecision_eq : seamDecision id s = s.decideCell id (some r) := by
  unfold seamDecision
  dsimp only
  rw [hq, hr]
  exact if_pos (by simp [hup, hupdated, hopen, hdecided, h61])

/-- A decision with both results in hand (R292 to R296). Outside split it leaves fault 0x650 standing under a limit of 0 rounds alone. -/
theorem seamDecision_spec {c : Cell} (hc : s.clsCell id = some c) :
    let m := s.seamMove id q c (some r)
    let t := seamDecision id s
    (t.seamCell id).map (fun x => (x.state, x.rejoin, x.resid, x.decided)) = some (m.1, m.2, s.seamResid id q, some s.pace.round) ∧
      (s.seamVerdict id q c (some r) = .out → m.1 = .split) ∧
      (m.1 ≠ .split → s.allListed → t.flt.stands 0x650 id = decide (s.img.f.seam.splitReport = 0)) ∧
      t = { s with seam := { s.seam with cells := t.seam.cells, cohorts := t.seam.cohorts }, flt := t.flt } ∧
      SameFaults [0x650, 0x651] s t := by
  rw [seamDecision_eq hup hupdated hopen hq hr hdecided h61]
  have hmoved := decideCell_cellMoved hq hc (some r)
  refine ⟨hmoved.seamCell hq, fun hv => ?_, fun hm hall => ?_, hmoved.frame, decideCell_sameFaults hq hc (some r)⟩
  · rw [State.seamMove, hv, move_out]
  · exact decideCell_stands_longSplit hq hc (some r) hm (Faults.free_of_listed hall _ _)

end

/-! ### The deadline (R20, R292) -/

theorem id_ne_of_seamCell_eq_none {s : State} {id : CellId} (h : s.seamCell id = none) {x : SeamCell} (hx : x ∈ s.seam.cells) : x.id ≠ id := by
  simpa using List.find?_eq_none.mp h x hx

/-- What the decisions of a deadline keep: of the seam all but cells and counts, and everything else but the faults. -/
theorem decideCell_frame (s : State) (id : CellId) (r : Option Result) : s.decideCell id r =
    { s with seam := { s.seam with cells := (s.decideCell id r).seam.cells, cohorts := (s.decideCell id r).seam.cohorts }
             flt := (s.decideCell id r).flt } := by
  cases hq : s.seamCell id with
  | none => unfold State.decideCell; rw [hq]
  | some q =>
    cases hc : s.clsCell id with
    | none => unfold State.decideCell; rw [hq, hc]
    | some c => exact (decideCell_cellMoved hq hc r).frame

/-- An entry after a decision is one of before that is not the cell's, or it is decided. -/
theorem mem_decideCell_cells {s : State} {id : CellId} (hc : (s.clsCell id).isSome = true) (r : Option Result) {y : SeamCell}
    (hy : y ∈ (s.decideCell id r).seam.cells) :
    (y ∈ s.seam.cells ∧ y.id ≠ id) ∨ y.decided = some s.pace.round := by
  obtain ⟨c, hc⟩ := Option.isSome_iff_exists.mp hc
  cases hq : s.seamCell id with
  | none =>
    have hkept : s.decideCell id r = s := by unfold State.decideCell; rw [hq]
    rw [hkept] at hy
    exact .inl ⟨hy, id_ne_of_seamCell_eq_none hq hy⟩
  | some q =>
    obtain ⟨g, hcells, -, hdecided⟩ := (decideCell_cellMoved hq hc r).cells
    rw [hcells] at hy
    obtain ⟨x, hx, rfl⟩ := List.mem_map.mp hy
    by_cases hxid : x.id = id
    · rw [if_pos (by simpa using hxid)]
      exact .inr (congrArg (fun p => p.2.2.2) (hdecided x))
    · rw [if_neg (by simpa using hxid)]
      exact .inl ⟨hx, hxid⟩

theorem decideCell_pace (s : State) (id : CellId) (r : Option Result) : (s.decideCell id r).pace = s.pace := by rw [decideCell_frame]

theorem decideCell_clsCell (s : State) (id : CellId) (r : Option Result) (i : CellId) : (s.decideCell id r).clsCell i = s.clsCell i := by
  rw [decideCell_frame]; rfl

/-- The cells decided one after another on what is in hand of each. -/
def State.decideCells (s : State) (ids : List CellId) : State := ids.foldl (fun t id => t.decideCell id (t.seamRecord id)) s

theorem decideCells_frame (s : State) (ids : List CellId) :
    s.decideCells ids = { s with seam := (s.decideCells ids).seam, flt := (s.decideCells ids).flt } := by
  induction ids generalizing s with
  | nil => rfl
  | cons id ids ih => rw [State.decideCells, List.foldl_cons, ← State.decideCells, ih, decideCell_frame]

/-- Where every entry is decided or among the cells to decide, all are decided in the end. -/
theorem decideCells_decided {ids : List CellId} {s : State} (hids : ∀ id ∈ ids, (s.clsCell id).isSome = true)
    (h : ∀ q ∈ s.seam.cells, q.decided = some s.pace.round ∨ q.id ∈ ids) :
    ∀ q ∈ (s.decideCells ids).seam.cells, q.decided = some s.pace.round := by
  induction ids generalizing s with
  | nil => exact fun q hq => (h q hq).resolve_right List.not_mem_nil
  | cons id ids ih =>
    have hstep : ∀ y ∈ (s.decideCell id (s.seamRecord id)).seam.cells, y.decided = some s.pace.round ∨ y.id ∈ ids := by
      intro y hy
      rcases mem_decideCell_cells (hids id List.mem_cons_self) _ hy with ⟨hmem, hne⟩ | hdecided
      · exact (h y hmem).imp_right fun hin => (List.mem_cons.mp hin).resolve_left hne
      · exact .inl hdecided
    have hrest := ih (s := s.decideCell id (s.seamRecord id))
      (fun i hi => by rw [decideCell_clsCell]; exact hids i (List.mem_cons_of_mem id hi)) (by rwa [decideCell_pace])
    rwa [decideCell_pace] at hrest

/-- The seam's entries stay; of the rest of the seam, the learned path and the faults anything may change. -/
structure SeamJudged (s t : State) : Prop where
  frame : t = { s with seam := t.seam, lrn := t.lrn, flt := t.flt }
  cells : t.seam.cells = s.seam.cells

namespace SeamJudged
variable {s t u : State}

theorem trans (h : SeamJudged s t) (k : SeamJudged t u) : SeamJudged s u := ⟨by rw [k.frame, h.frame], k.cells.trans h.cells⟩

/-- Decisions made before what is judged. -/
theorem frame_of (h : SeamJudged t u) (k : t = { s with seam := t.seam, flt := t.flt }) :
    u = { s with seam := u.seam, lrn := u.lrn, flt := u.flt } := by rw [h.frame, k]

theorem judge2 (h : SeamJudged s t) (c d : Nat) (up down : Bool) : SeamJudged s (t.judge2 c d up down) :=
  ⟨by rw [judge2_flt, h.frame], by rw [judge2_seam, h.cells]⟩

theorem foldl {α : Type} {f : State → α → State} (h : ∀ s a, SeamJudged s (f s a)) (as : List α) (s : State) :
    SeamJudged s (as.foldl f s) :=
  List.foldlRecOn (motive := SeamJudged s) as f ⟨rfl, rfl⟩ fun t ht a _ => ht.trans (h t a)

end SeamJudged

theorem cohortHold_seamJudged (s : State) (c : Nat) : SeamJudged s (s.cohortHold c) := by
  unfold State.cohortHold
  split
  next k n _ =>
    by_cases h0 : n = 0
    · rw [if_pos h0]
      exact ⟨rfl, rfl⟩
    · rw [if_neg h0]
      refine SeamJudged.judge2 ?_ _ _ _ _
      exact ⟨rfl, rfl⟩

theorem packSplitCheck_seamJudged (s : State) : SeamJudged s s.packSplitCheck := by
  unfold State.packSplitCheck
  refine SeamJudged.judge2 ?_ _ _ _ _
  exact ⟨rfl, rfl⟩

theorem absentCheck_seamJudged (s : State) : SeamJudged s s.absentCheck := by
  unfold State.absentCheck
  refine SeamJudged.foldl (fun t c => SeamJudged.judge2 ?_ _ _ _ _) s.lrn.cells s
  exact ⟨rfl, rfl⟩

theorem countOverruns_seamJudged (s : State) : SeamJudged s s.countOverruns := by
  unfold State.countOverruns
  split
  · exact ⟨rfl, rfl⟩
  · refine SeamJudged.judge2 ?_ _ _ _ _
    exact ⟨rfl, rfl⟩

/-- The work of the deadline once every cell is decided: holds, the split of the pack, absent records and overruns. -/
def State.judgeSeam (s : State) : State := ((List.range 17).foldl State.cohortHold s).packSplitCheck.absentCheck.countOverruns

theorem judgeSeam_seamJudged (s : State) : SeamJudged s s.judgeSeam :=
  (((SeamJudged.foldl cohortHold_seamJudged _ s).trans (packSplitCheck_seamJudged _)).trans (absentCheck_seamJudged _)).trans
    (countOverruns_seamJudged _)

/-- A round closed for the seam. -/
def State.closeSeam (s : State) (n : Round) : State := { s with seam := { s.seam with closedFor := some n } }

theorem closeSeam_frame {s t : State} (h : t = { s with seam := t.seam, lrn := t.lrn, flt := t.flt }) (n : Round) :
    t.closeSeam n = { s with seam := (t.closeSeam n).seam, lrn := (t.closeSeam n).lrn, flt := (t.closeSeam n).flt } := by
  rw [State.closeSeam, h]

/-- The cells that the present round has not decided. -/
def State.undecided (s : State) : List CellId := (s.seam.cells.filter fun q => !(q.decided == some s.pace.round)).map fun q => q.id

theorem mem_undecided {s : State} {id : CellId} : id ∈ s.undecided ↔ ∃ q ∈ s.seam.cells, q.decided ≠ some s.pace.round ∧ q.id = id := by
  simp [State.undecided, and_assoc]

/-- The second part of statement O32 holds: the deadline decides every cell not yet decided, and closes the round (R20, R292). -/
theorem seamDeadline_spec {s : State} (hrounds : s.rounds = true) (hup : s.tc0Up = true) (h61 : s.pace.stitch = 61)
    (hupdated : s.cls.updated = some s.pace.round) (hopen : s.seam.closedFor ≠ some s.pace.round)
    (hcls : ∀ q ∈ s.seam.cells, (s.clsCell q.id).isSome = true) :
    let t := seamDeadline s
    t.seam.closedFor = some s.pace.round ∧ (∀ q ∈ t.seam.cells, q.decided = some s.pace.round) ∧ t.fixed = s.fixed ∧
      t = { s with seam := t.seam, lrn := t.lrn, flt := t.flt } := by
  have heq : seamDeadline s = (s.decideCells s.undecided).judgeSeam.closeSeam s.pace.round := by
    unfold seamDeadline
    rw [if_neg (by simp [hrounds, hup, h61, hupdated, hopen])]
    rfl
  have hids : ∀ id ∈ s.undecided, (s.clsCell id).isSome = true := by
    intro id hid
    obtain ⟨q, hq, -, rfl⟩ := mem_undecided.mp hid
    exact hcls q hq
  have hall := decideCells_decided hids fun q hq => or_iff_not_imp_left.mpr fun hd => mem_undecided.mpr ⟨q, hq, hd, rfl⟩
  have hjudged := judgeSeam_seamJudged (s.decideCells s.undecided)
  have hframe := hjudged.frame_of (decideCells_frame s s.undecided)
  rw [← hjudged.cells] at hall
  rw [heq]
  exact ⟨rfl, hall, heq ▸ seamDeadline_fixed s, closeSeam_frame hframe s.pace.round⟩

/-! ### The end of a window (R307) -/

/-- Log entries join the queue one by one and leave the fault table. -/
theorem foldl_log_spec {α : Type} (k : Nat) (f : State → α → List Byte) (l : List α) (s : State) :
    let t := l.foldl (fun t a => t.log k (f t a)) s
    t = { s with flt := t.flt } ∧ t.flt.table = s.flt.table ∧ t.flt.logQueue.length = s.flt.logQueue.length + l.length := by
  induction l generalizing s with
  | nil => exact ⟨rfl, rfl, rfl⟩
  | cons a l ih =>
    obtain ⟨hframe, htable, hqueue⟩ := ih (s.log k (f s a))
    refine ⟨hframe, htable, hqueue.trans ?_⟩
    simp [State.log]
    omega

/-- The third part of statement O32 holds: at the end of a window each cohort with a model has its entry, and every count begins afresh. -/
theorem seamWindowEnd_spec {s : State} (hrounds : s.rounds = true) (hup : s.tc1Up = true) (hwindow : s.seam.window ≠ s.pace.round / 1000) :
    let t := seamWindowEnd s
    t = { s with seam := { s.seam with
            window := s.pace.round / 1000, cohorts := s.seam.cohorts.map fun x => { x with counts := SeamCohort.zero.counts } }
                 flt := t.flt } ∧
      t.flt.table = s.flt.table ∧ t.flt.logQueue.length = s.flt.logQueue.length + s.modelPlan.length := by
  obtain ⟨hframe, htable, hqueue⟩ := foldl_log_spec 5
    (fun t c => windowPayload c (t.seam.cohorts.getD c SeamCohort.zero).counts false) (s.modelPlan.map fun p => p.1) s
  have heq : seamWindowEnd s = { s.closeWindow false with seam := { (s.closeWindow false).seam with window := s.pace.round / 1000 } } := by
    unfold seamWindowEnd
    exact if_neg (by simp [hrounds, hup, hwindow])
  rw [heq]
  unfold State.closeWindow
  refine ⟨?_, htable, by rw [← List.length_map (f := fun p => p.1) (as := s.modelPlan)]; exact hqueue⟩
  dsimp only
  rw [hframe]

/-! ### A limit of 0 rounds in split (R309, Table 12-6) -/

/-- The seam's entry of a cell in open. -/
def openEntry : SeamCell := ⟨1, .open_, 0, 0, none, 0, false, none, none⟩

/-- A learned record with a SoC of 50 % alone. -/
def halfCharged : Result := ⟨0, none, some (1 / 2), none, none, none, none, false, false, false, false⟩

/-- Every domain on and a cell in open, whose learned SoC of 50 % lies in its bracket; the limit of rounds in split is 0, which Table 12-6
does not allow, and the other limits of a decision are the defaults. -/
def zeroSplitReport : State :=
  { State.reset with
    sup := { Supply.cold with domains := List.range 18 }
    img := { ImageRun.none_ with f := { ImageFields.zero with seam := { SeamFields.zero with residV := 20, residRounds := 5, rejoin := 100 } } }
    pace := { Pace.cold with round := 1 }
    cls := { Classical.empty with pack := { Estimator.empty with cells := [Cell.new EstFields.zero 1] }, updated := some 1 }
    lrn := { Learned.empty with ddr := true, loaded := true, cells := [{ LCell.new 1 0 0 with result := some halfCharged }] }
    seam := { Seam.empty with cells := [openEntry] } }

/-- The cell is to be decided, with both results in hand. -/
theorem zeroSplitReport_decides :
    let s := zeroSplitReport
    s.tc0Up = true ∧ s.cls.updated = some s.pace.round ∧ s.seam.closedFor ≠ some s.pace.round ∧ s.seamCell 1 = some openEntry ∧
      s.clsCell 1 = some (Cell.new EstFields.zero 1) ∧ s.seamRecord 1 = some halfCharged ∧ openEntry.decided ≠ some s.pace.round ∧
      s.pace.stitch ≤ 61 := by decide +kernel

theorem zeroSplitReport_closes :
    zeroSplitReport.seamMove 1 openEntry (Cell.new EstFields.zero 1) (some halfCharged) = (.closed, 0) := by decide +kernel

/-- Refutes O32: in `zeroSplitReport` the verdict is IN, the cell goes to closed, and its decision raises fault 0x650. The statement takes
every value of the field `SEAM.split_report`, of which no image has 0 (Table 12-6); where the field is not 0, `seamDecision_spec` is its
first part, and the other two parts are `seamDeadline_spec` and `seamWindowEnd_spec`. -/
theorem not_seamDecidesAndCloses : ¬ Obligations.SeamDecidesAndCloses := by
  intro h
  obtain ⟨hup, hupdated, hopen, hq, hc, hr, hdecided, h61⟩ := zeroSplitReport_decides
  have hclosed : (zeroSplitReport.seamMove 1 openEntry (Cell.new EstFields.zero 1) (some halfCharged)).1 ≠ .split := by
    rw [zeroSplitReport_closes]
    decide
  obtain ⟨t, ht, -, -, hends, -⟩ := h.1 zeroSplitReport 1 openEntry _ halfCharged hup hupdated hopen hq hc hr hdecided h61
  obtain ⟨-, -, hstands, -⟩ := seamDecision_spec hup hupdated hopen hq hr hdecided h61 hc
  obtain rfl : seamDecision 1 zeroSplitReport = t := Host.Outcome.next.inj ht
  exact Bool.false_ne_true ((hends hclosed rfl).symm.trans (hstands hclosed rfl))

end Sys2Proof.Machine
end

section
/-!
SUPPORT. A part in RETURN stays without a key through every command (R468): statement O3, by the commands that may move the fixed part.
-/
namespace Sys2Proof.Machine

theorem completes_onward_of_movesFixed {c : Instr} (h : MovesFixed c) (s : State) : Completes c s (Onward s) := by
  cases h with
  | coldBoot b => exact ⟨_, rfl, coldBoot_onward b s⟩
  | strapLatch x => exact ⟨_, rfl, strapLatch_onward x s⟩
  | resistorCodeRead x => exact ⟨_, rfl, resistorCodeRead_onward x s⟩
  | imageSelect a b => exact ⟨_, rfl, imageSelect_onward a b s⟩
  | warmResume b t => exact ⟨_, rfl, warmResume_onward b t s⟩
  | aonLost => exact ⟨_, rfl, aonLost_onward s⟩
  | parkCriterion ok t => exact ⟨_, rfl, parkCriterion_onward ok t s⟩
  | beatReceived x => exact ⟨_, rfl, beatTaken_onward x s⟩
  | keyProg i => exact ⟨_, rfl, keyProg_onward i s⟩
  | lcAdvance b => exact ⟨_, rfl, lcAdvance_onward b s⟩
  | auth x => exact ⟨_, rfl, tapAuth_onward x s⟩

theorem completes_onward (c : Instr) (s : State) : Completes c s (Onward s) := by
  rcases movesFixed_or_completes_fixed c s with hmoves | hfixed
  · exact completes_onward_of_movesFixed hmoves s
  · exact hfixed.imp fun _ h => Onward.of_fixed h

/-- Settles O3: a step idles or runs one command, and every command keeps a keyless part keyless. -/
theorem returnHoldsNoKey : Obligations.ReturnHoldsNoKey := by
  intro s t hkey hstep
  cases hp : s.pending with
  | nil =>
    rw [step_of_pending_nil hp] at hstep
    cases hstep
    exact hkey
  | cons c rest =>
    obtain ⟨u, hu, honward⟩ := completes_onward c { s with pending := rest }
    rw [step_of_pending_cons hp, hu] at hstep
    cases hstep
    exact honward.keyless hkey

end Sys2Proof.Machine
end

section
/-!
SUPPORT. The cut latch (R379), and statement O5. Only the seat's own cut, the start of a domain and the loss of P0 AON write it: every other
operation leaves it as it is. A lemma splits its operation at its branches: what a branch runs is a record update of another part, or an
operation with a lemma further up.
-/
namespace Sys2Proof.Machine

theorem foldl_cut {α : Type} {f : State → α → State} (h : ∀ s a, (f s a).own.cut = s.own.cut) (l : List α) (s : State) :
    (l.foldl f s).own.cut = s.own.cut := by
  induction l generalizing s with
  | nil => rfl
  | cons a l ih => exact (ih (f s a)).trans (h s a)

theorem ite_cut {s t : State} {x : Bool} {c : Prop} [Decidable c] (hs : s.own.cut = x) (ht : t.own.cut = x) :
    (if c then s else t).own.cut = x := by
  split
  · exact hs
  · exact ht

/-! ### Rings, nodes and their commands -/

@[simp] theorem updRing_cut (s : State) (port : Nat) (f : Ring → Ring) : (s.updRing port f).own.cut = s.own.cut := rfl

@[simp] theorem updNode_cut (s : State) (id : NodeId) (f : Node → Node) : (s.updNode id f).own.cut = s.own.cut := rfl

@[simp] theorem updPort_cut (s : State) (port : Nat) (f : PortRx → PortRx) : (s.updPort port f).own.cut = s.own.cut := rfl

@[simp] theorem violate_cut (s : State) (id : NodeId) (code : Nat) : (s.violate id code).own.cut = s.own.cut := by
  unfold State.violate
  dsimp only
  (repeat' split) <;> simp

@[simp] theorem portError_cut (s : State) (port : Nat) : (s.portError port).own.cut = s.own.cut := by
  unfold State.portError
  dsimp only
  (repeat' split) <;> simp

@[simp] theorem recordConf_cut (s : State) (port : Nat) (l : List Byte) : (s.recordConf port l).own.cut = s.own.cut := by
  unfold State.recordConf
  split <;> rfl

@[simp] theorem dropCmd_cut (s : State) (n : Node) (c : Cmd) : (s.dropCmd n c).own.cut = s.own.cut := by
  unfold State.dropCmd
  split <;> simp

@[simp] theorem dropCmds_cut (s : State) (n : Node) : (s.dropCmds n).own.cut = s.own.cut := by
  unfold State.dropCmds
  split <;> simp

@[simp] theorem respCheck_cut (s : State) (id : NodeId) (seq code : Nat) : (s.respCheck id seq code).own.cut = s.own.cut := by
  unfold State.respCheck
  dsimp only
  (repeat' split) <;> simp

@[simp] theorem ackCheck_cut (s : State) (id : NodeId) (seq code epoch : Nat) : (s.ackCheck id seq code epoch).own.cut = s.own.cut := by
  unfold State.ackCheck
  dsimp only
  (repeat' split) <;> simp

@[simp] theorem epochCheck_cut (s : State) (id : NodeId) (e : Nat) : (s.epochCheck id e).own.cut = s.own.cut := by
  unfold State.epochCheck
  dsimp only
  (repeat' split) <;> simp

@[simp] theorem takeSamples_cut (s : State) (id : NodeId) (l : List Byte) : (s.takeSamples id l).own.cut = s.own.cut := by
  unfold State.takeSamples
  dsimp only
  (repeat' split) <;> simp

@[simp] theorem reported_cut (s : State) (id : NodeId) (seq code : Nat) : (s.reported id seq code).own.cut = s.own.cut := by
  unfold State.reported
  split <;> rfl

@[simp] theorem settleRead_cut (s : State) (id : NodeId) (l : List Byte) : (s.settleRead id l).own.cut = s.own.cut := by
  unfold State.settleRead
  dsimp only
  (repeat' split) <;> simp

@[simp] theorem acceptRead_cut (s : State) (id : NodeId) (e : RingEnd) (l : List Byte) : (s.acceptRead id e l).own.cut = s.own.cut := by
  unfold State.acceptRead
  dsimp only
  (repeat' split) <;> simp

@[simp] theorem settleReads_cut (s : State) : s.settleReads.own.cut = s.own.cut := by
  unfold State.settleReads
  exact foldl_cut (fun u n => ite_cut rfl (by split <;> simp)) _ s

@[simp] theorem snapRing_cut (s : State) (r : Ring) : (s.snapRing r).own.cut = s.own.cut := rfl

theorem snapSend_cut (s : State) : (snapSend s).own.cut = s.own.cut := by
  unfold snapSend
  exact ite_cut (foldl_cut snapRing_cut _ s) rfl

theorem snapReceived_cut (x : ThreadRx) (s : State) : (snapReceived x s).own.cut = s.own.cut := by
  unfold snapReceived
  dsimp only
  (repeat' split) <;> simp

@[simp] theorem send_cut (p : CmdPick) (n : Node) (c : Cmd) : (p.send n c).state.own.cut = p.state.own.cut := by simp [CmdPick.send]

@[simp] theorem visit_cut (ident : Bool) (p : CmdPick) (id : NodeId) : (p.visit ident id).state.own.cut = p.state.own.cut := by
  unfold CmdPick.visit
  dsimp only
  (repeat' split) <;> simp

@[simp] theorem pickCommands_cut (s : State) (port : Nat) : (s.pickCommands port).state.own.cut = s.own.cut := by
  have hvisits (ident : Bool) (l : List NodeId) (p : CmdPick) : (l.foldl (CmdPick.visit ident) p).state.own.cut = p.state.own.cut := by
    induction l generalizing p with
    | nil => rfl
    | cons id l ih => rw [List.foldl_cons, ih, visit_cut]
  unfold State.pickCommands
  rw [hvisits, hvisits]

@[simp] theorem tokenRing_cut (s : State) (r : Ring) : (s.tokenRing r).own.cut = s.own.cut := by
  unfold State.tokenRing
  (repeat' split) <;> simp [foldl_cut]

@[simp] theorem tokenSend_cut (s : State) : (tokenSend s).own.cut = s.own.cut := by
  unfold tokenSend
  (repeat' split) <;> simp [foldl_cut]

@[simp] theorem flowMarks_cut (s : State) (port : Nat) (x : ReadRx) : (s.flowMarks port x).own.cut = s.own.cut := by
  unfold State.flowMarks
  dsimp only
  (repeat' split) <;> simp

@[simp] theorem identSeen_cut (s : State) (ring : Nat) (l : List Byte) : (s.identSeen ring l).own.cut = s.own.cut := by
  unfold State.identSeen
  split <;> rfl

@[simp] theorem takeCommand_cut (s : State) (ring port : Nat) (f : ThreadRx) : (s.takeCommand ring port f).own.cut = s.own.cut := by
  unfold State.takeCommand
  dsimp only
  (repeat' split) <;> simp

@[simp] theorem markEnd_cut (s : State) (port b : Nat) : (s.markEnd port b).own.cut = s.own.cut := rfl

@[simp] theorem judgeRead_cut (s : State) (port : Nat) (e : RingEnd) (l : List Byte) : (s.judgeRead port e l).own.cut = s.own.cut := by
  unfold State.judgeRead
  split <;> simp

@[simp] theorem readReceived_cut (x : ReadRx) (s : State) : (readReceived x s).own.cut = s.own.cut := by
  unfold readReceived
  dsimp only
  (repeat' split) <;> simp [foldl_cut]

theorem retriesSpent_cut (id : NodeId) (s : State) : (retriesSpent id s).own.cut = s.own.cut := by
  unfold retriesSpent
  dsimp only
  (repeat' split) <;> simp

theorem commandResend_cut (id : NodeId) (s : State) : (commandResend id s).own.cut = s.own.cut := by
  unfold commandResend
  dsimp only
  (repeat' split) <;> simp

@[simp] theorem nodeLost_cut (id : NodeId) (s : State) : (nodeLost id s).own.cut = s.own.cut := by
  unfold nodeLost
  (repeat' split) <;> simp

@[simp] theorem holdOut_cut (s : State) (ring link cause : Nat) : (s.holdOut ring link cause).own.cut = s.own.cut := by
  unfold State.holdOut
  split <;> rfl

@[simp] theorem mapOut_cut (s : State) (ring link cause : Nat) : (s.mapOut ring link cause).own.cut = s.own.cut := by
  unfold State.mapOut
  split <;> simp

theorem ringReversal_cut (port : Nat) (s : State) : (ringReversal port s).own.cut = s.own.cut := by
  unfold ringReversal
  dsimp only
  (repeat' split) <;> simp

@[simp] theorem countBreak_cut (s : State) (port m link : Nat) : (s.countBreak port m link).own.cut = s.own.cut := by
  unfold State.countBreak
  dsimp only
  (repeat' split) <;> simp

@[simp] theorem findBreak_cut (s : State) (r : Ring) : (s.findBreak r).own.cut = s.own.cut := by
  unfold State.findBreak
  (repeat' split) <;> simp

theorem reversalEnd_cut (port : Nat) (s : State) : (reversalEnd port s).own.cut = s.own.cut := by
  unfold reversalEnd
  (repeat' split) <;> simp

@[simp] theorem windowNode_cut (s : State) (n : Node) : (s.windowNode n).own.cut = s.own.cut := by
  unfold State.windowNode
  dsimp only
  (repeat' split) <;> simp

@[simp] theorem windowPort_cut (s : State) (p : PortRx) : (s.windowPort p).own.cut = s.own.cut := by simp [State.windowPort]

theorem violationWindowEnd_cut (s : State) : (violationWindowEnd s).own.cut = s.own.cut := by
  unfold violationWindowEnd
  (repeat' split) <;> simp [foldl_cut]

@[simp] theorem roundNode_cut (s : State) (n : Node) : (s.roundNode n).own.cut = s.own.cut := by
  unfold State.roundNode
  dsimp only
  (repeat' split) <;> simp

@[simp] theorem roundRing_cut (s : State) (r : Ring) : (s.roundRing r).own.cut = s.own.cut := by
  unfold State.roundRing
  dsimp only
  (repeat' split) <;> simp

@[simp] theorem roundPort_cut (s : State) (p : PortRx) : (s.roundPort p).own.cut = s.own.cut := by
  unfold State.roundPort
  dsimp only
  (repeat' split) <;> simp

@[simp] theorem threadRound_cut (s : State) (silent : List Nat) : (s.threadRound silent).own.cut = s.own.cut := by
  unfold State.threadRound
  extract_lets s1 s2 s3
  have h1 : s1.own.cut = s.own.cut := foldl_cut roundNode_cut _ s
  have h2 : s2.own.cut = s1.own.cut := foldl_cut roundRing_cut _ s1
  have h3 : s3.own.cut = s2.own.cut := foldl_cut roundPort_cut _ s2
  rw [← h1, ← h2, ← h3]
  exact foldl_cut (fun u p => ite_cut (by simp) rfl) _ s3

/-! ### The pattern check -/

@[simp] theorem otherTurn_cut (s : State) (k : Nat) : (s.otherTurn k).own.cut = s.own.cut := by
  unfold State.otherTurn
  split <;> rfl

@[simp] theorem turnOver_cut (s : State) (k : Nat) : (s.turnOver k).own.cut = s.own.cut := rfl

@[simp] theorem beginTurn_cut (s : State) : s.beginTurn.own.cut = s.own.cut := by simp [State.beginTurn]

@[simp] theorem recordCheck_cut (s : State) : s.recordCheck.own.cut = s.own.cut := rfl

@[simp] theorem endTurn_cut (s : State) : s.endTurn.own.cut = s.own.cut := by
  unfold State.endTurn
  split
  · rfl
  next v =>
    extract_lets s1 bad s2 s3 s4
    have h1 : s1.own.cut = s.own.cut := foldl_cut (fun t r => by simp) _ s
    have h2 : s2.own.cut = s1.own.cut := ite_cut (by simp) (by simp)
    have h3 : s3.own.cut = s2.own.cut := foldl_cut (fun t n => by dsimp only; (repeat' split) <;> simp) _ s2
    rw [recordCheck_cut, turnOver_cut]
    exact h3.trans (h2.trans h1)

@[simp] theorem turnCheck_cut (s : State) : s.turnCheck.own.cut = s.own.cut := by
  unfold State.turnCheck
  split <;> simp

@[simp] theorem foreignCount_cut (s : State) : s.foreignCount.own.cut = s.own.cut := by
  unfold State.foreignCount
  split <;> simp

/-! ### Identification and echoes -/

@[simp] theorem takeIdent_cut (s : State) (id : NodeId) (l : List Byte) : (s.takeIdent id l).1.own.cut = s.own.cut := by
  unfold State.takeIdent
  dsimp only
  (repeat' split) <;> simp

theorem identTimeout_cut (id : NodeId) (s : State) : (identTimeout id s).own.cut = s.own.cut := by
  unfold identTimeout
  (repeat' split) <;> simp

theorem echoSend_cut (x : EchoTx) (s : State) : (echoSend x s).own.cut = s.own.cut := by
  unfold echoSend
  dsimp only
  (repeat' split) <;> simp

@[simp] theorem failEcho_cut (s : State) (id : NodeId) (e : RingEnd) : (s.failEcho id e).own.cut = s.own.cut := by simp [State.failEcho]

@[simp] theorem echoBudget_cut (s : State) (id : NodeId) (e : RingEnd) : (s.echoBudget id e).own.cut = s.own.cut := by
  unfold State.echoBudget
  dsimp only
  (repeat' split) <;> simp

@[simp] theorem echoSet_cut (s : State) (id : NodeId) (e : RingEnd) (l : List Nat) : (s.echoSet id e l).own.cut = s.own.cut := by
  unfold State.echoSet
  dsimp only
  (repeat' split) <;> simp

@[simp] theorem echoRun_cut (s : State) (id : NodeId) (e : RingEnd) (rt : Nat) : (s.echoRun id e rt).own.cut = s.own.cut := by
  unfold State.echoRun
  dsimp only
  (repeat' split) <;> simp

@[simp] theorem badFrame_cut (s : State) (x : ThreadRx) (port kind len : Nat) : (s.badFrame x port kind len).own.cut = s.own.cut := by
  unfold State.badFrame
  (repeat' split) <;> simp

@[simp] theorem tokenOrder_cut (s : State) (port : Nat) (e : RingEnd) (pos : Nat) : (s.tokenOrder port e pos).own.cut = s.own.cut := by
  unfold State.tokenOrder
  dsimp only
  (repeat' split) <;> simp

theorem echoReply_cut (x : ThreadRx) (s : State) : (echoReply x s).own.cut = s.own.cut := by
  unfold echoReply
  dsimp only
  (repeat' split) <;> simp

theorem echoTimeout_cut (port : Nat) (t : Ns) (s : State) : (echoTimeout port t s).own.cut = s.own.cut := by
  unfold echoTimeout
  dsimp only
  (repeat' split) <;> simp

/-! ### Link tests -/

@[simp] theorem openWindow_cut (s : State) (kind : TestKind) (port : Nat) : (s.openWindow kind port).own.cut = s.own.cut := rfl

@[simp] theorem startTests_cut (s : State) (kind : TestKind) : (s.startTests kind).own.cut = s.own.cut :=
  foldl_cut (fun u (r : Ring) => openWindow_cut u kind r.port) s.thr.rings s

theorem bertSend_cut (port : Nat) (s : State) : (bertSend port s).own.cut = s.own.cut := by
  unfold bertSend
  dsimp only
  (repeat' split) <;> simp

@[simp] theorem followBerts_cut (s : State) (r : Ring) : (s.followBerts r).own.cut = s.own.cut := by
  unfold State.followBerts
  dsimp only
  (repeat' split) <;> simp

theorem prbsStart_cut (port : Nat) (e : RingEnd) (s : State) : (prbsStart port e s).own.cut = s.own.cut := by
  unfold prbsStart
  dsimp only
  (repeat' split) <;> simp

@[simp] theorem applyVerdict_cut (s : State) (kind : TestKind) (port link : Nat) (pass : Bool) :
    (s.applyVerdict kind port link pass).own.cut = s.own.cut := by
  unfold State.applyVerdict
  dsimp only
  (repeat' split) <;> simp

@[simp] theorem testsOver_cut (s : State) (kind : TestKind) : (s.testsOver kind).own.cut = s.own.cut := by
  unfold State.testsOver
  dsimp only
  split
  · rfl
  · split
    · rw [clear_own]
      exact foldl_cut (fun u n => ite_cut (by simp) rfl) _ _
    · simp

@[simp] theorem reportsMissing_cut (s : State) (port : Nat) (t : LinkTest) : (s.reportsMissing port t).own.cut = s.own.cut := by
  unfold State.reportsMissing
  exact foldl_cut (fun u p => ite_cut rfl (violate_cut u _ _)) _ s

@[simp] theorem concludeTest_cut (s : State) (port : Nat) (closed : Bool) : (s.concludeTest port closed).own.cut = s.own.cut := by
  unfold State.concludeTest
  dsimp only
  (repeat' split) <;> simp [foldl_cut]

theorem prbsEnd_cut (x : PrbsEnd) (s : State) : (prbsEnd x s).own.cut = s.own.cut := by
  unfold prbsEnd
  dsimp only
  (repeat' split) <;> simp

theorem bertReport_cut (x : ThreadRx) (s : State) : (bertReport x s).own.cut = s.own.cut := by
  unfold bertReport
  dsimp only
  (repeat' split) <;> simp

@[simp] theorem checkTest_cut (s : State) : s.checkTest.own.cut = s.own.cut := by
  unfold State.checkTest
  split <;> simp

@[simp] theorem testRound_cut (s : State) : s.testRound.own.cut = s.own.cut := by
  unfold State.testRound
  rw [checkTest_cut]
  exact foldl_cut (fun u r => by (repeat' split) <;> simp) _ s

@[simp] theorem abortTests_cut (s : State) : s.abortTests.own.cut = s.own.cut := by
  unfold State.abortTests
  split <;> simp

theorem periodicDue_cut (s : State) : (periodicDue s).own.cut = s.own.cut := by
  unfold periodicDue
  split <;> rfl

theorem periodicOverdue_cut (s : State) : (periodicOverdue s).own.cut = s.own.cut := by
  unfold periodicOverdue
  split <;> simp

theorem linkTestStart_cut (port : Nat) (kind : TestKind) (s : State) : (linkTestStart port kind s).own.cut = s.own.cut := by
  unfold linkTestStart
  split <;> rfl

@[simp] theorem installationTest_cut (due : Bool) (s : State) : (installationTest due s).own.cut = s.own.cut := by
  unfold installationTest
  split <;> simp

/-! ### Acquisition -/

theorem shuntSample_cut (x : ShuntSample) (s : State) : (shuntSample x s).own.cut = s.own.cut := rfl

theorem shuntRangeSensor_cut (id : ShuntId) (t : Ns) (s : State) : (shuntRangeSensor id t s).own.cut = s.own.cut := by
  unfold shuntRangeSensor
  dsimp only
  (repeat' split) <;> simp

theorem sentFrame_cut (x : SentFrame) (s : State) : (sentFrame x s).own.cut = s.own.cut := by
  unfold sentFrame
  dsimp only
  (repeat' split) <;> simp

theorem sentIdTimeout_cut (t : Ns) (s : State) : (sentIdTimeout t s).own.cut = s.own.cut := by
  unfold sentIdTimeout
  dsimp only
  (repeat' split) <;> simp

theorem sentLoss_cut (t : Ns) (s : State) : (sentLoss t s).own.cut = s.own.cut := by
  unfold sentLoss
  dsimp only
  (repeat' split) <;> simp

@[simp] theorem formStreams_cut (s : State) : s.formStreams.own.cut = s.own.cut := by
  unfold State.formStreams
  dsimp only
  (repeat' split) <;> simp

@[simp] theorem voltageCheck_cut (s : State) : s.voltageCheck.own.cut = s.own.cut := by simp [State.voltageCheck]

@[simp] theorem channelCheck_cut (s : State) : s.channelCheck.own.cut = s.own.cut := by
  unfold State.channelCheck
  (repeat' split) <;> simp [foldl_cut]

@[simp] theorem groupCheck_cut (s : State) : s.groupCheck.own.cut = s.own.cut := by
  unfold State.groupCheck
  split
  · rfl
  · exact foldl_cut (fun u j => ite_cut rfl (by simp)) _ s

@[simp] theorem acqClose_cut (s : State) : s.acqClose.own.cut = s.own.cut := by simp [State.acqClose]

@[simp] theorem acqLatch_cut (s : State) (x : SnapLatch) : (s.acqLatch x).own.cut = s.own.cut := by
  unfold State.acqLatch
  dsimp only
  (repeat' split) <;> simp

theorem sbBlank_cut (s : State) : (sbBlank s).own.cut = s.own.cut := by
  unfold sbBlank
  split <;> rfl

theorem sbRestore_cut (s : State) : (sbRestore s).own.cut = s.own.cut := rfl

/-! ### The learned path and its memory -/

@[simp] theorem updL_cut (s : State) (id : CellId) (f : LCell → LCell) : (s.updL id f).own.cut = s.own.cut := rfl

@[simp] theorem leaveActive_cut (s : State) (sel : CellId → Bool) : (s.leaveActive sel).own.cut = s.own.cut := rfl

@[simp] theorem updFray_cut (s : State) (c : Nat) (f : Fray → Fray) : (s.updFray c f).own.cut = s.own.cut := rfl

@[simp] theorem tourEnd_cut (s : State) : s.tourEnd.own.cut = s.own.cut := by rw [(tourEnd_replayOnly s).frame]

@[simp] theorem nextReplay_cut (s : State) : s.nextReplay.own.cut = s.own.cut := by
  unfold State.nextReplay
  dsimp only
  (repeat' split) <;> simp

@[simp] theorem reseed_cut (s : State) (id : CellId) : (s.reseed id).own.cut = s.own.cut := by
  unfold State.reseed
  dsimp only
  (repeat' split) <;> simp

@[simp] theorem abortReplay_cut (s : State) : s.abortReplay.own.cut = s.own.cut := by
  unfold State.abortReplay
  dsimp only
  (repeat' split) <;> simp

@[simp] theorem freshStart_cut (s : State) (sel : CellId → Bool) : (s.freshStart sel).own.cut = s.own.cut := by
  unfold State.freshStart
  dsimp only
  (repeat' split) <;> simp [foldl_cut]

@[simp] theorem poison_cut (s : State) (id : CellId) : (s.poison id).own.cut = s.own.cut := by
  unfold State.poison
  dsimp only
  (repeat' split) <;> simp

@[simp] theorem keepLate_cut (s : State) : s.keepLate.own.cut = s.own.cut := rfl

@[simp] theorem recordCycle_cut (s : State) (reason : Nat) : (s.recordCycle reason).own.cut = s.own.cut := rfl

@[simp] theorem restoreShadow_cut (s : State) (cohort : Nat) : (s.restoreShadow cohort).own.cut = s.own.cut := by
  unfold State.restoreShadow
  split <;> rfl

@[simp] theorem settleShadow_cut (s : State) : s.settleShadow.own.cut = s.own.cut := by
  unfold State.settleShadow
  (repeat' split) <;> simp

@[simp] theorem unpick_cut (s : State) (reason : Nat) : (s.unpick reason).own.cut = s.own.cut := by
  unfold State.unpick
  dsimp only
  (repeat' split) <;> simp

@[simp] theorem trainCorrupt_cut (s : State) : s.trainCorrupt.own.cut = s.own.cut := by simp [State.trainCorrupt]

@[simp] theorem updA_cut (s : State) (id : CellId) (f : ACell → ACell) : (s.updA id f).own.cut = s.own.cut := rfl

@[simp] theorem scorePending_cut (s : State) (g : Graph) (a : ACell) (p : Pending) (v : Option Rat) :
    (s.scorePending g a p v).own.cut = s.own.cut := by
  unfold State.scorePending
  split <;> rfl

theorem stateBlockFetch_cut (id : CellId) (s : State) : (stateBlockFetch id s).own.cut = s.own.cut := by
  unfold stateBlockFetch
  split <;> rfl

@[simp] theorem stageCell_cut (s : State) (id : CellId) : (s.stageCell id).own.cut = s.own.cut := by
  unfold State.stageCell
  dsimp only
  (repeat' split) <;> simp

theorem learnedResult_cut (id : CellId) (t : Ns) (s : State) : (learnedResult id t s).own.cut = s.own.cut := by
  unfold learnedResult
  dsimp only
  (repeat' split) <;> simp

theorem openLoopLimit_cut (id : CellId) (s : State) : (openLoopLimit id s).own.cut = s.own.cut := by
  unfold openLoopLimit
  dsimp only
  (repeat' split) <;> simp

theorem warmupEnd_cut (id : CellId) (s : State) : (warmupEnd id s).own.cut = s.own.cut := rfl

theorem stepAbandon_cut (id : CellId) (s : State) : (stepAbandon id s).own.cut = s.own.cut := by
  unfold stepAbandon
  dsimp only
  (repeat' split) <;> simp

theorem cellRestore_cut (id : CellId) (s : State) : (cellRestore id s).own.cut = s.own.cut := by
  unfold cellRestore
  dsimp only
  (repeat' split) <;> simp

theorem replayStep_cut (t : Ns) (s : State) : (replayStep t s).own.cut = s.own.cut := by
  unfold replayStep
  dsimp only
  (repeat' split) <;> simp

theorem replayCompare_cut (s : State) : (replayCompare s).own.cut = s.own.cut := by
  unfold replayCompare
  dsimp only
  (repeat' split) <;> simp

theorem replayAbort_cut (s : State) : (replayAbort s).own.cut = s.own.cut := by
  unfold replayAbort
  split <;> simp

theorem replayPeriodEnd_cut (s : State) : (replayPeriodEnd s).own.cut = s.own.cut := by
  unfold replayPeriodEnd
  dsimp only
  (repeat' split) <;> simp

@[simp] theorem regionLost_cut (s : State) (r : MemRegion) : (s.regionLost r).own.cut = s.own.cut := by
  unfold State.regionLost
  dsimp only
  (repeat' split) <;> simp

theorem ddrEcc_cut (correctable : Bool) (r : MemRegion) (s : State) : (ddrEcc correctable r s).own.cut = s.own.cut := by
  unfold ddrEcc
  split <;> simp

theorem bobbinEcc_cut (correctable matchesMemory : Bool) (r : MemRegion) (s : State) :
    (bobbinEcc correctable matchesMemory r s).own.cut = s.own.cut := by
  unfold bobbinEcc
  dsimp only
  (repeat' split) <;> simp

theorem eccWindowEnd_cut (s : State) : (eccWindowEnd s).own.cut = s.own.cut := by
  unfold eccWindowEnd
  split <;> simp

theorem scrubPass_cut (s : State) : (scrubPass s).own.cut = s.own.cut := by
  unfold scrubPass
  split <;> simp

theorem scrubOverdue_cut (s : State) : (scrubOverdue s).own.cut = s.own.cut := by
  unfold scrubOverdue
  split <;> simp

theorem arbitrationRevoke_cut (r : Requester) (s : State) : (arbitrationRevoke r s).own.cut = s.own.cut := by
  unfold arbitrationRevoke
  dsimp only
  (repeat' split) <;> simp

theorem portUnfence_cut (r : Requester) (s : State) : (portUnfence r s).own.cut = s.own.cut := by
  unfold portUnfence
  split <;> rfl

theorem refreshRateRead_cut (multiplier : Rat) (s : State) : (refreshRateRead multiplier s).own.cut = s.own.cut := by
  unfold refreshRateRead
  split <;> rfl

theorem ddrInit_cut (x : DdrInit) (s : State) : (ddrInit x s).own.cut = s.own.cut := by
  unfold ddrInit
  dsimp only
  (repeat' split) <;> simp

theorem checkpointLoad_cut (s : State) : (checkpointLoad s).own.cut = s.own.cut := by
  unfold checkpointLoad
  dsimp only
  (repeat' split) <;> simp

@[simp] theorem loseMemory_cut (s : State) : s.loseMemory.own.cut = s.own.cut := rfl

@[simp] theorem learnedRound_cut (s : State) : s.learnedRound.own.cut = s.own.cut := by
  unfold State.learnedRound
  dsimp only
  (repeat' split) <;> simp [foldl_cut]

@[simp] theorem countOverruns_cut (s : State) : s.countOverruns.own.cut = s.own.cut := by
  unfold State.countOverruns
  split <;> simp

/-! ### Training -/

theorem cycleStart_cut (s : State) : (cycleStart s).own.cut = s.own.cut := by
  unfold cycleStart
  dsimp only
  (repeat' split) <;> simp

theorem warmPhaseEnd_cut (s : State) : (warmPhaseEnd s).own.cut = s.own.cut := by
  unfold warmPhaseEnd
  split <;> rfl

theorem epochEnd_cut (s : State) : (epochEnd s).own.cut = s.own.cut := by
  unfold epochEnd
  split <;> rfl

theorem shadowStep_cut (id : CellId) (t : Ns) (s : State) : (shadowStep id t s).own.cut = s.own.cut := by
  unfold shadowStep
  dsimp only
  (repeat' split) <;> simp

theorem shadowUpdate_cut (s : State) : (shadowUpdate s).own.cut = s.own.cut := by
  unfold shadowUpdate
  dsimp only
  (repeat' split) <;> simp

theorem fitDecision_cut (s : State) : (fitDecision s).own.cut = s.own.cut := by
  unfold fitDecision
  dsimp only
  (repeat' split) <;> simp

theorem adapterCopy_cut (s : State) : (adapterCopy s).own.cut = s.own.cut := by
  unfold adapterCopy
  split <;> rfl

theorem promotion_cut (s : State) : (promotion s).own.cut = s.own.cut := by
  unfold promotion
  split <;> rfl

@[simp] theorem trainRound_cut (s : State) : s.trainRound.own.cut = s.own.cut := by
  unfold State.trainRound
  dsimp only
  (repeat' split) <;> simp

@[simp] theorem trainLate_cut (s : State) : s.trainLate.own.cut = s.own.cut := by
  unfold State.trainLate
  dsimp only
  (repeat' split) <;> simp

@[simp] theorem shedFaults_cut (s : State) : s.shedFaults.own.cut = s.own.cut := by
  unfold State.shedFaults
  dsimp only
  (repeat' split) <;> simp

@[simp] theorem shedTo_cut (s : State) (l : Nat) : (s.shedTo l).own.cut = s.own.cut := by
  unfold State.shedTo
  dsimp only
  (repeat' split) <;> simp

@[simp] theorem shedRound_cut (s : State) : s.shedRound.own.cut = s.own.cut := by
  unfold State.shedRound
  dsimp only
  (repeat' split) <;> simp

theorem shedLower_cut (t : Ns) (s : State) : (shedLower t s).own.cut = s.own.cut := by
  unfold shedLower
  dsimp only
  (repeat' split) <;> simp

/-! ### Checkpoints and the journal -/

@[simp] theorem checkpointTrigger_cut (cause : CkptCause) (s : State) : (checkpointTrigger cause s).own.cut = s.own.cut := by
  unfold checkpointTrigger
  dsimp only
  (repeat' split) <;> simp

theorem checkpointStaged_cut (s : State) : (checkpointStaged s).own.cut = s.own.cut := by
  unfold checkpointStaged
  dsimp only
  (repeat' split) <;> simp

@[simp] theorem eraseArea_cut (s : State) (len : Nat) : (s.eraseArea len).2.own.cut = s.own.cut := by
  unfold State.eraseArea
  dsimp only
  (repeat' split) <;> simp

@[simp] theorem failCkpt_cut (s : State) (k : Ckpt) : (s.failCkpt k).own.cut = s.own.cut := by simp [State.failCkpt]

@[simp] theorem shedDomains_cut (s : State) : s.shedDomains.own.cut = s.own.cut := rfl

@[simp] theorem graceCkpt_cut (s : State) (wanted : Bool) : (s.graceCkpt wanted).own.cut = s.own.cut := by
  unfold State.graceCkpt
  dsimp only
  (repeat' split) <;> simp

theorem checkpointWrite_cut (ok : Bool) (s : State) : (checkpointWrite ok s).own.cut = s.own.cut := by
  unfold checkpointWrite
  dsimp only
  (repeat' split) <;> simp

theorem norBusRevoke_cut (s : State) : (norBusRevoke s).own.cut = s.own.cut := by
  unfold norBusRevoke
  (repeat' split) <;> simp

@[simp] theorem judgeCopies_cut (s : State) : s.judgeCopies.own.cut = s.own.cut := by simp [State.judgeCopies]

@[simp] theorem writeLog_cut (s : State) (e : LogEntry) : (s.writeLog e).own.cut = s.own.cut := rfl

@[simp] theorem writePairs_cut (s : State) : s.writePairs.own.cut = s.own.cut := rfl

@[simp] theorem writeJournal_cut (s : State) : s.writeJournal.own.cut = s.own.cut := by rw [(writeJournal_spec s).1.frame]

@[simp] theorem cutWrites_cut (s : State) : s.cutWrites.own.cut = s.own.cut := by
  unfold State.cutWrites
  split <;> rfl

/-! ### The classical estimator -/

@[simp] theorem addTarget_cut (s : State) (id : CellId) (f : Targets → Targets) : (s.addTarget id f).own.cut = s.own.cut := rfl

@[simp] theorem note_cut (s : State) (n : CellNote) : (s.note n).own.cut = s.own.cut := by
  unfold State.note
  split <;> simp

@[simp] theorem notes_cut (s : State) (l : List CellNote) : (s.notes l).own.cut = s.own.cut := by simp [State.notes, foldl_cut]

@[simp] theorem bastePack_cut (s : State) (sel : CellId → Bool) (fresh : Bool) : (s.bastePack sel fresh).own.cut = s.own.cut := by
  simp [State.bastePack, foldl_cut]

@[simp] theorem basteStore_cut (s : State) (sel : CellId → Bool) : (s.basteStore sel).own.cut = s.own.cut := by
  simp [State.basteStore, foldl_cut]

@[simp] theorem storeChange_cut (s : State) : s.storeChange.own.cut = s.own.cut := by simp [State.storeChange]

@[simp] theorem storeRules_cut (s : State) (rest : Bool) : (s.storeRules rest).own.cut = s.own.cut := by
  unfold State.storeRules
  dsimp only
  (repeat' split) <;> simp

@[simp] theorem overdueEnds_cut (s : State) : s.overdueEnds.own.cut = s.own.cut := by
  unfold State.overdueEnds
  dsimp only
  (repeat' split) <;> simp

@[simp] theorem balancePack_cut (s : State) : s.balancePack.own.cut = s.own.cut := by rw [(balancePack_updateKeeps s).own]

@[simp] theorem balanceStore_cut (s : State) : s.balanceStore.own.cut = s.own.cut := rfl

@[simp] theorem hemUpdate_cut (s : State) : s.hemUpdate.own.cut = s.own.cut := by
  unfold State.hemUpdate
  split <;> simp

theorem classicalUpdate_cut (s : State) : (classicalUpdate s).own.cut = s.own.cut := by
  unfold classicalUpdate
  dsimp only
  (repeat' split) <;> simp

theorem bastingFormed_cut (id : CellId) (s : State) : (bastingFormed id s).own.cut = s.own.cut := by
  unfold bastingFormed
  dsimp only
  (repeat' split) <;> simp

theorem tackOverdue_cut (s : State) : (tackOverdue s).own.cut = s.own.cut := by
  unfold tackOverdue
  dsimp only
  (repeat' split) <;> simp

@[simp] theorem pairRecordWrite_cut (s : State) : (pairRecordWrite s).own.cut = s.own.cut := by rw [(pairRecordWrite_journalWork s).frame]

@[simp] theorem missedRounds_cut (s : State) : s.missedRounds.own.cut = s.own.cut := rfl

/-! ### The seam and the publication -/

@[simp] theorem updS_cut (s : State) (id : CellId) (f : SeamCell → SeamCell) : (s.updS id f).own.cut = s.own.cut := rfl

@[simp] theorem updCohort_cut (s : State) (c : Nat) (f : SeamCohort → SeamCohort) : (s.updCohort c f).own.cut = s.own.cut := rfl

@[simp] theorem decideCell_cut (s : State) (id : CellId) (r : Option Result) : (s.decideCell id r).own.cut = s.own.cut := by
  unfold State.decideCell
  dsimp only
  (repeat' split) <;> simp

theorem seamDecision_cut (id : CellId) (s : State) : (seamDecision id s).own.cut = s.own.cut := by
  unfold seamDecision
  dsimp only
  (repeat' split) <;> simp

@[simp] theorem cohortHold_cut (s : State) (c : Nat) : (s.cohortHold c).own.cut = s.own.cut := by
  unfold State.cohortHold
  dsimp only
  (repeat' split) <;> simp

@[simp] theorem packSplitCheck_cut (s : State) : s.packSplitCheck.own.cut = s.own.cut := by simp [State.packSplitCheck]

@[simp] theorem absentCheck_cut (s : State) : s.absentCheck.own.cut = s.own.cut := by simp [State.absentCheck, foldl_cut]

theorem seamDeadline_cut (s : State) : (seamDeadline s).own.cut = s.own.cut := by
  unfold seamDeadline
  (repeat' split) <;> simp [foldl_cut]

@[simp] theorem closeWindow_cut (s : State) (partial_ : Bool) : (s.closeWindow partial_).own.cut = s.own.cut := by
  simp [State.closeWindow, foldl_cut]

theorem seamWindowEnd_cut (s : State) : (seamWindowEnd s).own.cut = s.own.cut := by
  unfold seamWindowEnd
  split <;> simp

@[simp] theorem formPublished_cut (s : State) : s.formPublished.own.cut = s.own.cut := rfl

@[simp] theorem writeSealBuf_cut (s : State) : s.writeSealBuf.own.cut = s.own.cut := rfl

/-! ### Bursts and the power path -/

@[simp] theorem ledgerAt_cut (s : State) (t : Ns) : (s.ledgerAt t).own.cut = s.own.cut := rfl

@[simp] theorem answer_cut (s : State) (us : Nat) (t : Ns) : (s.answer us t).own.cut = s.own.cut := by
  unfold State.answer
  split <;> rfl

@[simp] theorem closeBurst_cut (s : State) (e : LedgerEntry) (k : BurstEnd) (t : Ns) : (s.closeBurst e k t).own.cut = s.own.cut := rfl

@[simp] theorem cutBursts_cut (s : State) (t : Ns) : (s.cutBursts t).own.cut = s.own.cut := by simp [State.cutBursts, foldl_cut]

theorem breqEdge_cut (line : Nat) (t : Ns) (s : State) : (breqEdge line t s).own.cut = s.own.cut := by
  unfold breqEdge
  dsimp only
  (repeat' split) <;> simp

theorem burstRelease_cut (line : Nat) (t : Ns) (s : State) : (burstRelease line t s).own.cut = s.own.cut := by
  unfold burstRelease
  split <;> simp

theorem burstDurationEnd_cut (line : Nat) (t : Ns) (s : State) : (burstDurationEnd line t s).own.cut = s.own.cut := by
  unfold burstDurationEnd
  (repeat' split) <;> simp

theorem bgntAnswer_cut (t : Ns) (s : State) : (bgntAnswer t s).own.cut = s.own.cut := by
  unfold bgntAnswer
  dsimp only
  (repeat' split) <;> simp

@[simp] theorem enterPath_cut (s : State) (p : PathState) (t : Ns) : (s.enterPath p t).own.cut = s.own.cut := by
  unfold State.enterPath
  split <;> simp

@[simp] theorem loseMain_cut (s : State) (t : Ns) : (s.loseMain t).own.cut = s.own.cut := by
  unfold State.loseMain
  split <;> simp

@[simp] theorem sense_cut (s : State) (x : PathSense) : (s.sense x).own.cut = s.own.cut := rfl

@[simp] theorem takeShort_cut (s : State) (t : Ns) : (s.takeShort t).own.cut = s.own.cut := by
  unfold State.takeShort
  dsimp only
  (repeat' split) <;> simp

@[simp] theorem takeFloor_cut (s : State) (t : Ns) : (s.takeFloor t).own.cut = s.own.cut := by
  unfold State.takeFloor
  split <;> simp

@[simp] theorem takeFail_cut (s : State) (t : Ns) : (s.takeFail t).own.cut = s.own.cut := by
  unfold State.takeFail
  dsimp only
  (repeat' split) <;> simp

@[simp] theorem cycle_cut (s : State) (x : PathSense) (act : State → State) (h : ∀ u, (act u).own.cut = u.own.cut) :
    (s.cycle x act).own.cut = s.own.cut := by
  unfold State.cycle
  dsimp only
  (repeat' split) <;> simp [h]

@[simp] theorem rampMain_cut (s : State) (otherHigh : Bool) (t : Ns) : (s.rampMain otherHigh t).own.cut = s.own.cut := by
  unfold State.rampMain
  split <;> rfl

theorem vmainFail_cut (x : PathSense) (s : State) : (vmainFail x s).own.cut = s.own.cut := by
  unfold vmainFail
  split <;> simp

theorem reservePrecharge_cut (otherHigh : Bool) (t : Ns) (s : State) : (reservePrecharge otherHigh t s).own.cut = s.own.cut := by
  unfold reservePrecharge
  split <;> rfl

theorem mainPrecharge_cut (otherHigh : Bool) (t : Ns) (s : State) : (mainPrecharge otherHigh t s).own.cut = s.own.cut := by
  unfold mainPrecharge
  dsimp only
  (repeat' split) <;> simp

theorem rampComplete_cut (x : PathSense) (s : State) : (rampComplete x s).own.cut = s.own.cut := by
  unfold rampComplete
  dsimp only
  (repeat' split) <;> simp

theorem goodChange_cut (good : Bool) (t : Ns) (s : State) : (goodChange good t s).own.cut = s.own.cut := by
  unfold goodChange
  split <;> rfl

theorem stableReached_cut (x : PathSense) (s : State) : (stableReached x s).own.cut = s.own.cut := by
  unfold stableReached
  split
  · rfl
  · refine (cycle_cut _ x _ fun u => ?_).trans rfl
    (repeat' split) <;> simp

theorem pathDwellEnd_cut (x : PathSense) (s : State) : (pathDwellEnd x s).own.cut = s.own.cut := by
  unfold pathDwellEnd
  split
  · refine (cycle_cut _ x _ fun u => ?_).trans rfl
    split <;> simp
  · rfl

theorem shortDetected_cut (t : Ns) (s : State) : (shortDetected t s).own.cut = s.own.cut := by simp [shortDetected]

theorem coolEnd_cut (x : PathSense) (s : State) : (coolEnd x s).own.cut = s.own.cut := by
  unfold coolEnd
  dsimp only
  (repeat' split) <;> simp

theorem shortCountReset_cut (t : Ns) (s : State) : (shortCountReset t s).own.cut = s.own.cut := by
  unfold shortCountReset
  split <;> simp

theorem latchedExit_cut (t : Ns) (s : State) : (latchedExit t s).own.cut = s.own.cut := by
  unfold latchedExit
  split <;> simp

@[simp] theorem floor_cut (src : FloorSource) (x : PathSense) (s : State) : (floor_ src x s).own.cut = s.own.cut := by
  unfold floor_
  (repeat' split) <;> simp

theorem dampingEnd_cut (t : Ns) (s : State) : (dampingEnd t s).own.cut = s.own.cut := by
  unfold dampingEnd
  split <;> simp

theorem gateInterlockTimeout_cut (t : Ns) (s : State) : (gateInterlockTimeout t s).own.cut = s.own.cut := by
  unfold gateInterlockTimeout
  (repeat' split) <;> simp

theorem gateMonitorFault_cut (pair : Pair) (t : Ns) (s : State) : (gateMonitorFault pair t s).own.cut = s.own.cut := by
  unfold gateMonitorFault
  dsimp only
  (repeat' split) <;> simp

@[simp] theorem pathTakeover_cut (s : State) (t : Ns) : (s.pathTakeover t).own.cut = s.own.cut := by
  unfold State.pathTakeover
  split <;> simp

/-! ### The store and the caps -/

theorem storeAbsent_cut (s : State) : (storeAbsent s).own.cut = s.own.cut := by
  unfold storeAbsent
  dsimp only
  (repeat' split) <;> simp

theorem storePresent_cut (s : State) : (storePresent s).own.cut = s.own.cut := by
  unfold storePresent
  dsimp only
  (repeat' split) <;> simp

@[simp] theorem vsetSample_cut (s : State) (code : Nat) : (s.vsetSample code).own.cut = s.own.cut := by
  unfold State.vsetSample
  dsimp only
  (repeat' split) <;> simp

@[simp] theorem refUpdate_cut (s : State) (t : Ns) : (s.refUpdate t).own.cut = s.own.cut := by
  unfold State.refUpdate
  dsimp only
  (repeat' split) <;> simp

@[simp] theorem storeStitch_cut (s : State) (vset : Nat) (t : Ns) : (s.storeStitch vset t).own.cut = s.own.cut := by
  unfold State.storeStitch
  dsimp only
  (repeat' split) <;> simp

@[simp] theorem ledgerEnergy_cut (s : State) : s.ledgerEnergy.own.cut = s.own.cut := rfl

@[simp] theorem storeRound_cut (s : State) (x : SnapLatch) : (s.storeRound x).own.cut = s.own.cut := by
  unfold State.storeRound
  dsimp only
  (repeat' split) <;> simp

@[simp] theorem computePower_cut (s : State) : s.computePower.own.cut = s.own.cut := by simp [State.computePower]

@[simp] theorem tripRequest_cut (s : State) : s.tripRequest.own.cut = s.own.cut := by
  unfold State.tripRequest
  dsimp only
  (repeat' split) <;> simp

theorem packChecks_cut (t : Ns) (s : State) : (packChecks t s).own.cut = s.own.cut := by
  unfold packChecks
  split <;> simp

@[simp] theorem latchCaps_cut (s : State) : s.latchCaps.own.cut = s.own.cut := by
  unfold State.latchCaps
  split <;> rfl

@[simp] theorem latchWatch_cut (s : State) : s.latchWatch.own.cut = s.own.cut := rfl

/-! ### The fast path -/

@[simp] theorem refreshForced_cut (s : State) : s.refreshForced.own.cut = s.own.cut := rfl

@[simp] theorem fastEvent_cut (s : State) (e : FastEvent) : (s.fastEvent e).own.cut = s.own.cut := by simp [State.fastEvent]

theorem comparatorEvent_cut (x : CompEvent) (s : State) : (comparatorEvent x s).own.cut = s.own.cut := by
  unfold comparatorEvent
  dsimp only
  (repeat' split) <;> simp

@[simp] theorem groupFlag_cut (s : State) (id : CellId) (flag first : Bool) (volt : Nat) (t : Ns) :
    (s.groupFlag id flag first volt t).own.cut = s.own.cut := by
  unfold State.groupFlag
  dsimp only
  (repeat' split) <;> simp

theorem cellLimitFlag_cut (x : ThreadRx) (s : State) : (cellLimitFlag x s).own.cut = s.own.cut := by
  unfold cellLimitFlag
  (repeat' split) <;> simp [foldl_cut]

@[simp] theorem releaseTrip_cut (s : State) : s.releaseTrip.own.cut = s.own.cut := by
  unfold State.releaseTrip
  split <;> simp

theorem fastPathRelease_cut (e : FastEvent) (t : Ns) (s : State) : (fastPathRelease e t s).own.cut = s.own.cut := by
  unfold fastPathRelease
  dsimp only
  (repeat' split) <;> simp

theorem pinReadbackMismatch_cut (p : FastPin) (s : State) : (pinReadbackMismatch p s).own.cut = s.own.cut := by
  unfold pinReadbackMismatch
  dsimp only
  (repeat' split) <;> simp

/-! ### Frames of the peers -/

@[simp] theorem updView_cut (s : State) (k : Nat) (f : SeatView → SeatView) : (s.updView k f).own.cut = s.own.cut := rfl

@[simp] theorem peerSend_cut (s : State) (type : Nat) (payload : List Byte) : (s.peerSend type payload).own.cut = s.own.cut := by
  unfold State.peerSend
  split <;> rfl

@[simp] theorem sendClaim_cut (s : State) (kind : Nat) (round : Round) : (s.sendClaim kind round).own.cut = s.own.cut := by
  simp [State.sendClaim]

@[simp] theorem sendYield_cut (s : State) (succ reason : Nat) (h : Round) : (s.sendYield succ reason h).own.cut = s.own.cut := by
  simp [State.sendYield]

theorem foldl_sendItem_cut (l : List (List Byte)) (a : State × List Byte) :
    (l.foldl (fun (a : State × List Byte) i =>
      if a.2.isEmpty then (a.1, i)
      else if 1024 < a.2.length + i.length then (a.1.peerSend 4 a.2, i) else (a.1, a.2 ++ i)) a).1.own.cut = a.1.own.cut := by
  induction l generalizing a with
  | nil => rfl
  | cons i l ih =>
    rw [List.foldl_cons, ih]
    (repeat' split) <;> simp

@[simp] theorem sendItems_cut (s : State) (items : List (List Byte)) : (s.sendItems items).own.cut = s.own.cut := by
  unfold State.sendItems
  extract_lets r
  have h : r.1.own.cut = s.own.cut := foldl_sendItem_cut items (s, [])
  exact ite_cut h ((peerSend_cut _ _ _).trans h)

@[simp] theorem peerFail_cut (s : State) (side : CutSide) : (s.peerFail side).own.cut = s.own.cut := by
  unfold State.peerFail
  split <;> rfl

@[simp] theorem forward_cut (s : State) (x : PeerRx) (origin : Nat) : (s.forward x origin).own.cut = s.own.cut := by
  unfold State.forward
  dsimp only
  (repeat' split) <;> simp

@[simp] theorem peerAccept_cut (s : State) (type : Nat) (x : PeerRx) : (s.peerAccept type x).1.own.cut = s.own.cut := by
  unfold State.peerAccept
  dsimp only
  (repeat' split) <;> simp

@[simp] theorem align_cut (s : State) (zero : Int) (round : Round) : (s.align zero round).own.cut = s.own.cut := by
  unfold State.align
  dsimp only
  (repeat' split) <;> simp

@[simp] theorem steer_cut (s : State) (zero : Int) (lock : Nat) : (s.steer zero lock).own.cut = s.own.cut := by
  unfold State.steer
  dsimp only
  (repeat' split) <;> simp

@[simp] theorem joinRound_cut (s : State) : s.joinRound.own.cut = s.own.cut := by
  unfold State.joinRound
  dsimp only
  (repeat' split) <;> simp

theorem unaligned_cut (s : State) : (unaligned s).own.cut = s.own.cut := by
  unfold unaligned
  split <;> simp

/-! ### Roles, yields and cuts -/

@[simp] theorem takeGroup_cut (s : State) : s.takeGroup.own.cut = s.own.cut := rfl

@[simp] theorem releaseGroup_cut (s : State) : s.releaseGroup.own.cut = s.own.cut := rfl

@[simp] theorem seatTakes_cut (s : State) (k : Nat) (r : Role) : (s.seatTakes k r).own.cut = s.own.cut := rfl

@[simp] theorem twoOwners_cut (s : State) (other : Nat) (r : Role) : (s.twoOwners other r).own.cut = s.own.cut := by
  unfold State.twoOwners
  dsimp only
  (repeat' split) <;> simp

theorem provisionalClaim_cut (s : State) : (provisionalClaim s).own.cut = s.own.cut := by
  unfold provisionalClaim
  split <;> simp

theorem listenTimeout_cut (s : State) : (listenTimeout s).own.cut = s.own.cut := by
  unfold listenTimeout
  dsimp only
  (repeat' split) <;> simp

theorem election_cut (s : State) : (election s).own.cut = s.own.cut := by
  unfold election
  dsimp only
  (repeat' split) <;> simp

@[simp] theorem electedClaim_cut (s : State) : s.electedClaim.own.cut = s.own.cut := by
  unfold State.electedClaim
  split <;> simp

theorem yieldSend_cut (s : State) : (yieldSend s).own.cut = s.own.cut := by
  unfold yieldSend
  dsimp only
  (repeat' split) <;> simp

@[simp] theorem yieldTest_cut (s : State) : s.yieldTest.own.cut = s.own.cut := by
  unfold State.yieldTest
  dsimp only
  (repeat' split) <;> simp

theorem acceptClaim_cut (s : State) : (acceptClaim s).own.cut = s.own.cut := by
  unfold acceptClaim
  dsimp only
  (repeat' split) <;> simp

@[simp] theorem yieldStitch63_cut (s : State) : s.yieldStitch63.own.cut = s.own.cut := by
  unfold State.yieldStitch63
  dsimp only
  (repeat' split) <;> simp

@[simp] theorem yieldRelease_cut (s : State) : s.yieldRelease.own.cut = s.own.cut := by
  unfold State.yieldRelease
  dsimp only
  (repeat' split) <;> simp

@[simp] theorem assertCut_cut (s : State) (k : Nat) (t : Ns) : (s.assertCut k t).own.cut = s.own.cut := by
  unfold State.assertCut
  split <;> simp

@[simp] theorem releaseCut_cut (s : State) : s.releaseCut.own.cut = s.own.cut := by simp [State.releaseCut]

@[simp] theorem seenCut_cut (s : State) (k : Nat) (b : Beat) (t : Ns) : (s.seenCut k b t).own.cut = s.own.cut := by
  unfold State.seenCut
  split <;> rfl

theorem ownerJudge_cut (s : State) : (ownerJudge s).own.cut = s.own.cut := by
  unfold ownerJudge
  dsimp only
  (repeat' split) <;> simp

theorem tripDisagree_cut (t : Ns) (s : State) : (tripDisagree t s).own.cut = s.own.cut := by
  unfold tripDisagree
  dsimp only
  (repeat' split) <;> simp

/-- The seat's own cut stays through another cut. -/
theorem cutIn_cut_of_cut {s : State} (h : s.own.cut = true) (t : Ns) : (cutIn t s).own.cut = true := by
  unfold cutIn
  split
  · exact h
  · simp

theorem forcedClaim_cut (s : State) : (forcedClaim s).own.cut = s.own.cut := by
  unfold forcedClaim
  dsimp only
  (repeat' split) <;> simp

theorem forcedTakeoverDrive_cut (t : Ns) (s : State) : (forcedTakeoverDrive t s).own.cut = s.own.cut := by
  unfold forcedTakeoverDrive
  dsimp only
  (repeat' split) <;> simp

@[simp] theorem forcedStitch63_cut (s : State) : s.forcedStitch63.own.cut = s.own.cut := by
  unfold State.forcedStitch63
  dsimp only
  (repeat' split) <;> simp

@[simp] theorem forcedRound_cut (s : State) : s.forcedRound.own.cut = s.own.cut := by
  unfold State.forcedRound
  dsimp only
  (repeat' split) <;> simp

@[simp] theorem judgePair_cut (s : State) (a b : Nat) : (s.judgePair a b).own.cut = s.own.cut := by
  unfold State.judgePair
  dsimp only
  (repeat' split) <;> simp

theorem ownerSelfCheck_cut (passed : Bool) (s : State) : (ownerSelfCheck passed s).own.cut = s.own.cut := by
  unfold ownerSelfCheck
  dsimp only
  (repeat' split) <;> simp

@[simp] theorem peerRound_cut (s : State) : s.peerRound.own.cut = s.own.cut := by
  unfold State.peerRound
  extract_lets others s1 s2 pairs s3 o4 s4 o5 s5 owns s6
  have h1 : s1.own.cut = s.own.cut := ite_cut rfl (foldl_cut (fun u k => by dsimp only; (repeat' split) <;> simp) _ s)
  have h2 : s2.own.cut = s1.own.cut := ite_cut (by simp) (ite_cut (by simp) rfl)
  have h3 : s3.own.cut = s2.own.cut := foldl_cut (fun u p => judgePair_cut u _ _) _ s2
  have h4 : s4.own.cut = s3.own.cut := ite_cut (by rw [raise_own]) rfl
  have h5 : s5.own.cut = s4.own.cut := ite_cut rfl rfl
  have h6 : s6.own.cut = s5.own.cut := ite_cut (by simp) rfl
  have hcut := h6.trans (h5.trans (h4.trans (h3.trans (h2.trans h1))))
  exact ite_cut ((congrArg Ownership.cut (raise_own _ _ _)).trans hcut) hcut

/-! ### Mirror frames, BEATs and claims -/

@[simp] theorem mirrorStitch_cut (s : State) : s.mirrorStitch.own.cut = s.own.cut := by
  unfold State.mirrorStitch
  extract_lets o sa o2 s0
  have ha : sa.own.cut = s.own.cut := ite_cut (sendItems_cut _ _) rfl
  have h0 : s0.own.cut = sa.own.cut := ite_cut (ite_cut rfl (sendItems_cut _ _)) rfl
  (repeat' split) <;> simp [h0, ha]

@[simp] theorem relayRead_cut (s : State) (x : ThreadRx) : (s.relayRead x).own.cut = s.own.cut := by
  unfold State.relayRead
  dsimp only
  (repeat' split) <;> simp

@[simp] theorem takeRelay_cut (s : State) (origin : Nat) (c : List Byte) : (s.takeRelay origin c).own.cut = s.own.cut := by
  unfold State.takeRelay
  dsimp only
  (repeat' split) <;> simp

@[simp] theorem takeLedger_cut (s : State) (c : List Byte) : (s.takeLedger c).own.cut = s.own.cut := by
  unfold State.takeLedger
  split <;> rfl

@[simp] theorem takeMaps_cut (s : State) (c : List Byte) : (s.takeMaps c).own.cut = s.own.cut := by
  unfold State.takeMaps
  split
  · rfl
  · exact foldl_cut (fun u p => foldl_cut (fun w j => ite_cut (by simp) rfl) _ u) _ s

@[simp] theorem witnessPattern_cut (s : State) : s.witnessPattern.own.cut = s.own.cut := by
  unfold State.witnessPattern
  (repeat' split) <;> simp [foldl_cut]

@[simp] theorem takeNodes_cut (s : State) (origin : Nat) (c : List Byte) : (s.takeNodes origin c).own.cut = s.own.cut := by
  unfold State.takeNodes
  extract_lets s1 provisional s2
  have h1 : s1.own.cut = s.own.cut := foldl_cut (fun u l => updNode_cut u _ _) _ s
  have h2 : s2.own.cut = s1.own.cut := ite_cut (by simp) rfl
  (repeat' split) <;> simp [h1, h2]

@[simp] theorem takePark_cut (s : State) (c : List Byte) : (s.takePark c).own.cut = s.own.cut := by
  unfold State.takePark
  split <;> rfl

@[simp] theorem takeStreams_cut (s : State) (c : List Byte) : (s.takeStreams c).own.cut = s.own.cut := by
  unfold State.takeStreams
  dsimp only
  (repeat' split) <;> simp

@[simp] theorem takeItem_cut (s : State) (origin type : Nat) (c : List Byte) : (s.takeItem origin type c).own.cut = s.own.cut := by
  unfold State.takeItem
  (repeat' split) <;> simp

theorem beatSend_cut (t : Ns) (s : State) : (beatSend t s).own.cut = s.own.cut := by
  unfold beatSend
  split <;> simp

@[simp] theorem turnsBy_cut (s : State) (k : Nat) (r : Role) : (s.turnsBy k r).own.cut = s.own.cut := by
  unfold State.turnsBy
  (repeat' split) <;> simp

@[simp] theorem takeBeat_cut (s : State) (x : PeerRx) (f : PeerFrame) : (s.takeBeat x f).own.cut = s.own.cut := by
  unfold State.takeBeat
  dsimp only
  (repeat' split) <;> simp

theorem claimReceived_cut (x : PeerRx) (s : State) : (claimReceived x s).own.cut = s.own.cut := by
  have h := peerAccept_cut s 2 x
  unfold claimReceived
  generalize s.peerAccept 2 x = p at h ⊢
  obtain ⟨s1, _ | f⟩ := p
  · exact h
  · dsimp only at h ⊢
    (repeat' split) <;> simp [h]

theorem yieldReceived_cut (x : PeerRx) (s : State) : (yieldReceived x s).own.cut = s.own.cut := by
  have h := peerAccept_cut s 3 x
  unfold yieldReceived
  generalize s.peerAccept 3 x = p at h ⊢
  obtain ⟨s1, _ | f⟩ := p
  · exact h
  · dsimp only at h ⊢
    (repeat' split) <;> simp [h]

@[simp] theorem takeItems_cut (origin n : Nat) (l : List Byte) (s : State) : (State.takeItems origin n l s).own.cut = s.own.cut := by
  induction n generalizing l s with
  | zero => rfl
  | succ n ih =>
    rw [State.takeItems]
    split
    · rfl
    · exact (ih _ _).trans (takeItem_cut s _ _ _)

theorem mirrorReceived_cut (x : PeerRx) (s : State) : (mirrorReceived x s).own.cut = s.own.cut := by
  have h := peerAccept_cut s 4 x
  unfold mirrorReceived
  generalize s.peerAccept 4 x = p at h ⊢
  obtain ⟨s1, _ | f⟩ := p
  · exact h
  · exact (takeItems_cut _ _ _ s1).trans h

theorem peerWindowEnd_cut (s : State) : (peerWindowEnd s).own.cut = s.own.cut := by
  unfold peerWindowEnd
  split <;> simp

@[simp] theorem markUnfit_cut (s : State) : s.markUnfit.own.cut = s.own.cut := rfl

@[simp] theorem ownerStitch_cut (s : State) : s.ownerStitch.own.cut = s.own.cut := by
  unfold State.ownerStitch
  dsimp only
  (repeat' split) <;> simp

@[simp] theorem ownerRound_cut (s : State) (silent : List CutSide) : (s.ownerRound silent).own.cut = s.own.cut := by
  unfold State.ownerRound
  dsimp only
  (repeat' split) <;> simp

/-! ### Seals and taps -/

@[simp] theorem startSeal_cut (s0 : State) (kind : SealKind) (t : Ns) : (s0.startSeal kind t).own.cut = s0.own.cut := by
  simp [State.startSeal]

@[simp] theorem endSeal_cut (s : State) : s.endSeal.own.cut = s.own.cut := rfl

@[simp] theorem restoreBoot_cut (s : State) (cold : Bool) (t : Ns) : (s.restoreBoot cold t).own.cut = s.own.cut := by
  rw [(restoreBoot_gridKept s cold t).own]

@[simp] theorem restoreInPlace_cut (s : State) (t : Ns) : (s.restoreInPlace t).own.cut = s.own.cut := by
  unfold State.restoreInPlace
  split <;> rfl

@[simp] theorem judgeTaps_cut (s : State) : s.judgeTaps.own.cut = s.own.cut := by
  unfold State.judgeTaps
  (repeat' split) <;> simp [foldl_cut]

@[simp] theorem tapEvent_cut (s : State) (k : TapId) (f : Tap → Tap) : (s.tapEvent k f).own.cut = s.own.cut := by
  unfold State.tapEvent
  split <;> simp

theorem tapPresent_cut (k : TapId) (s : State) : (tapPresent k s).own.cut = s.own.cut := by simp [tapPresent]

theorem tapAbsent_cut (k : TapId) (s : State) : (tapAbsent k s).own.cut = s.own.cut := by simp [tapAbsent]

theorem tapOvervoltage_cut (k : TapId) (s : State) : (tapOvervoltage k s).own.cut = s.own.cut := by simp [tapOvervoltage]

theorem tapOvervoltageEnd_cut (k : TapId) (s : State) : (tapOvervoltageEnd k s).own.cut = s.own.cut := by simp [tapOvervoltageEnd]

theorem tapReverseCurrent_cut (k : TapId) (s : State) : (tapReverseCurrent k s).own.cut = s.own.cut := by
  unfold tapReverseCurrent
  split <;> rfl

@[simp] theorem shareRound_cut (s : State) (x : SnapLatch) : (s.shareRound x).own.cut = s.own.cut := by
  unfold State.shareRound
  dsimp only
  (repeat' split) <;> simp [foldl_cut]

theorem sharingRun_cut (deviates : Bool) (s : State) : (sharingRun deviates s).own.cut = s.own.cut := by
  unfold sharingRun
  dsimp only
  (repeat' split) <;> simp

/-! ### Domains, rails and shut-downs -/

@[simp] theorem domainsDone_cut (s : State) : s.domainsDone.own.cut = s.own.cut := by
  unfold State.domainsDone
  dsimp only
  (repeat' split) <;> simp

theorem domainSwitchOn_cut (d : Nat) (s : State) : (domainSwitchOn d s).own.cut = s.own.cut := by
  unfold domainSwitchOn
  split <;> simp

theorem domainSwitchTimeout_cut (d : Nat) (s : State) : (domainSwitchTimeout d s).own.cut = s.own.cut := by
  unfold domainSwitchTimeout
  dsimp only
  (repeat' split) <;> simp

theorem pgGood_cut (l : PgLine) (s : State) : (pgGood l s).own.cut = s.own.cut := by
  unfold pgGood
  dsimp only
  (repeat' split) <;> simp

@[simp] theorem dropRails_cut (s : State) : s.dropRails.own.cut = s.own.cut := rfl

@[simp] theorem failAttempt_cut (s : State) : s.failAttempt.own.cut = s.own.cut := by
  unfold State.failAttempt
  dsimp only
  (repeat' split) <;> simp

theorem pmicTimeout_cut (s : State) : (pmicTimeout s).own.cut = s.own.cut := by
  unfold pmicTimeout
  split <;> simp

theorem pmicRetry_cut (s : State) : (pmicRetry s).own.cut = s.own.cut := by
  unfold pmicRetry
  split <;> rfl

@[simp] theorem abandonCkpt_cut (s : State) : s.abandonCkpt.own.cut = s.own.cut := by
  unfold State.abandonCkpt
  (repeat' split) <;> simp

@[simp] theorem emergency_cut (s : State) (t : Ns) : (s.emergency t).own.cut = s.own.cut := by simp [State.emergency]

theorem railLoss_cut (l : PgLine) (t : Ns) (s : State) : (railLoss l t s).own.cut = s.own.cut := by
  unfold railLoss
  dsimp only
  (repeat' split) <;> simp

theorem pg2Loss_cut (s : State) : (pg2Loss s).own.cut = s.own.cut := by
  unfold pg2Loss
  split <;> simp

theorem pg2Return_cut (s : State) : (pg2Return s).own.cut = s.own.cut := by
  unfold pg2Return
  split <;> simp

@[simp] theorem enterGrace_cut (s : State) (kind : ShutKind) (t : Ns) : (s.enterGrace kind t).own.cut = s.own.cut := by
  simp [State.enterGrace]

@[simp] theorem updShut_cut (s : State) (f : Shutdown → Shutdown) : (s.updShut f).own.cut = s.own.cut := rfl

@[simp] theorem abortGrace_cut (s : State) (counts : Bool) (t : Ns) : (s.abortGrace counts t).own.cut = s.own.cut := by
  unfold State.abortGrace
  dsimp only
  (repeat' split) <;> simp

theorem supplyLoss_cut (t : Ns) (s : State) : (supplyLoss t s).own.cut = s.own.cut := by
  unfold supplyLoss
  (repeat' split) <;> simp

theorem graceEnd_cut (t : Ns) (s : State) : (graceEnd t s).own.cut = s.own.cut := by
  unfold graceEnd
  dsimp only
  (repeat' split) <;> simp

theorem freeze_cut (t : Ns) (s : State) : (freeze t s).own.cut = s.own.cut := by
  unfold freeze
  dsimp only
  (repeat' split) <;> simp

@[simp] theorem powerDown_cut (s : State) : s.powerDown.own.cut = s.own.cut := rfl

@[simp] theorem enterPark_cut (s : State) (wake : Option WakeCause) (t : Ns) : (s.enterPark wake t).own.cut = s.own.cut := by
  simp [State.enterPark]

@[simp] theorem enterShip_cut (s : State) (wake : Option WakeCause) : (s.enterShip wake).own.cut = s.own.cut := by simp [State.enterShip]

@[simp] theorem afterRail_cut (s : State) (fromCheck : Bool) (wake : Option WakeCause) (t : Ns) :
    (s.afterRail fromCheck wake t).own.cut = s.own.cut := by
  unfold State.afterRail
  dsimp only
  (repeat' split) <;> simp

@[simp] theorem resumeHere_cut (s : State) (t : Ns) : (s.resumeHere t).own.cut = s.own.cut := by simp [State.resumeHere]

theorem sealComplete_cut (t : Ns) (s : State) : (sealComplete t s).own.cut = s.own.cut := by
  unfold sealComplete
  dsimp only
  (repeat' split) <;> simp

theorem bootSupplyLoss_cut (s : State) : (bootSupplyLoss s).own.cut = s.own.cut := by
  unfold bootSupplyLoss
  split <;> rfl

theorem supplyReturn_cut (t : Ns) (s : State) : (supplyReturn t s).own.cut = s.own.cut := by
  unfold supplyReturn
  dsimp only
  (repeat' split) <;> simp

theorem abortDampingEnd_cut (s : State) : (abortDampingEnd s).own.cut = s.own.cut := by
  unfold abortDampingEnd
  split <;> simp

@[simp] theorem parkTest_cut (s : State) : s.parkTest.own.cut = s.own.cut := by
  unfold State.parkTest
  split <;> simp

@[simp] theorem parkStitch_cut (s : State) : s.parkStitch.own.cut = s.own.cut := rfl

@[simp] theorem shipGrace_cut (s : State) (t : Ns) : (s.shipGrace t).own.cut = s.own.cut := by simp [State.shipGrace]

theorem wakeCause_cut (c : WakeCause) (t : Ns) (s : State) : (wakeCause c t s).own.cut = s.own.cut := by
  unfold wakeCause
  dsimp only
  (repeat' split) <;> simp

theorem parkTimer_cut (t : Ns) (s : State) : (parkTimer t s).own.cut = s.own.cut := by
  unfold parkTimer
  split <;> rfl

theorem parkCheckEnd_cut (t : Ns) (s : State) : (parkCheckEnd t s).own.cut = s.own.cut := by
  unfold parkCheckEnd
  split <;> simp

theorem shipNHigh_cut (s : State) : (shipNHigh s).own.cut = s.own.cut := by
  unfold shipNHigh
  split <;> rfl

theorem shipCriterion_cut (t : Ns) (s : State) : (shipCriterion t s).own.cut = s.own.cut := by
  unfold shipCriterion
  dsimp only
  (repeat' split) <;> simp

theorem shipExit_cut (t : Ns) (s : State) : (shipExit t s).own.cut = s.own.cut := by
  unfold shipExit
  split <;> rfl

/-! ### Codes and the output links -/

@[simp] theorem raiseCodes_cut (s : State) : s.raiseCodes.own.cut = s.own.cut := by rw [(raiseCodes_spec s).1.flt]

theorem startupSelfTest_cut (x : SelfTestIn) (s : State) : (startupSelfTest x s).own.cut = s.own.cut := by
  unfold startupSelfTest
  (repeat' split) <;> simp [foldl_cut]

@[simp] theorem updBuf_cut (s : State) (b second : Bool) (f : CanBuf → CanBuf) : (s.updBuf b second f).own.cut = s.own.cut := rfl

@[simp] theorem updChan_cut (s : State) (b : Bool) (f : CanChan → CanChan) : (s.updChan b f).own.cut = s.own.cut := rfl

@[simp] theorem queueFrame_cut (s : State) (b second : Bool) (kind role : Nat) (word : BitVec 24) (round : Round) (payload : List Byte) :
    (s.queueFrame b second kind role word round payload).own.cut = s.own.cut := by
  unfold State.queueFrame
  dsimp only
  (repeat' split) <;> simp

@[simp] theorem beginSending_cut (s : State) (b : Bool) (began : Bool × Bool) : (s.beginSending b began).own.cut = s.own.cut := rfl

@[simp] theorem sendSummary_cut (s : State) : s.sendSummary.own.cut = s.own.cut := by simp [State.sendSummary]

@[simp] theorem sendFault_cut (s : State) : s.sendFault.own.cut = s.own.cut := by simp [State.sendFault]

@[simp] theorem sendCanA_cut (s0 : State) (began : Bool × Bool) : (s0.sendCanA began).own.cut = s0.own.cut := by
  unfold State.sendCanA
  dsimp only
  (repeat' split) <;> simp

@[simp] theorem queueRound_cut (s : State) : s.queueRound.own.cut = s.own.cut := by
  unfold State.queueRound
  dsimp only
  (repeat' split) <;> simp

theorem roundSend_cut (t : Ns) (s : State) : (roundSend t s).own.cut = s.own.cut := by
  unfold roundSend
  dsimp only
  (repeat' split) <;> simp

theorem roundPageDrop_cut (s : State) : (roundPageDrop s).own.cut = s.own.cut := by
  unfold roundPageDrop
  split <;> simp

@[simp] theorem sendCanB_cut (s0 : State) (began : Bool × Bool) : (s0.sendCanB began).own.cut = s0.own.cut := by
  unfold State.sendCanB
  dsimp only
  (repeat' split) <;> simp

theorem capLatch_cut (began : Bool × Bool) (t : Ns) (s : State) : (capLatch began t s).own.cut = s.own.cut := by
  unfold capLatch
  dsimp only
  (repeat' split) <;> simp

theorem canTxComplete_cut (b second active : Bool) (t : Ns) (s : State) : (canTxComplete b second active t s).own.cut = s.own.cut := by
  unfold canTxComplete
  dsimp only
  (repeat' split) <;> simp

theorem canErrorPassive_cut (b : Bool) (s : State) : (canErrorPassive b s).own.cut = s.own.cut := by
  unfold canErrorPassive
  split <;> simp

theorem canBusOff_cut (b : Bool) (s : State) : (canBusOff b s).own.cut = s.own.cut := by
  unfold canBusOff
  split <;> simp

theorem canBusOffRecovery_cut (b : Bool) (s : State) : (canBusOffRecovery b s).own.cut = s.own.cut := rfl

theorem sgmiiLinkChange_cut (up : Bool) (s : State) : (sgmiiLinkChange up s).own.cut = s.own.cut := rfl

theorem phyResetRelease_cut (s : State) : (phyResetRelease s).own.cut = s.own.cut := by
  unfold phyResetRelease
  split <;> rfl

@[simp] theorem outputRound_cut (s : State) : s.outputRound.own.cut = s.own.cut := by
  unfold State.outputRound
  dsimp only
  (repeat' split) <;> simp

/-! ### Monitors -/

@[simp] theorem judgeStrap_cut (s : State) (k : Strap) : (s.judgeStrap k).own.cut = s.own.cut := by simp [State.judgeStrap]

theorem strapResample_cut (x : StrapLevels) (s : State) : (strapResample x s).own.cut = s.own.cut := by
  unfold strapResample
  (repeat' split) <;> simp [foldl_cut]

theorem codeReread_cut (i sum : Nat) (s : State) : (codeReread i sum s).own.cut = s.own.cut := by
  unfold codeReread
  dsimp only
  (repeat' split) <;> simp

theorem maintChange_cut (s : State) : (maintChange s).own.cut = s.own.cut := by
  unfold maintChange
  split <;> rfl

@[simp] theorem pairFails_cut (s : State) (p : CorePair) (code detail : Nat) : (s.pairFails p code detail).own.cut = s.own.cut := by
  unfold State.pairFails
  dsimp only
  (repeat' split) <;> simp

theorem lockstepMismatch_cut (p : CorePair) (s : State) : (lockstepMismatch p s).own.cut = s.own.cut := by simp [lockstepMismatch]

theorem heartbeatMiss_cut (p : CorePair) (s : State) : (heartbeatMiss p s).own.cut = s.own.cut := by
  unfold heartbeatMiss
  split <;> simp

@[simp] theorem recordLost_cut (s : State) (id : CellId) : (s.recordLost id).own.cut = s.own.cut := by
  unfold State.recordLost
  split <;> simp

theorem tcmError_cut (x : TcmError) (s : State) : (tcmError x s).own.cut = s.own.cut := by
  unfold tcmError
  dsimp only
  (repeat' split) <;> simp

theorem pinKeeperExpiry_cut (s : State) : (pinKeeperExpiry s).own.cut = s.own.cut := by
  unfold pinKeeperExpiry
  split <;> rfl

theorem fastClockLoss_cut_of_cut {s : State} (h : s.own.cut = true) (t : Ns) : (fastClockLoss t s).own.cut = true := by
  unfold fastClockLoss
  split
  · exact cutIn_cut_of_cut (by simpa using h) t
  · exact h

theorem crystalFail_cut (s : State) : (crystalFail s).own.cut = s.own.cut := by
  unfold crystalFail
  split <;> simp

theorem capLatchMissing_cut (s : State) : (capLatchMissing s).own.cut = s.own.cut := by
  unfold capLatchMissing
  dsimp only
  (repeat' split) <;> simp

theorem dieOvertemp_cut (s : State) : (dieOvertemp s).own.cut = s.own.cut := by
  unfold dieOvertemp
  split <;> simp

theorem pacePllFail_cut (s : State) : (pacePllFail s).own.cut = s.own.cut := by
  unfold pacePllFail
  dsimp only
  (repeat' split) <;> simp

/-! ### Test access -/

@[simp] theorem tapData_cut (s : State) (v : Nat) : (s.tapData v).own.cut = s.own.cut := rfl

@[simp] theorem tapStatus_cut (s : State) (fails : Bool) : (s.tapStatus fails).own.cut = s.own.cut := rfl

@[simp] theorem tap_cut (s : State) (i : TapInstr) (f : State → State) (h : ∀ u, (f u).own.cut = u.own.cut) :
    (s.tap i f).own.cut = s.own.cut := by
  unfold State.tap
  split
  · rfl
  · exact ite_cut (h _) rfl

theorem tapBypass_cut (s : State) : (tapBypass s).own.cut = s.own.cut := by simp [tapBypass]

theorem tapIdcode_cut (s : State) : (tapIdcode s).own.cut = s.own.cut := tap_cut s _ _ (by intro _; rfl)

theorem tapSample_cut (pins scan : Nat) (s : State) : (tapSample pins scan s).own.cut = s.own.cut := by simp [tapSample]

theorem tapExtest_cut (i : TapInstr) (scan : Nat) (s : State) : (tapExtest i scan s).own.cut = s.own.cut := by simp [tapExtest]

theorem tapClamp_cut (s : State) : (tapClamp s).own.cut = s.own.cut := by simp [tapClamp]

theorem tapHighz_cut (s : State) : (tapHighz s).own.cut = s.own.cut := by simp [tapHighz]

theorem tapLbResult_cut (s : State) : (tapLbResult s).own.cut = s.own.cut := tap_cut s _ _ (by intro _; rfl)

theorem tapBistResult_cut (s : State) : (tapBistResult s).own.cut = s.own.cut := tap_cut s _ _ (by intro _; rfl)

theorem fuseRead_cut (item : FuseItem) (s : State) : (fuseRead item s).own.cut = s.own.cut := tap_cut s _ _ (by intro _; rfl)

theorem returnHoldEnd_cut (s : State) : (returnHoldEnd s).own.cut = s.own.cut := by
  unfold returnHoldEnd
  split <;> rfl

theorem loopbackPhase_cut (runs : List LbRun) (s : State) : (loopbackPhase runs s).own.cut = s.own.cut := by
  unfold loopbackPhase
  dsimp only
  (repeat' split) <;> simp

theorem productionBist_cut (result : BitVec 128) (allRun passed : Bool) (s : State) :
    (productionBist result allRun passed s).own.cut = s.own.cut := by
  unfold productionBist
  dsimp only
  (repeat' split) <;> simp

/-! ### The grid -/

theorem paceEdge_cut (x : PaceChange) (s : State) : (paceEdge x s).own.cut = s.own.cut := by
  unfold paceEdge
  split <;> rfl

theorem paceLoss_cut (t : Ns) (s : State) : (paceLoss t s).own.cut = s.own.cut := by
  unfold paceLoss
  split <;> rfl

theorem holdoverEnd_cut (s : State) : (holdoverEnd s).own.cut = s.own.cut := rfl

@[simp] theorem paceFaults_cut (s : State) (before : Round) : (s.paceFaults before).own.cut = s.own.cut := by
  unfold State.paceFaults
  split <;> simp

@[simp] theorem eachStitch_cut (s : State) (x : StitchLevels) (t : Ns) : (s.eachStitch x t).own.cut = s.own.cut := by
  simp [State.eachStitch]

@[simp] theorem raiseStanding_cut (s : State) (cold : Bool) : (s.raiseStanding cold).own.cut = s.own.cut := by
  rw [(raiseStanding_gridKept s cold).own]

@[simp] theorem logBoot_cut (s : State) : s.logBoot.own.cut = s.own.cut := rfl

@[simp] theorem beginRounds_cut (s : State) (cold : Bool) (t : Ns) : (s.beginRounds cold t).own.cut = s.own.cut := rfl

@[simp] theorem storeSwapped_cut (s : State) : s.storeSwapped.own.cut = s.own.cut := by
  unfold State.storeSwapped
  split <;> simp

theorem roundZero_cut (t : Ns) (x : ZeroIn) (s : State) : (roundZero t x s).own.cut = s.own.cut := by
  unfold roundZero
  dsimp only
  (repeat' split) <;> simp

@[simp] theorem runtimeTest_cut (s : State) (passed : Bool) : (s.runtimeTest passed).own.cut = s.own.cut := by
  unfold State.runtimeTest
  dsimp only
  (repeat' split) <;> simp

@[simp] theorem nextRound_cut (s : State) (x : PllTick) : (s.nextRound x).own.cut = s.own.cut := rfl

@[simp] theorem runTime_cut (s : State) : s.runTime.own.cut = s.own.cut := by
  unfold State.runTime
  split <;> rfl

@[simp] theorem dieFaults_cut (s : State) : s.dieFaults.own.cut = s.own.cut := by
  unfold State.dieFaults
  dsimp only
  (repeat' split) <;> simp

@[simp] theorem tableRound_cut (s : State) : s.tableRound.own.cut = s.own.cut := by
  unfold State.tableRound
  dsimp only
  (repeat' split) <;> simp

@[simp] theorem abortOver_cut (s : State) : s.abortOver.own.cut = s.own.cut := by
  unfold State.abortOver
  dsimp only
  (repeat' split) <;> simp

@[simp] theorem checkRound_cut (s : State) : s.checkRound.own.cut = s.own.cut := by
  unfold State.checkRound
  dsimp only
  (repeat' split) <;> simp

@[simp] theorem maintRound_cut (s : State) : s.maintRound.own.cut = s.own.cut := rfl

@[simp] theorem workRound_cut (s : State) (x : RoundIn) : (s.workRound x).own.cut = s.own.cut := by
  unfold State.workRound
  dsimp only
  (repeat' split) <;> simp

theorem roundStart_cut (x : RoundIn) (s : State) : (roundStart x s).own.cut = s.own.cut := by
  unfold roundStart
  dsimp only
  (repeat' split) <;> simp

theorem stitchStart_cut (x : StitchIn) (s : State) : (stitchStart x s).own.cut = s.own.cut := by
  unfold stitchStart
  dsimp only
  (repeat' split) <;> simp

@[simp] theorem refillTable_cut (n : Nat) (s : State) : (State.refillTable n s).own.cut = s.own.cut := by
  induction n generalizing s with
  | zero => rfl
  | succ n ih =>
    unfold State.refillTable
    split
    · rfl
    · exact ite_cut ((ih _).trans (by simp)) rfl

theorem publication_cut (summaryBegan faultBegan : Bool) (s : State) : (publication summaryBegan faultBegan s).own.cut = s.own.cut := by
  unfold publication
  dsimp only
  (repeat' split) <;> simp

theorem readFrame_cut (x : ReadRx) (s : State) : (readFrame x s).own.cut = s.own.cut := by
  unfold readFrame
  dsimp only
  (repeat' split) <;> simp

theorem tokenRound_cut (s : State) : (tokenRound s).own.cut = s.own.cut := by simp [tokenRound]

theorem lostNode_cut (id : NodeId) (s : State) : (lostNode id s).own.cut = s.own.cut := by
  unfold lostNode
  dsimp only
  (repeat' split) <;> simp

theorem identResponse_cut (x : ThreadRx) (s : State) : (identResponse x s).own.cut = s.own.cut := by
  unfold identResponse
  dsimp only
  (repeat' split) <;> simp

theorem maintenanceRetest_cut (s : State) : (maintenanceRetest s).own.cut = s.own.cut := by
  unfold maintenanceRetest
  split <;> simp

theorem installTest_cut (s : State) : (installTest s).own.cut = s.own.cut := by simp [installTest]

@[simp] theorem judgeVariant_cut (s : State) (l : List (Nat × VariantRec)) : (s.judgeVariant l).own.cut = s.own.cut := by
  unfold State.judgeVariant
  (repeat' split) <;> simp

/-! ### Boots and the image -/

theorem strapLatch_cut (x : StrapSamples) (s : State) : (strapLatch x s).own.cut = s.own.cut := by
  unfold strapLatch
  exact ite_cut rfl (foldl_cut (fun u k => ite_cut (by simp) (by simp)) _ _)

theorem resistorCodeRead_cut (x : CodeReads) (s : State) : (resistorCodeRead x s).own.cut = s.own.cut := by
  unfold resistorCodeRead
  exact ite_cut rfl (raiseCodes_cut _)

@[simp] theorem useFields_cut (s : State) (v : Option (Variant × List Nat)) (r : List SlotRecord) (m : Env → ModelFields) :
    (s.useFields v r m).own.cut = s.own.cut := by
  unfold State.useFields
  dsimp only
  (repeat' split) <;> simp [foldl_cut]

@[simp] theorem runImage_cut (s : State) (k : Nat) (x : SlotImage) : (s.runImage k x).own.cut = s.own.cut := by
  unfold State.runImage
  dsimp only
  (repeat' split) <;> simp

@[simp] theorem runRom_cut (s : State) : s.runRom.own.cut = s.own.cut := by
  unfold State.runRom
  dsimp only
  split <;> simp

theorem imageSelect_cut (a b : Option SlotImage) (s : State) : (imageSelect a b s).own.cut = s.own.cut := by
  unfold imageSelect
  dsimp only
  (repeat' split) <;> simp

/-! ### The TAP and the park shut-down -/

theorem keyProg_cut (i : KeyItem) (s : State) : (keyProg i s).own.cut = s.own.cut :=
  tap_cut s _ _ fun u => by split <;> rfl

theorem lcAdvance_cut (readBack : Bool) (s : State) : (lcAdvance readBack s).own.cut = s.own.cut :=
  tap_cut s _ _ fun u => by (repeat' split) <;> rfl

theorem tapAuth_cut (x : AuthIn) (s : State) : (tapAuth x s).own.cut = s.own.cut :=
  tap_cut s _ _ fun u => by split <;> simp

@[simp] theorem parkGrace_cut (s : State) (ok owner : Bool) (t : Ns) : (s.parkGrace ok owner t).own.cut = s.own.cut := by
  rw [(parkGrace_graceWork s ok owner t).frame]
  exact enterGrace_cut s .park t

theorem parkCriterion_cut (ok : Bool) (t : Ns) (s : State) : (parkCriterion ok t s).own.cut = s.own.cut := by
  unfold parkCriterion
  exact ite_cut (parkGrace_cut _ _ _ _) rfl

@[simp] theorem followPark_cut (s : State) (origin : Nat) (i : Intent) : (s.followPark origin i).own.cut = s.own.cut := by
  unfold State.followPark
  (repeat' split) <;> simp

theorem beatTaken_cut (x : PeerRx) (s : State) : (beatTaken x s).own.cut = s.own.cut := by
  have h := peerAccept_cut s 1 x
  unfold beatTaken
  generalize s.peerAccept 1 x = p at h ⊢
  obtain ⟨s1, _ | f⟩ := p
  · exact h
  · simpa using h

/-! ### The commands -/

/-- The commands that may clear the cut latch: the start of a domain, and the loss of P0 AON (R379). -/
inductive ClearsCut : Instr → Prop
  | coldBoot (cutsHigh : Bool) : ClearsCut (.coldBoot cutsHigh)
  | warmResume (cutsHigh : Bool) (t : Ns) : ClearsCut (.warmResume cutsHigh t)
  | aonLost : ClearsCut .aonLost

theorem keepsCut {c : Instr} {s t : State} (h : exec c s = .next t) (hcut : t.own.cut = s.own.cut) :
    Completes c s (fun t => s.own.cut = true → t.own.cut = true) := ⟨t, h, fun hs => hcut.trans hs⟩

/-- Every other command keeps the latch of a cut seat: its operation's lemma, one for each row of the opcode table. -/
theorem clearsCut_or_completes_cut : ∀ (c : Instr) (s : State), ClearsCut c ∨ Completes c s (fun t => s.own.cut = true → t.own.cut = true)
  | .coldBoot _, _ => .inl (.coldBoot _)
  | .strapLatch _, _ => .inr (keepsCut rfl (strapLatch_cut _ _))
  | .resistorCodeRead _, _ => .inr (keepsCut rfl (resistorCodeRead_cut _ _))
  | .pgGood _, _ => .inr (keepsCut rfl (pgGood_cut _ _))
  | .pmicHandshakeTimeout, _ => .inr (keepsCut rfl (pmicTimeout_cut _))
  | .pmicRetry, _ => .inr (keepsCut rfl (pmicRetry_cut _))
  | .domainSwitchOn _, _ => .inr (keepsCut rfl (domainSwitchOn_cut _ _))
  | .domainSwitchTimeout _, _ => .inr (keepsCut rfl (domainSwitchTimeout_cut _ _))
  | .startupSelfTest _, _ => .inr (keepsCut rfl (startupSelfTest_cut _ _))
  | .lpddr5InitComplete _, _ => .inr (keepsCut rfl (ddrInit_cut _ _))
  | .imageSelect _ _, _ => .inr (keepsCut rfl (imageSelect_cut _ _ _))
  | .roundZero _ _, _ => .inr (keepsCut rfl (roundZero_cut _ _ _))
  | .checkpointLoad, _ => .inr (keepsCut rfl (checkpointLoad_cut _))
  | .warmResume _ _, _ => .inl (.warmResume _ _)
  | .bootSupplyLoss, _ => .inr (keepsCut rfl (bootSupplyLoss_cut _))
  | .tapPresent _, _ => .inr (keepsCut rfl (tapPresent_cut _ _))
  | .tapAbsent _, _ => .inr (keepsCut rfl (tapAbsent_cut _ _))
  | .tapOvervoltage _, _ => .inr (keepsCut rfl (tapOvervoltage_cut _ _))
  | .tapOvervoltageEnd _, _ => .inr (keepsCut rfl (tapOvervoltageEnd_cut _ _))
  | .tapReverseCurrent _, _ => .inr (keepsCut rfl (tapReverseCurrent_cut _ _))
  | .sharingRunComplete _, _ => .inr (keepsCut rfl (sharingRun_cut _ _))
  | .railLoss _ _, _ => .inr (keepsCut rfl (railLoss_cut _ _ _))
  | .pg2Loss, _ => .inr (keepsCut rfl (pg2Loss_cut _))
  | .pg2Return, _ => .inr (keepsCut rfl (pg2Return_cut _))
  | .supplyLossTrigger _, _ => .inr (keepsCut rfl (supplyLoss_cut _ _))
  | .graceEnd _, _ => .inr (keepsCut rfl (graceEnd_cut _ _))
  | .freeze _, _ => .inr (keepsCut rfl (freeze_cut _ _))
  | .sealComplete _, _ => .inr (keepsCut rfl (sealComplete_cut _ _))
  | .supplyReturn _, _ => .inr (keepsCut rfl (supplyReturn_cut _ _))
  | .abortDampingEnd, _ => .inr (keepsCut rfl (abortDampingEnd_cut _))
  | .aonLost, _ => .inl .aonLost
  | .parkCriterion _ _, _ => .inr (keepsCut rfl (parkCriterion_cut _ _ _))
  | .wakeCause _ _, _ => .inr (keepsCut rfl (wakeCause_cut _ _ _))
  | .parkTimer _, _ => .inr (keepsCut rfl (parkTimer_cut _ _))
  | .parkCheckEnd _, _ => .inr (keepsCut rfl (parkCheckEnd_cut _ _))
  | .shipCriterion _, _ => .inr (keepsCut rfl (shipCriterion_cut _ _))
  | .shipExit _, _ => .inr (keepsCut rfl (shipExit_cut _ _))
  | .paceEdge _, _ => .inr (keepsCut rfl (paceEdge_cut _ _))
  | .paceLoss _, _ => .inr (keepsCut rfl (paceLoss_cut _ _))
  | .holdoverEnd, _ => .inr (keepsCut rfl (holdoverEnd_cut _))
  | .snapSend, _ => .inr (keepsCut rfl (snapSend_cut _))
  | .roundStart _, _ => .inr (keepsCut rfl (roundStart_cut _ _))
  | .stitchStart _, _ => .inr (keepsCut rfl (stitchStart_cut _ _))
  | .maintChange, _ => .inr (keepsCut rfl (maintChange_cut _))
  | .strapResample _, _ => .inr (keepsCut rfl (strapResample_cut _ _))
  | .codeReread _ _, _ => .inr (keepsCut rfl (codeReread_cut _ _ _))
  | .tokenSend, _ => .inr (keepsCut rfl (tokenRound_cut _))
  | .readReceived _, _ => .inr (keepsCut rfl (readFrame_cut _ _))
  | .commandRetriesSpent _, _ => .inr (keepsCut rfl (retriesSpent_cut _ _))
  | .commandResend _, _ => .inr (keepsCut rfl (commandResend_cut _ _))
  | .nodeLost _, _ => .inr (keepsCut rfl (lostNode_cut _ _))
  | .ringReversal _, _ => .inr (keepsCut rfl (ringReversal_cut _ _))
  | .reversalEnd _, _ => .inr (keepsCut rfl (reversalEnd_cut _ _))
  | .violationWindowEnd, _ => .inr (keepsCut rfl (violationWindowEnd_cut _))
  | .identResponse _, _ => .inr (keepsCut rfl (identResponse_cut _ _))
  | .identTimeout _, _ => .inr (keepsCut rfl (identTimeout_cut _ _))
  | .echo _, _ => .inr (keepsCut rfl (echoSend_cut _ _))
  | .echoReply _, _ => .inr (keepsCut rfl (echoReply_cut _ _))
  | .echoTimeout _ _, _ => .inr (keepsCut rfl (echoTimeout_cut _ _ _))
  | .linkTestStart _ _, _ => .inr (keepsCut rfl (linkTestStart_cut _ _ _))
  | .bert _, _ => .inr (keepsCut rfl (bertSend_cut _ _))
  | .prbs31Start _ _, _ => .inr (keepsCut rfl (prbsStart_cut _ _ _))
  | .prbs31End _, _ => .inr (keepsCut rfl (prbsEnd_cut _ _))
  | .bertReport _, _ => .inr (keepsCut rfl (bertReport_cut _ _))
  | .installationTest, _ => .inr (keepsCut rfl (installTest_cut _))
  | .periodicTestDue, _ => .inr (keepsCut rfl (periodicDue_cut _))
  | .periodicTestOverdue, _ => .inr (keepsCut rfl (periodicOverdue_cut _))
  | .maintenanceRetest, _ => .inr (keepsCut rfl (maintenanceRetest_cut _))
  | .shuntSample _, _ => .inr (keepsCut rfl (shuntSample_cut _ _))
  | .shuntRangeSensor _ _, _ => .inr (keepsCut rfl (shuntRangeSensor_cut _ _ _))
  | .sentFrame _, _ => .inr (keepsCut rfl (sentFrame_cut _ _))
  | .sentIdTimeout _, _ => .inr (keepsCut rfl (sentIdTimeout_cut _ _))
  | .sentLoss _, _ => .inr (keepsCut rfl (sentLoss_cut _ _))
  | .sbSnapBlank, _ => .inr (keepsCut rfl (sbBlank_cut _))
  | .sbRestore, _ => .inr (keepsCut rfl (sbRestore_cut _))
  | .packChecks _, _ => .inr (keepsCut rfl (packChecks_cut _ _))
  | .classicalUpdate, _ => .inr (keepsCut rfl (classicalUpdate_cut _))
  | .bastingFormed _, _ => .inr (keepsCut rfl (bastingFormed_cut _ _))
  | .tackOverdue, _ => .inr (keepsCut rfl (tackOverdue_cut _))
  | .pairRecordWrite, _ => .inr (keepsCut rfl (pairRecordWrite_cut _))
  | .stateBlockFetch _, _ => .inr (keepsCut rfl (stateBlockFetch_cut _ _))
  | .learnedResultWritten _ _, _ => .inr (keepsCut rfl (learnedResult_cut _ _ _))
  | .openLoopLimit _, _ => .inr (keepsCut rfl (openLoopLimit_cut _ _))
  | .warmupEnd _, _ => .inr (keepsCut rfl (warmupEnd_cut _ _))
  | .replayStep _, _ => .inr (keepsCut rfl (replayStep_cut _ _))
  | .replayCompare, _ => .inr (keepsCut rfl (replayCompare_cut _))
  | .replayAbort, _ => .inr (keepsCut rfl (replayAbort_cut _))
  | .replayPeriodEnd, _ => .inr (keepsCut rfl (replayPeriodEnd_cut _))
  | .stepAbandon _, _ => .inr (keepsCut rfl (stepAbandon_cut _ _))
  | .cellRestore _, _ => .inr (keepsCut rfl (cellRestore_cut _ _))
  | .lpddr5EccError _ _, _ => .inr (keepsCut rfl (ddrEcc_cut _ _ _))
  | .bobbinEccError _ _ _, _ => .inr (keepsCut rfl (bobbinEcc_cut _ _ _ _))
  | .tcmEccError _, _ => .inr (keepsCut rfl (tcmError_cut _ _))
  | .eccWindowEnd, _ => .inr (keepsCut rfl (eccWindowEnd_cut _))
  | .scrubPass, _ => .inr (keepsCut rfl (scrubPass_cut _))
  | .scrubOverdue, _ => .inr (keepsCut rfl (scrubOverdue_cut _))
  | .arbitrationRevoke _, _ => .inr (keepsCut rfl (arbitrationRevoke_cut _ _))
  | .portUnfence _, _ => .inr (keepsCut rfl (portUnfence_cut _ _))
  | .refreshRateRead _, _ => .inr (keepsCut rfl (refreshRateRead_cut _ _))
  | .cycleStart, _ => .inr (keepsCut rfl (cycleStart_cut _))
  | .shadowStep _ _, _ => .inr (keepsCut rfl (shadowStep_cut _ _ _))
  | .warmPhaseEnd, _ => .inr (keepsCut rfl (warmPhaseEnd_cut _))
  | .shadowUpdate, _ => .inr (keepsCut rfl (shadowUpdate_cut _))
  | .epochEnd, _ => .inr (keepsCut rfl (epochEnd_cut _))
  | .fitDecision, _ => .inr (keepsCut rfl (fitDecision_cut _))
  | .adapterCopy, _ => .inr (keepsCut rfl (adapterCopy_cut _))
  | .promotion, _ => .inr (keepsCut rfl (promotion_cut _))
  | .shedLower _, _ => .inr (keepsCut rfl (shedLower_cut _ _))
  | .checkpointTrigger _, _ => .inr (keepsCut rfl (checkpointTrigger_cut _ _))
  | .checkpointStaged, _ => .inr (keepsCut rfl (checkpointStaged_cut _))
  | .checkpointWrite _, _ => .inr (keepsCut rfl (checkpointWrite_cut _ _))
  | .norBusRevoke, _ => .inr (keepsCut rfl (norBusRevoke_cut _))
  | .seamDecision _, _ => .inr (keepsCut rfl (seamDecision_cut _ _))
  | .seamDeadline, _ => .inr (keepsCut rfl (seamDeadline_cut _))
  | .publication _ _, _ => .inr (keepsCut rfl (publication_cut _ _ _))
  | .roundPage _, _ => .inr (keepsCut rfl (roundSend_cut _ _))
  | .roundPageDrop, _ => .inr (keepsCut rfl (roundPageDrop_cut _))
  | .seamWindowEnd, _ => .inr (keepsCut rfl (seamWindowEnd_cut _))
  | .capLatch _ _ _, _ => .inr (keepsCut rfl (capLatch_cut _ _ _))
  | .capLatchMissing, _ => .inr (keepsCut rfl (capLatchMissing_cut _))
  | .comparatorEvent _, _ => .inr (keepsCut rfl (comparatorEvent_cut _ _))
  | .cellLimitFlag _, _ => .inr (keepsCut rfl (cellLimitFlag_cut _ _))
  | .fastPathRelease _ _, _ => .inr (keepsCut rfl (fastPathRelease_cut _ _ _))
  | .pinReadbackMismatch _, _ => .inr (keepsCut rfl (pinReadbackMismatch_cut _ _))
  | .storeAbsent, _ => .inr (keepsCut rfl (storeAbsent_cut _))
  | .storePresent, _ => .inr (keepsCut rfl (storePresent_cut _))
  | .vmainFail _, _ => .inr (keepsCut rfl (vmainFail_cut _ _))
  | .reservePrecharge _ _, _ => .inr (keepsCut rfl (reservePrecharge_cut _ _ _))
  | .stableReached _, _ => .inr (keepsCut rfl (stableReached_cut _ _))
  | .pathDwellEnd _, _ => .inr (keepsCut rfl (pathDwellEnd_cut _ _))
  | .rampComplete _, _ => .inr (keepsCut rfl (rampComplete_cut _ _))
  | .shortDetected _, _ => .inr (keepsCut rfl (shortDetected_cut _ _))
  | .coolEnd _, _ => .inr (keepsCut rfl (coolEnd_cut _ _))
  | .shortCountReset _, _ => .inr (keepsCut rfl (shortCountReset_cut _ _))
  | .latchedExit _, _ => .inr (keepsCut rfl (latchedExit_cut _ _))
  | .floor _ _, _ => .inr (keepsCut rfl (floor_cut _ _ _))
  | .dampingEnd _, _ => .inr (keepsCut rfl (dampingEnd_cut _ _))
  | .gateInterlockTimeout _, _ => .inr (keepsCut rfl (gateInterlockTimeout_cut _ _))
  | .gateMonitorFault _ _, _ => .inr (keepsCut rfl (gateMonitorFault_cut _ _ _))
  | .breqEdge _ _, _ => .inr (keepsCut rfl (breqEdge_cut _ _ _))
  | .burstRelease _ _, _ => .inr (keepsCut rfl (burstRelease_cut _ _ _))
  | .burstDurationEnd _ _, _ => .inr (keepsCut rfl (burstDurationEnd_cut _ _ _))
  | .bgntAnswer _, _ => .inr (keepsCut rfl (bgntAnswer_cut _ _))
  | .beatSend _, _ => .inr (keepsCut rfl (beatSend_cut _ _))
  | .beatReceived _, _ => .inr (keepsCut rfl (beatTaken_cut _ _))
  | .claimReceived _, _ => .inr (keepsCut rfl (claimReceived_cut _ _))
  | .yieldReceived _, _ => .inr (keepsCut rfl (yieldReceived_cut _ _))
  | .mirrorReceived _, _ => .inr (keepsCut rfl (mirrorReceived_cut _ _))
  | .peerWindowEnd, _ => .inr (keepsCut rfl (peerWindowEnd_cut _))
  | .unaligned, _ => .inr (keepsCut rfl (unaligned_cut _))
  | .provisionalClaim, _ => .inr (keepsCut rfl (provisionalClaim_cut _))
  | .listenTimeout, _ => .inr (keepsCut rfl (listenTimeout_cut _))
  | .election, _ => .inr (keepsCut rfl (election_cut _))
  | .yieldSend, _ => .inr (keepsCut rfl (yieldSend_cut _))
  | .acceptClaim, _ => .inr (keepsCut rfl (acceptClaim_cut _))
  | .ownerJudge, _ => .inr (keepsCut rfl (ownerJudge_cut _))
  | .tripDisagree _, _ => .inr (keepsCut rfl (tripDisagree_cut _ _))
  | .cutIn _, _ => .inr ⟨_, rfl, fun h => cutIn_cut_of_cut h _⟩
  | .forcedClaim, _ => .inr (keepsCut rfl (forcedClaim_cut _))
  | .forcedTakeoverDrive _, _ => .inr (keepsCut rfl (forcedTakeoverDrive_cut _ _))
  | .ownerSelfCheck _, _ => .inr (keepsCut rfl (ownerSelfCheck_cut _ _))
  | .canTxComplete _ _ _ _, _ => .inr (keepsCut rfl (canTxComplete_cut _ _ _ _ _))
  | .canErrorPassive _, _ => .inr (keepsCut rfl (canErrorPassive_cut _ _))
  | .canBusOff _, _ => .inr (keepsCut rfl (canBusOff_cut _ _))
  | .canBusOffRecovery _, _ => .inr (keepsCut rfl (canBusOffRecovery_cut _ _))
  | .canFrameReceived _ _, _ => .inr (keepsCut rfl rfl)
  | .sgmiiRxDiscard _, _ => .inr (keepsCut rfl rfl)
  | .sgmiiLinkChange _, _ => .inr (keepsCut rfl (sgmiiLinkChange_cut _ _))
  | .phyResetRelease, _ => .inr (keepsCut rfl (phyResetRelease_cut _))
  | .pinKeeperExpiry, _ => .inr (keepsCut rfl (pinKeeperExpiry_cut _))
  | .fastClockLoss _, _ => .inr ⟨_, rfl, fun h => fastClockLoss_cut_of_cut h _⟩
  | .crystalFail, _ => .inr (keepsCut rfl (crystalFail_cut _))
  | .lockstepMismatch _, _ => .inr (keepsCut rfl (lockstepMismatch_cut _ _))
  | .heartbeatMiss _, _ => .inr (keepsCut rfl (heartbeatMiss_cut _ _))
  | .dieOvertemp, _ => .inr (keepsCut rfl (dieOvertemp_cut _))
  | .bypass, _ => .inr (keepsCut rfl (tapBypass_cut _))
  | .idcode, _ => .inr (keepsCut rfl (tapIdcode_cut _))
  | .samplePreload _ _, _ => .inr (keepsCut rfl (tapSample_cut _ _ _))
  | .extest _, _ => .inr (keepsCut rfl (tapExtest_cut _ _ _))
  | .clamp, _ => .inr (keepsCut rfl (tapClamp_cut _))
  | .highz, _ => .inr (keepsCut rfl (tapHighz_cut _))
  | .extestPulse _, _ => .inr (keepsCut rfl (tapExtest_cut _ _ _))
  | .extestTrain _, _ => .inr (keepsCut rfl (tapExtest_cut _ _ _))
  | .lbResult, _ => .inr (keepsCut rfl (tapLbResult_cut _))
  | .bistResult, _ => .inr (keepsCut rfl (tapBistResult_cut _))
  | .keyProg _, _ => .inr (keepsCut rfl (keyProg_cut _ _))
  | .fuseRead _, _ => .inr (keepsCut rfl (fuseRead_cut _ _))
  | .lcAdvance _, _ => .inr (keepsCut rfl (lcAdvance_cut _ _))
  | .auth _, _ => .inr (keepsCut rfl (tapAuth_cut _ _))
  | .returnHoldEnd, _ => .inr (keepsCut rfl (returnHoldEnd_cut _))
  | .loopbackPhase _, _ => .inr (keepsCut rfl (loopbackPhase_cut _ _))
  | .productionBist _ _ _, _ => .inr (keepsCut rfl (productionBist_cut _ _ _ _))
  | .pacePllFail, _ => .inr (keepsCut rfl (pacePllFail_cut _))
  | .snapReceived _, _ => .inr (keepsCut rfl (snapReceived_cut _ _))
  | .shipNHigh, _ => .inr (keepsCut rfl (shipNHigh_cut _))
  | .goodChange _ _, _ => .inr (keepsCut rfl (goodChange_cut _ _ _))
  | .mainPrecharge _ _, _ => .inr (keepsCut rfl (mainPrecharge_cut _ _ _))

theorem coldBoot_cut_of_off {s : State} (h : s.sup.dev = .off) (cutsHigh : Bool) :
    (coldBoot cutsHigh s).own.cut = (s.own.cut && !cutsHigh) := by rw [(coldBoot_spec h cutsHigh).1]; rfl

theorem warmResume_cut_of_due {s : State} {k : BootKind} (h : s.sup.resume = some k) (cutsHigh : Bool) (t : Ns) :
    (warmResume cutsHigh t s).own.cut = (s.own.cut && !cutsHigh) := by rw [warmResume_of_due h]; rfl

/-- The start of a domain at which a latch is cleared: both CUT_IN pins are high (R379). -/
def StartsUncut (s : State) (c : Instr) : Prop :=
  (c = .coldBoot true ∧ s.sup.dev = .off) ∨ ∃ at_, c = .warmResume true at_ ∧ s.sup.resume ≠ none

theorem StartsUncut.clearsCut {s : State} {c : Instr} (h : StartsUncut s c) : ClearsCut c := by
  rcases h with ⟨rfl, -⟩ | ⟨at_, rfl, -⟩
  · exact .coldBoot _
  · exact .warmResume _ _

/-- A cut seat is uncut exactly by such a start. -/
theorem completes_uncut_iff {s : State} {c : Instr} (hcut : s.own.cut = true) (haon : c ≠ .aonLost) :
    Completes c s (fun t => t.own.cut = false ↔ StartsUncut s c) := by
  by_cases hclears : ClearsCut c
  · cases hclears with
    | aonLost => exact absurd rfl haon
    | coldBoot high =>
      refine ⟨_, rfl, ?_⟩
      by_cases hoff : s.sup.dev = .off
      · change (coldBoot high s).own.cut = false ↔ _
        rw [coldBoot_cut_of_off hoff]
        simp [StartsUncut, hcut, hoff]
      · change (coldBoot high s).own.cut = false ↔ _
        rw [coldBoot_of_not_off hoff]
        simp [StartsUncut, hcut, hoff]
    | warmResume high at_ =>
      refine ⟨_, rfl, ?_⟩
      cases hdue : s.sup.resume with
      | none =>
        rw [warmResume_of_not_due hdue]
        simp [StartsUncut, hcut, hdue]
      | some k =>
        rw [warmResume_cut_of_due hdue]
        simp [StartsUncut, hcut, hdue]
  · refine ((clearsCut_or_completes_cut c s).resolve_left hclears).imp fun t hkeeps => ?_
    have hstart : ¬ StartsUncut s c := fun h => hclears h.clearsCut
    simp [hkeeps hcut, hstart]

/-- Settles O5: a start with both pins high uncuts the seat, and after any other command it is cut and so not eligible. -/
theorem cutLatchClearsOnlyAtADomainStart : Obligations.CutLatchClearsOnlyAtADomainStart := by
  intro s c hcut haon start
  refine (completes_uncut_iff hcut haon).imp fun t huncut => ⟨huncut.mpr, fun hstart => ?_⟩
  have hstays : t.own.cut = true := Bool.not_eq_false _ ▸ mt huncut.mp hstart
  exact ⟨hstays, ownEligible_of_cut hstays⟩

end Sys2Proof.Machine
end

section
/-!
SUPPORT. The release of the fast path's causes (R325) and the read-back of its pins (R328): statement O44.
-/
namespace Sys2Proof.Machine

/-- The cause of an event is dropped, and the directions are forced by what is left. -/
def State.dropCause (s : State) (e : FastEvent) (t : Ns) : State :=
  (({ s with fast := { s.fast with
    causes := s.fast.causes.filter fun c => !(c.event == e), flagged := s.fast.flagged.filter fun g => !(g.event == e) } } : State).at t).refreshForced

/-- The fault of an event clears with it, but for the two that end with the trip. -/
def State.endFastFault (s : State) (e : FastEvent) : State :=
  match e with
  | .persist => s
  | .request => s
  | _ => s.clear (fastFault e) 0

theorem fastPathRelease_of_clear {s : State} {e : FastEvent} {at_ : Ns} {c : FastCause}
    (hfind : (s.fast.causes.find? fun c => c.event == e) = some c) (hclear : s.causeClear c at_ = true) :
    fastPathRelease e at_ s = ((s.dropCause e at_).endFastFault e).releaseTrip := by
  unfold fastPathRelease
  rw [hfind]
  dsimp only
  rw [if_neg (by simp [hclear])]
  rfl

theorem fastFault_mem (e : FastEvent) : fastFault e ∈ fastCodes := by cases e <;> decide

/-- The faults of a trip alone are 0x684 and 0x685. -/
theorem fastFault_not_mem {e : FastEvent} (hp : e ≠ .persist) (hr : e ≠ .request) : fastFault e ∉ [0x684, 0x685] := by
  cases e with
  | persist => exact absurd rfl hp
  | request => exact absurd rfl hr
  | _ => decide

theorem endFastFault_faultsOnly (s : State) (e : FastEvent) : FaultsOnly fastCodes s (s.endFastFault e) := by
  have hclear : FaultsOnly fastCodes s (s.clear (fastFault e) 0) := ⟨clear_flt _ _ _, clear_sameFaults (fastFault_mem e) s 0⟩
  cases e with
  | persist | request => exact .refl
  | _ => exact hclear

theorem endFastFault_stands {s : State} {e : FastEvent} (hp : e ≠ .persist) (hr : e ≠ .request) (hl : s.allListed) :
    (s.endFastFault e).flt.stands (fastFault e) 0 = false := by
  cases e with
  | persist => exact absurd rfl hp
  | request => exact absurd rfl hr
  | _ => exact clear_stands s _ 0 hl (by decide)

/-- No trip; a plain zero stays until the next cap latch. -/
def State.untripped (s : State) : State :=
  { s with fast := { s.fast with trip := false, request := false }, pow := { s.pow with zeroD := true, zeroC := true } }

/-- A trip is given up, with its faults, or everything stays. -/
theorem releaseTrip_cases (s : State) :
    (s.releaseTrip = s ∧ ¬ (s.img.f.fast.release = true ∧ s.tripped = true ∧ (∀ c ∈ s.fast.causes, c.action ≠ 2) ∧ s.pace.lock = .idle)) ∨
      (s.img.f.fast.release = true ∧
        s.releaseTrip = (s.untripped.clear 0x684 0).clear 0x685 0) := by
  by_cases h : (s.img.f.fast.release && s.tripped && !(s.fast.causes.any fun c => c.action == 2) && s.pace.lock == Lock.idle) = true
  · refine .inr ⟨?_, if_pos h⟩
    simp only [Bool.and_eq_true] at h
    exact h.1.1.1
  · refine .inl ⟨if_neg h, fun hall => h ?_⟩
    simpa [and_assoc] using hall

/-- What the release of a trip leaves, and when it comes. -/
theorem releaseTrip_spec (s : State) :
    let t := s.releaseTrip
    t = { s with fast := { s.fast with trip := t.fast.trip, request := t.fast.request }, pow := t.pow, flt := t.flt } ∧
    SameFaults [0x684, 0x685] s t ∧
    (s.img.f.fast.release = false → t.fast.trip = s.fast.trip ∧ t.fast.request = s.fast.request) ∧
    (s.img.f.fast.release = true → s.pace.lock = .idle → (∀ c ∈ s.fast.causes, c.action ≠ 2) →
      t.fast.trip = false ∧ t.fast.request = false) := by
  intro t
  rcases releaseTrip_cases s with ⟨hkeep, hnot⟩ | ⟨hrelease, hgone⟩
  · have ht : t = s := hkeep
    rw [ht]
    refine ⟨rfl, SameFaults.refl _ s, fun _ => ⟨rfl, rfl⟩, fun hr hidle hall => ?_⟩
    have htripped : s.tripped = false := by
      by_contra h
      exact hnot ⟨hr, by simpa using h, hall, hidle⟩
    simpa [State.tripped] using htripped
  · have ht := show t = _ from hgone
    have hfast : t.fast = { s.fast with trip := false, request := false } := by rw [ht, clear_fast, clear_fast]; rfl
    refine ⟨?_, ?_, fun h => ?_, fun _ _ _ => by rw [hfast]; exact ⟨rfl, rfl⟩⟩
    · rw [ht, clear_flt, clear_flt]; rfl
    · rw [ht]
      have h0 : SameFaults [0x684, 0x685] s s.untripped := SameFaults.of_stands fun _ _ => rfl
      have h1 : SameFaults [0x684, 0x685] s.untripped (s.untripped.clear 0x684 0) := clear_sameFaults (by decide) _ 0
      exact h0.trans (h1.trans (clear_sameFaults (by decide) _ 0))
    · rw [hrelease] at h
      cases h

/-- A cause that has been clear for its hold time goes with its fault. -/
theorem fastPathRelease_spec {s : State} {e : FastEvent} {at_ : Ns} {c : FastCause}
    (hfind : (s.fast.causes.find? fun c => c.event == e) = some c) (hclear : s.causeClear c at_ = true) :
    let t := fastPathRelease e at_ s
    t.fast.causes = (s.fast.causes.filter fun c => !(c.event == e)) ∧
    t.fast.flagged = (s.fast.flagged.filter fun g => !(g.event == e)) ∧
    (e ≠ .persist → e ≠ .request → s.allListed → t.flt.stands (fastFault e) 0 = false) ∧
    (s.img.f.fast.release = false → t.fast.trip = s.fast.trip ∧ t.fast.request = s.fast.request) ∧
    (s.img.f.fast.release = true → s.pace.lock = .idle → (∀ x ∈ s.fast.causes, x.event ≠ e → x.action ≠ 2) →
      t.fast.trip = false ∧ t.fast.request = false) ∧
    SameFaults fastCodes s t ∧ t.now = max s.now at_ ∧
    t = { s with now := t.now, fast := t.fast, pow := t.pow, flt := t.flt } := by
  rw [fastPathRelease_of_clear hfind hclear]
  obtain ⟨hends, hfaults⟩ := endFastFault_faultsOnly (s.dropCause e at_) e
  have hstands (hp : e ≠ .persist) (hr : e ≠ .request) (hl : s.allListed) :
      ((s.dropCause e at_).endFastFault e).flt.stands (fastFault e) 0 = false := endFastFault_stands hp hr hl
  generalize (s.dropCause e at_).endFastFault e = u at *
  obtain ⟨hframe, htrip, hkeeps, hgone⟩ := releaseTrip_spec u
  generalize u.releaseTrip = t at *
  have hfast : u.fast = (s.dropCause e at_).fast := by rw [hends]
  have himg : u.img = s.img := by rw [hends]; rfl
  have hpace : u.pace = s.pace := by rw [hends]; rfl
  refine ⟨?_, ?_, fun hp hr hl => ?_, fun h => ?_, fun h hidle hall => ?_, ?_, ?_, ?_⟩
  · rw [hframe, hfast]; rfl
  · rw [hframe, hfast]; rfl
  · rw [htrip _ _ (fastFault_not_mem hp hr) (by cases e <;> decide)]
    exact hstands hp hr hl
  · have hk := hkeeps (by rw [himg]; exact h)
    rw [hfast] at hk
    exact hk
  · refine hgone (by rw [himg]; exact h) (by rw [hpace]; exact hidle) fun x hx => ?_
    rw [hfast] at hx
    obtain ⟨hmem, hne⟩ := List.mem_filter.mp hx
    exact hall x hmem (by simpa using hne)
  · exact (hfaults.trans (htrip.mono (by decide)))
  · rw [hframe, hends]; rfl
  · rw [hframe, hends]; rfl

/-- Settles O44: the release by its cause and its trip, the read-back by the pins that are driven. -/
theorem fastCausesAreReleased : Obligations.FastCausesAreReleased := by
  refine ⟨fun s e at_ c hfind hclear => ⟨_, rfl, fastPathRelease_spec hfind hclear⟩, fun s p htrip hcap => ⟨_, rfl, ?_⟩⟩
  have hmismatch : pinReadbackMismatch p s = s.raiseFor 0x686 0 100 := by
    unfold pinReadbackMismatch
    refine if_pos ?_
    cases p with
    | tripN => exact htrip rfl
    | cap k => simpa using hcap k rfl
  rw [hmismatch]
  exact ⟨raiseFor_flt _ _ _ _, raiseFor_stands _ _ _ _, raiseFor_sameFaults (by decide) _ 0 100⟩

end Sys2Proof.Machine
end

section
/-!
SUPPORT. The coder of the CAP pins at a latch and without one (R319, R458): statement O42.
-/
namespace Sys2Proof.Machine

/-! ### What a pin codes -/

section
variable {s : State} {k : Nat} {c : Consumer} (hd : s.drivesCaps = true) (h2 : s.domainOn 2 = true) (hk : k < s.code.capPins)
  (hc : s.img.f.consumers[k]? = some c)
include hd h2 hk hc

/-- A driven pin of a missing latch codes a forced zero, or plain zero. -/
theorem capPin_of_missing (hm : s.pow.latchMissing = true) : s.capPin k = if s.forced c.pinDir = true then .forced else .plain 0 := by
  unfold State.capPin
  rw [hc]
  simp [hd, h2, hk, hm]

/-- A driven pin without a zero codes its cap. -/
theorem capPin_of_latched (hf : s.forced c.pinDir = false) (hz : s.pow.frozen = false) (hm : s.pow.latchMissing = false)
    (hdis : c.pinDir = .discharge → s.pow.zeroD = false) (hchg : c.pinDir = .charge → s.pow.zeroC = false) :
    s.capPin k = .plain (capCode s.capSteps (c.fullScale.getD 0)
      (match c.pinDir with | .discharge => (s.pow.latched.getD k (0, 0)).1 | .charge => (s.pow.latched.getD k (0, 0)).2)) := by
  unfold State.capPin
  rw [hc]
  simp only [hd, h2, hk, hf, hz, hm, Bool.not_true, Bool.or_self, decide_true, Bool.false_eq_true, if_false]
  cases hdir : c.pinDir with
  | discharge => simp [hdis hdir]
  | charge => simp [hchg hdir]

end

/-! ### The latch of stitch 63 -/

theorem LinkWork.with_closed {s t : State} (h : LinkWork s t) (out : Output) (closed : List (LedgerEntry × BurstEnd × Nat)) :
    ({ t with out := out, res := { t.res with closed := closed } } : State) =
      { s with out := out, res := { s.res with closed := closed }, flt := t.flt } := by rw [h.frame]

/-- The CAPS and BURST frames touch the links, the closed bursts and the faults. -/
theorem sendCanB_frame (s : State) (began : Bool × Bool) :
    let t := s.sendCanB began
    t = { s with out := t.out, res := { s.res with closed := t.res.closed }, flt := t.flt } := by
  intro t
  unfold t State.sendCanB
  extract_lets u role s1 s2 shown
  have hu : LinkWork s u := ⟨rfl, rfl⟩
  have h2 : LinkWork s s2 := (hu.trans (queueFrame_linkWork u _ _ _ _ _ _ _)).trans (queueFrame_linkWork s1 _ _ _ _ _ _ _)
  split
  · exact hu.frame
  · exact h2.with_closed _ _

theorem capLatch_of_fresh {s : State} (hr : s.rounds = true) (h1 : s.tc1Up = true) (h63 : s.pace.stitch = 63)
    (hfresh : s.pow.capRound = some s.pace.round) (hs : s.stalePub = false) (began : Bool × Bool) (t : Ns) :
    capLatch began t s = ({ s.at t with pow := { s.pow with
      latched := s.capsInForce, zeroD := s.forced .discharge || s.pow.frozen, zeroC := s.forced .charge || s.pow.frozen
      latchMissing := false, latchAt := some s.pace.round } } : State).sendCanB began := by
  unfold capLatch
  rw [if_neg (by simp [hr, h1, h63])]
  have hstale : (s.at t).stalePub = false := hs
  dsimp only
  rw [if_neg (by simp [hstale]), State.latchCaps, if_pos (by simpa using hfresh)]
  rfl

theorem capLatchMissing_of_two {s : State} (hr : s.rounds = true) (hd : s.drivesCaps = true)
    (h : 2 ≤ s.pow.latchMisses + (if s.pace.stitch = 63 ∧ s.pow.latchAt ≠ some s.pace.round then 1 else 0)) :
    capLatchMissing s =
      ({ s with pow := { s.pow with latchMissing := true, zeroD := true, zeroC := true } } : State).raiseFor 0x689 0 100 := by
  have hnow : (decide (s.pace.stitch = 63) && !(s.pow.latchAt == some s.pace.round)).toNat =
      if s.pace.stitch = 63 ∧ s.pow.latchAt ≠ some s.pace.round then 1 else 0 := by
    by_cases h63 : s.pace.stitch = 63 <;> by_cases hat : s.pow.latchAt = some s.pace.round <;> simp [h63, hat]
  unfold capLatchMissing
  refine if_neg ?_
  rw [hnow]
  simp only [hr, hd, not_lt_of_ge h, Bool.and_self, Bool.not_true, decide_false, Bool.or_self, Bool.false_eq_true, not_false_eq_true]

/-- Settles O42: the missing latch by the zero it sets, the latch by the cap it brings. -/
theorem missingLatchCodesPlainZero : Obligations.MissingLatchCodesPlainZero := by
  refine ⟨fun s hr hd hmiss => ⟨_, rfl, ?_⟩, fun s a b at_ k c hr hd h2 h1 h63 hfresh hs hz hk hc hf => ⟨_, rfl, ?_⟩⟩
  · rw [capLatchMissing_of_two hr hd hmiss]
    refine ⟨raiseFor_flt _ _ _ _, raiseFor_stands _ _ _ _,
      (SameFaults.of_stands fun _ _ => rfl).trans (raiseFor_sameFaults (by decide) _ 0 100), fun k c h2 hk hc => ?_⟩
    rw [raiseFor_flt]
    exact capPin_of_missing (s := { s with pow := { s.pow with latchMissing := true, zeroD := true, zeroC := true }, flt := _ }) hd h2 hk hc rfl
  · rw [capLatch_of_fresh hr h1 h63 hfresh hs, sendCanB_frame]
    refine ⟨rfl, ?_⟩
    refine capPin_of_latched (s := { s.at at_ with pow := { s.pow with
      latched := s.capsInForce, zeroD := s.forced .discharge || s.pow.frozen, zeroC := s.forced .charge || s.pow.frozen
      latchMissing := false, latchAt := some s.pace.round }, out := _, res := _, flt := _ }) hd h2 hk hc hf hz rfl ?_ ?_
    · intro hdir
      rw [hdir] at hf
      simp [hf, hz]
    · intro hdir
      rw [hdir] at hf
      simp [hf, hz]

end Sys2Proof.Machine
end

section
/-!
SUPPORT. The path controller (R337 to R346): what entering a path state leaves, by whether the state cuts bursts, and what each condition of a
cycle does; statements O45, O46 and O47 from it.
-/
namespace Sys2Proof.Machine

/-! ### Bursts that are cut (R358) -/

theorem foldl_cutBurst_ledger (t : Ns) (l : List LedgerEntry) (u : State) :
    (l.foldl (fun u e => ((u.closeBurst e .cut t).answer (70 + 10 * e.line) t).raise 0x710 0) u).res.ledger =
      u.res.ledger.filter fun x => !(l.any fun e => x.line == e.line) := by
  induction l generalizing u with
  | nil => simp
  | cons e l ih =>
    have hone : (((u.closeBurst e .cut t).answer (70 + 10 * e.line) t).raise 0x710 0).res.ledger =
        u.res.ledger.filter fun x => !(x.line == e.line) := by
      rw [raise_res]
      unfold State.answer
      split <;> rfl
    rw [List.foldl_cons, ih, hone, List.filter_filter]
    simp [Bool.and_comm]

/-- Every granted burst is cut. -/
theorem cutBursts_ledger (s : State) (t : Ns) : (s.cutBursts t).res.ledger = [] := by
  refine (foldl_cutBurst_ledger t s.res.ledger s).trans (List.filter_eq_nil_iff.mpr fun x hx => ?_)
  have hany : (s.res.ledger.any fun e => x.line == e.line) = true := List.any_eq_true.mpr ⟨x, hx, beq_self_eq_true _⟩
  simp [hany]

theorem cutBursts_free {c d : Nat} (hc : c ≠ 0x710) (t : Ns) {s : State} (hf : s.flt.free c d) : (s.cutBursts t).flt.free c d := by
  have hfold (l : List LedgerEntry) (u : State) (hu : u.flt.free c d) :
      (l.foldl (fun u e => ((u.closeBurst e .cut t).answer (70 + 10 * e.line) t).raise 0x710 0) u).flt.free c d := by
    induction l generalizing u with
    | nil => exact hu
    | cons e l ih =>
      refine ih _ (raiseInst_free _ _ c d (fun h => hc h.1.symm) ?_)
      unfold State.answer
      split <;> exact hu
  exact hfold _ s hf

/-! ### The states of the path (Tables 14-3 and 14-4) -/

/-- The states with both pairs off, in which no burst stands. -/
def PathState.isOff (p : PathState) : Prop := p = .down ∨ p = .cool ∨ p = .latched

theorem enterPath_of_on {p : PathState} (hp : ¬ p.isOff) (s : State) (t : Ns) :
    s.enterPath p t =
      { s with res := { s.res with path := p, since := t, dwellMet := false, gateMain := p.gates.1, gateRes := p.gates.2 } } :=
  if_neg (by simpa [PathState.isOff, or_assoc] using hp)

/-- A state with both pairs off cuts the bursts and turns the gates off. -/
theorem enterPath_of_off {p : PathState} (hp : p.isOff) (s : State) (t : Ns) :
    let u := s.enterPath p t
    u = { s with
      res := { s.res with
        path := p, since := t, dwellMet := false, gateMain := .off, gateRes := .off, ledger := [], closed := u.res.closed
        answers := u.res.answers }
      flt := u.flt } ∧
    SameFaults [0x710] s u ∧ ∀ c d, c ≠ 0x710 → s.flt.free c d → u.flt.free c d := by
  let s1 : State := { s with res := { s.res with
    path := p, since := t, dwellMet := false, gateMain := p.gates.1, gateRes := p.gates.2 } }
  have henter : s.enterPath p t = s1.cutBursts t := if_pos (by rcases hp with rfl | rfl | rfl <;> rfl)
  have hgates : p.gates = (.off, .off) := by rcases hp with rfl | rfl | rfl <;> rfl
  have h1 : s1 = { s with res := { s.res with path := p, since := t, dwellMet := false, gateMain := .off, gateRes := .off } } := by
    simp only [s1, hgates]
  obtain ⟨hframe, hfaults⟩ := cutBursts_cutsBursts s1 t
  have hledger := cutBursts_ledger s1 t
  have hfree (c d : Nat) (hc : c ≠ 0x710) (hf : s1.flt.free c d) := cutBursts_free hc t hf
  rw [henter]
  generalize s1.cutBursts t = u at *
  refine ⟨?_, (SameFaults.of_stands fun _ _ => rfl).trans hfaults, hfree⟩
  rw [hledger] at hframe
  rw [h1] at hframe
  exact hframe

/-! ### The loss of VMAIN (R340, R342) -/

/-- Without VMAIN the reserve pair waits, where the store is in order; else the path is down. -/
theorem loseMain_spec (s : State) (t : Ns) :
    let u := s.loseMain t
    (s.storeOk = true → u.res.path = .handover ∧ u.res.gateMain = .off ∧ u.res.gateRes = .waiting ∧ u.res.ledger = s.res.ledger) ∧
    (s.storeOk = false → u.res.path = .down ∧ u.res.gateMain = .off ∧ u.res.gateRes = .off ∧ u.flt.stands 0x711 0 = true ∧
      u.res.ledger = []) ∧
    u.res.aborts = s.res.aborts ∧ u.res.damping = s.res.damping ∧ u.res.since = t ∧ u.res.stackLow = s.res.stackLow ∧
    SameFaults [0x710, 0x711] s u ∧ u = { s with res := u.res, flt := u.flt } := by
  intro u
  cases hok : s.storeOk with
  | true =>
    have hu : u = s.enterPath .handover t := if_pos hok
    rw [hu, enterPath_of_on (by simp [PathState.isOff])]
    exact ⟨fun _ => ⟨rfl, rfl, rfl, rfl⟩, nofun, rfl, rfl, rfl, rfl, SameFaults.of_stands fun _ _ => rfl, rfl⟩
  | false =>
    have hu : u = (s.enterPath .down t).raise 0x711 0 := if_neg (by simp [hok])
    obtain ⟨hframe, hfaults, -⟩ := enterPath_of_off (p := .down) (.inl rfl) s t
    have hres : u.res = (s.enterPath .down t).res := by rw [hu, raise_res]
    have hstands : u.flt.stands 0x711 0 = true := by rw [hu]; exact raise_stands _ _ _
    have hsame : SameFaults [0x710, 0x711] s u := by
      rw [hu]
      exact (hfaults.mono (by decide)).trans (raise_sameFaults (by decide) _ 0)
    have hrest : u = { s with res := u.res, flt := u.flt } := by
      rw [hres, hu, raise_flt]
      rw [hframe]
    rw [hframe] at hres
    exact ⟨nofun, fun _ => ⟨by rw [hres], by rw [hres], by rw [hres], hstands, by rw [hres]⟩, by rw [hres], by rw [hres], by rw [hres],
      by rw [hres], hsame, hrest⟩

/-- A hand-back that is aborted counts, and the third in 10 s damps the path. -/
def State.abortHandback (s : State) (t : Ns) : State :=
  let l := t :: s.res.aborts.filter fun a => decide (t < a + 10000000000)
  let u : State := { s with res := { s.res with aborts := l } }
  if 3 ≤ l.length then ({ u with res := { u.res with damping := true } } : State).raise 0x703 0 else u

theorem abortHandback_spec (s : State) (t : Ns) :
    let u := s.abortHandback t
    u = { s with res := { s.res with aborts := u.res.aborts, damping := u.res.damping }, flt := u.flt } ∧
    u.res.aborts = t :: (s.res.aborts.filter fun a => decide (t < a + 10000000000)) ∧
    (3 ≤ u.res.aborts.length → u.res.damping = true ∧ u.flt.stands 0x703 0 = true) ∧ SameFaults [0x703] s u := by
  intro u
  by_cases h : 3 ≤ (t :: s.res.aborts.filter fun a => decide (t < a + 10000000000)).length
  · have hu := show u = _ from if_pos h
    rw [hu]
    refine ⟨?_, by rw [raise_res], fun _ => ⟨by rw [raise_res], raise_stands _ _ _⟩,
      (SameFaults.of_stands fun _ _ => rfl).trans (raise_sameFaults (by decide) _ 0)⟩
    rw [raise_res, raise_flt]
  · have hu := show u = _ from if_neg h
    rw [hu]
    exact ⟨rfl, rfl, fun h3 => absurd h3 h, SameFaults.of_stands fun _ _ => rfl⟩

theorem takeFail_of_handback {s : State} (h : s.res.path = .handback) (t : Ns) : s.takeFail t = (s.abortHandback t).loseMain t := by
  unfold State.takeFail
  rw [h]
  rfl

theorem takeFail_of_vehicle {s : State} (h : s.res.path = .vehicle ∨ s.res.path = .rampM) (t : Ns) : s.takeFail t = s.loseMain t := by
  unfold State.takeFail
  rcases h with h | h <;> rw [h]

/-! ### One cycle of the controller (R339) -/

/-- With nothing that goes before it, the given condition is taken. -/
theorem cycle_of_quiet {s : State} {x : PathSense} (hs : x.short = false) (hf : x.floor = false) (hl : x.fail = false) (act : State → State) :
    s.cycle x act = act (s.sense x) := by simp [State.cycle, hs, hf, hl]

theorem vmainFail_of_main {s : State} {x : PathSense} (h1 : s.sup.p1 = true) (hs : x.short = false)
    (hp : s.res.path = .vehicle ∨ s.res.path = .rampM ∨ s.res.path = .handback) : vmainFail x s = (s.sense x).takeFail x.t := by
  have hpath : (s.sense x).res.path = s.res.path := rfl
  have hfeeds : ((s.sense x).res.path == PathState.handover || (s.sense x).res.path == PathState.reserve) = false := by
    rw [hpath]
    rcases hp with h | h | h <;> rw [h] <;> rfl
  unfold vmainFail State.cycle
  rw [if_neg (by simp [h1])]
  dsimp only
  rw [if_neg (by simp [hs]), if_neg (by simp [hfeeds])]
  exact ite_self _

theorem vmainFail_spec {s : State} {x : PathSense} (h1 : s.sup.p1 = true) (hs : x.short = false)
    (hp : s.res.path = .vehicle ∨ s.res.path = .rampM ∨ s.res.path = .handback) :
    let t := vmainFail x s
    ((s.sense x).storeOk = true → t.res.path = .handover ∧ t.res.gateMain = .off ∧ t.res.gateRes = .waiting ∧
      t.res.ledger = s.res.ledger) ∧
    ((s.sense x).storeOk = false → t.res.path = .down ∧ t.res.gateMain = .off ∧ t.res.gateRes = .off ∧
      t.flt.stands 0x711 0 = true ∧ t.res.ledger = []) ∧
    (s.res.path ≠ .handback → t.res.aborts = s.res.aborts ∧ t.res.damping = s.res.damping) ∧
    (s.res.path = .handback → t.res.aborts = x.t :: (s.res.aborts.filter fun a => decide (x.t < a + 10000000000)) ∧
      (3 ≤ t.res.aborts.length → t.res.damping = true ∧ t.flt.stands 0x703 0 = true)) ∧
    t.res.since = x.t ∧ t.res.stackLow = x.stackLow ∧ SameFaults [0x703, 0x710, 0x711] s t ∧ t.now = max s.now x.t ∧
    t = { s with now := t.now, res := t.res, flt := t.flt } := by
  rw [vmainFail_of_main h1 hs hp]
  by_cases hh : s.res.path = .handback
  · rw [takeFail_of_handback (s := s.sense x) hh]
    obtain ⟨hframe, haborts, hdamps, hfaults⟩ := abortHandback_spec (s.sense x) x.t
    generalize (s.sense x).abortHandback x.t = v at *
    obtain ⟨hok, hbad, ha, hd, hsince, hlow, hsame, hrest⟩ := loseMain_spec v x.t
    have hstore : v.storeOk = (s.sense x).storeOk := by rw [hframe]; rfl
    have hledger : v.res.ledger = s.res.ledger := by rw [hframe]; rfl
    rw [hstore, hledger] at hok
    rw [hstore] at hbad
    refine ⟨hok, hbad, fun h => absurd hh h, fun _ => ⟨ha.trans haborts, fun h3 => ?_⟩, hsince, ?_, ?_, ?_, ?_⟩
    · rw [ha] at h3
      obtain ⟨hdamp, hstands⟩ := hdamps h3
      exact ⟨hd.trans hdamp, (hsame _ _ (by decide) (by decide)).trans hstands⟩
    · rw [hlow, hframe]; rfl
    · exact ((SameFaults.of_stands fun _ _ => rfl : SameFaults _ s (s.sense x)).trans (hfaults.mono (by decide))).trans
        (hsame.mono (by decide))
    · rw [hrest, hframe]; rfl
    · rw [hrest, hframe]; rfl
  · rw [takeFail_of_vehicle (s := s.sense x) (hp.imp_right fun h => h.resolve_right hh)]
    obtain ⟨hok, hbad, ha, hd, hsince, hlow, hsame, hrest⟩ := loseMain_spec (s.sense x) x.t
    generalize (s.sense x).loseMain x.t = u at *
    exact ⟨hok, hbad, fun _ => ⟨ha, hd⟩, fun h => absurd h hh, hsince, hlow,
      (SameFaults.of_stands fun _ _ => rfl : SameFaults _ s (s.sense x)).trans (hsame.mono (by decide)), by rw [hrest]; rfl, by rw [hrest]; rfl⟩


/-! ### The main pair is taken up (R337, R338, R341) -/

/-- The main pair ramps in RAMP_M, or waits for the other pair's gate. -/
theorem rampMain_eq (s : State) (otherHigh : Bool) (t : Ns) :
    s.rampMain otherHigh t = { s with res := { s.res with
      path := .rampM, since := t, dwellMet := false, gateMain := (if otherHigh then .waiting else .ramping), gateRes := .off } } := by
  unfold State.rampMain
  rw [enterPath_of_on (by simp [PathState.isOff])]
  cases otherHigh <;> rfl

theorem goodChange_of_on {s : State} (h1 : s.sup.p1 = true) (g : Bool) (at_ : Ns) :
    goodChange g at_ s =
      { s with now := max s.now at_, res := { s.res with good := g, goodFrom := at_, stable := false } } :=
  if_neg (by simp [h1])

/-- What STABLE starts, by the state of the path. -/
def State.takeStable (u : State) (x : PathSense) : State :=
  match u.res.path with
  | .down => if u.sup.storeFn then u.rampMain x.otherHigh x.t else u
  | .reserve => if u.res.dwellMet then u.enterPath .handback x.t else u
  | _ => u

theorem stableReached_of_quiet {s : State} {x : PathSense} (hst : s.res.isStable x.t = true) (h1 : s.sup.p1 = true) (hs : x.short = false)
    (hf : x.floor = false) (hl : x.fail = false) :
    stableReached x s = (({ s with res := { s.res with stable := true } } : State).sense x).takeStable x := by
  unfold stableReached
  rw [if_neg (by simp [hst, h1]), cycle_of_quiet hs hf hl]
  rfl

theorem takeStable_spec (u : State) (x : PathSense) :
    let t := u.takeStable x
    t.res.stable = u.res.stable ∧ t = { u with res := t.res } ∧
    (u.res.path = .down → u.sup.storeFn = true →
      t.res.path = .rampM ∧ t.res.gateMain = (if x.otherHigh then .waiting else .ramping) ∧ t.res.since = x.t) ∧
    (u.res.path = .reserve → u.res.dwellMet = true → t.res.path = .handback ∧ t.res.gateMain = .waiting ∧ t.res.gateRes = .off) ∧
    ((u.res.path ≠ .down ∧ u.res.path ≠ .reserve) ∨ (u.res.path = .down ∧ u.sup.storeFn = false) ∨
      (u.res.path = .reserve ∧ u.res.dwellMet = false) → t.res = u.res) := by
  have hback (h : ¬ PathState.handback.isOff) := enterPath_of_on h u x.t
  cases hp : u.res.path with
  | down =>
    cases hfn : u.sup.storeFn with
    | true =>
      have ht : u.takeStable x = u.rampMain x.otherHigh x.t := by simp [State.takeStable, hp, hfn]
      rw [ht, rampMain_eq]
      simp
    | false =>
      have ht : u.takeStable x = u := by simp [State.takeStable, hp, hfn]
      simp [ht]
  | reserve =>
    cases hd : u.res.dwellMet with
    | true =>
      have ht : u.takeStable x = u.enterPath .handback x.t := by simp [State.takeStable, hp, hd]
      rw [ht, hback (by simp [PathState.isOff])]
      simp [PathState.gates]
    | false =>
      have ht : u.takeStable x = u := by simp [State.takeStable, hp, hd]
      simp [ht]
  | _ =>
    have ht : u.takeStable x = u := by simp [State.takeStable, hp]
    simp [ht]

/-- The dwell in RESERVE ends, and a stable VMAIN is handed back to. -/
theorem pathDwellEnd_of_quiet {s : State} {x : PathSense} (hp : s.res.path = .reserve)
    (hd : ((s.res.since : Nat) : Rat) + s.img.f.path.dwellMin * 1000000 ≤ (x.t : Rat)) (hs : x.short = false) (hf : x.floor = false)
    (hl : x.fail = false) :
    let u := ({ s with res := { s.res with dwellMet := true } } : State).sense x
    pathDwellEnd x s = if s.res.isStable x.t then u.enterPath .handback x.t else u := by
  unfold pathDwellEnd
  rw [if_pos ⟨hp, hd⟩, cycle_of_quiet hs hf hl]
  rfl

/-- Settles O45: the loss by `vmainFail_spec`, the take-up by `takeStable_spec`, and the dwell by its branches. -/
theorem vmainIsLostAndTakenUp : Obligations.VmainIsLostAndTakenUp := by
  refine ⟨fun s x h1 hp hs => ⟨_, rfl, vmainFail_spec h1 hs hp⟩, fun s g at_ h1 => ⟨_, rfl, goodChange_of_on h1 g at_⟩, ?_, ?_⟩
  · intro s x hst h1 hs hf hl
    refine ⟨_, rfl, ?_⟩
    rw [stableReached_of_quiet hst h1 hs hf hl]
    obtain ⟨hstable, hframe, hdown, hreserve, helse⟩ :=
      takeStable_spec (({ s with res := { s.res with stable := true } } : State).sense x) x
    exact ⟨hstable, hframe, hdown, hreserve, helse⟩
  · intro s x hp hd hs hf hl
    refine ⟨_, rfl, ?_⟩
    rw [pathDwellEnd_of_quiet hp hd hs hf hl]
    cases hst : s.res.isStable x.t with
    | true =>
      rw [if_pos rfl, enterPath_of_on (by simp [PathState.isOff])]
      exact ⟨rfl, nofun, fun _ => ⟨rfl, rfl, rfl, rfl⟩⟩
    | false => exact ⟨rfl, fun _ => rfl, nofun⟩

/-! ### The ramps, the floor, the damping and the gates (R339 to R344, R358) -/

theorem reservePrecharge_of_due {s : State} {at_ : Ns} (hp : s.res.path = .handover) (hg : s.res.gateRes = .waiting)
    (hd : s.res.since + 3000 ≤ at_) :
    reservePrecharge false at_ s = { s with now := max s.now at_, res := { s.res with gateRes := .ramping } } :=
  if_pos ⟨hp, hg, hd, rfl⟩

theorem mainPrecharge_of_due {s : State} {at_ : Ns} (hg : s.res.gateMain = .waiting)
    (hd : s.res.since + (if s.res.path = .handback then 3000 else 0) ≤ at_) :
    mainPrecharge false at_ s = { s with now := max s.now at_, res := { s.res with gateMain := .ramping } } :=
  if_pos ⟨hg, hd, rfl⟩

theorem rampComplete_of_quiet {s : State} {x : PathSense} (h1 : s.sup.p1 = true) (hs : x.short = false) (hf : x.floor = false)
    (hl : x.fail = false) (hg : s.res.gateMain = .ramping ∨ s.res.gateRes = .ramping) :
    rampComplete x s = (s.sense x).enterPath (if s.res.gateMain = .ramping then .vehicle else .reserve) x.t := by
  unfold rampComplete
  dsimp only
  rw [if_neg (by rcases hg with h | h <;> simp [h1, h]), cycle_of_quiet hs hf hl]
  simp only [beq_iff_eq]
  rfl

/-- Below its floor the store feeds nothing, and no burst stands (R337, R342). -/
theorem takeFloor_spec (s : State) (t : Ns) :
    let u := s.takeFloor t
    u.res.cellLow = s.res.cellLow ∧ u.res.stackLow = s.res.stackLow ∧
    (s.res.path = .handover ∨ s.res.path = .reserve →
      u.res.path = .down ∧ u.res.gateMain = .off ∧ u.res.gateRes = .off ∧ u.res.ledger = [] ∧ u.flt.stands 0x704 0 = true) ∧
    (s.res.path ≠ .handover → s.res.path ≠ .reserve → u.res.path = s.res.path ∧ u.res.ledger = []) ∧
    SameFaults [0x704, 0x710] s u ∧ u = { s with now := max s.now t, res := u.res, flt := u.flt } := by
  intro u
  by_cases hfeeds : s.res.path = .handover ∨ s.res.path = .reserve
  · have hu : u = ((s.at t).enterPath .down t).raise 0x704 0 := by
      simp only [u]
      unfold State.takeFloor
      rcases hfeeds with h | h <;> rw [h]
    obtain ⟨hframe, hfaults, -⟩ := enterPath_of_off (p := .down) (.inl rfl) (s.at t) t
    generalize (s.at t).enterPath .down t = v at *
    have hres : u.res = v.res := by rw [hu, raise_res]
    have hstands : u.flt.stands 0x704 0 = true := by rw [hu]; exact raise_stands _ _ _
    have hsame : SameFaults [0x704, 0x710] s u := by
      rw [hu]
      exact (((SameFaults.of_stands fun _ _ => rfl : SameFaults _ s (s.at t)).trans hfaults).mono (by decide)).trans
        (raise_sameFaults (by decide) _ 0)
    have hrest : u = { s with now := max s.now t, res := u.res, flt := u.flt } := by
      rw [hres, hu, raise_flt]
      rw [hframe]
      rfl
    rw [hframe] at hres
    refine ⟨by rw [hres]; rfl, by rw [hres]; rfl, fun _ => ⟨by rw [hres], by rw [hres], by rw [hres], by rw [hres], hstands⟩,
      fun h1 h2 => absurd hfeeds (by simp [h1, h2]), hsame, hrest⟩
  · have hu : u = (s.at t).cutBursts t := by
      simp only [u]
      unfold State.takeFloor
      split
      · exact absurd (.inl ‹_›) hfeeds
      · exact absurd (.inr ‹_›) hfeeds
      · rfl
    obtain ⟨hframe, hfaults⟩ := cutBursts_cutsBursts (s.at t) t
    have hledger : u.res.ledger = [] := by rw [hu]; exact cutBursts_ledger _ _
    rw [← hu] at hframe hfaults
    clear_value u
    refine ⟨by rw [hframe]; rfl, by rw [hframe]; rfl, fun h => absurd h hfeeds, fun _ _ => ⟨by rw [hframe]; rfl, hledger⟩,
      ((SameFaults.of_stands fun _ _ => rfl : SameFaults _ s (s.at t)).trans hfaults).mono (by decide), ?_⟩
    rw [hframe]; rfl

theorem floor_of_quiet {s : State} {src : FloorSource} {x : PathSense} (h1 : s.sup.p1 = true) (hs : x.short = false)
    (hcell : src = .cell → s.res.cellLow = true ∧ s.sup.dev ≠ .park) :
    floor_ src x s = (s.sense { x with stackLow := x.stackLow || decide (src = .stack), floor := false, fail := false }).takeFloor x.t := by
  unfold floor_
  rw [if_neg (by simp [h1])]
  cases src with
  | cell =>
    dsimp only
    rw [if_pos (hcell rfl), cycle_of_quiet (by exact hs) rfl rfl]
    simp
  | stack =>
    dsimp only
    rw [cycle_of_quiet (by exact hs) rfl rfl]
    simp

theorem dampingEnd_spec {s : State} {at_ : Ns} (hd : s.res.damping = true) (hp : s.res.path = .vehicle)
    (hdue : s.res.since + 60000000000 ≤ at_) :
    let t := dampingEnd at_ s
    t = { s with now := max s.now at_, res := { s.res with damping := false }, flt := t.flt } ∧
    (s.allListed → t.flt.stands 0x703 0 = false) ∧ SameFaults [0x703] s t := by
  have ht : dampingEnd at_ s = (({ s with res := { s.res with damping := false } } : State).at at_).clear 0x703 0 :=
    if_pos ⟨hd, hp, hdue⟩
  have hfaults : SameFaults [0x703] s (dampingEnd at_ s) := by
    rw [ht]
    exact (SameFaults.of_stands fun _ _ => rfl).trans (clear_sameFaults (by decide) _ 0)
  refine ⟨?_, fun hall => ?_, hfaults⟩
  · rw [ht, clear_flt]; rfl
  · rw [ht]; exact clear_stands _ _ _ hall (by decide)

theorem gateInterlockTimeout_spec {s : State} {at_ : Ns} (hg : s.res.gateMain = .waiting ∨ s.res.gateRes = .waiting)
    (hd : s.res.since + (if s.res.path = .rampM then 10000 else 13000) ≤ at_) :
    let t := gateInterlockTimeout at_ s
    t.res.path = .cool ∧ t.res.gateMain = .off ∧ t.res.gateRes = .off ∧ t.res.ledger = [] ∧ t.flt.stands 0x70A 0 = true ∧
    SameFaults [0x70A, 0x710] s t ∧ t = { s with now := max s.now at_, res := t.res, flt := t.flt } := by
  intro t
  have ht : t = ((s.at at_).raiseFor 0x70A 0 100).enterPath .cool at_ := if_pos ⟨hg, hd⟩
  have hraise : SameFaults [0x70A, 0x710] s ((s.at at_).raiseFor 0x70A 0 100) :=
    (SameFaults.of_stands fun _ _ => rfl).trans (raiseFor_sameFaults (by decide) _ _ _)
  have hstands : ((s.at at_).raiseFor 0x70A 0 100).flt.stands 0x70A 0 = true := raiseFor_stands _ _ _ _
  have hrest := raiseFor_flt (s.at at_) 0x70A 0 100
  generalize (s.at at_).raiseFor 0x70A 0 100 = v at *
  obtain ⟨hframe, hfaults, -⟩ := enterPath_of_off (p := .cool) (.inr (.inl rfl)) v at_
  rw [← ht] at hframe hfaults
  clear_value t
  refine ⟨by rw [hframe], by rw [hframe], by rw [hframe], by rw [hframe], (hfaults _ _ (by decide) (by decide)).trans hstands,
    hraise.trans (hfaults.mono (by decide)), ?_⟩
  rw [hframe, hrest]
  rfl

theorem gateMonitorFault_of_settled {s : State} {p : Pair} (h1 : s.sup.p1 = true)
    (hg : (if p = .main then s.res.gateMain else s.res.gateRes) = .full ∨ (if p = .main then s.res.gateMain else s.res.gateRes) = .off)
    (at_ : Ns) : gateMonitorFault p at_ s = (s.at at_).raiseFor 0x70A 0 100 := by
  cases p with
  | main => exact if_pos ⟨h1, hg⟩
  | reserve => exact if_pos ⟨h1, hg⟩

/-- Settles O46: each command by what it does under its condition, and the floor by `takeFloor_spec`. -/
theorem pairsRampAndGatesAreWatched : Obligations.PairsRampAndGatesAreWatched := by
  refine ⟨⟨fun s at_ hp hg hd => ⟨_, rfl, reservePrecharge_of_due hp hg hd⟩,
    fun s at_ hp hg hd => ⟨_, rfl, mainPrecharge_of_due hg (by simpa [hp] using hd)⟩,
    fun s at_ hp hg hd => ⟨_, rfl, mainPrecharge_of_due hg (by simpa [hp] using hd)⟩,
    fun s x h1 hs hf hl => ⟨fun hg => ⟨_, rfl, ?_⟩, fun hn hg => ⟨_, rfl, ?_⟩⟩⟩,
    fun s src x h1 hs hcell => ⟨_, rfl, ?_⟩, fun s at_ hd hp hdue => ⟨_, rfl, dampingEnd_spec hd hp hdue⟩,
    fun s at_ hg hd => ⟨_, rfl, gateInterlockTimeout_spec hg hd⟩, fun s p at_ h1 hg => ⟨_, rfl, ?_⟩⟩
  · rw [rampComplete_of_quiet h1 hs hf hl (.inl hg), if_pos hg, enterPath_of_on (by simp [PathState.isOff])]
    rfl
  · rw [rampComplete_of_quiet h1 hs hf hl (.inr hg), if_neg hn, enterPath_of_on (by simp [PathState.isOff])]
    rfl
  · rw [floor_of_quiet h1 hs hcell]
    obtain ⟨hcl, hsl, hfeeds, hother, hfaults, hframe⟩ :=
      takeFloor_spec (s.sense { x with stackLow := x.stackLow || decide (src = .stack), floor := false, fail := false }) x.t
    have hnow : max (max s.now x.t) x.t = max s.now x.t := by simp
    refine ⟨hcl, hsl, hfeeds, hother, (SameFaults.of_stands fun _ _ => rfl : SameFaults _ s (s.sense _)).trans hfaults, hframe.trans ?_⟩
    rw [← hnow]
    rfl
  · rw [gateMonitorFault_of_settled h1 hg]
    have hfaults : SameFaults [0x70A] s ((s.at at_).raiseFor 0x70A 0 100) :=
      (SameFaults.of_stands fun _ _ => rfl).trans (raiseFor_sameFaults (by decide) _ _ _)
    refine ⟨?_, raiseFor_stands _ _ _ _, hfaults⟩
    rw [raiseFor_flt]; rfl

/-! ### Shorts (R345, R346) -/

/-- A short turns both pairs off; the fourth of a count latches. -/
theorem takeShort_spec {s : State} (hon : s.res.pairOn = true) (at_ : Ns) :
    let t := s.takeShort at_
    t.res.path = (if 4 ≤ s.res.shorts + 1 then .latched else .cool) ∧ t.res.shorts = s.res.shorts + 1 ∧ t.res.gateMain = .off ∧
    t.res.gateRes = .off ∧ t.res.since = at_ ∧ t.res.ledger = [] ∧ t.flt.stands 0x701 0 = true ∧
    (3 ≤ s.res.shorts → t.flt.stands 0x702 0 = true) ∧ SameFaults [0x701, 0x702, 0x710] s t ∧
    t = { s with now := max s.now at_, res := t.res, flt := t.flt } := by
  intro t
  let s1 := (({ s with res := { s.res with shorts := s.res.shorts + 1 } } : State).at at_).raise 0x701 0
  have hs1 : t = if 4 ≤ s.res.shorts + 1 then (s1.enterPath .latched at_).raise 0x702 0 else s1.enterPath .cool at_ :=
    if_neg (by simp [hon])
  have hstands : s1.flt.stands 0x701 0 = true := raise_stands _ _ _
  have hraise : SameFaults [0x701, 0x702, 0x710] s s1 :=
    (SameFaults.of_stands fun _ _ => rfl).trans (raise_sameFaults (by decide) _ 0)
  have hrest : s1 = _ := raise_flt _ 0x701 0
  generalize s1 = v at *
  clear s1
  by_cases h4 : 4 ≤ s.res.shorts + 1
  · rw [if_pos h4] at hs1 ⊢
    obtain ⟨hframe, hfaults, -⟩ := enterPath_of_off (p := .latched) (.inr (.inr rfl)) v at_
    generalize v.enterPath .latched at_ = w at *
    have hres : t.res = w.res := by rw [hs1, raise_res]
    have h702 : t.flt.stands 0x702 0 = true := by rw [hs1]; exact raise_stands _ _ _
    have hlast : SameFaults [0x702] w t := by rw [hs1]; exact raise_sameFaults (by decide) _ 0
    have htf : t = { w with flt := t.flt } := by rw [hs1]; exact raise_flt _ _ _
    clear_value t
    rw [hres]
    refine ⟨by rw [hframe], by rw [hframe, hrest]; rfl, by rw [hframe], by rw [hframe], by rw [hframe], by rw [hframe],
      ((hlast _ _ (by decide) (by decide)).trans (hfaults _ _ (by decide) (by decide))).trans hstands, fun _ => h702,
      (hraise.trans (hfaults.mono (by decide))).trans (hlast.mono (by decide)), ?_⟩
    rw [htf, hframe, hrest]
    rfl
  · rw [if_neg h4] at hs1 ⊢
    obtain ⟨hframe, hfaults, -⟩ := enterPath_of_off (p := .cool) (.inr (.inl rfl)) v at_
    rw [← hs1] at hframe hfaults
    clear_value t
    refine ⟨by rw [hframe], by rw [hframe, hrest]; rfl, by rw [hframe], by rw [hframe], by rw [hframe], by rw [hframe],
      (hfaults _ _ (by decide) (by decide)).trans hstands, fun h => absurd h (by omega), hraise.trans (hfaults.mono (by decide)), ?_⟩
    rw [hframe, hrest]
    rfl

theorem vmainFail_of_short {s : State} {x : PathSense} (h1 : s.sup.p1 = true) (hs : x.short = true) (hon : s.res.pairOn = true) :
    vmainFail x s = (s.sense x).takeShort x.t := by
  have hpair : (s.sense x).res.pairOn = true := hon
  unfold vmainFail State.cycle
  rw [if_neg (by simp [h1])]
  dsimp only
  rw [if_pos (by simp [hs, hpair])]

theorem enterPath_since (s : State) (p : PathState) (t : Ns) : (s.enterPath p t).res.since = t := by
  by_cases hp : p.isOff
  · rw [(enterPath_of_off hp s t).1]
  · rw [enterPath_of_on hp]

theorem coolEnd_spec {s : State} {x : PathSense} (hp : s.res.path = .cool)
    (hd : ((s.res.since : Nat) : Rat) + s.img.f.path.shortCool * 1000000 ≤ (x.t : Rat)) :
    let t := coolEnd x s
    t.res.path = (if s.res.good then .rampM else if (s.sense x).storeOk then .handover else .down) ∧ t.res.since = x.t ∧
    t = { s with now := max s.now x.t, res := t.res, flt := t.flt } ∧ SameFaults [0x710] s t := by
  have ht : coolEnd x s = if s.res.good then (s.sense x).rampMain x.otherHigh x.t
      else (s.sense x).enterPath (if (s.sense x).storeOk then .handover else .down) x.t := if_pos ⟨hp, hd⟩
  rw [ht]
  by_cases hg : s.res.good = true
  · rw [if_pos hg, if_pos hg, rampMain_eq]
    exact ⟨rfl, rfl, rfl, SameFaults.of_stands fun _ _ => rfl⟩
  · rw [if_neg hg, if_neg hg]
    obtain ⟨hframe, hfaults, hpath, -⟩ := enterPath_spec (s.sense x) (if (s.sense x).storeOk then .handover else .down) x.t
    exact ⟨hpath, enterPath_since _ _ _, hframe, (SameFaults.of_stands fun _ _ => rfl : SameFaults _ s (s.sense x)).trans hfaults⟩

theorem shortCountReset_spec {s : State} {at_ : Ns} (hp : s.res.path = .vehicle ∨ s.res.path = .reserve)
    (hd : s.res.since + 10000000000 ≤ at_) :
    let t := shortCountReset at_ s
    t = { s with now := max s.now at_, res := { s.res with shorts := 0 }, flt := t.flt } ∧
    (s.allListed → t.flt.stands 0x701 0 = false) ∧ SameFaults [0x701] s t := by
  have ht : shortCountReset at_ s = (({ s with res := { s.res with shorts := 0 } } : State).at at_).clear 0x701 0 := if_pos ⟨hp, hd⟩
  have hfaults : SameFaults [0x701] s (shortCountReset at_ s) := by
    rw [ht]
    exact (SameFaults.of_stands fun _ _ => rfl).trans (clear_sameFaults (by decide) _ 0)
  refine ⟨?_, fun hall => ?_, hfaults⟩
  · rw [ht, clear_flt]; rfl
  · rw [ht]; exact clear_stands _ _ _ hall (by decide)

theorem latchedExit_spec {s : State} {at_ : Ns} (hp : s.res.path = .latched) (hgood : s.res.since ≤ s.res.goodFrom)
    (hst : s.res.isStable at_ = true) :
    let t := latchedExit at_ s
    t.res.path = .down ∧ t.res.shorts = 0 ∧ t.res.stable = true ∧ t.res.since = at_ ∧
    (s.allListed → t.flt.stands 0x702 0 = false ∧ t.flt.stands 0x701 0 = false) ∧
    SameFaults [0x701, 0x702, 0x710] s t ∧ t = { s with now := max s.now at_, res := t.res, flt := t.flt } := by
  intro t
  let s1 := ({ s with res := { s.res with shorts := 0, stable := true } } : State).at at_
  have ht : t = ((s1.enterPath .down at_).clear 0x702 0).clear 0x701 0 := if_pos ⟨hp, hgood, hst⟩
  obtain ⟨hframe, hfaults, hfree⟩ := enterPath_of_off (p := .down) (.inl rfl) s1 at_
  generalize s1.enterPath .down at_ = w at *
  have hres : t.res = w.res := by rw [ht, clear_res, clear_res]
  have hsame : SameFaults [0x701, 0x702, 0x710] w t := by
    rw [ht]
    exact (clear_sameFaults (by decide) _ 0).trans (clear_sameFaults (by decide) _ 0)
  have htf : t = { w with flt := t.flt } := by rw [ht, clear_flt, clear_flt]
  have hcleared (hall : s.allListed) : t.flt.stands 0x702 0 = false ∧ t.flt.stands 0x701 0 = false := by
    have hfree1 := hfree 0x701 0 (by decide) (Faults.free_of_listed hall _ _)
    have hfree2 := hfree 0x702 0 (by decide) (Faults.free_of_listed hall _ _)
    rw [ht]
    exact ⟨(clear_stands_ne _ _ _ _ _ (by decide)).trans (clear_stands_free _ _ _ hfree2 (by decide)),
      clear_stands_free _ _ _ (clear_free _ _ _ _ _ hfree1) (by decide)⟩
  clear_value t
  rw [hres]
  refine ⟨by rw [hframe], by rw [hframe]; rfl, by rw [hframe]; rfl, by rw [hframe], hcleared,
    ((SameFaults.of_stands fun _ _ => rfl : SameFaults _ s s1).trans (hfaults.mono (by decide))).trans hsame, ?_⟩
  rw [htf, hframe]
  rfl

/-- Settles O47: the shorts by `takeShort_spec`, and the ways out of COOL and LATCHED by their conditions. -/
theorem shortsCoolAndLatch : Obligations.ShortsCoolAndLatch := by
  refine ⟨fun s at_ hon => ⟨_, rfl, takeShort_spec hon at_⟩, fun s x hp hd => ⟨_, rfl, coolEnd_spec hp hd⟩,
    fun s x h1 hs hon => ⟨_, rfl, ?_⟩, fun s at_ hp hd => ⟨_, rfl, shortCountReset_spec hp hd⟩,
    fun s at_ hp hgood hst => ⟨_, rfl, latchedExit_spec hp hgood hst⟩⟩
  rw [vmainFail_of_short h1 hs hon]
  obtain ⟨hpath, -, -, -, -, -, hstands, -⟩ := takeShort_spec (s := s.sense x) hon x.t
  exact ⟨hpath, hstands, (State.takeShort_fixed _ _).trans (State.sense_fixed _ _)⟩

end Sys2Proof.Machine
end

section
/-!
SUPPORT. The presence of the store (R333, R334): statement O48.
-/
namespace Sys2Proof.Machine

theorem storeAbsent_of_due {s : State} (hcells : s.storeCells ≠ 0) (habs : s.res.absent = false)
    (hdue : s.sup.dev = .park ∨ 10 ≤ s.res.presRuns.bad) :
    storeAbsent s = ({ s with res := { s.res with absent := true } } : State).raise 0x705 0 := by
  unfold storeAbsent
  rw [if_neg (by simp [hcells, habs]), if_pos hdue]

theorem storePresent_of_park {s : State} (habs : s.res.absent = true) (hpark : s.sup.dev = .park) :
    storePresent s = ({ s with res := { s.res with absent := false, swapped := true } } : State).clear 0x705 0 := by
  unfold storePresent
  rw [if_neg (by simp [habs]), if_pos hpark]

theorem storePresent_of_run {s : State} (habs : s.res.absent = true) (hpark : s.sup.dev ≠ .park) (hgood : 10 ≤ s.res.presRuns.good) :
    storePresent s = (({ s with res := { s.res with absent := false } } : State).clear 0x705 0).storeChange := by
  unfold storePresent
  rw [if_neg (by simp [habs]), if_neg hpark, if_pos hgood]

/-- A fresh start leaves the classical estimators as they are. -/
theorem freshStart_cls (s : State) (sel : CellId → Bool) : (s.freshStart sel).cls = s.cls := by
  unfold State.freshStart
  extract_lets warm cells faults _ _ s1 s2 s3
  have h2 : FaultsOnly restartCodes s1 s2 :=
    FaultsOnly.foldl (fun u id => (clear_faultsOnly (by decide) u id).trans (clear_faultsOnly (by decide) _ id)) faults s1
  have hcls : s3.cls = s.cls := by
    change s2.cls = s.cls
    rw [h2.frame]
  split
  · split
    · rw [(nextReplay_replayOnly s3).frame]
      exact hcls
    · exact hcls
  · exact hcls

/-- Basting the store changes its estimators alone, and clears the faults of its cells. -/
theorem basteStore_frame (s : State) (sel : CellId → Bool) :
    s.basteStore sel = { s with
      cls := { s.cls with store := s.cls.store.baste s.img.f.estStore sel true }
      flt := (s.basteStore sel).flt } := by
  unfold State.basteStore
  extract_lets _ u
  have h : FaultsOnly restartCodes u ((s.cls.store.loadedIn sel).foldl (fun u id => u.clear 0x624 id) u) :=
    FaultsOnly.foldl (fun v id => clear_faultsOnly (by decide) v id) _ u
  exact h.frame

/-- A basted store whose tack age is zero, with fault 0x706. -/
def State.tackStore (u : State) (t : Ns) : State :=
  ({ u with
    cls := { u.cls with store := { u.cls.store with tackFrom := t, overdue := false }, storeCheck := [] }
    res := { u.res with changing := true } } : State).raise 0x706 0

theorem storeChange_eq (s : State) :
    s.storeChange = ((s.basteStore fun _ => true).tackStore s.now).freshStart fun id => decide (4096 < id) := rfl

/-- A store taken as changed: its tack age is zero, and the bursts wait for the basting. -/
theorem storeChange_spec (s : State) :
    let t := s.storeChange
    t.res = { s.res with changing := true } ∧ t.flt.stands 0x706 0 = true ∧ t.cls.store.tackFrom = s.now ∧ t.cls.store.overdue = false ∧
    t.cls.pack = s.cls.pack ∧
    t = { s with res := t.res, cls := t.cls, lrn := t.lrn, seam := t.seam, trn := t.trn, flt := t.flt } := by
  dsimp only
  rw [storeChange_eq]
  have hbaste := basteStore_frame s fun _ => true
  generalize s.basteStore (fun _ => true) = u at *
  have hraise : u.tackStore s.now = { u with
      cls := { u.cls with store := { u.cls.store with tackFrom := s.now, overdue := false }, storeCheck := [] }
      res := { u.res with changing := true }, flt := (u.tackStore s.now).flt } := raise_flt _ _ _
  have hstands : (u.tackStore s.now).flt.stands 0x706 0 = true := raise_stands _ _ _
  generalize u.tackStore s.now = v at *
  have hcls := freshStart_cls v fun id => decide (4096 < id)
  have hfresh := freshStart_cellsRestart v fun id => decide (4096 < id)
  generalize v.freshStart (fun id => decide (4096 < id)) = t at *
  have hres : t.res = v.res := by rw [hfresh.frame]
  refine ⟨?_, (hfresh.faults _ _ (by decide) (by decide)).trans hstands, ?_, ?_, ?_, ?_⟩
  · rw [hres, hraise, hbaste]
  · rw [hcls, hraise]
  · rw [hcls, hraise]
  · rw [hcls, hraise, hbaste]
  · rw [hfresh.frame, hraise, hbaste]

/-- Settles O48: the branches of the two commands, and a store taken as changed by `storeChange_spec`. -/
theorem storePresence : Obligations.StorePresence := by
  refine ⟨fun s hcells habs hdue => ⟨_, rfl, ?_⟩, fun s habs hpark => ⟨_, rfl, ?_⟩, fun s habs hpark hgood => ⟨_, rfl, ?_⟩⟩
  · rw [storeAbsent_of_due hcells habs hdue]
    have hfaults : SameFaults [0x705] s (({ s with res := { s.res with absent := true } } : State).raise 0x705 0) :=
      (SameFaults.of_stands fun _ _ => rfl).trans (raise_sameFaults (by decide) _ 0)
    exact ⟨raise_flt _ _ _, raise_stands _ _ _, hfaults⟩
  · rw [storePresent_of_park habs hpark]
    have hfaults : SameFaults [0x705] s (({ s with res := { s.res with absent := false, swapped := true } } : State).clear 0x705 0) :=
      (SameFaults.of_stands fun _ _ => rfl).trans (clear_sameFaults (by decide) _ 0)
    exact ⟨clear_flt _ _ _, fun hall => clear_stands _ _ _ hall (by decide), hfaults⟩
  · have hfixed : (storePresent s).fixed = s.fixed := storePresent_fixed s
    rw [storePresent_of_run habs hpark hgood] at hfixed ⊢
    have hclear := clear_flt ({ s with res := { s.res with absent := false } } : State) 0x705 0
    generalize ({ s with res := { s.res with absent := false } } : State).clear 0x705 0 = v at *
    obtain ⟨hres, hstands, htack, hover, hpack, hframe⟩ := storeChange_spec v
    refine ⟨?_, hstands, ?_, hover, ?_, hfixed, ?_⟩
    · rw [hres, hclear]
    · rw [htack, hclear]
    · rw [hpack, hclear]
    · rw [hframe, hclear]

end Sys2Proof.Machine
end

section
/-!
SUPPORT. Bursts (R354 to R358): requests, releases, the end of the duration, and the answers that leave; statement O49.
-/
namespace Sys2Proof.Machine

theorem answersBreq_of_breqOn {s : State} {line : Nat} (h : s.breqOn line = true) : s.answersBreq = true := by
  unfold State.breqOn at h
  simp only [Bool.and_eq_true] at h
  obtain ⟨⟨_, hanswers⟩, _⟩ := h
  exact hanswers

/-- An owner answers a request. -/
theorem answer_of_answersBreq {s : State} (h : s.answersBreq = true) (us : Nat) (t : Ns) :
    s.answer us t = { s with res := { s.res with answers := s.res.answers ++ [(us, t)] } } := if_pos h

/-! ### Requests (R354 to R356) -/

/-- A refusal is counted at its line. -/
def refuse (l : List Nat) (line : Nat) : List Nat := (List.range 2).map fun i => l.getD i 0 + (if i = line then 1 else 0)

theorem refuse_getD {line : Nat} (h : line < 2) (l : List Nat) : (refuse l line).getD line 0 = l.getD line 0 + 1 := by
  simp [refuse, List.getD_eq_getElem?_getD, h]

section
variable {s : State} {line : Nat} {at_ : Ns} (hon : s.breqOn line = true)
include hon

theorem breqEdge_of_open {e : LedgerEntry} (he : ((s.at at_).ledgerAt at_).burst line = some e) :
    breqEdge line at_ s = ((s.at at_).ledgerAt at_).answer (10 + 10 * line) at_ := by
  unfold breqEdge
  rw [if_neg (by simp [hon])]
  dsimp only
  rw [he]

theorem breqEdge_of_admitted {p : Rat} (hb : ((s.at at_).ledgerAt at_).burst line = none)
    (hp : ((s.at at_).ledgerAt at_).admits line = some p) :
    let s0 := (s.at at_).ledgerAt at_
    let d := s.img.f.burst.maxDuration
    breqEdge line at_ s = ({ s0 with res := { s0.res with
      ledger := s0.res.ledger ++ [⟨line, s.pace.round, at_, p, d, p * d / 3600000, 0⟩] } } : State).answer (10 + 10 * line) at_ := by
  unfold breqEdge
  rw [if_neg (by simp [hon])]
  dsimp only
  rw [hb]
  dsimp only
  rw [hp]
  rfl

theorem breqEdge_of_refused (hb : ((s.at at_).ledgerAt at_).burst line = none) (hp : ((s.at at_).ledgerAt at_).admits line = none) :
    let s0 := (s.at at_).ledgerAt at_
    breqEdge line at_ s =
      ({ s0 with res := { s0.res with refusals := refuse s.res.refusals line } } : State).answer (30 + 10 * line) at_ := by
  unfold breqEdge
  rw [if_neg (by simp [hon])]
  dsimp only
  rw [hb]
  dsimp only
  rw [hp]
  rfl

end

/-! ### The end of a burst (R357, R358) -/

/-- A burst is closed on its line, and no other. -/
def BurstClosed (e : LedgerEntry) (k : BurstEnd) (at_ : Ns) (s t : State) : Prop :=
  t.res.ledger = (s.res.ledger.filter fun x => !(x.line == e.line)) ∧
  t.res.closed = s.res.closed ++ [({ e with rb := 0 }, k, (at_ - e.t) / 1000000)] ∧
  (s.allListed → t.flt.stands 0x710 0 = false) ∧ SameFaults [0x710] s t ∧
  t = { s with now := max s.now at_, res := t.res, flt := t.flt }

/-- The closing, with or without an answer, and the end of fault 0x710. -/
theorem burstClosed_clear {s u : State} {e : LedgerEntry} {k : BurstEnd} {at_ : Ns}
    (hu : ∃ l, u = { (s.at at_).closeBurst e k at_ with res := { ((s.at at_).closeBurst e k at_).res with answers := l } }) :
    BurstClosed e k at_ s (u.clear 0x710 0) := by
  obtain ⟨l, rfl⟩ := hu
  generalize hu' : ({ (s.at at_).closeBurst e k at_ with
    res := { ((s.at at_).closeBurst e k at_).res with answers := l } } : State) = u
  have hclear := clear_flt u 0x710 0
  have hres : (u.clear 0x710 0).res = u.res := clear_res u 0x710 0
  have hsame : SameFaults [0x710] s u := by
    rw [← hu']
    exact SameFaults.of_stands fun _ _ => rfl
  refine ⟨?_, ?_, fun hall => clear_stands u _ _ ?_ (by decide), hsame.trans (clear_sameFaults (by decide) u 0), ?_⟩
  · rw [hres, ← hu']; rfl
  · rw [hres, ← hu']; rfl
  · rw [← hu']; exact hall
  · rw [hres, hclear, ← hu']; rfl

theorem burstRelease_closes {s : State} {line : Nat} {e : LedgerEntry} (he : s.burst line = some e) (at_ : Ns) :
    BurstClosed e .released at_ s (burstRelease line at_ s) := by
  have ht : burstRelease line at_ s = ((s.at at_).closeBurst e .released at_).clear 0x710 0 := by
    unfold burstRelease
    rw [he]
  rw [ht]
  exact burstClosed_clear ⟨_, rfl⟩

theorem burstDurationEnd_closes {s : State} {line : Nat} {e : LedgerEntry} {at_ : Ns} (he : s.burst line = some e)
    (hdue : e.t + 1000000 * e.duration ≤ at_) : BurstClosed e .duration at_ s (burstDurationEnd line at_ s) := by
  have ht : burstDurationEnd line at_ s =
      (((s.at at_).closeBurst e .duration at_).answer (50 + 10 * line) at_).clear 0x710 0 := by
    unfold burstDurationEnd
    rw [he]
    exact if_neg (Nat.not_lt.mpr hdue)
  rw [ht]
  refine burstClosed_clear ?_
  unfold State.answer
  split <;> exact ⟨_, rfl⟩

/-! ### The answers leave (R356) -/

theorem bgntAnswer_of_due {s : State} {at_ : Ns} {us : Nat} {d : Ns} {rest : List (Nat × Ns)} (ha : s.res.answers = (us, d) :: rest)
    (hdrives : s.drivesPath = true) (hfree : ∀ e, s.res.pulseEnd = some e → e + 20000 ≤ at_) (hd : d < at_) (htc : s.tc1Up = true) :
    let t := bgntAnswer at_ s
    t = { s with
      now := max s.now at_, res := { s.res with answers := rest, pulseEnd := some (at_ + 1000 * us) }
      out := { s.out with answers := t.out.answers } } := by
  have hnd : ¬ at_ ≤ d := Nat.not_le.mpr hd
  dsimp only
  unfold bgntAnswer
  rw [ha]
  dsimp only
  cases hp : s.res.pulseEnd with
  | none =>
    rw [if_neg (by simp [hdrives, htc, hnd])]
    rfl
  | some e =>
    rw [if_neg (by simp [hdrives, htc, hnd, hfree e hp])]
    rfl

/-- Settles O49: a request by the branches of admission, an end by `burstClosed_clear`. -/
theorem burstsAreGrantedAndClosed : Obligations.BurstsAreGrantedAndClosed := by
  refine ⟨fun s line at_ hon => ⟨_, rfl, ?_, ?_, ?_⟩, fun s line at_ e he =>
      ⟨⟨_, rfl, burstRelease_closes he at_⟩, fun hdue => ⟨_, rfl, burstDurationEnd_closes he hdue⟩⟩,
    fun s at_ us d rest ha hdrives hfree hd htc => ⟨_, rfl, bgntAnswer_of_due ha hdrives hfree hd htc⟩⟩
  · intro e he
    exact (breqEdge_of_open hon he).trans (answer_of_answersBreq (s := (s.at at_).ledgerAt at_) (answersBreq_of_breqOn hon) _ _)
  · intro p hb hp
    exact (breqEdge_of_admitted hon hb hp).trans (if_pos (answersBreq_of_breqOn hon))
  · intro hb hp
    have ht : breqEdge line at_ s = { (s.at at_).ledgerAt at_ with res := { ((s.at at_).ledgerAt at_).res with
        refusals := refuse s.res.refusals line, answers := s.res.answers ++ [(30 + 10 * line, at_)] } } :=
      (breqEdge_of_refused hon hb hp).trans (if_pos (answersBreq_of_breqOn hon))
    rw [ht]
    exact ⟨rfl, fun hline => refuse_getD hline _⟩

end Sys2Proof.Machine
end

section
/-!
SUPPORT. PEER frames (R365 to R370, R442 to R444): what is sent, what an accepted frame leaves, and what a BEAT makes of the roles, the turns
and the alignment; statement O50.
-/
namespace Sys2Proof.Machine

/-! ### The views of the other seats -/

/-- The view of a seat after its change, whether the seat was known or not. -/
theorem view_updView {f : SeatView → SeatView} {k : Nat} (hf : ∀ v, v.seat = k → (f v).seat = k) (s : State) :
    (s.updView k f).view k = some (f ((s.view k).getD (SeatView.fresh k))) := by
  have hfresh : (f (SeatView.fresh k)).seat = k := hf _ rfl
  cases hk : s.own.views.any fun v => v.seat == k with
  | true =>
    have hview : (s.updView k f).view k = (updWhere (fun v => v.seat == k) f s.own.views).find? fun v => v.seat == k := by
      unfold State.updView
      simp only [hk]
      rfl
    have hsome : (s.own.views.find? fun v => v.seat == k).isSome := by rwa [List.find?_isSome, ← List.any_eq_true]
    obtain ⟨v, hv⟩ := Option.isSome_iff_exists.mp hsome
    have hseat : v.seat = k := by simpa using List.find?_some hv
    have hold : s.view k = some v := hv
    rw [hview, find?_updWhere (fun v hv => by simpa [hf v (by simpa using hv)] using hv), hv, hold]
    simp [hseat]
  | false =>
    have hnone : (s.own.views.find? fun v => v.seat == k) = none := by
      rw [List.find?_eq_none]
      simpa using hk
    have hview : (s.updView k f).view k = (s.own.views ++ [f (SeatView.fresh k)]).find? fun v => v.seat == k := by
      unfold State.updView
      simp only [hk]
      rfl
    have hold : s.view k = none := hnone
    rw [hview, List.find?_append, hnone, hold]
    simp [hfresh]

theorem view_congr {s t : State} (h : t.own.views = s.own.views) (k : Nat) : t.view k = s.view k := by
  unfold State.view
  rw [h]

theorem view_getD_seat (s : State) (k : Nat) : ((s.view k).getD (SeatView.fresh k)).seat = k := by
  cases h : s.view k with
  | none => rfl
  | some v =>
    have hv : (v.seat == k) = true := List.find?_some (p := fun v : SeatView => v.seat == k) h
    simpa using hv

/-! ### A frame is sent (R365) -/

/-- The frame of a payload, under the domain key (R366). -/
def State.peerFrame (s : State) (type : Nat) (payload : List Byte) : List Byte :=
  s.peerHead type payload.length ++ payload ++
    peerTag (s.nv.fuses.domainKey.getD 0) (s.pace.round % 2 ^ 48) (s.peerHead type payload.length) payload

theorem peerSend_of_on {s : State} (h : s.peerOn = true) (hs : s.flt.peerStopped = false) (type : Nat) (payload : List Byte) :
    s.peerSend type payload = { s with own := { s.own with
      seq := s.own.seq + 1
      sent := s.own.sent ++ [(CutSide.up, s.peerFrame type payload), (CutSide.down, s.peerFrame type payload)] } } :=
  if_neg (by simp [h, hs])

theorem peerSend_of_off {s : State} (h : s.peerOn = false) (type : Nat) (payload : List Byte) : s.peerSend type payload = s :=
  if_pos (by simp [h])

/-- What is sent changes the sequence number and the frames sent alone. -/
theorem peerSend_frame (s : State) (type : Nat) (payload : List Byte) :
    s.peerSend type payload = { s with own := { s.own with
      seq := (s.peerSend type payload).own.seq, sent := (s.peerSend type payload).own.sent } } := by
  unfold State.peerSend
  split <;> rfl

/-- The BEAT of stitch 2, on both links. -/
theorem beatSend_of_due {s : State} (hr : s.rounds = true) (h2 : s.pace.stitch = 2) (h1 : s.tc1Up = true) (at_ : Ns) :
    let b := (s.at at_).makeBeat
    let s0 : State := { s.at at_ with own := { s.own with beat := some b } }
    beatSend at_ s = { s with
      now := max s.now at_
      own := { s.own with
        beat := some b, seq := (s0.peerSend 1 b.bytes).own.seq, sent := (s0.peerSend 1 b.bytes).own.sent
        linkU := { s.own.linkU with dep := (s.pace.round, at_) :: s.own.linkU.dep.take 1 }
        linkD := { s.own.linkD with dep := (s.pace.round, at_) :: s.own.linkD.dep.take 1 } } } := by
  intro b s0
  unfold beatSend
  rw [if_pos (by simp [hr, h2, h1])]
  dsimp only
  rw [peerSend_frame]
  rfl

/-! ### A frame is accepted (R366, R442) -/

theorem freshness_seat {v w : SeatView} {isBeat : Bool} {nonce : Nat} {round : Round} {seq : Nat}
    (h : v.freshness isBeat nonce round seq = .fresh w) : w.seat = v.seat := by
  unfold SeatView.freshness at h
  dsimp only at h
  repeat' split at h
  all_goals cases h
  all_goals rfl

theorem forward_frame (s : State) (x : PeerRx) (k : Nat) :
    s.forward x k = { s with own := { s.own with sent := (s.forward x k).own.sent } } := by
  unfold State.forward
  cases x.side
  all_goals
    dsimp only
    split <;> rfl

/-- What an accepted frame leaves: the time, the view of its seat, and the frame forwarded. -/
structure PeerTaken (type : Nat) (x : PeerRx) (f : PeerFrame) (s t : State) : Prop where
  frame : t = { s with now := max s.now x.t, own := { s.own with views := t.own.views, sent := t.own.sent } }
  other : f.origin ≠ s.seat
  length : lengthOk type f.payload = true

theorem peerAccept_taken {s t : State} {type : Nat} {x : PeerRx} {f : PeerFrame} (h : s.peerAccept type x = (t, some f)) :
    PeerTaken type x f s t := by
  unfold State.peerAccept at h
  dsimp only at h
  split at h
  · cases h
  split at h
  · cases h
  split at h
  · cases h
  next hlen =>
  split at h
  · cases h
  split at h
  · split at h <;> cases h
  next hseat =>
  split at h
  · cases h
  split at h
  · cases h
  · cases h
  · split at h
    · cases h
    · cases h
      refine ⟨?_, hseat, ?_⟩
      · rw [forward_frame]
        rfl
      · by_contra hno
        exact hlen (by simp [hno])

/-! ### Roles, turns and the alignment (R369, R370, R381) -/

/-- What a BEAT makes of the turns and of the alignment. -/
structure Aligns (s t : State) : Prop where
  frame : t = { s with
    own := { s.own with
      turnSent := t.own.turnSent, alignRuns := t.own.alignRuns, unaligned := t.own.unaligned, joinZero := t.own.joinZero }
    pace := { s.pace with idleAdjust := t.pace.idleAdjust }
    pat := { s.pat with turn := t.pat.turn, turnStart := t.pat.turnStart, turnsDone := t.pat.turnsDone }
    flt := t.flt }
  faults : SameFaults [0x812] s t

theorem Aligns.refl (s : State) : Aligns s s := ⟨rfl, SameFaults.refl _ s⟩

theorem Aligns.trans {s t u : State} (h : Aligns s t) (k : Aligns t u) : Aligns s u :=
  ⟨by rw [k.frame, h.frame], h.faults.trans k.faults⟩

theorem otherTurn_aligns (s : State) (k : Nat) : Aligns s (s.otherTurn k) := by
  unfold State.otherTurn
  split
  · exact ⟨rfl, SameFaults.of_stands fun _ _ => rfl⟩
  · exact .refl s

theorem turnOver_aligns (s : State) (k : Nat) : Aligns s (s.turnOver k) := ⟨rfl, SameFaults.of_stands fun _ _ => rfl⟩

theorem turnsBy_aligns (s : State) (k : Nat) (r : Role) : Aligns s (s.turnsBy k r) := by
  unfold State.turnsBy
  split
  · exact otherTurn_aligns s k
  · split
    · exact .refl s
    · exact turnOver_aligns s _
  · exact .refl s

theorem align_aligns (s : State) (zero : Int) (round : Round) : Aligns s (s.align zero round) := by
  unfold State.align
  split
  · exact .refl s
  · extract_lets ok r _ s1
    have h1 : Aligns s s1 := ⟨rfl, SameFaults.of_stands fun _ _ => rfl⟩
    split
    · have h2 : Aligns s1 { s1 with own := { s1.own with unaligned := false } } := ⟨rfl, SameFaults.of_stands fun _ _ => rfl⟩
      exact (h1.trans h2).trans ⟨by rw [clear_flt], clear_sameFaults (by decide) _ 0⟩
    · exact h1

theorem steer_aligns (s : State) (zero : Int) (lock : Nat) : Aligns s (s.steer zero lock) := by
  unfold State.steer
  dsimp only
  repeat' split
  all_goals exact ⟨rfl, SameFaults.of_stands fun _ _ => rfl⟩

theorem twoOwners_frame (s : State) (k : Nat) (r : Role) :
    let t := s.twoOwners k r
    t = { s with
      own := { s.own with role := t.own.role, releaseNow := t.own.releaseNow, yielding := t.own.yielding }
      flt := t.flt } ∧ SameFaults [0x824] s t := by
  dsimp only
  unfold State.twoOwners
  split
  · exact ⟨by rw [raiseFor_flt], (SameFaults.of_stands fun _ _ => rfl).trans (raiseFor_sameFaults (by decide) _ _ _)⟩
  · split <;> exact ⟨rfl, SameFaults.of_stands fun _ _ => rfl⟩

/-- A seat that acts gives way to a lower-numbered one that acts as well. -/
theorem twoOwners_of_lower {s : State} {k : Nat} {r : Role} (hr : r = .owner ∨ r = .provisional) (ha : s.acts = true) (hk : k < s.seat) :
    s.twoOwners k r =
      ({ s with own := { s.own with role := .listener, releaseNow := true, yielding := none } } : State).raiseFor 0x824 0 1000 :=
  if_pos (by rcases hr with rfl | rfl <;> simp [ha, hk])

theorem seenCut_frame (s : State) (k : Nat) (b : Beat) (t : Ns) :
    s.seenCut k b t = { s with own := { s.own with cutting := (s.seenCut k b t).own.cutting } } := by
  unfold State.seenCut
  split <;> rfl

/-! ### A BEAT (R365 to R370) -/

/-- The BEAT noted at its seat: the latest one, and 0x803 over. -/
def State.noteBeat (s : State) (x : PeerRx) (f : PeerFrame) : State :=
  let b := readBeat f.round f.payload
  let s0 : State := if f.hops = 0 then
      (match x.side with
       | .up => { s with own := { s.own with linkU := s.own.linkU.measure b false x.t } }
       | .down => { s with own := { s.own with linkD := s.own.linkD.measure b true x.t } })
    else s
  let zero := s0.senderZero x f b
  (s0.updView f.origin fun v =>
    { v with beat := some b, beatRound := s.pace.round, zero := zero, role := b.role, missed := 0, heard := true }).clear
    0x803 (seatDetail f.origin)

theorem noteBeat_spec (s : State) (x : PeerRx) (f : PeerFrame) :
    let b := readBeat f.round f.payload
    let t := s.noteBeat x f
    (t.view f.origin).map (fun v => (v.beat, v.heard, v.missed, v.role, v.beatRound)) = some (some b, true, 0, b.role, s.pace.round) ∧
    (s.allListed → t.flt.stands 0x803 (seatDetail f.origin) = false) ∧ SameFaults [0x803] s t ∧
    t = { s with own := { s.own with views := t.own.views, linkU := t.own.linkU, linkD := t.own.linkD }, flt := t.flt } := by
  intro b t
  have hlinks : ∃ s0 : State, ∃ zero : Int, s0 = { s with own := { s.own with linkU := s0.own.linkU, linkD := s0.own.linkD } } ∧
      t = (s0.updView f.origin fun v =>
        { v with beat := some b, beatRound := s.pace.round, zero := zero, role := b.role, missed := 0, heard := true }).clear
        0x803 (seatDetail f.origin) := by
    refine ⟨_, _, ?_, rfl⟩
    split
    · cases x.side <;> rfl
    · rfl
  obtain ⟨s0, zero, h0, ht⟩ := hlinks
  clear_value t
  have hview := view_updView (k := f.origin) (f := fun v =>
    { v with beat := some b, beatRound := s.pace.round, zero := zero, role := b.role, missed := 0, heard := true }) (fun _ h => h) s0
  have hflt : s0.flt = s.flt := by rw [h0]
  generalize hu : s0.updView f.origin _ = u at ht hview
  have huflt : u.flt = s.flt := by rw [← hu]; exact hflt
  have hsame : SameFaults [0x803] s u := SameFaults.of_stands fun _ _ => by rw [huflt]
  refine ⟨?_, fun hall => ?_, ?_, ?_⟩
  · rw [ht, view_congr (congrArg Ownership.views (clear_own u _ _)), hview]
    rfl
  · rw [ht]
    exact clear_stands _ _ _ ((congrArg Faults.unlisted huflt).trans hall) (by decide)
  · rw [ht]
    exact hsame.trans (clear_sameFaults (by decide) _ _)
  · rw [ht, clear_flt, ← hu]
    have hup : s0.updView f.origin (fun v =>
        { v with beat := some b, beatRound := s.pace.round, zero := zero, role := b.role, missed := 0, heard := true }) =
        { s0 with own := { s0.own with views := (s0.updView f.origin fun v =>
        { v with beat := some b, beatRound := s.pace.round, zero := zero, role := b.role, missed := 0, heard := true }).own.views } } := rfl
    rw [hup, h0]

/-- The parked owner heard again is parked no longer. -/
def State.unpark (s : State) (k : Nat) : State :=
  if s.own.parkedOwner == some k then { s with own := { s.own with parkedOwner := none } } else s

theorem unpark_frame (s : State) (k : Nat) :
    s.unpark k = { s with own := { s.own with parkedOwner := (s.unpark k).own.parkedOwner } } := by
  unfold State.unpark
  split <;> rfl

theorem takeBeat_eq (s : State) (x : PeerRx) (f : PeerFrame) :
    let b := readBeat f.round f.payload
    let s1 := ((s.noteBeat x f).seenCut f.origin b x.t).unpark f.origin
    ∃ zero, let s2 := (s1.twoOwners f.origin b.role).turnsBy f.origin b.role
      s.takeBeat x f = if s2.gridSeat = f.origin then (s2.align zero b.round).steer zero b.lock else s2 := ⟨_, rfl⟩


theorem takeBeat_aligns (s : State) (x : PeerRx) (f : PeerFrame) :
    Aligns ((((s.noteBeat x f).seenCut f.origin (readBeat f.round f.payload) x.t).unpark f.origin).twoOwners f.origin
      (readBeat f.round f.payload).role) (s.takeBeat x f) := by
  obtain ⟨zero, heq⟩ := takeBeat_eq s x f
  rw [heq]
  refine (turnsBy_aligns _ f.origin (readBeat f.round f.payload).role).trans ?_
  split
  · exact (align_aligns _ _ _).trans (steer_aligns _ _ _)
  · exact .refl _

/-- What an accepted BEAT leaves. -/
theorem takeBeat_spec (s : State) (x : PeerRx) (f : PeerFrame) :
    let b := readBeat f.round f.payload
    let t := s.takeBeat x f
    (t.view f.origin).map (fun v => (v.beat, v.heard, v.missed, v.role, v.beatRound)) = some (some b, true, 0, b.role, s.pace.round) ∧
    (s.allListed → t.flt.stands 0x803 (seatDetail f.origin) = false) ∧
    (b.role = .owner ∨ b.role = .provisional → s.acts = true → f.origin < s.seat →
      t.own.role = .listener ∧ t.own.releaseNow = true ∧ t.flt.stands 0x824 0 = true) ∧
    SameFaults [0x803, 0x812, 0x824] s t ∧
    t = { s with
      own := t.own, pace := { s.pace with idleAdjust := t.pace.idleAdjust }
      pat := { s.pat with turn := t.pat.turn, turnStart := t.pat.turnStart, turnsDone := t.pat.turnsDone }, flt := t.flt } := by
  intro b t
  have hal : Aligns ((((s.noteBeat x f).seenCut f.origin b x.t).unpark f.origin).twoOwners f.origin b.role) t := takeBeat_aligns s x f
  clear_value t
  obtain ⟨hview, hclear, hnote, hframe⟩ := noteBeat_spec s x f
  generalize s.noteBeat x f = u at *
  have hcut := seenCut_frame u f.origin b x.t
  generalize u.seenCut f.origin b x.t = v at *
  have hpark := unpark_frame v f.origin
  generalize v.unpark f.origin = w at *
  have hw : w = { u with own := { u.own with cutting := v.own.cutting, parkedOwner := w.own.parkedOwner } } := by rw [hpark, hcut]
  have hflt : w.flt = u.flt := by rw [hw]
  have hsame : SameFaults [0x803] s w := hnote.trans (SameFaults.of_stands fun _ _ => by rw [hflt])
  obtain ⟨htwo, hfaults⟩ := twoOwners_frame w f.origin b.role
  have hlower (hr : b.role = .owner ∨ b.role = .provisional) (ha : w.acts = true) (hk : f.origin < w.seat) :=
    twoOwners_of_lower hr ha hk
  generalize w.twoOwners f.origin b.role = z at *
  have hviews : t.own.views = u.own.views := by rw [hal.frame, htwo, hw]
  refine ⟨(congrArg _ (view_congr hviews _)).trans hview, fun hall => ?_, fun hr ha hk => ?_, ?_, ?_⟩
  · rw [hal.faults _ _ (by decide) (by decide), hfaults _ _ (by decide) (by decide), hflt]
    exact hclear hall
  · have hacts : w.acts = true := by
      rw [hw, hframe]
      exact ha
    have hz := hlower hr hacts (by rw [hw, hframe]; exact hk)
    have hrole : t.own.role = z.own.role := by rw [hal.frame]
    have hrel : t.own.releaseNow = z.own.releaseNow := by rw [hal.frame]
    refine ⟨hrole.trans ?_, hrel.trans ?_, (hal.faults _ _ (by decide) (by decide)).trans ?_⟩
    · rw [hz, raiseFor_own]
    · rw [hz, raiseFor_own]
    · rw [hz]
      exact raiseFor_stands _ _ _ _
  · exact ((hsame.mono (by decide)).trans (hfaults.mono (by decide))).trans (hal.faults.mono (by decide))
  · rw [hal.frame, htwo, hw, hframe]

theorem followPark_of_none (s : State) (k : Nat) : s.followPark k .none_ = s := by
  unfold State.followPark
  exact ite_self s

theorem beatTaken_of_accepted {s s1 : State} {x : PeerRx} {f : PeerFrame} (h : s.peerAccept 1 x = (s1, some f))
    (hi : (readBeat f.round f.payload).intent = .none_) : beatTaken x s = s1.takeBeat x f := by
  unfold beatTaken
  rw [h]
  dsimp only
  rw [hi, followPark_of_none]

/-! ### A frame that is not taken (R366) -/

/-- A frame of no type, or a BEAT that is not whole, counts at its link. -/
theorem beatTaken_of_bad {s : State} {x : PeerRx} (hon : s.peerOn = true)
    (hbad : (byteAt x.bytes 0 % 16 = 1 ∧ x.framed = false) ∨ byteAt x.bytes 0 % 16 = 0 ∨ 5 ≤ byteAt x.bytes 0 % 16) :
    beatTaken x s = s.peerFail x.side := by
  have haccept : s.peerAccept 1 x = (s.peerFail x.side, none) := by
    unfold State.peerAccept
    dsimp only
    rcases hbad with ⟨h1, hframed⟩ | h0 | h5
    · rw [if_neg (by simp [hon, h1]), if_neg (by simp [h1]), if_pos (by simp [hframed])]
    · rw [if_neg (by simp [hon, h0]), if_pos (by simp [h0])]
    · rw [if_neg (by simp [hon]; omega), if_pos (by simp; omega)]
  unfold beatTaken
  rw [haccept]

/-! ### The window of a link, the alignment and the self-check (R366, R370, R387) -/

theorem peerWindowEnd_of_over {s : State} (hr : s.rounds = true) (hw : s.own.window ≠ s.pace.round / 1000) :
    let beyond := decide (s.img.f.own.authLimit < s.own.linkU.fails) || decide (s.img.f.own.authLimit < s.own.linkD.fails)
    peerWindowEnd s = ({ s with own := { s.own with
      window := s.pace.round / 1000, linkU := { s.own.linkU with fails := 0 }, linkD := { s.own.linkD with fails := 0 } } } : State).judge2
      0x802 0 beyond (!beyond && !s.flt.bit 0x801) :=
  if_neg (by simp [hr, hw])

theorem peerWindowEnd_spec {s : State} (hr : s.rounds = true) (hw : s.own.window ≠ s.pace.round / 1000) :
    let t := peerWindowEnd s
    let beyond := s.img.f.own.authLimit < s.own.linkU.fails ∨ s.img.f.own.authLimit < s.own.linkD.fails
    t = { s with
      own := { s.own with
        window := s.pace.round / 1000, linkU := { s.own.linkU with fails := 0 }, linkD := { s.own.linkD with fails := 0 } }
      flt := t.flt } ∧
    (beyond → t.flt.stands 0x802 0 = true) ∧
    (¬ beyond → s.flt.bit 0x801 = false → s.allListed → t.flt.stands 0x802 0 = false) ∧
    (¬ beyond → s.flt.bit 0x801 = true → t.flt = s.flt) ∧ SameFaults [0x802] s t := by
  intro t beyond
  have hdec : (decide (s.img.f.own.authLimit < s.own.linkU.fails) || decide (s.img.f.own.authLimit < s.own.linkD.fails)) = decide beyond := by
    simp [beyond]
  have ht := peerWindowEnd_of_over hr hw
  dsimp only at ht
  rw [hdec] at ht
  generalize hu : ({ s with own := { s.own with
      window := s.pace.round / 1000, linkU := { s.own.linkU with fails := 0 }, linkD := { s.own.linkD with fails := 0 } } } : State) = u at ht
  have huflt : u.flt = s.flt := by rw [← hu]
  have hteq : t = u.judge2 0x802 0 (decide beyond) (!decide beyond && !s.flt.bit 0x801) := ht
  have hsame : SameFaults [0x802] s t := by
    rw [hteq]
    exact (SameFaults.of_stands fun _ _ => by rw [huflt]).trans (judge2_sameFaults (by decide) _ _ _ _)
  refine ⟨?_, fun hb => ?_, fun hb h801 hall => ?_, fun hb h801 => ?_, hsame⟩
  · rw [hteq, judge2_flt, ← hu]
  · rw [hteq]
    simp [State.judge2, hb]
  · rw [hteq]
    have hclear := clear_stands u 0x802 0 ((congrArg Faults.unlisted huflt).trans hall) (by decide)
    simpa [State.judge2, hb, h801] using hclear
  · rw [hteq]
    simpa [State.judge2, hb, h801] using huflt

theorem ownEligible_of_unaligned {s : State} (h : s.own.unaligned = true) : s.ownEligible = false := by
  simp [State.ownEligible, State.conditions, h]

theorem ownEligible_of_untested {s : State} (h : s.tst.passed = false) : s.ownEligible = false := by
  simp [State.ownEligible, State.conditions, State.selfOk, h]

theorem unaligned_of_runs {s : State} (h4 : 4 ≤ s.own.alignRuns.bad) (hg : s.gridSeat ≠ s.seat) (hu : s.own.unaligned = false) :
    unaligned s = ({ s with own := { s.own with unaligned := true } } : State).raise 0x812 0 :=
  if_pos (by simp [h4, hg, hu])

theorem ownerSelfCheck_of_due {s : State} {r : Round} (hc : s.own.checkFrom = some r) (hr : r + 8 ≤ s.pace.round)
    (ho : s.own.role = .owner) (passed : Bool) :
    let ok := passed && !s.flt.bit 0x612 && !s.flt.bit 0x615 && !s.flt.bit 0x616
    let s1 : State := { s with own := { s.own with checkFrom := none }, tst := { s.tst with passed := s.tst.passed && ok } }
    ownerSelfCheck passed s = if ok then s1 else s1.raise 0x832 0 :=
  if_pos (by simp [hc, hr, ho])

theorem ownerSelfCheck_spec {s : State} {r : Round} (hc : s.own.checkFrom = some r) (hr : r + 8 ≤ s.pace.round)
    (ho : s.own.role = .owner) (passed : Bool) :
    let t := ownerSelfCheck passed s
    let bad := passed = false ∨ s.flt.bit 0x612 = true ∨ s.flt.bit 0x615 = true ∨ s.flt.bit 0x616 = true
    t = { s with own := { s.own with checkFrom := none }, tst := { s.tst with passed := t.tst.passed }, flt := t.flt } ∧
    (bad → t.tst.passed = false ∧ t.flt.stands 0x832 0 = true ∧ t.ownEligible = false) ∧
    (¬ bad → t.tst.passed = s.tst.passed ∧ t.flt = s.flt) ∧ SameFaults [0x832] s t := by
  intro t bad
  have ht : t = _ := ownerSelfCheck_of_due hc hr ho passed
  cases hok : passed && !s.flt.bit 0x612 && !s.flt.bit 0x615 && !s.flt.bit 0x616 with
  | true =>
    have hgood : ¬ bad := by
      simp only [Bool.and_eq_true, Bool.not_eq_true'] at hok
      obtain ⟨⟨⟨hp, h2⟩, h5⟩, h6⟩ := hok
      simp [bad, hp, h2, h5, h6]
    rw [hok] at ht
    dsimp only at ht
    rw [if_pos rfl] at ht
    rw [ht]
    exact ⟨rfl, fun hb => absurd hb hgood, fun _ => ⟨Bool.and_true _, rfl⟩, SameFaults.of_stands fun _ _ => rfl⟩
  | false =>
    have hbad : bad := by
      by_contra hno
      simp only [bad, not_or] at hno
      obtain ⟨hp, h2, h5, h6⟩ := hno
      simp [hp, h2, h5, h6] at hok
    rw [hok] at ht
    dsimp only at ht
    rw [if_neg (by simp)] at ht
    have hpass : t.tst.passed = false := by rw [ht, raise_tst]; exact Bool.and_false _
    have hfaults : SameFaults [0x832] s t := by
      rw [ht]
      exact (SameFaults.of_stands fun _ _ => rfl).trans (raise_sameFaults (by decide) _ 0)
    refine ⟨?_, fun _ => ⟨hpass, by rw [ht]; exact raise_stands _ _ _, ownEligible_of_untested hpass⟩, fun hno => absurd hbad hno, hfaults⟩
    rw [ht, raise_flt]

/-- Settles O50: a BEAT sent by `peerSend_of_on`, a BEAT taken by `takeBeat_spec`, the rest by its branches. -/
theorem beatsAreSentAndTaken : Obligations.BeatsAreSentAndTaken := by
  refine ⟨⟨fun s at_ hr h2 h1 => ⟨_, rfl, ?_⟩, fun s s1 x f hacc hi => ⟨_, rfl, ?_⟩, fun s x hon hbad => ⟨_, rfl, ?_⟩,
    fun s hr hw => ⟨_, rfl, peerWindowEnd_spec hr hw⟩⟩, fun s h4 hg hu => ⟨_, rfl, ?_⟩,
    fun s passed r hc hr ho => ⟨_, rfl, ownerSelfCheck_spec hc hr ho passed⟩⟩
  · rw [beatSend_of_due hr h2 h1]
    refine ⟨rfl, rfl, rfl, rfl, fun hon hs => ?_, fun hoff => ?_⟩
    · dsimp only
      rw [peerSend_of_on (by exact hon) (by exact hs)]
      rfl
    · dsimp only
      rw [peerSend_of_off (by exact hoff)]
  · rw [beatTaken_of_accepted hacc hi]
    have hs1 := (peerAccept_taken hacc).frame
    obtain ⟨hview, hclear, hlower, hfaults, hframe⟩ := takeBeat_spec s1 x f
    generalize s1.takeBeat x f = t at *
    have hflt : s1.flt = s.flt := by rw [hs1]
    have hround : s1.pace.round = s.pace.round := by rw [hs1]
    rw [hround] at hview
    refine ⟨hview, fun hall => hclear ((congrArg Faults.unlisted hflt).trans hall), fun hnl hnw ha hk => hlower ?_ ?_ ?_, ?_, ?_⟩
    · cases hrole : (readBeat f.round f.payload).role with
      | owner => exact .inl rfl
      | provisional => exact .inr rfl
      | listener => exact absurd hrole hnl
      | witness => exact absurd hrole hnw
    · rw [hs1]; exact ha
    · rw [hs1]; exact hk
    · exact (SameFaults.of_stands fun _ _ => by rw [hflt] : SameFaults _ s s1).trans hfaults
    · rw [hframe, hs1]
  · rw [beatTaken_of_bad hon hbad]
    exact ⟨fun hside => by rw [hside]; rfl, fun hside => by rw [hside]; rfl⟩
  · rw [unaligned_of_runs h4 hg hu]
    have hfaults : SameFaults [0x812] s (({ s with own := { s.own with unaligned := true } } : State).raise 0x812 0) :=
      (SameFaults.of_stands fun _ _ => rfl).trans (raise_sameFaults (by decide) _ 0)
    exact ⟨raise_flt _ _ _, raise_stands _ _ _, hfaults, ownEligible_of_unaligned (by rw [raise_own])⟩

end Sys2Proof.Machine
end

section
/-!
SUPPORT. CLAIM, YIELD and MIRROR frames (R372 to R375, R381 to R383, R444, R445): statement O51.
-/
namespace Sys2Proof.Machine

/-! ### CLAIM (R372, R373, R380, R444) -/

/-- A seat takes a role, and no other seat that was owner or provisional keeps it. -/
theorem seatTakes_view (s : State) (k : Nat) (r : Role) : ((s.seatTakes k r).view k).map (fun v => v.role) = some r := by
  unfold State.seatTakes
  dsimp only
  rw [view_updView (k := k) (f := fun v => { v with role := r }) fun _ h => h]
  rfl

theorem seatTakes_frame (s : State) (k : Nat) (r : Role) :
    s.seatTakes k r = { s with own := { s.own with views := (s.seatTakes k r).own.views } } := rfl

/-- What a CLAIM of a role leaves: the role with its seat, and the group released by a higher-numbered seat that acts. -/
structure RoleClaimed (k : Nat) (r : Role) (s t : State) : Prop where
  frame : t = { s with
    own := { s.own with
      views := t.own.views, role := t.own.role, releaseNow := t.own.releaseNow, yielding := t.own.yielding }
    flt := t.flt }
  faults : SameFaults [0x824] s t
  free : ∀ c d, c ≠ 0x824 → s.flt.free c d → t.flt.free c d
  view : (t.view k).map (fun v => v.role) = some r
  lower : s.acts = true → k < s.seat →
    t.own.role = .listener ∧ t.own.releaseNow = true ∧ t.own.yielding = none ∧ t.flt.stands 0x824 0 = true

theorem twoOwners_free {c d : Nat} (hc : c ≠ 0x824) {s : State} (hf : s.flt.free c d) (k : Nat) (r : Role) :
    (s.twoOwners k r).flt.free c d := by
  unfold State.twoOwners
  split
  · exact raiseInst_free _ _ c d (fun h => hc h.1.symm) hf
  · split <;> exact hf

theorem roleClaimed {r : Role} (hr : r = .owner ∨ r = .provisional) (s : State) (k : Nat) :
    RoleClaimed k r s ((s.twoOwners k r).seatTakes k r) := by
  obtain ⟨hframe, hfaults⟩ := twoOwners_frame s k r
  have hlower (ha : s.acts = true) (hk : k < s.seat) := twoOwners_of_lower hr ha hk
  have hfree (c d : Nat) (hc : c ≠ 0x824) (hf : s.flt.free c d) := twoOwners_free hc hf k r
  generalize s.twoOwners k r = u at *
  refine ⟨?_, hfaults.trans (SameFaults.of_stands fun _ _ => rfl), hfree, seatTakes_view u k r, fun ha hk => ?_⟩
  · rw [seatTakes_frame, hframe]
  · rw [seatTakes_frame, hlower ha hk]
    refine ⟨?_, ?_, ?_, raiseFor_stands _ _ _ _⟩ <;> simp only [raiseFor_own]

/-- A provisional CLAIM (R372). -/
theorem claimReceived_of_provisional {s s1 : State} {x : PeerRx} {f : PeerFrame} (h : s.peerAccept 2 x = (s1, some f))
    (hk : byteAt f.payload 0 = 0) :
    claimReceived x s = ((s1.twoOwners f.origin .provisional).seatTakes f.origin .provisional).otherTurn f.origin := by
  unfold claimReceived
  rw [h]
  dsimp only
  rw [hk]
  rfl

/-- An elected CLAIM (R373). -/
theorem claimReceived_of_elected {s s1 : State} {x : PeerRx} {f : PeerFrame} (h : s.peerAccept 2 x = (s1, some f))
    (hk : byteAt f.payload 0 = 1) :
    claimReceived x s = ((s1.twoOwners f.origin .owner).seatTakes f.origin .owner).clear 0x833 0 := by
  unfold claimReceived
  rw [h]
  dsimp only
  rw [hk]
  rfl

/-- The CLAIM of a successor that accepts (R375). -/
def State.noteAccept (s : State) (k : Nat) : State :=
  match s.own.yielding with
  | some y => if y.succ = k then { s with own := { s.own with yielding := some { y with accepted := true } } } else s
  | none => s

theorem claimReceived_of_accept {s s1 : State} {x : PeerRx} {f : PeerFrame} (h : s.peerAccept 2 x = (s1, some f))
    (hk : byteAt f.payload 0 = 2) : claimReceived x s = s1.noteAccept f.origin := by
  unfold claimReceived
  rw [h]
  dsimp only
  rw [hk]
  rfl

theorem noteAccept_frame (s : State) (k : Nat) :
    s.noteAccept k = { s with own := { s.own with yielding := (s.noteAccept k).own.yielding } } := by
  unfold State.noteAccept
  split
  · split <;> rfl
  · rfl

theorem noteAccept_of_successor {s : State} {y : Yield} (hy : s.own.yielding = some y) :
    (s.noteAccept y.succ).own.yielding = some { y with accepted := true } := by
  unfold State.noteAccept
  rw [hy]
  dsimp only
  rw [if_pos rfl]

/-- A forced CLAIM of a lower-numbered eligible seat bars the own one (R380). -/
def State.barClaim (s : State) (k : Nat) : State :=
  let bars := decide (k < s.seat) && s.attachedSeats.contains k && s.seatEligible k
  match s.own.cutting with
  | some c => if bars && c.claimed.isNone then { s with own := { s.own with cutting := some { c with barred := true } } } else s
  | none => s

theorem claimReceived_of_forced {s s1 : State} {x : PeerRx} {f : PeerFrame} (h : s.peerAccept 2 x = (s1, some f))
    (hk : 3 ≤ byteAt f.payload 0) :
    claimReceived x s = (((s1.barClaim f.origin).twoOwners f.origin .owner).seatTakes f.origin .owner).clear 0x833 0 := by
  unfold claimReceived
  rw [h]
  dsimp only
  split
  · omega
  · omega
  · omega
  · rfl

theorem barClaim_frame (s : State) (k : Nat) :
    s.barClaim k = { s with own := { s.own with cutting := (s.barClaim k).own.cutting } } := by
  unfold State.barClaim
  dsimp only
  split
  · split <;> rfl
  · rfl

theorem barClaim_of_lower {s : State} {c : CutPlan} {k : Nat} (hc : s.own.cutting = some c) (hcl : c.claimed = none) (hk : k < s.seat)
    (ha : k ∈ s.attachedSeats) (he : s.seatEligible k = true) : (s.barClaim k).own.cutting = some { c with barred := true } := by
  unfold State.barClaim
  dsimp only
  rw [hc]
  dsimp only
  rw [if_pos (by simp [hcl, hk, ha, he])]

/-- What an accepted CLAIM leaves, apart from what its kind asks. -/
structure ClaimTaken (x : PeerRx) (s t : State) : Prop where
  frame : t = { s with
    now := max s.now x.t, own := t.own, pat := { s.pat with turn := t.pat.turn, turnStart := t.pat.turnStart }, flt := t.flt }
  faults : SameFaults [0x824, 0x833] s t

theorem accepted_flt {s s1 : State} {type : Nat} {x : PeerRx} {f : PeerFrame} (h : s.peerAccept type x = (s1, some f)) :
    s1.flt = s.flt := by rw [(peerAccept_taken h).frame]

theorem otherTurn_frame (s : State) (k : Nat) :
    s.otherTurn k = { s with pat := { s.pat with turn := (s.otherTurn k).pat.turn, turnStart := (s.otherTurn k).pat.turnStart } } := by
  unfold State.otherTurn
  split <;> rfl

theorem otherTurn_of_free {s : State} {k : Nat} (ha : s.attached = true) (ht : s.pat.turn = none) (hk : k ≠ s.seat)
    (hd : k ∉ s.pat.turnsDone) : (s.otherTurn k).pat.turn = some k := by
  unfold State.otherTurn
  rw [if_pos (by simp [ha, ht, hk, hd])]

section
variable {s s1 : State} {x : PeerRx} {f : PeerFrame} (h : s.peerAccept 2 x = (s1, some f))
include h

/-- A CLAIM that ends with the role at its seat and fault 0x833 over. -/
theorem claimTaken_of_owner {u t : State} (hu : u = { s1 with own := { s1.own with cutting := u.own.cutting } })
    (ht : t = ((u.twoOwners f.origin .owner).seatTakes f.origin .owner).clear 0x833 0) :
    ClaimTaken x s t ∧ (t.view f.origin).map (fun v => v.role) = some .owner ∧ (s.allListed → t.flt.stands 0x833 0 = false) ∧
    (s.acts = true → f.origin < s.seat →
      t.own.role = .listener ∧ t.own.releaseNow = true ∧ t.own.yielding = none ∧ t.flt.stands 0x824 0 = true) ∧
    t.own.cutting = u.own.cutting := by
  have hs1 := (peerAccept_taken h).frame
  have hclaim := roleClaimed (.inl rfl : Role.owner = .owner ∨ Role.owner = .provisional) u f.origin
  generalize (u.twoOwners f.origin .owner).seatTakes f.origin .owner = w at *
  have hown : t.own = w.own := by rw [ht, clear_own]
  have hfree : s.allListed → w.flt.free 0x833 0 := fun hall =>
    hclaim.free _ _ (by decide) (Faults.free_of_listed ((congrArg Faults.unlisted (by rw [hu, hs1] : u.flt = s.flt)).trans hall) _ _)
  have hsame : SameFaults [0x824, 0x833] s w :=
    (SameFaults.of_stands fun _ _ => by rw [hu, hs1] : SameFaults _ s u).trans (hclaim.faults.mono (by decide))
  refine ⟨⟨?_, ?_⟩, (congrArg _ (view_congr (congrArg Ownership.views hown) _)).trans hclaim.view, fun hall => ?_, fun ha hk => ?_, ?_⟩
  · rw [ht, clear_flt, hclaim.frame, hu, hs1]
  · rw [ht]
    exact hsame.trans (clear_sameFaults (by decide) _ 0)
  · rw [ht]
    exact clear_stands_free _ _ _ (hfree hall) (by decide)
  · have hacts : u.acts = true := by rw [hu, hs1]; exact ha
    obtain ⟨hrole, hrel, hy, hst⟩ := hclaim.lower hacts (by rw [hu, hs1]; exact hk)
    rw [hown]
    refine ⟨hrole, hrel, hy, ?_⟩
    rw [ht, clear_stands_ne _ _ _ _ _ (by decide)]
    exact hst
  · rw [hown, hclaim.frame]

theorem claimTaken_of_provisional (hk : byteAt f.payload 0 = 0) :
    let t := claimReceived x s
    ClaimTaken x s t ∧ (t.view f.origin).map (fun v => v.role) = some .provisional ∧
    (s.attached = true → s.pat.turn = none → f.origin ∉ s.pat.turnsDone → t.pat.turn = some f.origin) ∧
    (s.acts = true → f.origin < s.seat →
      t.own.role = .listener ∧ t.own.releaseNow = true ∧ t.own.yielding = none ∧ t.flt.stands 0x824 0 = true) := by
  dsimp only
  rw [claimReceived_of_provisional h hk]
  obtain ⟨hs1, hother, -⟩ := peerAccept_taken h
  have hclaim := roleClaimed (.inr rfl : Role.provisional = .owner ∨ Role.provisional = .provisional) s1 f.origin
  generalize (s1.twoOwners f.origin .provisional).seatTakes f.origin .provisional = w at *
  have hw := hclaim.frame
  have hturn := otherTurn_frame w f.origin
  have hseat : w.seat = s.seat := by rw [hw, hs1]; rfl
  have htaken (ha : s.attached = true) (ht : s.pat.turn = none) (hd : f.origin ∉ s.pat.turnsDone) :
      (w.otherTurn f.origin).pat.turn = some f.origin := by
    refine otherTurn_of_free ?_ ?_ (hseat ▸ hother) ?_
    · rw [hw, hs1]; exact ha
    · rw [hw, hs1]; exact ht
    · rw [hw, hs1]; exact hd
  generalize w.otherTurn f.origin = t at *
  have hflt : t.flt = w.flt := by rw [hturn]
  have hown : t.own = w.own := by rw [hturn]
  refine ⟨⟨?_, ?_⟩, (congrArg _ (view_congr (congrArg Ownership.views hown) _)).trans hclaim.view, htaken, fun ha hl => ?_⟩
  · rw [hturn, hw, hs1]
  · exact ((SameFaults.of_stands fun _ _ => by rw [accepted_flt h] : SameFaults _ s s1).trans (hclaim.faults.mono (by decide))).trans
      (SameFaults.of_stands fun _ _ => by rw [hflt])
  · rw [hown, hflt]
    exact hclaim.lower (by rw [hs1]; exact ha) (by rw [hs1]; exact hl)

theorem claimTaken_of_accept (hk : byteAt f.payload 0 = 2) :
    let t := claimReceived x s
    ClaimTaken x s t ∧
    ∀ y, s.own.yielding = some y → y.succ = f.origin → t.own.yielding = some { y with accepted := true } := by
  dsimp only
  rw [claimReceived_of_accept h hk]
  have hs1 := (peerAccept_taken h).frame
  refine ⟨⟨?_, SameFaults.of_stands fun _ _ => ?_⟩, fun y hy hsucc => ?_⟩
  · rw [noteAccept_frame, hs1]
  · rw [noteAccept_frame]
    exact congrFun (congrFun (congrArg Faults.stands (accepted_flt h)) _) _
  · rw [← hsucc]
    exact noteAccept_of_successor (by rw [hs1]; exact hy)

end

/-! ### YIELD (R375) -/

theorem mem_turnsDone_turnOver (s : State) (k : Nat) : k ∈ (s.turnOver k).pat.turnsDone := by
  by_cases h : k ∈ s.pat.turnsDone <;> simp [State.turnOver, h]

theorem yieldReceived_of_accepted {s s1 : State} {x : PeerRx} {f : PeerFrame} (h : s.peerAccept 3 x = (s1, some f)) :
    let s2 := if byteAt f.payload 1 = 0 then s1.turnOver f.origin else s1
    yieldReceived x s = { s2 with own := { s2.own with
      yielding := some ⟨f.origin, byteAt f.payload 0, natAt f.payload 2 6, byteAt f.payload 1, 0, false, false⟩ } } := by
  unfold yieldReceived
  rw [h]

theorem yieldReceived_spec {s s1 : State} {x : PeerRx} {f : PeerFrame} (h : s.peerAccept 3 x = (s1, some f)) :
    let t := yieldReceived x s
    t = { s with
      now := max s.now x.t
      pat := { s.pat with turn := t.pat.turn, turnsDone := t.pat.turnsDone }
      own := { s1.own with
        turnSent := t.own.turnSent
        yielding := some ⟨f.origin, byteAt f.payload 0, natAt f.payload 2 6, byteAt f.payload 1, 0, false, false⟩ } } ∧
    (byteAt f.payload 1 = 0 → f.origin ∈ t.pat.turnsDone) ∧
    (byteAt f.payload 1 ≠ 0 → t.pat = s.pat ∧ t.own.turnSent = s.own.turnSent) := by
  have ht := yieldReceived_of_accepted h
  have hs1 := (peerAccept_taken h).frame
  have hrest : s1 = { s with now := max s.now x.t, own := s1.own } := by rw [hs1]
  have hpat : s1.pat = s.pat := by rw [hs1]
  have hsent : s1.own.turnSent = s.own.turnSent := by rw [hs1]
  dsimp only at ht ⊢
  rw [ht]
  by_cases hr : byteAt f.payload 1 = 0
  · simp only [if_pos hr]
    refine ⟨?_, fun _ => mem_turnsDone_turnOver s1 f.origin, fun hne => absurd hr hne⟩
    unfold State.turnOver
    rw [hrest]
  · simp only [if_neg hr]
    refine ⟨?_, fun h0 => absurd h0 hr, fun _ => ⟨hpat, hsent⟩⟩
    rw [hrest]

/-! ### MIRROR (R382, R383, R445) -/

theorem beBytes_length (n v : Nat) : (beBytes n v).length = n := by
  induction n generalizing v with
  | zero => rfl
  | succ n ih => rw [beBytes, List.length_cons, ih]

theorem byteAt_beBytes_one {v : Nat} (hv : v < 256) (l : List Byte) : byteAt (beBytes 1 v ++ l) 0 = v := by
  simp [byteAt, beBytes, Nat.mod_eq_of_lt hv]

/-- The length of an item is the number in its second and third bytes. -/
theorem natAt_mirrorItem {type : Nat} {c : List Byte} (hc : c.length < 65536) : natAt (mirrorItem type c) 1 2 = c.length := by
  have h1 : c.length / 256 < 256 := by omega
  simp only [natAt, mirrorItem, beBytes, beNat, List.cons_append, List.nil_append, List.drop_succ_cons, List.drop_zero, List.take_succ_cons,
    List.take_zero, List.foldl_cons, List.foldl_nil, BitVec.toNat_ofNat, pow_one, pow_zero, Nat.reducePow, Nat.div_one]
  omega

theorem byteAt_mirrorItem {type : Nat} (ht : type < 256) (c : List Byte) : byteAt (mirrorItem type c) 0 = type := by
  simp [byteAt, mirrorItem, beBytes, Nat.mod_eq_of_lt ht]

theorem drop_mirrorItem (type : Nat) (c : List Byte) : (mirrorItem type c).drop 3 = c := by simp [mirrorItem, beBytes]

theorem length_mirrorItem (type : Nat) (c : List Byte) : (mirrorItem type c).length = 3 + c.length := by
  simp [mirrorItem, beBytes_length]; omega

/-- A frame of one item is that item. -/
theorem takeItems_of_item {type : Nat} {c : List Byte} (ht : type < 256) (hc : c.length < 65536) (k n : Nat) (s : State) :
    State.takeItems k (n + 1) (mirrorItem type c) s = s.takeItem k type c := by
  have hend (u : State) : State.takeItems k n [] u = u := by
    cases n with
    | zero => rfl
    | succ n => exact if_pos (by simp)
  unfold State.takeItems
  rw [if_neg (by rw [length_mirrorItem]; omega)]
  dsimp only
  rw [natAt_mirrorItem hc, byteAt_mirrorItem ht, drop_mirrorItem, List.take_length,
    List.drop_eq_nil_of_le (by rw [length_mirrorItem]), hend]

theorem takeItem_relay {s : State} (ha : s.attached = true) (hn : s.acts = false) (k : Nat) (c : List Byte) :
    s.takeItem k 2 c = s.updRing (byteAt c 0) fun r => { r with relay := r.relay ++ [c.drop 1] } :=
  if_pos (by simp [ha, hn])

theorem mirrorReceived_relay {s s1 : State} {x : PeerRx} {f : PeerFrame} {r : Ring} {c : List Byte} (h : s.peerAccept 4 x = (s1, some f))
    (hport : r.port < 256) (hp : f.payload = mirrorItem 2 (beBytes 1 r.port ++ c)) (hr : s.ring r.port = some r) (ha : s.attached = true)
    (hn : s.acts = false) :
    let t := mirrorReceived x s
    t.ring r.port = some { r with relay := r.relay ++ [c] } ∧
    t = { s with now := max s.now x.t, own := s1.own, thr := { s.thr with rings := t.thr.rings } } := by
  obtain ⟨hs1, -, hlen⟩ := peerAccept_taken h
  have hshort : (beBytes 1 r.port ++ c).length < 65536 := by
    have hle : f.payload.length ≤ 1024 := by
      simp only [lengthOk, Bool.and_eq_true, decide_eq_true_eq] at hlen
      exact hlen.1
    rw [hp, length_mirrorItem] at hle
    omega
  have ht : mirrorReceived x s = s1.updRing r.port fun r => { r with relay := r.relay ++ [c] } := by
    unfold mirrorReceived
    rw [h]
    dsimp only
    rw [hp, takeItems_of_item (by decide) hshort
      f.origin 399, takeItem_relay (by rw [hs1]; exact ha) (by rw [hs1]; exact hn), byteAt_beBytes_one hport]
    rfl
  rw [ht]
  refine ⟨ring_updRing_some (by rw [hs1]; exact hr), ?_⟩
  unfold State.updRing
  rw [hs1]

/-- Settles O51: a CLAIM by its kind, a YIELD by its turn, and a relayed command by `takeItems_of_item`. -/
theorem peerFramesMoveTheRoles : Obligations.PeerFramesMoveTheRoles := by
  refine ⟨fun s s1 x f h => ⟨_, rfl, ?_⟩, fun s s1 x f h => ⟨_, rfl, yieldReceived_spec h⟩,
    fun s s1 x f r c h hport hp hr ha hn => ⟨_, rfl, mirrorReceived_relay h hport hp hr ha hn⟩⟩
  have hs1 := (peerAccept_taken h).frame
  obtain hk | hk | hk | hk : byteAt f.payload 0 = 0 ∨ byteAt f.payload 0 = 1 ∨ byteAt f.payload 0 = 2 ∨ 3 ≤ byteAt f.payload 0 := by omega
  · obtain ⟨htaken, hview, hturn, hlower⟩ := claimTaken_of_provisional h hk
    exact ⟨fun _ => ⟨hview, hturn⟩, fun hn => by omega, fun _ => hlower, fun y h2 => by omega, fun c h3 => by omega, htaken.faults,
      htaken.frame⟩
  · obtain ⟨htaken, hview, hover, hlower, -⟩ := claimTaken_of_owner h (u := s1) rfl (claimReceived_of_elected h hk)
    exact ⟨fun h0 => by omega, fun _ => ⟨hview, hover⟩, fun _ => hlower, fun y h2 => by omega, fun c h3 => by omega, htaken.faults,
      htaken.frame⟩
  · obtain ⟨htaken, haccept⟩ := claimTaken_of_accept h hk
    exact ⟨fun h0 => by omega, fun hn => by omega, fun hne => absurd hk hne, fun y _ => haccept y, fun c h3 => by omega, htaken.faults,
      htaken.frame⟩
  · obtain ⟨htaken, hview, hover, hlower, hcut⟩ :=
      claimTaken_of_owner h (barClaim_frame s1 f.origin) (claimReceived_of_forced h hk)
    refine ⟨fun h0 => by omega, fun _ => ⟨hview, hover⟩, fun _ => hlower, fun y h2 => by omega, fun c _ hc hcl hl ha he => ?_,
      htaken.faults, htaken.frame⟩
    exact hcut.trans (barClaim_of_lower (by rw [hs1]; exact hc) hcl (by rw [hs1]; exact hl) (by rw [hs1]; exact ha) he)

end Sys2Proof.Machine
end

section
/-!
SUPPORT. Ownership (R372 to R375): the provisional claim, the election, the planned yield and its acceptance; statement O52.
-/
namespace Sys2Proof.Machine

/-! ### What is sent does not depend on the roles -/

/-- What a change of the faults leaves of PEER: the core pairs held in reset, and the stop of the pin keeper. -/
structure PeerStays (s t : State) : Prop where
  tcDown : t.flt.tcDown = s.flt.tcDown
  stopped : t.flt.peerStopped = s.flt.peerStopped

theorem PeerStays.trans {s t u : State} (h : PeerStays s t) (k : PeerStays t u) : PeerStays s u :=
  ⟨k.tcDown.trans h.tcDown, k.stopped.trans h.stopped⟩

theorem pinsUp_peerStopped (s : State) : s.pinsUp.flt.peerStopped = s.flt.peerStopped := by
  unfold State.pinsUp
  split
  · rfl
  · split <;> rfl

theorem raiseOverflow_peerStopped (s : State) (c : Nat) : (s.raiseOverflow c).flt.peerStopped = s.flt.peerStopped := by
  unfold State.raiseOverflow
  split <;> rfl

theorem raise_peerStays (s : State) (c d : Nat) : PeerStays s (s.raise c d) := by
  refine ⟨raise_tcDown s c d, ?_⟩
  unfold State.raise State.raiseInst
  split
  · rfl
  · split
    · rw [pinsUp_peerStopped]; rfl
    · rw [pinsUp_peerStopped, raiseOverflow_peerStopped]

theorem clear_peerStays (s : State) (c d : Nat) : PeerStays s (s.clear c d) := by
  unfold State.clear
  dsimp only
  split
  · exact ⟨rfl, rfl⟩
  · split <;> exact ⟨rfl, rfl⟩

theorem clearAll_peerStays (s : State) (c : Nat) : PeerStays s (s.clearAll c) := by
  have hfold (l : List Nat) (u : State) : PeerStays u (l.foldl (fun t d => t.clear c d) u) := by
    induction l generalizing u with
    | nil => exact ⟨rfl, rfl⟩
    | cons d l ih => exact (clear_peerStays u c d).trans (ih _)
  exact hfold _ s

theorem peerOn_congr {s u : State} (hstays : PeerStays s u) (hsup : u.sup = s.sup) (hnv : u.nv = s.nv) (himg : u.img = s.img)
    (hstrap : u.strap = s.strap) : u.peerOn = s.peerOn := by
  unfold State.peerOn State.domainOn State.tc1Up State.fitted State.seat
  rw [hsup, hnv, himg, hstrap, hstays.tcDown]

/-- The frames sent depend on the device, the image, the faults of PEER, the round and what a frame carries, and on no role. -/
theorem peerSend_sent_congr {s u : State} (hstays : PeerStays s u) (hsup : u.sup = s.sup) (hnv : u.nv = s.nv) (himg : u.img = s.img)
    (hstrap : u.strap = s.strap) (hpace : u.pace = s.pace) (hnonce : u.own.nonce = s.own.nonce) (hseq : u.own.seq = s.own.seq)
    (hsent : u.own.sent = s.own.sent) (type : Nat) (payload : List Byte) :
    (u.peerSend type payload).own.sent = (s.peerSend type payload).own.sent := by
  have hon := peerOn_congr hstays hsup hnv himg hstrap
  have hhead : u.peerHead type payload.length = s.peerHead type payload.length := by
    simp only [State.peerHead, State.seat, hstrap, hnonce, hpace, hseq]
  unfold State.peerSend
  rw [hon, hstays.stopped, hhead, hnv, hpace, hsent]
  split
  · exact hsent
  · rfl

/-! ### The provisional claim (R372) -/

/-- A listener becomes the provisional owner, with the group, in its turn of the pattern check. -/
def State.becomeProvisional (s : State) : State := ({ s with own := { s.own with role := .provisional } } : State).takeGroup.beginTurn

/-- What the provisional claim leaves of the seat, the check and the nodes. -/
def ProvisionalTaken (s t : State) : Prop :=
  t.own = { s.own with role := .provisional, caps := true, pins := true, seq := t.own.seq
                       sent := (s.sendClaim 0 s.pace.round).own.sent } ∧
  t.pat.turn = some s.seat ∧ t.pat.turnStart = s.pace.round ∧ (∀ n ∈ t.thr.nodes, n.identDue = true) ∧
  t = { s with own := t.own, pat := t.pat, thr := { s.thr with nodes := t.thr.nodes }, flt := t.flt }

theorem beginTurn_spec (s : State) :
    let t := s.beginTurn
    t = { s with pat := t.pat, thr := { s.thr with nodes := t.thr.nodes }, flt := t.flt } ∧ t.pat.turn = some s.seat ∧
    t.pat.turnStart = s.pace.round ∧ (∀ n ∈ t.thr.nodes, n.identDue = true) ∧ SameFaults [0x40A] s t ∧ PeerStays s t := by
  unfold State.beginTurn
  extract_lets items due _ _ s1 t
  have hnodes : ∀ n ∈ s1.thr.nodes, n.identDue = true := by
    intro n hn
    obtain ⟨m, -, rfl⟩ := List.mem_map.mp hn
    rfl
  have h1 : s1 = { s with pat := s1.pat, thr := { s.thr with nodes := s1.thr.nodes } } := rfl
  have hturn : s1.pat.turn = some s.seat := rfl
  have hstart : s1.pat.turnStart = s.pace.round := rfl
  have hflt : s1.flt = s.flt := rfl
  have ht : t = s1.clearAll 0x40A := rfl
  clear_value t s1
  have hsame : SameFaults [0x40A] s (s1.clearAll 0x40A) :=
    (SameFaults.of_stands fun _ _ => by rw [hflt] : SameFaults [0x40A] s s1).trans (clearAll_sameFaults (by decide) s1)
  have hstays : PeerStays s (s1.clearAll 0x40A) := PeerStays.trans ⟨by rw [hflt], by rw [hflt]⟩ (clearAll_peerStays s1 0x40A)
  have hclear := clearAll_flt s1 0x40A
  rw [← ht] at hsame hstays hclear
  refine ⟨?_, ?_, ?_, ?_, hsame, hstays⟩
  · rw [hclear, h1]
  · rw [hclear]; exact hturn
  · rw [hclear]; exact hstart
  · rw [hclear]; exact hnodes

/-- The claim itself, from any state that differs in its faults alone. -/
theorem becomeProvisional_claim {s u : State} (hu : u = { s.becomeProvisional with flt := u.flt })
    (hstays : PeerStays s.becomeProvisional u) : ProvisionalTaken s (u.sendClaim 0 s.pace.round) := by
  obtain ⟨hframe, hturn, hstart, hnodes, -, hst⟩ :=
    beginTurn_spec (({ s with own := { s.own with role := .provisional } } : State).takeGroup)
  have hb : s.becomeProvisional = (({ s with own := { s.own with role := .provisional } } : State).takeGroup).beginTurn := rfl
  rw [← hb] at hframe hturn hstart hnodes hst
  generalize s.becomeProvisional = v at *
  have hall : u = { s with
      own := { s.own with role := .provisional, caps := true, pins := true }, pat := v.pat, thr := { s.thr with nodes := v.thr.nodes }
      flt := u.flt } := by
    rw [hu, hframe]
    rfl
  have hlink : PeerStays s u := (PeerStays.mk hst.tcDown hst.stopped : PeerStays s v).trans hstays
  have hsent : (u.sendClaim 0 s.pace.round).own.sent = (s.sendClaim 0 s.pace.round).own.sent := by
    apply peerSend_sent_congr hlink <;> rw [hall]
  have hsend : u.sendClaim 0 s.pace.round = { u with own := { u.own with
      seq := (u.sendClaim 0 s.pace.round).own.seq, sent := (u.sendClaim 0 s.pace.round).own.sent } } := peerSend_frame u 2 _
  rw [hsent] at hsend
  generalize u.sendClaim 0 s.pace.round = t at *
  refine ⟨?_, ?_, ?_, ?_, ?_⟩
  · rw [hsend, hall]
  · rw [hsend, hall]; exact hturn
  · rw [hsend, hall]; exact hstart
  · rw [hsend, hall]; exact hnodes
  · rw [hsend, hall]


theorem becomeProvisional_sameFaults (s : State) : SameFaults [0x40A] s s.becomeProvisional := by
  obtain ⟨-, -, -, -, hfaults, -⟩ := beginTurn_spec (({ s with own := { s.own with role := .provisional } } : State).takeGroup)
  exact hfaults

theorem sendClaim_flt (s : State) (kind : Nat) (round : Round) : (s.sendClaim kind round).flt = s.flt := by
  unfold State.sendClaim
  rw [peerSend_frame]

section
variable {s : State} (hr : s.rounds = true) (h1 : s.tc1Up = true) (hrole : s.own.role = .listener) (hrom : s.img.rom = false)
  (hdig : s.img.digest.length = 32) (hpass : s.tst.passed = true) (hturn : s.pat.ownTurnDone = false) (h5 : s.pace.stitch = 5)
include hr h1 hrole hrom hdig hpass hturn h5

theorem provisionalClaim_of_first (hseat : s.seat = 0) (hround : s.pace.round = s.own.since) :
    provisionalClaim s = s.becomeProvisional.sendClaim 0 s.pace.round :=
  if_pos (by simp [hr, h1, hrole, State.imageOk, State.selfOk, hrom, hdig, hpass, hturn, h5, hseat, hround])

/-- S0 is silent where no view of it holds a BEAT. -/
theorem listenTimeout_of_silent (hseat : s.seat = 1) (hatt : 1 ∈ s.attachedSeats) (hown : s.ownerSeat = none)
    (hsilent : ∀ v ∈ s.own.views, v.seat ≠ 0 ∨ v.beat = none) (hlong : s.own.since + s.img.f.own.listenMax ≤ s.pace.round) :
    listenTimeout s = (s.becomeProvisional.raise 0x840 0).sendClaim 0 s.pace.round := by
  have hguard : s.rounds && s.tc1Up && s.seat == 1 && s.attachedSeats.contains 1 && s.own.role == Role.listener && s.ownerSeat.isNone &&
      s.imageOk && s.selfOk && !s.pat.ownTurnDone && decide (s.pace.stitch = 5) = true := by
    simp [hr, h1, hrole, State.imageOk, State.selfOk, hrom, hdig, hpass, hturn, h5, hseat, hatt, hown]
  unfold listenTimeout
  cases hv : s.view 0 with
  | none => exact if_pos (by simp_all)
  | some v =>
    have hzero : (v.seat == 0) = true := List.find?_some (p := fun v : SeatView => v.seat == 0) hv
    have hbeat : v.beat = none := (hsilent v (List.mem_of_find?_eq_some hv)).resolve_left (by simpa using hzero)
    exact if_pos (by simp_all)

end

/-! ### The election (R373) -/

section
variable {s : State} (hr : s.rounds = true) (h1 : s.tc1Up = true) (hel : s.own.elected = false) (ht : s.pat.turn = none)
  (htest : s.pat.testing = none) (hover : s.turnsOver = true) (hinst : s.installAwaited = false) (h3 : s.pace.stitch = 3)
include hr h1 hel ht htest hover hinst h3

theorem election_of_due :
    let s1 : State := { s with own := { s.own with elected := true } }
    election s = match s.lowestEligible fun _ => true with
      | none =>
        if s.own.role == Role.provisional then
          { s1.raise 0x833 0 with own := { (s1.raise 0x833 0).own with releaseAt := some (s.pace.round + 2) } }
        else s1.raise 0x833 0
      | some k =>
        if s.own.role == Role.provisional then { s1 with own := { s1.own with electedSeat := some k } } else s1 :=
  if_neg (by simp [hr, h1, hel, ht, htest, hover, hinst, h3])

theorem election_spec :
    let t := election s
    t.own.elected = true ∧ SameFaults [0x833] s t ∧ t = { s with own := t.own, flt := t.flt } ∧
    (s.lowestEligible (fun _ => true) = none → t.flt.stands 0x833 0 = true ∧
      t.own = { s.own with elected := true
                           releaseAt := if s.own.role = .provisional then some (s.pace.round + 2) else s.own.releaseAt }) ∧
    (∀ k, s.lowestEligible (fun _ => true) = some k → t.flt = s.flt ∧
      t.own = { s.own with elected := true
                           electedSeat := if s.own.role = .provisional then some k else s.own.electedSeat }) := by
  have heq := election_of_due hr h1 hel ht htest hover hinst h3
  dsimp only at heq ⊢
  cases hlow : s.lowestEligible fun _ => true with
  | none =>
    rw [hlow] at heq
    dsimp only at heq
    generalize hs1 : ({ s with own := { s.own with elected := true } } : State) = s1 at heq
    have hfaults : SameFaults [0x833] s (s1.raise 0x833 0) :=
      (SameFaults.of_stands fun _ _ => by rw [← hs1] : SameFaults [0x833] s s1).trans (raise_sameFaults (by decide) s1 0)
    have hown : (s1.raise 0x833 0).own = { s.own with elected := true } := by rw [raise_own, ← hs1]
    have hframe : s1.raise 0x833 0 = { s with own := (s1.raise 0x833 0).own, flt := (s1.raise 0x833 0).flt } := by
      rw [raise_own, raise_flt, ← hs1]
    have hstands := raise_stands s1 0x833 0
    generalize s1.raise 0x833 0 = u at *
    by_cases hrole : s.own.role = .provisional
    · rw [if_pos (by simp [hrole])] at heq
      rw [heq, hown]
      exact ⟨rfl, hfaults, by rw [hframe], fun _ => ⟨hstands, by rw [if_pos hrole]⟩, nofun⟩
    · rw [if_neg (by simpa using hrole)] at heq
      rw [heq, hown]
      exact ⟨rfl, hfaults, by rw [← hown]; exact hframe, fun _ => ⟨hstands, by rw [if_neg hrole]⟩, nofun⟩
  | some k =>
    rw [hlow] at heq
    dsimp only at heq
    by_cases hrole : s.own.role = .provisional
    · rw [if_pos (by simp [hrole])] at heq
      rw [heq]
      refine ⟨rfl, SameFaults.of_stands fun _ _ => rfl, rfl, nofun, fun j hj => ⟨rfl, ?_⟩⟩
      cases hj
      rw [if_pos hrole]
    · rw [if_neg (by simpa using hrole)] at heq
      rw [heq]
      refine ⟨rfl, SameFaults.of_stands fun _ _ => rfl, rfl, nofun, fun j hj => ⟨rfl, ?_⟩⟩
      rw [if_neg hrole]

end

/-! ### The planned yield (R374, R375) -/

/-- The yield in progress that a seat begins. -/
def State.beginYield (s : State) (k reason : Nat) : State :=
  { s with own := { s.own with yielding := some ⟨s.seat, k, s.pace.round + 2, reason, 0, false, false⟩, electedSeat := none } }

theorem yieldSend_of_due {s : State} {k reason : Nat} (hy : s.own.yielding = none) (hdue : s.yieldDue = some (k, reason))
    (hr : s.rounds = true) (h1 : s.tc1Up = true) (h5 : s.pace.stitch = 5) :
    let t := yieldSend s
    t = { s with own := { s.own with
      yielding := some ⟨s.seat, k, s.pace.round + 2, reason, 0, false, false⟩, electedSeat := none
      seq := t.own.seq, sent := (s.sendYield k reason (s.pace.round + 2)).own.sent } } := by
  have ht : yieldSend s = (s.beginYield k reason).sendYield k reason (s.pace.round + 2) := by
    unfold yieldSend
    rw [hy, hdue]
    exact if_pos (by simp [hr, h1, h5])
  have hsent : ((s.beginYield k reason).sendYield k reason (s.pace.round + 2)).own.sent =
      (s.sendYield k reason (s.pace.round + 2)).own.sent :=
    peerSend_sent_congr (s := s) (u := s.beginYield k reason) ⟨rfl, rfl⟩ rfl rfl rfl rfl rfl rfl rfl rfl _ _
  have hsend := peerSend_frame (s.beginYield k reason) 3 (beBytes 1 k ++ beBytes 1 reason ++ beBytes 6 (s.pace.round + 2))
  dsimp only
  rw [ht, ← hsent]
  exact hsend

theorem yieldDue_of_elected {s : State} {k : Nat} (hab : s.own.abandoned = none) (hrole : s.own.role = .provisional)
    (hel : s.own.electedSeat = some k) (hk : k ≠ s.seat) : s.yieldDue = some (k, 1) := by
  unfold State.yieldDue
  rw [if_neg (by simp [hab]), if_pos (by simp [hrole]), hel]
  exact if_neg hk

theorem yieldDue_of_unfit {s : State} {k : Nat} {r : Round} (hab : s.own.abandoned = none) (hrole : s.own.role = .owner)
    (hcut : s.own.cut = false) (hel : s.ownEligible = false) (hu : s.own.unfit = some r) (hr : r < s.pace.round)
    (hlow : s.lowestEligible (fun j => !decide (j = s.seat)) = some k) :
    s.yieldDue = some (k, if s.own.outvoted = true then 3 else 2) := by
  unfold State.yieldDue
  rw [if_neg (by simp [hab]), if_neg (by simp [hrole]), if_pos (by simp [hrole, hcut, hel, hu, hr]), hlow]
  rfl

/-- The successor accepts in the round before H. -/
theorem acceptClaim_of_due {s : State} {y : Yield} (hy : s.own.yielding = some y) (hsucc : y.succ = s.seat) (hacc : y.accepted = false)
    (hh : s.pace.round + 1 = y.h) (h5 : s.pace.stitch = 5) (hr : s.rounds = true) (h1 : s.tc1Up = true) :
    let t := acceptClaim s
    t = { s with own := { s.own with
      yielding := some { y with accepted := true }, seq := t.own.seq, sent := (s.sendClaim 2 y.h).own.sent } } := by
  let u : State := { s with own := { s.own with yielding := some { y with accepted := true } } }
  have ht : acceptClaim s = u.sendClaim 2 y.h := by
    unfold acceptClaim
    rw [hy]
    exact if_pos ⟨hsucc, by simp [hacc], hh, h5, hr, h1⟩
  have hsent : (u.sendClaim 2 y.h).own.sent = (s.sendClaim 2 y.h).own.sent :=
    peerSend_sent_congr (s := s) (u := u) ⟨rfl, rfl⟩ rfl rfl rfl rfl rfl rfl rfl rfl _ _
  have hsend := peerSend_frame u 2 (beBytes 1 2 ++ beBytes 6 y.h)
  dsimp only
  rw [ht, ← hsent]
  exact hsend

/-- Settles O52: the claim by `becomeProvisional_claim`, the election by its cases, and the yield by what is due. -/
theorem ownershipIsClaimedElectedAndYielded : Obligations.OwnershipIsClaimedElectedAndYielded := by
  refine ⟨⟨fun s hr h1 hrole hrom hdig hpass hturn h5 => ⟨fun hseat hround => ⟨_, rfl, ?_⟩,
      fun hseat hatt hown hsilent hlong => ⟨_, rfl, ?_⟩⟩,
    fun s hr h1 hel ht htest hover hinst h3 => ⟨_, rfl, election_spec hr h1 hel ht htest hover hinst h3⟩⟩,
    fun s hy hab hr h1 h5 => ⟨fun k hrole hel hk => ⟨_, rfl, ?_⟩, fun k r hrole hcut hel hu hlt hlow => ⟨_, rfl, ?_⟩⟩,
    fun s y hy hsucc hacc hh h5 hr h1 => ⟨_, rfl, acceptClaim_of_due hy hsucc hacc hh h5 hr h1⟩⟩
  · rw [provisionalClaim_of_first hr h1 hrole hrom hdig hpass hturn h5 hseat hround]
    refine ⟨becomeProvisional_claim rfl ⟨rfl, rfl⟩, ?_⟩
    refine (becomeProvisional_sameFaults s).trans (SameFaults.of_stands fun _ _ => ?_)
    rw [sendClaim_flt]
  · rw [listenTimeout_of_silent hr h1 hrole hrom hdig hpass hturn h5 hseat hatt hown hsilent hlong]
    refine ⟨becomeProvisional_claim (raise_flt _ _ _) (raise_peerStays _ _ _), ?_, ?_⟩
    · rw [sendClaim_flt]
      exact raise_stands _ _ _
    · have hraise : SameFaults [0x40A, 0x840] s (s.becomeProvisional.raise 0x840 0) :=
        ((becomeProvisional_sameFaults s).mono (by decide)).trans (raise_sameFaults (by decide) _ 0)
      refine hraise.trans (SameFaults.of_stands fun _ _ => ?_)
      rw [sendClaim_flt]
  · exact yieldSend_of_due hy (yieldDue_of_elected hab hrole hel hk) hr h1 h5
  · exact yieldSend_of_due hy (yieldDue_of_unfit hab hrole hcut hel hu hlt hlow) hr h1 h5

end Sys2Proof.Machine
end

section
/-!
SUPPORT. The selection of the image (R401, R407): what running a slot or the ROM defaults leaves, and the order of the slots; statement O13.
-/
namespace Sys2Proof.Machine

/-! ### The fields of an image -/

/-- A change of the image fields in force and of what hangs on them, with their faults. -/
def FieldsOnly (s t : State) : Prop :=
  t = { s with
    img := { s.img with variant := t.img.variant, storeServed := t.img.storeServed, burstsOn := t.img.burstsOn, f := t.img.f }
    acq := t.acq, thr := t.thr, flt := t.flt }

theorem FieldsOnly.trans {s t u : State} (h : FieldsOnly s t) (k : FieldsOnly t u) : FieldsOnly s u := by
  unfold FieldsOnly at *
  rw [k, h]

theorem FieldsOnly.of_flt {s t : State} (h : t = { s with flt := t.flt }) : FieldsOnly s t := by
  unfold FieldsOnly
  rw [h]

theorem raise_fieldsOnly (s : State) (c d : Nat) : FieldsOnly s (s.raise c d) := .of_flt (raise_flt s c d)

theorem foldl_raise_fieldsOnly (c : Nat) (f : Nat → Nat) (l : List Nat) (s : State) :
    FieldsOnly s (l.foldl (fun t i => t.raise c (f i)) s) :=
  .of_flt (foldl_flt _ (fun u i => raise_flt u c (f i)) l s)

theorem judgeVariant_fieldsOnly (s : State) (l : List (Nat × VariantRec)) : FieldsOnly s (s.judgeVariant l) := by
  unfold State.judgeVariant
  split
  · rfl
  · split
    · exact raise_fieldsOnly s _ _
    · split
      · exact raise_fieldsOnly s _ _
      · rfl

theorem useFields_fieldsOnly (s : State) (v : Option (Variant × List Nat)) (l : List SlotRecord) (m : Env → ModelFields) :
    FieldsOnly s (s.useFields v l m) := by
  have hif (b : Bool) (c : Nat) (u : State) (hu : FieldsOnly s u) : FieldsOnly s (if b = true then u.raise c 0 else u) := by
    split
    · exact hu.trans (raise_fieldsOnly u c 0)
    · exact hu
  unfold State.useFields
  dsimp only
  refine hif _ 0x912 _ (hif _ 0x911 _ (FieldsOnly.trans ?_ (foldl_raise_fieldsOnly 0x913 (fun d => d) _ _)))
  refine FieldsOnly.trans ?_ (foldl_raise_fieldsOnly 0x910 (fun i => Nat.lor 0x8000 i) _ _)
  rfl

/-! ### A slot or the ROM defaults run -/

/-- What the selection of an image leaves as it is. -/
structure SelectKeeps (s t : State) : Prop where
  sup : t.sup = s.sup
  fuses : t.nv.fuses = s.nv.fuses
  strap : t.strap = s.strap
  code : t.code = s.code
  pending : t.pending = s.pending

theorem SelectKeeps.trans {s t u : State} (h : SelectKeeps s t) (k : SelectKeeps t u) : SelectKeeps s u :=
  ⟨k.sup.trans h.sup, k.fuses.trans h.fuses, k.strap.trans h.strap, k.code.trans h.code, k.pending.trans h.pending⟩

theorem FieldsOnly.selectKeeps {s t : State} (h : FieldsOnly s t) : SelectKeeps s t := by
  unfold FieldsOnly at h
  constructor <;> rw [h]

theorem FieldsOnly.image {s t : State} (h : FieldsOnly s t) :
    t.img.rom = s.img.rom ∧ t.img.slot = s.img.slot ∧ t.img.digest = s.img.digest ∧ t.lrn = s.lrn := by
  unfold FieldsOnly at h
  exact ⟨by rw [h], by rw [h], by rw [h], by rw [h]⟩

theorem runImage_spec (s : State) (k : Nat) (x : SlotImage) :
    let t := s.runImage k x
    SelectKeeps s t ∧ t.img.rom = false ∧ t.img.slot = k ∧ t.img.digest = x.digest := by
  unfold State.runImage
  extract_lets _ s1 s2 _ s3 _ t
  have h1 : SelectKeeps s s1 := ⟨rfl, rfl, rfl, rfl, rfl⟩
  have h2 : FieldsOnly s1 s2 := (judgeVariant_fieldsOnly s1 _).trans (useFields_fieldsOnly _ _ _ _)
  have h3 : SelectKeeps s2 s3 ∧ s3.img = s2.img := by
    simp only [s3]
    split <;> exact ⟨⟨rfl, rfl, rfl, rfl, rfl⟩, rfl⟩
  have h4 : SelectKeeps s3 t ∧ t.img = s3.img := by
    simp only [t]
    split
    · exact ⟨⟨rfl, rfl, rfl, rfl, rfl⟩, rfl⟩
    · rw [raise_flt]
      exact ⟨⟨rfl, rfl, rfl, rfl, rfl⟩, rfl⟩
  obtain ⟨hrom, hslot, hdig, -⟩ := h2.image
  have himg : t.img = s2.img := h4.2.trans h3.2
  exact ⟨((h1.trans h2.selectKeeps).trans h3.1).trans h4.1, by rw [himg]; exact hrom, by rw [himg]; exact hslot, by rw [himg]; exact hdig⟩

theorem runRom_spec (s : State) :
    let t := s.runRom
    SelectKeeps s t ∧ t.img.rom = true ∧ t.img.slot = 2 ∧ t.lrn.disabled = true := by
  unfold State.runRom
  extract_lets _ _ s1 model s2 _ t
  have h1 : SelectKeeps s s1 ∧ s1.img.rom = true ∧ s1.img.slot = 2 ∧ s1.lrn.disabled = true := by
    simp only [s1]
    rw [raise_flt]
    exact ⟨⟨rfl, rfl, rfl, rfl, rfl⟩, rfl, rfl, rfl⟩
  obtain ⟨hkeeps, hrom, hslot, hdis⟩ := h1
  have hfields : FieldsOnly s1 t := by
    have h2 : FieldsOnly s1 s2 := (useFields_fieldsOnly s1 none [] model).trans (raise_fieldsOnly _ 0x905 0)
    clear_value s2
    simp only [t]
    split
    · exact (judgeVariant_fieldsOnly s1 _).trans (useFields_fieldsOnly _ _ _ _)
    · exact h2.trans rfl
  obtain ⟨hr, hs, -, hl⟩ := hfields.image
  exact ⟨hkeeps.trans hfields.selectKeeps, hr.trans hrom, hs.trans hslot, by rw [hl]; exact hdis⟩

/-! ### The order of the slots (R401, R407) -/

/-- The slot that is examined first or second. -/
def slotOf (a b : Option SlotImage) (k : Nat) : Option SlotImage := if k = 0 then a else b

/-- A slot that is refused, with its reason. -/
def State.rejectSlot (s : State) (slot r : Nat) : State :=
  if slot = 0 then ({ s with img := { s.img with reasonA := r } } : State).raise 0x901 r
  else ({ s with img := { s.img with reasonB := r } } : State).raise 0x902 r

theorem rejectSlot_keeps (s : State) (slot r : Nat) : SelectKeeps s (s.rejectSlot slot r) := by
  unfold State.rejectSlot
  split
  all_goals
    rw [raise_flt]
    exact ⟨rfl, rfl, rfl, rfl, rfl⟩

/-- The reason of a slot rests on the fuses and the codes alone. -/
theorem SelectKeeps.slotReason {s t : State} (h : SelectKeeps s t) (x : Option SlotImage) : t.slotReason x = s.slotReason x := by
  unfold State.slotReason
  rw [h.fuses, h.code]

/-- The state in which the slots are examined. -/
def State.selecting (s : State) : State :=
  { s with
    img := { s.img with reasonA := 0, reasonB := 0 }
    lrn := { s.lrn with disabled := false }
    sup := { s.sup with bootStep := .imageRun } }

/-- The order of SLOT_PREF. -/
def State.slotOrder (s : State) : Nat × Nat := if s.strap.latched.slotPref then (1, 0) else (0, 1)

theorem slotReason_selecting (s : State) (x : Option SlotImage) : s.selecting.slotReason x = s.slotReason x := rfl

section
variable {s : State} {a b : Option SlotImage} (hdev : s.sup.dev = .boot) (hstep : s.sup.bootStep = .selfTested)
  (hmode : s.tst.mode = .none_)
include hdev hstep hmode

theorem imageSelect_eq :
    let first := s.slotOrder.1
    let second := s.slotOrder.2
    imageSelect a b s =
      match slotOf a b first, s.slotReason (slotOf a b first) with
      | some x, 0 => s.selecting.runImage first x
      | _, _ =>
        let s1 := s.selecting.rejectSlot first (s.slotReason (slotOf a b first))
        match slotOf a b second, s1.slotReason (slotOf a b second) with
        | some x, 0 => (s1.runImage second x).raise 0x903 0
        | _, _ => (s1.rejectSlot second (s1.slotReason (slotOf a b second))).runRom := by
  unfold imageSelect
  rw [if_neg (by simp [hdev, hstep, hmode])]
  unfold State.slotOrder
  split <;> rfl

theorem imageSelect_of_first {x : SlotImage} (hx : slotOf a b s.slotOrder.1 = some x) (hr : s.slotReason (some x) = 0) :
    imageSelect a b s = s.selecting.runImage s.slotOrder.1 x := by
  have h := imageSelect_eq (a := a) (b := b) hdev hstep hmode
  dsimp only at h
  rw [hx, hr] at h
  exact h

/-- The first slot is not sound: it is refused, and the second one is examined. -/
theorem imageSelect_of_not_first (hn : ¬ ((slotOf a b s.slotOrder.1).isSome = true ∧ s.slotReason (slotOf a b s.slotOrder.1) = 0)) :
    let s1 := s.selecting.rejectSlot s.slotOrder.1 (s.slotReason (slotOf a b s.slotOrder.1))
    imageSelect a b s =
      match slotOf a b s.slotOrder.2, s.slotReason (slotOf a b s.slotOrder.2) with
      | some x, 0 => (s1.runImage s.slotOrder.2 x).raise 0x903 0
      | _, _ => (s1.rejectSlot s.slotOrder.2 (s.slotReason (slotOf a b s.slotOrder.2))).runRom := by
  have h := imageSelect_eq (a := a) (b := b) hdev hstep hmode
  have hreason := (rejectSlot_keeps s.selecting s.slotOrder.1 (s.slotReason (slotOf a b s.slotOrder.1))).slotReason
    (slotOf a b s.slotOrder.2)
  dsimp only at h ⊢
  rw [hreason, slotReason_selecting] at h
  split at h
  · next x hx hr => exact absurd ⟨by rw [hx]; rfl, hr⟩ hn
  · rw [h]

theorem imageSelect_of_second (hn : ¬ ((slotOf a b s.slotOrder.1).isSome = true ∧ s.slotReason (slotOf a b s.slotOrder.1) = 0))
    {x : SlotImage} (hx : slotOf a b s.slotOrder.2 = some x) (hr : s.slotReason (some x) = 0) :
    imageSelect a b s =
      ((s.selecting.rejectSlot s.slotOrder.1 (s.slotReason (slotOf a b s.slotOrder.1))).runImage s.slotOrder.2 x).raise 0x903 0 := by
  have h := imageSelect_of_not_first hdev hstep hmode hn
  dsimp only at h
  rw [hx, hr] at h
  exact h

theorem imageSelect_of_neither (hn : ¬ ((slotOf a b s.slotOrder.1).isSome = true ∧ s.slotReason (slotOf a b s.slotOrder.1) = 0))
    (hn2 : ¬ ((slotOf a b s.slotOrder.2).isSome = true ∧ s.slotReason (slotOf a b s.slotOrder.2) = 0)) :
    imageSelect a b s =
      ((s.selecting.rejectSlot s.slotOrder.1 (s.slotReason (slotOf a b s.slotOrder.1))).rejectSlot s.slotOrder.2
        (s.slotReason (slotOf a b s.slotOrder.2))).runRom := by
  have h := imageSelect_of_not_first hdev hstep hmode hn
  dsimp only at h
  split at h
  · next x hx hr => exact absurd ⟨by rw [hx]; rfl, hr⟩ hn2
  · exact h

end

/-- What the selection keeps, but for the step of the boot. -/
theorem keeps_of_selecting {s t : State} (h : SelectKeeps s.selecting t) :
    t.sup = { s.sup with bootStep := .imageRun } ∧ t.nv.fuses = s.nv.fuses ∧ t.strap = s.strap ∧ t.code = s.code ∧
    t.pending = s.pending := ⟨h.sup, h.fuses, h.strap, h.code, h.pending⟩

theorem raise_selectKeeps (s : State) (c d : Nat) : SelectKeeps s (s.raise c d) := (raise_fieldsOnly s c d).selectKeeps

/-- Settles O13: by the first slot that is sound, in the order of SLOT_PREF. -/
theorem imageSelectTakesTheFirstSoundSlot : Obligations.ImageSelectTakesTheFirstSoundSlot := by
  intro s a b hdev hstep hmode order slot sound
  refine ⟨_, rfl, ?_⟩
  have horder : order = s.slotOrder := rfl
  have hslot : slot = slotOf a b := rfl
  have hsound (k : Nat) : sound k ↔ (slotOf a b k).isSome = true ∧ s.slotReason (slotOf a b k) = 0 := Iff.rfl
  clear_value order slot sound
  subst horder hslot
  by_cases h1 : sound s.slotOrder.1
  · obtain ⟨hsome, hr⟩ := (hsound _).mp h1
    obtain ⟨x, hx⟩ := Option.isSome_iff_exists.mp hsome
    obtain ⟨hkeeps, hrom, hsl, hdig⟩ := runImage_spec s.selecting s.slotOrder.1 x
    rw [imageSelect_of_first hdev hstep hmode hx (hx ▸ hr)]
    obtain ⟨hsup, hrest⟩ := keeps_of_selecting hkeeps
    exact ⟨hsup, fun _ => ⟨hrom, hsl, by rw [hdig, hx]; rfl⟩, fun hno => absurd h1 hno, fun hno => absurd h1 hno, hrest⟩
  · have hn : ¬ ((slotOf a b s.slotOrder.1).isSome = true ∧ s.slotReason (slotOf a b s.slotOrder.1) = 0) := mt (hsound _).mpr h1
    have hreject := rejectSlot_keeps s.selecting s.slotOrder.1 (s.slotReason (slotOf a b s.slotOrder.1))
    by_cases h2 : sound s.slotOrder.2
    · obtain ⟨hsome, hr⟩ := (hsound _).mp h2
      obtain ⟨x, hx⟩ := Option.isSome_iff_exists.mp hsome
      rw [imageSelect_of_second hdev hstep hmode hn hx (hx ▸ hr)]
      obtain ⟨hkeeps, hrom, hsl, -⟩ :=
        runImage_spec (s.selecting.rejectSlot s.slotOrder.1 (s.slotReason (slotOf a b s.slotOrder.1))) s.slotOrder.2 x
      obtain ⟨hsup, hrest⟩ := keeps_of_selecting ((hreject.trans hkeeps).trans (raise_selectKeeps _ 0x903 0))
      refine ⟨hsup, fun hyes => absurd hyes h1, fun _ _ => ⟨?_, ?_, raise_stands _ _ _⟩, fun _ hno => absurd h2 hno, hrest⟩
      · rw [raise_img]; exact hrom
      · rw [raise_img]; exact hsl
    · rw [imageSelect_of_neither hdev hstep hmode hn (mt (hsound _).mpr h2)]
      have hreject2 := rejectSlot_keeps (s.selecting.rejectSlot s.slotOrder.1 (s.slotReason (slotOf a b s.slotOrder.1))) s.slotOrder.2
        (s.slotReason (slotOf a b s.slotOrder.2))
      obtain ⟨hkeeps, hrom, hsl, hdis⟩ := runRom_spec
        ((s.selecting.rejectSlot s.slotOrder.1 (s.slotReason (slotOf a b s.slotOrder.1))).rejectSlot s.slotOrder.2
          (s.slotReason (slotOf a b s.slotOrder.2)))
      obtain ⟨hsup, hrest⟩ := keeps_of_selecting ((hreject.trans hreject2).trans hkeeps)
      exact ⟨hsup, fun hyes => absurd hyes h1, fun _ hyes => absurd hyes h2, fun _ _ => ⟨hrom, hsl, hdis⟩, hrest⟩

end Sys2Proof.Machine
end

section
/-!
SUPPORT. The CAN channels (R429): frames sent, error states and reception; statement O54.
-/
namespace Sys2Proof.Machine

/-- The channel of a frame. -/
def State.chan (s : State) (b : Bool) : CanChan := if b then s.out.canB else s.out.canA

/-! ### A frame is sent -/

/-- A buffer whose frame left, and the channel error-active again where the acknowledgement says so. -/
def CanChan.sent (c : CanChan) (second act : Bool) : CanChan :=
  { c with
    first := if second then c.first else c.first.done
    second := if second then c.second.done else c.second
    passive := if act = true then false else c.passive }

theorem canTxComplete_of_ready {s : State} {b second : Bool} (hoff : (s.chan b).busOff = false) (h6 : s.domainOn 6 = true)
    (hready : (if second then !(s.chan b).second.idle && ((s.chan b).second.sending.isSome || (s.chan b).first.idle)
      else !(s.chan b).first.idle) = true) (act : Bool) (at_ : Ns) :
    canTxComplete b second act at_ s = (s.at at_).updChan b fun c => c.sent second act := by
  have hok : (!(s.chan b).busOff && s.domainOn 6 && (if second then !(s.chan b).second.idle && ((s.chan b).second.sending.isSome ||
      (s.chan b).first.idle) else !(s.chan b).first.idle)) = true := by simp [hoff, h6, hready]
  refine (if_neg (Bool.eq_false_iff.mp (congrArg not hok))).trans ?_
  cases b <;> cases second <;> cases act <;> rfl

theorem canTxComplete_first {s : State} {b : Bool} (hoff : (s.chan b).busOff = false) (h6 : s.domainOn 6 = true)
    (hbuf : (s.chan b).first.queued.isSome = true ∨ (s.chan b).first.sending.isSome = true) (act : Bool) (at_ : Ns) :
    canTxComplete b false act at_ s = (s.at at_).updChan b fun c => c.sent false act := by
  refine canTxComplete_of_ready hoff h6 ?_ act at_
  simpa [CanBuf.idle] using hbuf

theorem canTxComplete_second {s : State} {b : Bool} (hoff : (s.chan b).busOff = false) (h6 : s.domainOn 6 = true)
    (hbuf : (s.chan b).second.sending.isSome = true ∨
      ((s.chan b).second.queued.isSome = true ∧ (s.chan b).first.queued = none ∧ (s.chan b).first.sending = none)) (act : Bool) (at_ : Ns) :
    canTxComplete b true act at_ s = (s.at at_).updChan b fun c => c.sent true act := by
  refine canTxComplete_of_ready hoff h6 ?_ act at_
  rcases hbuf with h | ⟨h, hq, hs⟩
  · simp [CanBuf.idle, h]
  · simpa [CanBuf.idle, hq, hs] using Or.inl h

theorem canTxComplete_of_busOff {s : State} {b : Bool} (hoff : (s.chan b).busOff = true) (second act : Bool) (at_ : Ns) :
    canTxComplete b second act at_ s = s := by
  have hc : (if b then s.out.canB else s.out.canA).busOff = true := hoff
  refine if_pos ?_
  simp [hc]

/-! ### Error states -/

/-- A frame that was being sent waits again. -/
theorem break_eq (b : CanBuf) :
    b.break_ = { b with sending := none, queued := if b.queued.isSome = true then b.queued else b.sending } := by
  unfold CanBuf.break_
  cases b.queued <;> rfl

theorem canErrorPassive_of_on {s : State} (h6 : s.domainOn 6 = true) (b : Bool) :
    canErrorPassive b s = (s.updChan b fun c => { c with passive := true, activeRounds := 0 }).raise 0x672 0 := if_neg (by simp [h6])

theorem canBusOff_of_on {s : State} (h6 : s.domainOn 6 = true) (b : Bool) :
    canBusOff b s = (s.updChan b fun c =>
      { c with busOff := true, activeRounds := 0, first := c.first.break_, second := c.second.break_ }).raise
      (if b then 0x671 else 0x670) 0 := if_neg (by simp [h6])

/-- A change of the output links with its fault. -/
theorem raise_of_out (s : State) (o : Output) {c : Nat} {l : List Nat} (hc : c ∈ l) :
    let t := ({ s with out := o } : State).raise c 0
    t = { s with out := o, flt := t.flt } ∧ t.flt.stands c 0 = true ∧ SameFaults l s t :=
  ⟨raise_flt _ _ _, raise_stands _ _ _,
    (SameFaults.of_stands fun _ _ => rfl : SameFaults l s { s with out := o }).trans (raise_sameFaults hc _ 0)⟩

theorem chan_of_channel (s : State) (ch : CanChannel) :
    s.chan (ch == CanChannel.canb) = if ch = .canb then s.out.canB else s.out.canA := by cases ch <;> rfl

/-- The state of a channel that is put back. -/
theorem updChan_of_channel (s : State) (ch : CanChannel) (f : CanChan → CanChan) :
    s.updChan (ch == CanChannel.canb) f = { s with out :=
      if ch = .canb then { s.out with canB := f (s.chan (ch == CanChannel.canb)) }
      else { s.out with canA := f (s.chan (ch == CanChannel.canb)) } } := by cases ch <;> rfl

/-- Settles O54: each command by what it does to its channel. -/
theorem canChannelsSendAndFail : Obligations.CanChannelsSendAndFail := by
  intro s ch isB chan c put again
  have hc : c = s.chan isB := (chan_of_channel s ch).symm
  have hput (u : State) (hu : u.out = s.out) (f : CanChan → CanChan) : u.updChan isB f = { u with out := put (f c) } := by
    have h := updChan_of_channel u ch f
    have hchan : u.chan isB = c := by rw [hc]; unfold State.chan; rw [hu]
    rw [h, hu]
    simp only [put]
    rw [← hchan]
  clear_value c
  refine ⟨fun act at_ hoff h6 hbuf => ⟨_, rfl, ?_⟩, fun act at_ hoff h6 hbuf => ⟨_, rfl, ?_⟩, fun second act at_ hoff => ⟨_, rfl, ?_⟩,
    fun h6 => ⟨_, rfl, ?_⟩, fun h6 => ⟨_, rfl, ?_⟩, ⟨_, rfl, ?_⟩, fun frame => ⟨_, rfl, rfl⟩⟩
  · rw [hc] at hoff hbuf
    exact (canTxComplete_first hoff h6 hbuf act at_).trans (hput (s.at at_) rfl _)
  · rw [hc] at hoff hbuf
    exact (canTxComplete_second hoff h6 hbuf act at_).trans (hput (s.at at_) rfl _)
  · rw [hc] at hoff
    exact canTxComplete_of_busOff hoff second act at_
  · rw [show canErrorPassive isB s = _ from canErrorPassive_of_on h6 isB, hput s rfl]
    exact raise_of_out s _ (by decide)
  · have hcode : (if isB = true then 0x671 else 0x670) ∈ [0x670, 0x671] := by cases isB <;> decide
    rw [show canBusOff isB s = _ from canBusOff_of_on h6 isB, hput s rfl, break_eq, break_eq]
    exact raise_of_out s _ hcode
  · exact hput s rfl _

end Sys2Proof.Machine
end

section
/-!
SUPPORT. The test access (R465 to R472, R476, R477): instructions that a lifecycle state has, the fuses they program, and the authorisation;
statements O57 and O58.
-/
namespace Sys2Proof.Machine

/-! ### An instruction of the TAP -/

/-- An instruction is loaded: the pins with the device, and the data register empty (R470). -/
def State.tapLoaded (s : State) (i : TapInstr) : State :=
  { s with tst := { s.tst with instr := i, data := 0, pinsBy := .device } }

/-- The lifecycle states of the part before the field. -/
def State.inPart (s : State) : Prop := s.nv.fuses.lifecycle = .factory ∨ s.nv.fuses.lifecycle = .production

/-- The instructions that no state in use has out of the hold but the first two states. -/
def TapInstr.ofPart (i : TapInstr) : Prop := i ≠ .bypass ∧ i ≠ .idcode ∧ i ≠ .auth

section
variable {s : State} {i : TapInstr} (hon : s.sup.dev ≠ .off)
include hon

theorem tap_of_has (h : s.tapHas i = true) (f : State → State) : s.tap i f = f (s.tapLoaded i) := by
  unfold State.tap
  rw [if_neg (by simp [hon])]
  dsimp only
  rw [if_pos h]
  rfl

theorem tap_of_not (h : s.tapHas i = false) (f : State → State) : s.tap i f = s.tapLoaded .bypass := by
  unfold State.tap
  rw [if_neg (by simp [hon])]
  dsimp only
  rw [if_neg (by simp [h])]
  rfl

end

section
variable {s : State} {i : TapInstr} (hhold : s.tst.hold = false)
include hhold

theorem tapHas_of_inPart (hi : i ≠ .auth) (hp : s.inPart) : s.tapHas i = true := by
  have hlife : (s.nv.fuses.lifecycle == Lifecycle.factory || s.nv.fuses.lifecycle == Lifecycle.production) = true := by
    rcases hp with h | h <;> rw [h] <;> rfl
  unfold State.tapHas
  rw [if_neg (by simp [hhold])]
  cases i with
  | auth => exact absurd rfl hi
  | bypass | idcode => rfl
  | _ => exact hlife

theorem tapHas_of_not_inPart (hi : i.ofPart) (hp : ¬ s.inPart) : s.tapHas i = false := by
  have hlife : (s.nv.fuses.lifecycle == Lifecycle.factory || s.nv.fuses.lifecycle == Lifecycle.production) = false := by
    simpa [State.inPart, not_or] using hp
  obtain ⟨hb, hc, ha⟩ := hi
  unfold State.tapHas
  rw [if_neg (by simp [hhold])]
  cases i with
  | auth => exact absurd rfl ha
  | bypass => exact absurd rfl hb
  | idcode => exact absurd rfl hc
  | _ => exact hlife

theorem tapHas_common (hi : i = .bypass ∨ i = .idcode) : s.tapHas i = true := by
  unfold State.tapHas
  rw [if_neg (by simp [hhold])]
  rcases hi with rfl | rfl <;> rfl

theorem tapHas_auth : s.tapHas .auth = false := by
  unfold State.tapHas
  rw [if_neg (by simp [hhold])]

end

section
variable {s : State} {i : TapInstr} (hon : s.sup.dev ≠ .off) (hhold : s.tst.hold = false)
include hon hhold

theorem tap_inPart (hi : i ≠ .auth) (hp : s.inPart) (f : State → State) : s.tap i f = f (s.tapLoaded i) :=
  tap_of_has hon (tapHas_of_inPart hhold hi hp) f

/-- An instruction that the lifecycle state does not have behaves as BYPASS (R469). -/
theorem tap_not_inPart (hi : i.ofPart) (hp : ¬ s.inPart) (f : State → State) : s.tap i f = s.tapLoaded .bypass :=
  tap_of_not hon (tapHas_of_not_inPart hhold hi hp) f

theorem tap_common (hi : i = .bypass ∨ i = .idcode) (f : State → State) : s.tap i f = f (s.tapLoaded i) :=
  tap_of_has hon (tapHas_common hhold hi) f

end

/-- Settles O57: each instruction by whether the state has it. -/
theorem testAccessDrivesPinsAndData : Obligations.TestAccessDrivesPinsAndData := by
  intro s hon hhold put inPart
  have hbypass (i : TapInstr) (hi : i.ofPart) (hp : ¬ inPart) (f : State → State) : put .bypass .device 0 s.tst.scan (s.tap i f) :=
    tap_not_inPart hon hhold hi hp f
  refine ⟨⟨_, rfl, tap_common hon hhold (.inl rfl) _⟩, ⟨_, rfl, tap_common hon hhold (.inr rfl) _⟩, fun hp => ?_, fun hp => ?_,
    fun x => ⟨_, rfl, tap_of_not hon (tapHas_auth hhold) _⟩⟩
  · exact ⟨fun pins scan => ⟨_, rfl, tap_inPart hon hhold (by decide) hp _⟩,
      fun scan => ⟨⟨_, rfl, tap_inPart hon hhold (by decide) hp _⟩, ⟨_, rfl, tap_inPart hon hhold (by decide) hp _⟩,
        ⟨_, rfl, tap_inPart hon hhold (by decide) hp _⟩⟩,
      ⟨_, rfl, tap_inPart hon hhold (by decide) hp _⟩, ⟨_, rfl, tap_inPart hon hhold (by decide) hp _⟩,
      ⟨_, rfl, tap_inPart hon hhold (by decide) hp _⟩, ⟨_, rfl, tap_inPart hon hhold (by decide) hp _⟩⟩
  · refine ⟨fun a b => ⟨_, rfl, hbypass .samplePreload (by unfold TapInstr.ofPart; decide) hp _⟩, fun a c hc => ?_,
      fun item => ⟨_, rfl, hbypass .keyProg (by unfold TapInstr.ofPart; decide) hp _⟩,
      fun item => ⟨_, rfl, hbypass .fuseRead (by unfold TapInstr.ofPart; decide) hp _⟩,
      fun b => ⟨_, rfl, hbypass .lcAdvance (by unfold TapInstr.ofPart; decide) hp _⟩⟩
    simp only [List.mem_cons, List.not_mem_nil, or_false] at hc
    rcases hc with rfl | rfl | rfl | rfl | rfl | rfl | rfl
    · exact ⟨_, rfl, hbypass .extest (by unfold TapInstr.ofPart; decide) hp _⟩
    · exact ⟨_, rfl, hbypass .extestPulse (by unfold TapInstr.ofPart; decide) hp _⟩
    · exact ⟨_, rfl, hbypass .extestTrain (by unfold TapInstr.ofPart; decide) hp _⟩
    · exact ⟨_, rfl, hbypass .clamp (by unfold TapInstr.ofPart; decide) hp _⟩
    · exact ⟨_, rfl, hbypass .highz (by unfold TapInstr.ofPart; decide) hp _⟩
    · exact ⟨_, rfl, hbypass .lbResult (by unfold TapInstr.ofPart; decide) hp _⟩
    · exact ⟨_, rfl, hbypass .bistResult (by unfold TapInstr.ofPart; decide) hp _⟩

/-! ### Fuses (R465, R466, R471, R472) -/

/-- What a programming instruction leaves: its status, the fuses, and the number of values drawn. -/
def Programmed (s : State) (i : TapInstr) (fails : Bool) (g : Fuses) (k : Nat) (t : State) : Prop :=
  t = { s with
    tst := { s.tst with instr := i, data := 0, pinsBy := .device, statusFail := fails }
    nv := { s.nv with fuses := g }, freeCtr := s.freeCtr + k }

section
variable {s : State} (hon : s.sup.dev ≠ .off) (hhold : s.tst.hold = false) (hp : s.inPart)
include hon hhold hp

theorem keyProg_programs {item : KeyItem} {g : Fuses}
    (hg : s.nv.fuses.program (Config.freeValue s.freeCtr % 2 ^ 128) item = some g) :
    Completes (.keyProg item) s (Programmed s .keyProg false g 1) := by
  refine ⟨_, rfl, (tap_inPart hon hhold (by decide) hp _).trans ?_⟩
  dsimp only [State.tapLoaded]
  rw [hg]
  rfl

theorem keyProg_refuses {item : KeyItem} (hg : s.nv.fuses.program (Config.freeValue s.freeCtr % 2 ^ 128) item = none) :
    Completes (.keyProg item) s (Programmed s .keyProg true s.nv.fuses 0) := by
  refine ⟨_, rfl, (tap_inPart hon hhold (by decide) hp _).trans ?_⟩
  dsimp only [State.tapLoaded]
  rw [hg]
  rfl

/-- An item is programmed where it may be, and else its status fails. -/
theorem keyProg_item {item : KeyItem} {g : Fuses} {p : Prop} [Decidable p]
    (hg : s.nv.fuses.program (Config.freeValue s.freeCtr % 2 ^ 128) item = if p then some g else none) :
    Completes (.keyProg item) s (if p then Programmed s .keyProg false g 1 else Programmed s .keyProg true s.nv.fuses 0) := by
  by_cases h : p
  · rw [if_pos h] at hg ⊢
    exact keyProg_programs hon hhold hp hg
  · rw [if_neg h] at hg ⊢
    exact keyProg_refuses hon hhold hp hg

theorem lcAdvance_advances {l : Lifecycle} (hl : s.nv.fuses.advance = some l) :
    Completes (.lcAdvance true) s (Programmed s .lcAdvance false { s.nv.fuses with lifecycle := l } 0) := by
  refine ⟨_, rfl, (tap_inPart hon hhold (by decide) hp _).trans ?_⟩
  dsimp only [State.tapLoaded]
  rw [hl]
  rfl

theorem lcAdvance_refuses {ok : Bool} (h : ok = false ∨ s.nv.fuses.advance = none) :
    Completes (.lcAdvance ok) s (Programmed s .lcAdvance true s.nv.fuses 0) := by
  refine ⟨_, rfl, (tap_inPart hon hhold (by decide) hp _).trans ?_⟩
  dsimp only [State.tapLoaded]
  cases hadv : s.nv.fuses.advance with
  | none => rfl
  | some l =>
    rw [h.resolve_right (by simp [hadv])]
    rfl

/-- The lifecycle advances where its conditions hold and the fuses read back. -/
theorem lcAdvance_item {p : Prop} [Decidable p] {l : Lifecycle} (hadv : s.nv.fuses.advance = if p then some l else none) (ok : Bool) :
    (ok = true ∧ p → Completes (.lcAdvance ok) s (Programmed s .lcAdvance false { s.nv.fuses with lifecycle := l } 0)) ∧
    (¬ (ok = true ∧ p) → Completes (.lcAdvance ok) s (Programmed s .lcAdvance true s.nv.fuses 0)) := by
  refine ⟨fun ⟨hok, hpp⟩ => ?_, fun hno => lcAdvance_refuses hon hhold hp ?_⟩
  · rw [if_pos hpp] at hadv
    rw [hok]
    exact lcAdvance_advances hon hhold hp hadv
  · cases ok with
    | false => exact .inl rfl
    | true => exact .inr (by rw [hadv, if_neg fun hpp => hno ⟨rfl, hpp⟩])

theorem fuseRead_inPart (item : FuseItem) :
    Completes (.fuseRead item) s (fun t =>
      t = { s with tst := { s.tst with instr := .fuseRead, pinsBy := .device, data := t.tst.data } } ∧
      t.tst.data = s.nv.fuses.read item) := by
  refine ⟨_, rfl, ?_⟩
  rw [show fuseRead item s = _ from tap_inPart hon hhold (by decide) hp _]
  exact ⟨rfl, rfl⟩

end

section
variable {f : Fuses}

theorem program_dieIdentity (h : f.lifecycle = .factory) (key v : Nat) :
    f.program key (.dieIdentity v) = if f.dieId = none then some { f with dieId := some (v % 2 ^ 64) } else none := by
  simp [Fuses.program, h]

theorem program_deviceKey (h : f.lifecycle = .factory) (key : Nat) :
    f.program key .deviceKey = if f.deviceKey = none then some { f with deviceKey := some key } else none := by
  simp [Fuses.program, h]

theorem program_returnHash (h : f.lifecycle = .factory) (key v : Nat) :
    f.program key (.returnHash v) = if f.returnHash = none then some { f with returnHash := some (v % 2 ^ 256) } else none := by
  simp [Fuses.program, h]

theorem program_domainKey (h : f.lifecycle = .production) (key v : Nat) :
    f.program key (.domainKey v) = if f.domainKey = none then some { f with domainKey := some (v % 2 ^ 128) } else none := by
  simp [Fuses.program, h]

theorem program_imageSlot (key k v : Nat) :
    f.program key (.imageSlot k v) =
      if k < 4 ∧ f.slots.getD k none = none then some { f with slots := f.slots.set k (some (v % 2 ^ 256)) } else none := by
  simp [Fuses.program]

theorem advance_factory (h : f.lifecycle = .factory) :
    f.advance = if f.dieId ≠ none ∧ f.deviceKey ≠ none ∧ f.returnHash ≠ none then some .production else none := by
  simp [Fuses.advance, h, Option.isSome_iff_ne_none, and_assoc]

theorem advance_production (h : f.lifecycle = .production) :
    f.advance = if f.slots.any Option.isSome = true then some .field else none := by
  simp [Fuses.advance, h]

end

/-! ### The authorisation (R468) -/

theorem authorised_iff (f : Fuses) (x : AuthIn) :
    f.authorised x = true ↔
      x.verifies = true ∧ f.dieId = some x.dieId ∧ ∃ h, f.returnHash = some h ∧ keyHash x.publicKey = some h := by
  cases hr : f.returnHash with
  | none => simp [Fuses.authorised, hr]
  | some h =>
    have hcomm : some h = keyHash x.publicKey ↔ keyHash x.publicKey = some h := eq_comm
    simp [Fuses.authorised, hr, and_assoc, hcomm]

/-- The part in RETURN: its keys destroyed, and its records bound to no die. -/
def State.returned (s : State) : State :=
  { s.tapLoaded .auth with
    nv := ({ s.nv with fuses := s.nv.fuses.destroyed }.dieCheck).load
    tst := { (s.tapLoaded .auth).tst with hold := false, authOk := true } }

section
variable {s : State} {x : AuthIn} (hon : s.sup.dev ≠ .off) (hhold : s.tst.hold = true)
include hon hhold

theorem tapAuth_of_hold :
    tapAuth x s = if s.nv.fuses.authorised x then s.returned.judgeCopies else s.tapLoaded .auth :=
  tap_of_has hon (by unfold State.tapHas; rw [if_pos hhold]; rfl) _

theorem tapAuth_verified (hv : s.nv.fuses.authorised x = true) :
    let t := tapAuth x s
    t.nv.fuses = s.nv.fuses.destroyed ∧
    t.tst = { s.tst with instr := .auth, data := 0, pinsBy := .device, hold := false, authOk := true } ∧
    SameFaults [0x935, 0x936] s t ∧ t = { s with nv := t.nv, tst := t.tst, flt := t.flt } := by
  have ht : tapAuth x s = s.returned.judgeCopies := (tapAuth_of_hold hon hhold).trans (if_pos hv)
  have hfaults := (SameFaults.of_stands fun _ _ => rfl : SameFaults _ s s.returned).trans (judgeCopies_sameFaults s.returned)
  have hframe := judgeCopies_flt s.returned
  dsimp only
  rw [ht]
  generalize s.returned.judgeCopies = t at *
  have hnv : t.nv = s.returned.nv := by rw [hframe]
  refine ⟨?_, ?_, hfaults, ?_⟩
  · rw [hnv]
    exact (NonVol.load_fuses _).trans (NonVol.dieCheck_fuses _)
  · rw [hframe]
    rfl
  · rw [hframe]
    rfl

end

/-- Settles O58: the fuses by `keyProg_item` and `lcAdvance_item`, the authorisation by `tapAuth_verified`. -/
theorem fusesAreProgrammedReadAndAdvanced : Obligations.FusesAreProgrammedReadAndAdvanced := by
  refine ⟨fun s hon hhold => ?_, fun s x hon hhold => ?_, fun s hhold => ⟨_, rfl, if_pos hhold⟩⟩
  · intro f done
    have hdone : done = Programmed s := rfl
    have hf : f = s.nv.fuses := rfl
    clear_value done f
    subst hdone hf
    refine ⟨fun hl => ?_, fun hl => ?_, fun hp => ?_⟩
    · have hp : s.inPart := .inl hl
      refine ⟨fun v => keyProg_item hon hhold hp (program_dieIdentity hl _ v), keyProg_item hon hhold hp (program_deviceKey hl _),
        fun v => keyProg_item hon hhold hp (program_returnHash hl _ v), fun v => keyProg_refuses hon hhold hp ?_,
        fun ok => lcAdvance_item hon hhold hp (advance_factory hl) ok⟩
      simp [Fuses.program, hl]
    · have hp : s.inPart := .inr hl
      refine ⟨fun v => keyProg_item hon hhold hp (program_domainKey hl _ v), fun v item hitem => keyProg_refuses hon hhold hp ?_,
        fun ok => lcAdvance_item hon hhold hp (advance_production hl) ok⟩
      simp only [List.mem_cons, List.not_mem_nil, or_false] at hitem
      rcases hitem with rfl | rfl | rfl <;> simp [Fuses.program, hl]
    · exact ⟨fun k v => keyProg_item hon hhold hp (program_imageSlot _ k v), fun item =>
        (fuseRead_inPart hon hhold hp item).imp fun t ht => ⟨ht.1, by cases item <;> exact ht.2⟩⟩
  · refine ⟨fun hv => ⟨_, rfl, tapAuth_verified hon hhold ((authorised_iff _ _).mpr hv)⟩, fun hv => ⟨_, rfl, ?_⟩⟩
    exact (tapAuth_of_hold hon hhold).trans (if_neg (mt (authorised_iff _ _).mp hv))

end Sys2Proof.Machine
end

section
/-!
SUPPORT. Loop-back and the production BIST (R473 to R477): statement O59.
-/
namespace Sys2Proof.Machine

/-! ### Entries that are set one after another -/

section
variable {p v : Nat → Nat}

theorem getD_foldl_set_of_ne {i d : Nat} {ks : List Nat} (hne : ∀ k ∈ ks, p k ≠ i) (l : List Nat) :
    (ks.foldl (fun l k => l.set (p k) (v k)) l).getD i d = l.getD i d := by
  induction ks generalizing l with
  | nil => rfl
  | cons k ks ih =>
    rw [List.foldl_cons, ih fun j hj => hne j (List.mem_cons_of_mem _ hj)]
    simp [List.getD_eq_getElem?_getD, List.getElem?_set_ne (hne k List.mem_cons_self)]

/-- Where no two places are the same, each holds its own value. -/
theorem getD_foldl_set {ks : List Nat} (hnd : (ks.map p).Nodup) {k d : Nat} (hk : k ∈ ks) {l : List Nat}
    (hl : ∀ k ∈ ks, p k < l.length) : (ks.foldl (fun l k => l.set (p k) (v k)) l).getD (p k) d = v k := by
  induction ks generalizing l with
  | nil => cases hk
  | cons j ks ih =>
    rw [List.map_cons, List.nodup_cons] at hnd
    obtain ⟨hj, hnd⟩ := hnd
    rw [List.foldl_cons]
    rcases List.mem_cons.mp hk with rfl | hk
    · rw [getD_foldl_set_of_ne fun i hi heq => hj (List.mem_map.mpr ⟨i, hi, heq⟩)]
      simp [List.getD_eq_getElem?_getD, List.getElem?_set_self (hl k List.mem_cons_self)]
    · exact ih hnd hk fun i hi => by simpa using hl i (List.mem_cons_of_mem _ hi)

end

theorem map_getD_range (e : List Nat) : (List.range e.length).map (fun k => e.getD k 0) = e := by
  refine List.ext_getElem (by simp) fun i h1 h2 => ?_
  simp [List.getD_eq_getElem?_getD, h2]

/-! ### The results of a phase (R475, R476) -/

/-- The places of a phase are distinct, and lie within the table of results. -/
theorem phaseEntries_places : ∀ p < 5, (phaseEntries p).Nodup ∧ ∀ i ∈ phaseEntries p, i < 49 := by decide

theorem foldl_max_le_iff {l : List Nat} {m c : Nat} : l.foldl max m ≤ c ↔ m ≤ c ∧ ∀ a ∈ l, a ≤ c := by
  induction l generalizing m with
  | nil => simp
  | cons a l ih => rw [List.foldl_cons, ih]; simp [and_assoc]

theorem le_foldl_min_iff {l : List Nat} {m c : Nat} : c ≤ l.foldl min m ↔ c ≤ m ∧ ∀ a ∈ l, c ≤ a := by
  induction l generalizing m with
  | nil => simp
  | cons a l ih => rw [List.foldl_cons, ih]; simp [and_assoc]

/-- The spread of the round trips of an echo is within 10 where no two of them lie further apart. -/
theorem echoSpread_iff {l : List Nat} (hl : l ≠ []) :
    l.foldl max 0 ≤ l.foldl min (l.headD 0) + 10 ↔ ∀ a ∈ l, ∀ b ∈ l, a ≤ b + 10 := by
  have hhead : l.headD 0 ∈ l := by
    cases l with
    | nil => exact absurd rfl hl
    | cons a l => simp
  have hmin (a : Nat) : a ≤ l.foldl min (l.headD 0) + 10 ↔ ∀ b ∈ l, a ≤ b + 10 := by
    rw [← Nat.sub_le_iff_le_add, le_foldl_min_iff]
    simp only [Nat.sub_le_iff_le_add]
    exact ⟨fun h => h.2, fun h => ⟨h _ hhead, h⟩⟩
  rw [foldl_max_le_iff]
  simp only [hmin]
  exact ⟨fun h => h.2, fun h => ⟨fun b _ => Nat.zero_le _, h⟩⟩

/-- The result of a depth by its criterion (Table 19-4). -/
theorem lbEntry_eq (r : LbRun) :
    lbEntry r = match r with
      | .none_ => 0
      | .prbs sent checked errors => if errors = 0 ∧ 95 * sent ≤ 100 * checked then 1 else 2
      | .frames sent good => if good = sent then 1 else 2
      | .memory errors => if errors = 0 then 1 else 2
      | .echo rts => if rts.length = 8 ∧ (∀ a ∈ rts, ∀ b ∈ rts, a ≤ b + 10) then 1 else 2 := by
  cases r with
  | echo rts =>
    have hiff : (rts.length = 8 ∧ rts.foldl max 0 ≤ rts.foldl min (rts.headD 0) + 10) ↔
        (rts.length = 8 ∧ ∀ a ∈ rts, ∀ b ∈ rts, a ≤ b + 10) :=
      and_congr_right fun h8 => echoSpread_iff fun hnil => by simp [hnil] at h8
    exact if_congr hiff rfl rfl
  | _ => rfl

/-- What a place of the table holds after its phase. -/
def State.lbResultOf (s : State) (runs : List LbRun) (k : Nat) : Nat :=
  if s.depthRuns ((phaseEntries s.tst.phase).getD k 0) then lbEntry (runs.getD k .none_) else 0

/-- The table of results after a phase. -/
def State.lbAfter (s : State) (runs : List LbRun) : List Nat :=
  (List.range (phaseEntries s.tst.phase).length).foldl
    (fun l k => l.set ((phaseEntries s.tst.phase).getD k 0) (s.lbResultOf runs k)) s.tst.lb

section
variable {s : State} {runs : List LbRun}

theorem lbAfter_place (h5 : s.tst.phase < 5) (h49 : s.tst.lb.length = 49) {k : Nat} (hk : k < (phaseEntries s.tst.phase).length) (d : Nat) :
    (s.lbAfter runs).getD ((phaseEntries s.tst.phase).getD k 0) d = s.lbResultOf runs k := by
  obtain ⟨hnd, hlt⟩ := phaseEntries_places s.tst.phase h5
  refine getD_foldl_set (p := fun k => (phaseEntries s.tst.phase).getD k 0) (by rw [map_getD_range]; exact hnd) (List.mem_range.mpr hk)
    fun j hj => ?_
  have hj' := List.mem_range.mp hj
  rw [h49]
  refine hlt _ ?_
  simp [List.getD_eq_getElem?_getD, hj']

theorem lbAfter_other {i : Nat} (hi : i ∉ phaseEntries s.tst.phase) (d : Nat) : (s.lbAfter runs).getD i d = s.tst.lb.getD i d := by
  refine getD_foldl_set_of_ne (p := fun k => (phaseEntries s.tst.phase).getD k 0) (fun k hk heq => hi ?_) _
  have hk' := List.mem_range.mp hk
  rw [← heq]
  simp [List.getD_eq_getElem?_getD, hk']

/-- The state after a phase, before the outcome is shown. -/
def State.phaseOver (s : State) (runs : List LbRun) : State :=
  { s with
    tst := { s.tst with phase := s.tst.phase + 1, lb := s.lbAfter runs }
    own := { s.own with role := .provisional, caps := false, pins := false } }

theorem loopbackPhase_of_ready (hdev : s.sup.dev = .boot) (hmode : s.tst.mode = .loopback) (hstep : s.sup.bootStep = .selfTested)
    (h5 : s.tst.phase < 5) :
    loopbackPhase runs s =
      if s.tst.phase = 4 then (s.phaseOver runs).setPins true (outcomeLevel (s.lbAfter runs)) else s.phaseOver runs := by
  unfold loopbackPhase
  rw [if_neg (by simp [hdev, hmode, hstep]; omega)]
  exact if_congr (by simp) rfl rfl

theorem loopbackPhase_spec (hdev : s.sup.dev = .boot) (hmode : s.tst.mode = .loopback) (hstep : s.sup.bootStep = .selfTested)
    (h5 : s.tst.phase < 5) :
    let t := loopbackPhase runs s
    t.tst = { s.tst with phase := s.tst.phase + 1, lb := s.lbAfter runs } ∧
    t.own = { s.own with role := .provisional, caps := false, pins := false } ∧
    (s.tst.phase = 4 → t.flt = { s.flt with safeN := !s.own.cut, pin := outcomeLevel (s.lbAfter runs), pinFrom := s.pace.round }) ∧
    (s.tst.phase ≠ 4 → t.flt = s.flt) ∧ t = { s with tst := t.tst, own := t.own, flt := t.flt } := by
  dsimp only
  rw [loopbackPhase_of_ready hdev hmode hstep h5]
  by_cases h4 : s.tst.phase = 4
  · rw [if_pos h4]
    exact ⟨rfl, rfl, fun _ => rfl, fun hno => absurd h4 hno, rfl⟩
  · rw [if_neg h4]
    exact ⟨rfl, rfl, fun hyes => absurd hyes h4, fun _ => rfl, rfl⟩

end

/-! ### The production BIST (R477) -/

theorem productionBist_of_ready {s : State} (hdev : s.sup.dev = .boot) (hmode : s.tst.mode = .bist)
    (hstep : s.sup.bootStep = .domainsOn ∨ s.sup.bootStep = .selfTested) (hdone : s.tst.bistDone = false) (result : BitVec 128)
    (allRun passed : Bool) :
    productionBist result allRun passed s =
      ({ s with tst := { s.tst with bist := result, bistDone := true } } : State).setPins true
        (if !passed then 7 else if allRun then 1 else 2) :=
  if_neg (by rcases hstep with h | h <;> simp [hdev, hmode, h, hdone])

/-- Settles O59: a phase by `loopbackPhase_spec` and the places of its results, the BIST by its one branch. -/
theorem loopbackAndProductionTests : Obligations.LoopbackAndProductionTests := by
  refine ⟨fun s runs hdev hmode hstep h5 h49 => ⟨_, rfl, ?_⟩, fun s result allRun passed hdev hmode hstep hdone => ⟨_, rfl, ?_⟩⟩
  · obtain ⟨htst, hown, hlast, hearly, hframe⟩ := loopbackPhase_spec (runs := runs) hdev hmode hstep h5
    generalize loopbackPhase runs s = t at *
    have hlb : t.tst.lb = s.lbAfter runs := by rw [htst]
    rw [hlb]
    refine ⟨htst, hown, fun k hk => ?_, fun i hi => lbAfter_other hi 3, hlast, hearly, hframe⟩
    exact (lbAfter_place h5 h49 hk 3).trans (if_congr Iff.rfl (lbEntry_eq _) rfl)
  · rw [productionBist_of_ready hdev hmode hstep hdone]
    cases passed <;> rfl

end Sys2Proof.Machine
end
